-- ==== Sys2Proof/Word.lean ====
section
/-! DEFINITION. The bytes and 16-bit fields that the three lines of the ZD8 carry (13 R180), and the zone numbers. -/

namespace Sys2Proof

/-- One byte of a line. -/
abbrev Byte := BitVec 8

/-- A two-byte field of a message. -/
abbrev Word := BitVec 16

/-- A zone number 0..7; damper n serves zone n (00, Names). -/
abbrev ZoneId := Fin 8

end Sys2Proof
end

