-- ==== Sys2Proof/Syntax.lean ====
section
/-! DEFINITION. The commands of the ZD8: one constructor for each row of spec/opcode_table.json, with the operands the
row's rule gives it. -/

namespace Sys2Proof

/-- The thirteen setting fields of a CONFIG_SYSTEM request, as sent (13 Table 13.2). -/
structure SettingFields where
  qrated : Word
  qmax : Word
  qsysMin : Word
  minHold : Byte
  releaseTime : Byte
  restTime : Byte
  maxWait : Byte
  pressureCap : Byte
  restorePolicy : Byte
  ambientGate : Word
  supplyLow : Byte
  breakLength : Byte
  buttonHold : Byte
  deriving DecidableEq, Repr

/-- One point of a blower table, as sent (13 Table 13.2). -/
structure PointFields where
  airflow : Word
  speed : Byte
  rpm : Word
  deriving DecidableEq, Repr

/-- A byte on the host line (12 R170): its value, the gap between the end of the byte before it and its start in µs, and the
level of its stop bit. -/
structure HostByte where
  value : Byte
  gap : Nat
  stop : Bool
  deriving DecidableEq, Repr

/-- The levels of the two lines of the Zone Sensing Bus at a sample (01 R12): of the line that carries the bits and of the other
(log 42). -/
structure BusSample where
  line : Bool
  other : Bool
  deriving DecidableEq, Repr

/-- The two trips that have a hold time (10 R156). -/
inductive HoldKind where
  | startFail
  | defrostLong
  deriving DecidableEq, Repr

/-- A command: a host request, an event on a line or an input, or the expiry of a timer. -/
inductive Instr where
  -- resets and the host port (12)
  | powerOnReset
  | hostRestart
  | hostFrameReceived (bytes : List HostByte)
  | hostFrameBadSum
  | hostFrameAbandon
  | unknownKind (kind : Byte)
  | getInfo
  | getSystem (page : Option Byte)
  | getZone (zone : Byte)
  | getPlan (selector : Option Byte)
  | getQueue
  | setSystem (request policy frost : Byte)
  | setZone (zone : Byte) (cool heat dry : Word) (park : Byte)
  | configSystem (settings : SettingFields) (table : Option (List PointFields))
  | configZoneConfigure (zone : Byte) (da ra : Word) (rank address : Byte)
  | configZoneUnconfigure (zone : Byte)
  | clearZoneFault (zone : Byte)
  | clearLockout
  | saveConfig
  | setReports (mask : Word)
  | outdoorDiag (direction kind length : Byte) (data : List Byte)
  | restart
  | hostFrameSent
  | fullWriteEnd
  | autoSaveEnd
  -- zone sensing (01)
  | sweepSlotStart
  | sensorNoAcknowledge
  | sensorReply (acknowledge reply : List (List BusSample))
  | sensorWindowClose
  | sensorAgeExpiry (zone : ZoneId)
  | returnAirConversion (reading : Int)
  -- evaluation and the arbiter (02)
  | evaluationTimerExpiry
  | earlyPassSpacingEnd
  | restEnd
  -- dampers (06)
  | damperStep (damper : ZoneId)
  | moveComplete (damper : ZoneId)
  | homeComplete (damper : ZoneId)
  | damperStall (damper : ZoneId)
  -- blower and duct pressure (07)
  | blowerRampTick
  | blowerSettled
  | blowerUnsettled
  | settleTimeout
  | retryPauseEnd
  | runOnExpiry
  | coldBlowTimeout
  | blowerAtRest
  | ductPressureConversion (reading : Int)
  | aboveCapTimeExpiry
  | belowReliefTimeExpiry
  -- outdoor link (08)
  | roundTick
  | linkRequestFrameStart
  | linkDiagFrameStart
  | linkCollision
  | linkCommandFrameSent
  | statResponse (bytes : List Byte)
  | infoResponse (bytes : List Byte)
  | diagReadResponse (bytes : List Byte)
  | linkByteError (samples : BitVec 33)
  | responseWindowClose (begun : Nat)
  | statAgeLimit
  | diagTimeout
  | wakeRoundStart
  -- compressor sequencer (09)
  | minimumOffExpiry
  | startFailTimeout
  | minimumRunEnd
  | defrostPrepTimeout
  | defrostActiveTimeout
  | recoveryTimeExpiry
  -- protection (10)
  | indoorCoilConversion (reading : Int)
  | freezeTimeExpiry
  | supplyAirConversion (reading : Int)
  | above60TimeExpiry
  | supplyUnavailableExpiry
  | limitStepTime
  | limitRecoveryTime
  | tripHoldExpiry (kind : HoldKind)
  | floatHeld
  | floatCleared
  | mainsConversion (reading : Int)
  | supplyLowHeld
  | supplyLowCleared
  -- operating states (11)
  | idleTimeReached
  | noticeTimeExpiry
  | buttonPress
  | buttonRelease
  | buttonHoldTime
  | testTimeExpiry
  | floatInputChange (closed : Bool)
  | tachometerPulse (rpm : Nat)
  | buttonInputChange (closed : Bool)
  deriving DecidableEq, Repr

end Sys2Proof
end

