-- ==== Sys2Proof/Machine/Eight.lean ====
section
/-! DEFINITION. Eight values, one for each zone or damper 0..7, as plain data. -/

namespace Sys2Proof.Machine

/-- Eight values of one kind, numbered 0..7. -/
structure Eight (α : Type) where
  z0 : α
  z1 : α
  z2 : α
  z3 : α
  z4 : α
  z5 : α
  z6 : α
  z7 : α
  deriving DecidableEq, Repr

/-- The value of number `i`. -/
def Eight.get {α : Type} (e : Eight α) (i : ZoneId) : α :=
  match i.val with
  | 0 => e.z0
  | 1 => e.z1
  | 2 => e.z2
  | 3 => e.z3
  | 4 => e.z4
  | 5 => e.z5
  | 6 => e.z6
  | _ => e.z7

/-- `e` with the value of number `i` replaced. -/
def Eight.set {α : Type} (e : Eight α) (i : ZoneId) (x : α) : Eight α :=
  match i.val with
  | 0 => { e with z0 := x }
  | 1 => { e with z1 := x }
  | 2 => { e with z2 := x }
  | 3 => { e with z3 := x }
  | 4 => { e with z4 := x }
  | 5 => { e with z5 := x }
  | 6 => { e with z6 := x }
  | _ => { e with z7 := x }

/-- `e` with the value of number `i` changed by `f`. -/
def Eight.modify {α : Type} (e : Eight α) (i : ZoneId) (f : α → α) : Eight α := e.set i (f (e.get i))

/-- The eight values of `f`. -/
def Eight.ofFn {α : Type} (f : ZoneId → α) : Eight α := ⟨f 0, f 1, f 2, f 3, f 4, f 5, f 6, f 7⟩

/-- Eight times the same value. -/
def Eight.all {α : Type} (x : α) : Eight α := ⟨x, x, x, x, x, x, x, x⟩

/-- The zone numbers in ascending order. -/
def allZones : List ZoneId := [0, 1, 2, 3, 4, 5, 6, 7]

/-- The values in ascending order of their number. -/
def Eight.toList {α : Type} (e : Eight α) : List α := [e.z0, e.z1, e.z2, e.z3, e.z4, e.z5, e.z6, e.z7]

/-- The sum over all eight zones (00, Rounding). -/
def Eight.sum (e : Eight Nat) : Nat := e.z0 + e.z1 + e.z2 + e.z3 + e.z4 + e.z5 + e.z6 + e.z7

end Sys2Proof.Machine
end

