-- ==== Sys2Proof/Machine/State.lean ====
section
/-! DEFINITION. Every piece of state the spec gives the ZD8, as plain data, block by block (00 Table 0.2), the state after
power-on reset, and the reasons a command could stop with. Times are the running clock in ms; temperatures are tenths of °C. -/

namespace Sys2Proof.Machine

/-! ### Names (00 Conventions) -/

/-- Zone states (01 Table 1.2). -/
inductive ZoneState where
  | unused | active | parked | fault
  deriving DecidableEq, Repr

/-- Sensor states (01 R14); `noSensor` is the manual's NONE. -/
inductive SensorState where
  | noSensor | waiting | fresh | stale | lost
  deriving DecidableEq, Repr

/-- Calls (02 section 2.2). -/
inductive Call where
  | satisfied | cool | heat | dry | frost
  deriving DecidableEq, Repr

/-- System modes (02 Table 2.4); `idle` is the manual's NONE. -/
inductive Mode where
  | idle | fan | cool | dry | heat | rest | test
  deriving DecidableEq, Repr

/-- The two sides of operation (02 section 2.4). -/
inductive Side where
  | cooling | heating
  deriving DecidableEq, Repr

/-- The host's policies (02 R23). -/
inductive Policy where
  | auto | cool | heat | dry | fan
  deriving DecidableEq, Repr

/-- The operating request (11 Table 11.1). -/
inductive OpRequest where
  | on | off
  deriving DecidableEq, Repr

/-- Roles of a zone in a plan (03 Table 3.1). -/
inductive Role where
  | calling | relief | closed | idle | excluded
  deriving DecidableEq, Repr

/-- Phases of a changeover (04 Table 4.1). -/
inductive Phase where
  | applied | opening | blower | closing
  deriving DecidableEq, Repr

/-- Motion states of a damper (06 Table 6.1). -/
inductive MotionState where
  | idle | queued | moving | homing | fault
  deriving DecidableEq, Repr

/-- A damper's follow-on (06 Table 6.1). -/
inductive FollowOn where
  | nothing
  | target (steps : Nat)
  | home
  deriving DecidableEq, Repr

/-- What a queue entry or a drive slot asks of its damper (06 R95). -/
inductive Drift where
  | move (target : Nat)
  | home
  deriving DecidableEq, Repr

/-- Blower states (07 Table 7.1). -/
inductive BlowerState where
  | off | ramp | run | hold | runOn
  deriving DecidableEq, Repr

/-- Link states (08 Table 8.1). -/
inductive LinkState where
  | start | active | degraded | lost | slow
  deriving DecidableEq, Repr

/-- Failure kinds of an exchange (08 R123), and NOT_SENT (08 R134). -/
inductive FailureKind where
  | noResponse | parity | framing | shortLength | check | collision | notSent
  deriving DecidableEq, Repr

/-- Compressor states as the outdoor unit reports them (08 Table 8.2). -/
inductive CompressorState where
  | stopped | starting | running | stopping
  deriving DecidableEq, Repr

/-- Sequencer states (09 Table 9.2). -/
inductive SeqState where
  | stopped | waitStart | running | stopWait | defrostPrep | defrostActive | defrostRecovery | tripped | lockout
  deriving DecidableEq, Repr

/-- Trip kinds in the order of 13 R183. -/
inductive TripKind where
  | float | coilFreeze | supplyHot | highPressure | lowPressure | dischargeHot | driveFault | overcurrent
  | startFail | defrostLong | blower
  deriving DecidableEq, Repr

/-- Operating states (11 Table 11.1). -/
inductive OpState where
  | startup | off | on | resting | test
  deriving DecidableEq, Repr

/-- Test phases (11 Table 11.1); `idle` is the manual's NONE. -/
inductive TestPhase where
  | idle | preparing | opening
  deriving DecidableEq, Repr

/-- Button states (11 R167). -/
inductive ButtonState where
  | released | pressed | held | ignored
  deriving DecidableEq, Repr

/-- A button action taken during STARTUP (11 Table 11.1). -/
inductive Latched where
  | nothing | toggle | test
  deriving DecidableEq, Repr

/-- The kind of the latest reset (11 Table 11.1). -/
inductive RestartCause where
  | powerOn | hostRestart
  deriving DecidableEq, Repr

/-- The operating request after power-on reset (11 R162). -/
inductive RestorePolicy where
  | resume | stayOff
  deriving DecidableEq, Repr

/-- Reply status codes (12 Table 12.1). -/
inductive Status where
  | ok | adjusted | badLength | badZone | badValue | unknownKind | addressInUse | notSupported | busy
  deriving DecidableEq, Repr

/-! ### Zone Table (01 Table 1.1) -/

/-- Configuration values of a zone, written by CONFIG_ZONE; `address` is absent for NONE. -/
structure ZoneConfig where
  da : Nat
  ra : Nat
  rank : Nat
  address : Option Nat
  deriving DecidableEq, Repr

/-- Zone state and unconfigure pending. -/
structure ZoneStatus where
  state : ZoneState
  unconf : Bool
  deriving DecidableEq, Repr

/-- Setpoint fields, written by SET_ZONE; `dry` is in tenths of a percent. -/
structure Setpoints where
  cool : Int
  heat : Int
  dry : Option Nat
  park : Bool
  deriving DecidableEq, Repr

/-- Sensing fields of a record with the failure count and the age timer of the Zone Sensing Controller (01 R14, R15). -/
structure SensorRec where
  state : SensorState
  temp : Option Int
  rh : Option Nat
  eff : Option Int
  failures : Nat
  ageFrom : Option Nat
  deriving DecidableEq, Repr

/-- Working fields of a record. -/
structure ZoneWork where
  call : Call
  suspended : Bool
  d : Nat
  i : Nat
  l : Nat
  withdrawn : Bool
  waiting : Option Nat
  deriving DecidableEq, Repr

/-! ### Zone Sensing Controller (01 section 1.4) -/

/-- A poll in progress; `discarded` marks a poll whose outcome R18 discards. -/
structure Poll where
  zone : ZoneId
  address : Nat
  attempt : Nat
  startedAt : Nat
  discarded : Bool
  deriving DecidableEq, Repr

/-- The filter of one line of the Zone Sensing Bus: its accepted level, and the level of the latest sample (01 R12). -/
structure LineFilter where
  accepted : Bool
  last : Bool
  deriving DecidableEq, Repr

/-- The filters of the two lines of the Zone Sensing Bus (01 R12): of the line that carries the bits, and of the other, from which no
bit is read (DESIGN CHOICE, log 42). -/
structure BusFilter where
  line : LineFilter
  other : LineFilter
  deriving DecidableEq, Repr

/-- Both lines accepted high, with a high latest sample (DESIGN CHOICE, log 42). -/
def BusFilter.high : BusFilter := ⟨⟨true, true⟩, ⟨true, true⟩⟩

/-- Sensing fields, the sweep schedule (01 R11) and the line filters of the bus (01 R12). -/
structure Sensing where
  zone : Eight SensorRec
  returnAir : Option Int
  nextSlot : ZoneId
  nextSlotAt : Nat
  slotMs : Nat
  poll : Option Poll
  lines : BusFilter
  deriving DecidableEq, Repr

/-! ### Demand Evaluator, Mode Arbiter, Apportionment Engine (02, 03) -/

/-- The Demand Evaluator's timing (02 R21) and the heat-pump capability it takes (02 R23). -/
structure Evaluator where
  timerFrom : Option Nat
  early : Bool
  lastPass : Option Nat
  hpCapable : Bool
  deriving DecidableEq, Repr

/-- The Mode Arbiter (02 Table 2.4); `restEnded` marks a REST whose end has been taken (02 R36). -/
structure Arbiter where
  mode : Mode
  served : Option Side
  sideStart : Option Nat
  noCallers : Option Nat
  restTarget : Option Side
  restStart : Option Nat
  restLength : Option Nat
  restEnded : Bool
  waitCool : Option Nat
  waitHeat : Option Nat
  lastServed : Option Side
  deferral : Bool
  deriving DecidableEq, Repr

/-- The Apportionment Engine (03 R42, R63). -/
structure Apportion where
  number : Nat
  bandSide : Option Side
  deriving DecidableEq, Repr

/-- One zone entry of a plan (03 Table 3.1). -/
structure PlanZone where
  role : Role
  air : Nat
  opening : Nat
  deriving DecidableEq, Repr

/-- A plan (03 Table 3.1). -/
structure Plan where
  number : Nat
  mode : Mode
  factor : Nat
  zones : Eight PlanZone
  q : Nat
  c : Nat
  coilTarget : Option Int
  starved : Bool
  capped : Bool
  deriving DecidableEq, Repr

/-- The empty plan (03 R42). -/
def Plan.empty : Plan :=
  { number := 0, mode := .idle, factor := 100, zones := Eight.all ⟨.idle, 0, 0⟩, q := 0, c := 0, coilTarget := none,
    starved := false, capped := false }

/-! ### Plan Changeover Controller (04 Table 4.1) and Damper Drive (06 Table 6.1) -/

/-- The Plan Changeover Controller. -/
structure Changeover where
  applied : Plan
  incoming : Option Plan
  phase : Phase
  held : Option Plan
  released : Bool
  reapply : Bool
  deriving DecidableEq, Repr

/-- A damper record. -/
structure Damper where
  position : Option Nat
  motion : MotionState
  followOn : FollowOn
  stalls : Nat
  deriving DecidableEq, Repr

/-- An entry of the move queue (06 R95). -/
structure QueueEntry where
  damper : ZoneId
  what : Drift
  deriving DecidableEq, Repr

/-- A held drive slot: its damper, its motion, the steps issued and the time of the latest (06 R94, R99), and whether its
motion is an opening (04 R72). -/
structure Slot where
  damper : ZoneId
  what : Drift
  steps : Nat
  lastStep : Nat
  opens : Bool
  deriving DecidableEq, Repr

/-- The Damper Drive; `resetHomes` are the dampers whose reset HOME has not drained (06 R107, 11 R162), `passedOver` those that left
FAULT because their zone became UNUSED and that no HOME has been asked of since (04 R77; log 53). -/
structure Drive where
  dampers : Eight Damper
  queue : List QueueEntry
  slot1 : Option Slot
  slot2 : Option Slot
  resetHomes : List ZoneId
  passedOver : List ZoneId
  deriving DecidableEq, Repr

/-! ### Blower Controller (07 Table 7.1) -/

/-- The Blower Controller, its speed measurement and its pressure cap. -/
structure Blower where
  state : BlowerState
  given : Nat
  carried : Option Nat
  coldBlow : Bool
  defrostHold : Bool
  goal : Nat
  speedGoal : Nat
  demand : Nat
  expected : Nat
  retryFrom : Option Nat
  runOnUntil : Option Nat
  qhi : Nat
  capped : Bool
  aboveFrom : Option Nat
  belowFrom : Option Nat
  pressure : Option Nat
  rampFrom : Nat
  goalSince : Option Nat
  settleFrom : Option Nat
  zeroFrom : Option Nat
  measured : Nat
  lastPulse : Nat
  inBand : Bool
  bandFrom : Nat
  deriving DecidableEq, Repr

/-! ### Outdoor Link Controller (08 Table 8.1) -/

/-- The fields of a STAT (08 Table 8.2); `trip` is absent for NONE. -/
structure StatRecord where
  compressor : CompressorState
  speed : Nat
  ambient : Option Int
  outdoorCoil : Option Int
  discharge : Option Int
  defrostReq : Bool
  defrostActive : Bool
  holdoff : Bool
  standdownReady : Bool
  trip : Option TripKind
  deriving DecidableEq, Repr

/-- The fields of an INFO (08 R128). -/
structure InfoRecord where
  capacityClass : Nat
  heatPump : Bool
  level : Nat
  deriving DecidableEq, Repr

/-- A host diagnostic in the slot (08 R133); `chosen` when the round in progress carries it, `begun` when its frame has been
started. -/
structure Diagnostic where
  isRead : Bool
  kind : Byte
  length : Nat
  data : List Byte
  enteredAt : Nat
  begun : Bool
  chosen : Bool
  deriving DecidableEq, Repr

/-- What a frame on the link is for (08 R122). -/
inductive FrameKind where
  | cap | stat | info | diagCommand | diagRead
  deriving DecidableEq, Repr

/-- A frame in progress: the bytes the ZD8 sends, when its break began, when its last byte ends, and the bytes that have
arrived in its response window (08 R122, R123). -/
structure LinkFrame where
  kind : FrameKind
  bytes : List Byte
  startedAt : Nat
  sentBy : Nat
  arrived : List Byte
  deriving DecidableEq, Repr

/-- The round in progress (08 R126): its tick, its request frame and whether that has been begun, and whether SLOW's
diagnostic is still to be begun at 150 ms. -/
structure Round where
  tick : Nat
  request : FrameKind
  requestBegun : Bool
  slowDiag : Bool
  deriving DecidableEq, Repr

/-- The Outdoor Link Controller; `lastGood` is the arrival of the last good STAT (08 R133), `wakeRound` a new round that
waits for the end of the frame in progress or the close of its response window (08 R132), `windowEnd` the close of the latest
response window, `lowAt` when the line last read low while the ZD8 did not drive it, `readBack` the samples of the ZD8's own byte
at this moment, three for each of its eleven bits (08 R122, R124; logs 25, 41). -/
structure Link where
  state : LinkState
  nextRound : Nat
  round : Option Round
  frame : Option LinkFrame
  wakeRound : Bool
  statFailures : Nat
  collisions : Nat
  statAgeFrom : Option Nat
  lastGood : Option Nat
  lastFailure : Option FailureKind
  lastStatus : Option StatRecord
  info : Option InfoRecord
  diag : Option Diagnostic
  windowEnd : Nat
  lowAt : Option Nat
  readBack : BitVec 33
  deriving DecidableEq, Repr

/-! ### Compressor Sequencer (09 Table 9.1) -/

/-- A release (04 R75). -/
structure Release where
  mode : Mode
  c : Nat
  coilTarget : Option Int
  deriving DecidableEq, Repr

/-- The Compressor Sequencer. The start-fail time is `startFailMs` plus the time since `startFailFrom` (09 R140);
`minOffDone` marks a minimum-off timer whose expiry has been taken. -/
structure Sequencer where
  state : SeqState
  release : Option Release
  stopping : Option Mode
  minOffFrom : Nat
  minOffDone : Bool
  startFailMs : Nat
  startFailFrom : Option Nat
  runStart : Option Nat
  stopSent : Bool
  takenStopped : Bool
  stopMark : Bool
  grantSent : Bool
  defrostFrom : Option Nat
  recoveryFrom : Option Nat
  deriving DecidableEq, Repr

/-! ### Protection Monitor (10 Table 10.2) -/

/-- The trip histories, one per counted kind: trip times in s, oldest first (10 R158). -/
structure Histories where
  float : List Nat
  coilFreeze : List Nat
  supplyHot : List Nat
  highPressure : List Nat
  lowPressure : List Nat
  dischargeHot : List Nat
  driveFault : List Nat
  overcurrent : List Nat
  startFail : List Nat
  defrostLong : List Nat
  blower : List Nat
  deriving DecidableEq, Repr

/-- Empty trip histories (10 R160). -/
def Histories.empty : Histories := ⟨[], [], [], [], [], [], [], [], [], [], []⟩

/-- The Protection Monitor; `stops` is the set of stopping trips. -/
structure Protection where
  floatHeld : Bool
  freezeLim : Bool
  belowZeroFrom : Option Nat
  supplyLim : Bool
  above60From : Option Nat
  stops : List TripKind
  startFailHold : Option Nat
  defrostLongHold : Option Nat
  supplyLow : Bool
  lowFrom : Option Nat
  highFrom : Option Nat
  coil : Option Int
  coilBad : Nat
  coilGood : Nat
  coilFault : Bool
  supply : Option Int
  supplyGoneFrom : Option Nat
  limit : Nat
  stepFrom : Option Nat
  recoverFrom : Option Nat
  hist : Histories
  lockout : Bool
  deriving DecidableEq, Repr

/-! ### Operating State Controller (11 Table 11.1) -/

/-- The Operating State Controller, with the policy and frost protection SET_SYSTEM writes (12 R174). `notice` is the
stand-down state NOTICE; `testDampers` are the dampers OPENING requested (11 R168). -/
structure Operating where
  state : OpState
  request : OpRequest
  policy : Policy
  frost : Bool
  idleFrom : Option Nat
  idleDone : Bool
  notice : Bool
  noticeFrom : Option Nat
  testPhase : TestPhase
  testDampers : List ZoneId
  opened : List ZoneId
  testFrom : Option Nat
  button : ButtonState
  pressFrom : Option Nat
  accepted : Bool
  latched : Latched
  restartCause : RestartCause
  deriving DecidableEq, Repr

/-! ### Host Message Port and Configuration Store (12) -/

/-- A request as the port understands it: its kind and its fields (12 Table 12.2, 13 Table 13.2). -/
inductive Request where
  | unknownKind (kind : Byte)
  | badLength (kind : Byte)
  | getInfo
  | getSystem (page : Option Byte)
  | getZone (zone : Byte)
  | getPlan (selector : Option Byte)
  | getQueue
  | setSystem (request policy frost : Byte)
  | setZone (zone : Byte) (cool heat dry : Word) (park : Byte)
  | configSystem (settings : SettingFields) (table : Option (List PointFields))
  | configure (zone : Byte) (da ra : Word) (rank address : Byte)
  | unconfigure (zone : Byte)
  | badAction (zone : Byte)
  | clearZoneFault (zone : Byte)
  | clearLockout
  | saveConfig
  | setReports (mask : Word)
  | outdoorDiag (direction kind length : Byte) (data : List Byte)
  | restart
  deriving DecidableEq, Repr

/-- How far the request in service has come (12 R171, R177). -/
inductive ServiceStage where
  | replying | saveWaiting | saving | restartWaiting | restarting
  deriving DecidableEq, Repr

/-- The request in service. -/
structure Service where
  request : Request
  stage : ServiceStage
  deriving DecidableEq, Repr

/-- Causes in a STATE report (11 R161). -/
inductive StateCause where
  | startupEnd | request | button | standdown | wake | testBegin | testEnd
  deriving DecidableEq, Repr

/-- Phases in a DEFROST report (09 R146). -/
inductive DefrostPhase where
  | prep | granted | active | recovery | ended
  deriving DecidableEq, Repr

/-- Causes in a DEFROST report (09 R146). -/
inductive DefrostCause where
  | request | blowerAtRest | outdoorActive | outdoorDone | withdrawn | stop | linkLost | trip | lockout | coilWarm
  | recoveryTime
  deriving DecidableEq, Repr

/-- Causes in a LINK report (08 R131). -/
inductive LinkCause where
  | statFailures | noStat | collisions | goodStat | goodInfo | resting | wake
  deriving DecidableEq, Repr

/-- Outcomes in a DIAG_RESULT report (08 R134). -/
inductive DiagOutcome where
  | sent | data | noResponse
  deriving DecidableEq, Repr

/-- Kinds of event in a BUTTON report (11 R167). -/
inductive ButtonEvent where
  | press | toggle | test | testEnd | latched
  deriving DecidableEq, Repr

/-- An event report as it waits in the report queue (12 R176). -/
inductive Report where
  | state (new old : OpState) (cause : StateCause)
  | mode (new old : Mode) (served target : Option Side)
  | plan (p : Plan)
  | zoneState (zone : ZoneId) (new : ZoneState)
  | zoneSensor (zone : ZoneId) (new : SensorState)
  | trip (kind : TripKind) (time entries : Nat) (stopping lockout : Bool)
  | notCounted (coilFault held : Bool) (time : Nat) (lockout : Bool)
  | tripCleared (kind : TripKind) (time : Nat) (lockout : Bool)
  | lockout (kind : TripKind) (times : List Nat)
  | lockoutCleared
  | defrost (phase : DefrostPhase) (cause : DefrostCause) (entered : Option SeqState)
  | link (new old : LinkState) (cause : LinkCause) (failure : Option FailureKind)
  | diagResult (kind : Byte) (outcome : DiagOutcome) (failure : Option FailureKind) (data : List Byte)
  | button (event : ButtonEvent) (request : OpRequest)
  deriving DecidableEq, Repr

/-- A frame in the transmitter: its bytes from SYNC on, whether it is a reply, and when its last byte ends. -/
structure TxFrame where
  bytes : List Byte
  isReply : Bool
  endsAt : Nat
  deriving DecidableEq, Repr

/-- The kind of the last frame sent (12 R172). -/
inductive LastSent where
  | nothing | reply | report
  deriving DecidableEq, Repr

/-- The receiver (12 R170): hunting, or collecting a frame, with its bytes after SYNC and when the latest ended. -/
inductive Receiver where
  | hunting
  | collecting (got : List Byte) (last : Nat)
  deriving DecidableEq, Repr

/-- The Host Message Port. `reply` is a reply handed to the transmitter and not yet begun: its KIND and payload. -/
structure Port where
  receiver : Receiver
  service : Option Service
  waiting : Option Request
  overrun : Bool
  dropped : Bool
  reports : List Report
  mask : Word
  reply : Option (List Byte)
  tx : Option TxFrame
  lastSent : LastSent
  restartDue : Bool
  deriving DecidableEq, Repr

/-- One point of the blower table (07 R109). -/
structure BlowerPoint where
  airflow : Nat
  speed : Nat
  rpm : Nat
  deriving DecidableEq, Repr

/-- The system settings (12 Table 12.3); the gate is absent for ALWAYS. -/
structure Settings where
  qrated : Nat
  qmax : Nat
  qsysMin : Nat
  minHold : Nat
  releaseTime : Nat
  restTime : Nat
  maxWait : Nat
  pressureCap : Nat
  restorePolicy : RestorePolicy
  ambientGate : Option Int
  supplyLow : Nat
  breakLength : Nat
  buttonHold : Nat
  table : List BlowerPoint
  deriving DecidableEq, Repr

/-- One zone of the stored image (12 R177). -/
structure ImageZone where
  configured : Bool
  config : ZoneConfig
  setpoints : Setpoints
  deriving DecidableEq, Repr

/-- The Configuration Store image (12 R177). -/
structure Image where
  settings : Settings
  zones : Eight ImageZone
  request : OpRequest
  policy : Policy
  frost : Bool
  mask : Word
  deriving DecidableEq, Repr

/-- The store's writer, with the image being written and when the write began (12 R177). -/
inductive Writer where
  | idle
  | auto (image : Image) (whole : Bool) (from_ : Nat)
  | full (image : Image) (from_ : Nat)
  deriving DecidableEq, Repr

/-- The Configuration Store: the stored image, absent when it fails its check, and its writer. -/
structure Store where
  image : Option Image
  writer : Writer
  autoPending : Bool
  defaulted : Bool
  deriving DecidableEq, Repr

/-! ### Inputs, the model's own field, and the machine -/

/-- Levels of the part's inputs, with the time each has held, and the winding sense of the damper outputs (06 R102). -/
structure Inputs where
  floatClosed : Bool
  floatSince : Nat
  buttonClosed : Bool
  buttonSince : Nat
  windingOpen : Eight Bool
  deriving DecidableEq, Repr

/-- The MODEL's own field: consequences raised inside a command and worked off before it ends (log 9). -/
structure Todo where
  phaseCheck : Bool
  faulted : List ZoneId
  restart : Bool
  holdReport : Bool
  deriving DecidableEq, Repr

/-- Nothing left to work off. -/
def Todo.clear : Todo := ⟨false, [], false, false⟩

/-- The whole state of the ZD8, with the queue of commands that wait (log 1). -/
structure State where
  now : Nat
  inp : Inputs
  zcfg : Eight ZoneConfig
  zst : Eight ZoneStatus
  setp : Eight Setpoints
  sens : Sensing
  work : Eight ZoneWork
  eval : Evaluator
  arb : Arbiter
  app : Apportion
  co : Changeover
  drive : Drive
  blower : Blower
  link : Link
  seq : Sequencer
  prot : Protection
  op : Operating
  port : Port
  store : Store
  cfg : Settings
  todo : Todo
  pending : List Instr
  deriving DecidableEq, Repr

/-- Reasons a command could stop the part with. No rule of the spec stops the part. -/
inductive Fault where
  /-- Raised by no meaning: the spec gives every command a next state (safe). -/
  | stuck
  deriving DecidableEq, Repr

/-- Reasons a command has no meaning. -/
inductive Refusal where
  /-- Raised by an arm of `exec` whose command has no meaning yet (safe: the model stops where the part goes on). -/
  | notModelled (mnemonic : String)
  deriving DecidableEq, Repr

/-! ### Factory defaults and the state after power-on reset -/

/-- The factory default settings (12 Table 12.3, 07 Table 7.2). -/
def Settings.factory : Settings :=
  { qrated := 900, qmax := 1100, qsysMin := 450, minHold := 20, releaseTime := 5, restTime := 5, maxWait := 45,
    pressureCap := 125, restorePolicy := .resume, ambientGate := some 50, supplyLow := 198, breakLength := 12,
    buttonHold := 5,
    table := [⟨200, 20, 380⟩, ⟨400, 32, 560⟩, ⟨600, 45, 740⟩, ⟨800, 59, 920⟩, ⟨1000, 74, 1100⟩, ⟨1200, 90, 1280⟩] }

/-- The factory default configuration of a zone (01 R10; for zones 1..7 a DESIGN CHOICE, log 6). -/
def ZoneConfig.factory : ZoneConfig := ⟨600, 0, 1, none⟩

/-- The factory default setpoints (01 R10). -/
def Setpoints.factory : Setpoints := ⟨240, 200, none, false⟩

/-- A zone record's working fields after reset (01 Table 1.4). -/
def ZoneWork.zero : ZoneWork := ⟨.satisfied, false, 0, 0, 0, false, none⟩

/-- Sensing fields of a zone without a sensor and with no return-air reading (01 R17, R19). -/
def SensorRec.zero : SensorRec := ⟨.noSensor, none, none, none, 0, none⟩

/-- The machine right after power-on reset with a store image that fails its check: the factory defaults are in force,
STORE_DEFAULTED is set, and the reset HOME of damper 0 holds slot 1 (01 R10, R19; 02 R28, R40; 03 R42; 04 R68; 06 R107; 07 R121;
08 R135; 09 R150; 10 R160; 11 R161, R162; 12 R178, R179; logs 5, 6). -/
def State.reset : State :=
  { now := 0
    inp := ⟨false, 0, false, 0, Eight.all false⟩
    zcfg := Eight.all ZoneConfig.factory
    zst := { Eight.all ⟨.unused, false⟩ with z0 := ⟨.active, false⟩ }
    setp := Eight.all Setpoints.factory
    sens := ⟨Eight.all SensorRec.zero, none, 0, 0, 1250, none, BusFilter.high⟩
    work := Eight.all ZoneWork.zero
    eval := ⟨none, false, none, true⟩
    arb := ⟨.idle, none, none, none, none, none, none, false, none, none, none, false⟩
    app := ⟨0, none⟩
    co := ⟨Plan.empty, none, .applied, none, false, false⟩
    drive :=
      { dampers := { Eight.all ⟨none, .idle, .nothing, 0⟩ with z0 := ⟨none, .homing, .nothing, 0⟩ }
        queue := [], slot1 := some ⟨0, .home, 0, 0, false⟩, slot2 := none, resetHomes := [0], passedOver := [] }
    blower :=
      { state := .off, given := 0, carried := none, coldBlow := false, defrostHold := false, goal := 0, speedGoal := 0
        demand := 0, expected := 0, retryFrom := none, runOnUntil := none, qhi := 1100, capped := false
        aboveFrom := none, belowFrom := none, pressure := none, rampFrom := 0, goalSince := some 0, settleFrom := none
        zeroFrom := some 0, measured := 0, lastPulse := 0, inBand := true, bandFrom := 0 }
    link :=
      { state := .start, nextRound := 0, round := none, frame := none, wakeRound := false, statFailures := 0
        collisions := 0, statAgeFrom := none, lastGood := none, lastFailure := none, lastStatus := none, info := none
        diag := none, windowEnd := 0, lowAt := none, readBack := 0 }
    seq :=
      { state := .stopped, release := none, stopping := none, minOffFrom := 0, minOffDone := false, startFailMs := 0
        startFailFrom := none, runStart := none, stopSent := false, takenStopped := false, stopMark := false
        grantSent := false, defrostFrom := none, recoveryFrom := none }
    prot :=
      { floatHeld := false, freezeLim := false, belowZeroFrom := none, supplyLim := false, above60From := none
        stops := [], startFailHold := none, defrostLongHold := none, supplyLow := false, lowFrom := none
        highFrom := none, coil := none, coilBad := 0, coilGood := 0, coilFault := false, supply := none
        supplyGoneFrom := none, limit := 100, stepFrom := none, recoverFrom := some 0, hist := Histories.empty
        lockout := false }
    op :=
      { state := .startup, request := .off, policy := .auto, frost := false, idleFrom := none, idleDone := false
        notice := false, noticeFrom := none, testPhase := .idle, testDampers := [], opened := [], testFrom := none
        button := .released, pressFrom := none, accepted := false, latched := .nothing, restartCause := .powerOn }
    port :=
      { receiver := .hunting, service := none, waiting := none, overrun := false, dropped := false, reports := []
        mask := 0x03FF, reply := none, tx := none, lastSent := .nothing, restartDue := false }
    store := ⟨none, .idle, false, true⟩
    cfg := Settings.factory
    todo := Todo.clear
    pending := [] }

end Sys2Proof.Machine
end

