-- ==== Sys2Proof/Machine/Codec.lean ====
section
/-! DEFINITION. Encodings of values as bytes on the three lines (13 R180), the sums that close a frame (08 R122, 12 R170, 13 R185),
and the code numbers of named values. -/

namespace Sys2Proof.Machine

/-! ### Bytes -/

/-- A count, percentage or number as one byte. -/
def byte (n : Nat) : Byte := BitVec.ofNat 8 n

/-- A 16-bit unsigned field, most significant byte first (13 R180). -/
def word (n : Nat) : List Byte := [BitVec.ofNat 8 (n / 256), BitVec.ofNat 8 n]

/-- A 32-bit unsigned field, most significant byte first (13 R180). -/
def word32 (n : Nat) : List Byte :=
  [BitVec.ofNat 8 (n / 16777216), BitVec.ofNat 8 (n / 65536), BitVec.ofNat 8 (n / 256), BitVec.ofNat 8 n]

/-- A temperature: 16 bits, two's complement, tenths of °C (13 R180). -/
def tempField (t : Int) : List Byte := word (BitVec.ofInt 16 t).toNat

/-- An optional temperature, H'7FFF when absent (13 R180). -/
def optTemp : Option Int → List Byte
  | some t => tempField t
  | none => [0x7F, 0xFF]

/-- An optional RH, H'7FFF when absent (13 R180). -/
def optRh : Option Nat → List Byte
  | some r => word r
  | none => [0x7F, 0xFF]

/-- An optional 16-bit value of another kind, H'FFFF when absent (13 R180). -/
def optWord : Option Nat → List Byte
  | some n => word n
  | none => [0xFF, 0xFF]

/-- A yes/no item as one byte (13 R180). -/
def flagByte (b : Bool) : Byte := if b then 1 else 0

/-- The word a two-byte field carries, most significant byte first (13 R180). -/
def ofBytes (hi lo : Byte) : Word := hi ++ lo

/-- The value of a byte list read most significant byte first. -/
def bytesValue (l : List Byte) : Nat := l.foldl (fun n b => n * 256 + b.toNat) 0

/-! ### Sums (08 R122, 12 R170, 13 R185) -/

/-- The 8-bit sum of a byte list, carries discarded. -/
def byteSum (l : List Byte) : Byte := l.foldl (· + ·) 0

/-- The check byte that makes the sum of the bytes and itself 0. -/
def checkByte (l : List Byte) : Byte := 0 - byteSum l

/-- The bytes with their check byte appended. -/
def withCheck (l : List Byte) : List Byte := l ++ [checkByte l]

/-- A host frame: SYNC, LENGTH, KIND, the payload and CHECK (12 R170, 13 Table 13.1). -/
def hostFrame (kind : Byte) (payload : List Byte) : List Byte :=
  0xA5 :: withCheck (byte (payload.length + 1) :: kind :: payload)

/-- What the receiver makes of the bytes after SYNC: the KIND and payload of a complete frame with a LENGTH of 1..64 and
a sum of 0, and nothing otherwise (12 R170). -/
def receiveFrame : List Byte → Option (Byte × List Byte)
  | len :: kind :: rest =>
    if 1 ≤ len.toNat ∧ len.toNat ≤ 64 ∧ rest.length = len.toNat ∧ byteSum (len :: kind :: rest) = 0 then
      some (kind, rest.dropLast)
    else none
  | _ => none

/-- A command frame on the link: kind, length, data and check (08 R122). -/
def commandFrame (kind : Byte) (data : List Byte) : List Byte := withCheck (kind :: byte data.length :: data)

/-- The header of a request frame on the link (08 R122). -/
def requestHeader (kind : Byte) (length : Nat) : List Byte := [kind, byte length]

/-- The sum of a response with its header (08 R122): 0 when the check is good. -/
def responseSum (kind : Byte) (length : Nat) (bytes : List Byte) : Byte := byteSum (kind :: byte length :: bytes)

/-- The frame kind CAP (13 R184). -/
def capKind : Byte := 0x31

/-- The frame kind STAT (13 R184). -/
def statKind : Byte := 0x52

/-- The frame kind INFO (13 R184). -/
def infoKind : Byte := 0x54

/-- Time of n bytes on the link with break, release and 11 bit times a byte at 9600 baud, in ms, rounded up (08 R122; log 4). -/
def linkFrameMs (breakLength n : Nat) : Nat := ((breakLength + 1 + 11 * n) * 5 + 47) / 48

/-- Time of n bytes on the link, 11 bit times each at 9600 baud, in whole ms (08 R122; log 25). -/
def linkBytesMs (n : Nat) : Nat := 55 * n / 48

/-- Time of n bytes on the host line, ten bit times a byte at 19200 baud, in ms, rounded up (00 Table 0.3; log 4). -/
def hostFrameMs (n : Nat) : Nat := (n * 25 + 47) / 48

/-! ### Times in replies (13 R180) -/

/-- The age of a moment in whole seconds, floored and capped at 65534. -/
def ageSeconds (now t : Nat) : Nat := min ((now - t) / 1000) 65534

/-- The age of an optional moment; an absent one gives the marker of an absent 16-bit value. -/
def optAge (now : Nat) : Option Nat → List Byte
  | some t => word (ageSeconds now t)
  | none => [0xFF, 0xFF]

/-- The time left until a moment, in whole seconds, ceiled. -/
def leftSeconds (now until_ : Nat) : Nat := (until_ - now + 999) / 1000

/-! ### Code numbers of named values (13 R180: a name's position in the list where the field is defined) -/

def ZoneState.code : ZoneState → Nat
  | .unused => 0 | .active => 1 | .parked => 2 | .fault => 3

def SensorState.code : SensorState → Nat
  | .noSensor => 0 | .waiting => 1 | .fresh => 2 | .stale => 3 | .lost => 4

def Call.code : Call → Nat
  | .satisfied => 0 | .cool => 1 | .heat => 2 | .dry => 3 | .frost => 4

def Mode.code : Mode → Nat
  | .idle => 0 | .fan => 1 | .cool => 2 | .dry => 3 | .heat => 4 | .rest => 5 | .test => 6

/-- Side served and last side served: COOLING 0, HEATING 1, none 2. -/
def sideCode : Option Side → Nat
  | some .cooling => 0 | some .heating => 1 | none => 2

/-- REST target side: H'FF when absent. -/
def targetCode : Option Side → Nat
  | some .cooling => 0 | some .heating => 1 | none => 0xFF

def Policy.code : Policy → Nat
  | .auto => 0 | .cool => 1 | .heat => 2 | .dry => 3 | .fan => 4

def OpRequest.code : OpRequest → Nat
  | .on => 0 | .off => 1

def Role.code : Role → Nat
  | .calling => 0 | .relief => 1 | .closed => 2 | .idle => 3 | .excluded => 4

def Phase.code : Phase → Nat
  | .applied => 0 | .opening => 1 | .blower => 2 | .closing => 3

def MotionState.code : MotionState → Nat
  | .idle => 0 | .queued => 1 | .moving => 2 | .homing => 3 | .fault => 4

/-- A follow-on: H'FF for none, H'FE for HOME (13 R180). -/
def FollowOn.code : FollowOn → Nat
  | .nothing => 0xFF | .target n => n | .home => 0xFE

/-- A damper position: H'FF when UNKNOWN (13 R180). -/
def positionCode : Option Nat → Nat
  | some p => p | none => 0xFF

def BlowerState.code : BlowerState → Nat
  | .off => 0 | .ramp => 1 | .run => 2 | .hold => 3 | .runOn => 4

def LinkState.code : LinkState → Nat
  | .start => 0 | .active => 1 | .degraded => 2 | .lost => 3 | .slow => 4

def FailureKind.code : FailureKind → Nat
  | .noResponse => 0 | .parity => 1 | .framing => 2 | .shortLength => 3 | .check => 4 | .collision => 5 | .notSent => 6

/-- A last failure kind: H'FF for none (13 R180). -/
def failureCode : Option FailureKind → Nat
  | some k => k.code | none => 0xFF

def CompressorState.code : CompressorState → Nat
  | .stopped => 0 | .starting => 1 | .running => 2 | .stopping => 3

def SeqState.code : SeqState → Nat
  | .stopped => 0 | .waitStart => 1 | .running => 2 | .stopWait => 3 | .defrostPrep => 4 | .defrostActive => 5
  | .defrostRecovery => 6 | .tripped => 7 | .lockout => 8

/-- The stopping mode: COOL, DRY, HEAT, TEST or none in that order (09 Table 9.1). -/
def stoppingCode : Option Mode → Nat
  | some .cool => 0 | some .dry => 1 | some .heat => 2 | some .test => 3 | _ => 4

/-- Trip kinds 0..10 (13 R183). -/
def TripKind.code : TripKind → Nat
  | .float => 0 | .coilFreeze => 1 | .supplyHot => 2 | .highPressure => 3 | .lowPressure => 4 | .dischargeHot => 5
  | .driveFault => 6 | .overcurrent => 7 | .startFail => 8 | .defrostLong => 9 | .blower => 10

def OpState.code : OpState → Nat
  | .startup => 0 | .off => 1 | .on => 2 | .resting => 3 | .test => 4

def TestPhase.code : TestPhase → Nat
  | .idle => 0 | .preparing => 1 | .opening => 2

def RestartCause.code : RestartCause → Nat
  | .powerOn => 0 | .hostRestart => 1

def RestorePolicy.code : RestorePolicy → Nat
  | .resume => 0 | .stayOff => 1

def Status.code : Status → Nat
  | .ok => 0 | .adjusted => 1 | .badLength => 2 | .badZone => 3 | .badValue => 4 | .unknownKind => 5
  | .addressInUse => 6 | .notSupported => 7 | .busy => 8

def StateCause.code : StateCause → Nat
  | .startupEnd => 0 | .request => 1 | .button => 2 | .standdown => 3 | .wake => 4 | .testBegin => 5 | .testEnd => 6

def DefrostPhase.code : DefrostPhase → Nat
  | .prep => 0 | .granted => 1 | .active => 2 | .recovery => 3 | .ended => 4

def DefrostCause.code : DefrostCause → Nat
  | .request => 0 | .blowerAtRest => 1 | .outdoorActive => 2 | .outdoorDone => 3 | .withdrawn => 4 | .stop => 5
  | .linkLost => 6 | .trip => 7 | .lockout => 8 | .coilWarm => 9 | .recoveryTime => 10

def LinkCause.code : LinkCause → Nat
  | .statFailures => 0 | .noStat => 1 | .collisions => 2 | .goodStat => 3 | .goodInfo => 4 | .resting => 5 | .wake => 6

def DiagOutcome.code : DiagOutcome → Nat
  | .sent => 0 | .data => 1 | .noResponse => 2

def ButtonEvent.code : ButtonEvent → Nat
  | .press => 0 | .toggle => 1 | .test => 2 | .testEnd => 3 | .latched => 4

/-- All trip kinds in the order of their numbers. -/
def allTrips : List TripKind :=
  [.float, .coilFreeze, .supplyHot, .highPressure, .lowPressure, .dischargeHot, .driveFault, .overcurrent, .startFail,
    .defrostLong, .blower]

/-- The history of a kind (10 R158). -/
def Histories.get (h : Histories) : TripKind → List Nat
  | .float => h.float | .coilFreeze => h.coilFreeze | .supplyHot => h.supplyHot | .highPressure => h.highPressure
  | .lowPressure => h.lowPressure | .dischargeHot => h.dischargeHot | .driveFault => h.driveFault
  | .overcurrent => h.overcurrent | .startFail => h.startFail | .defrostLong => h.defrostLong | .blower => h.blower

/-- The histories with that of one kind replaced. -/
def Histories.set (h : Histories) (k : TripKind) (l : List Nat) : Histories :=
  match k with
  | .float => { h with float := l } | .coilFreeze => { h with coilFreeze := l }
  | .supplyHot => { h with supplyHot := l } | .highPressure => { h with highPressure := l }
  | .lowPressure => { h with lowPressure := l } | .dischargeHot => { h with dischargeHot := l }
  | .driveFault => { h with driveFault := l } | .overcurrent => { h with overcurrent := l }
  | .startFail => { h with startFail := l } | .defrostLong => { h with defrostLong := l }
  | .blower => { h with blower := l }

end Sys2Proof.Machine
end

