-- ==== Sys2Proof/Machine/Flags.lean ====
section
/-! DEFINITION. Bytes that gather several yes/no items, bit 0 the least significant (13 R180): the flags byte of replies and
reports, the mark bytes of the read replies, the flag bytes of the link frames, and the sets of bits. -/

namespace Sys2Proof.Machine

/-- The items as the bits of one number, the first in bit 0. -/
def packBits : List Bool → Nat
  | [] => 0
  | b :: rest => (if b then 1 else 0) + 2 * packBits rest

/-- Bit n of a byte. -/
def bitOf (b : Byte) (n : Nat) : Bool := b.getLsbD n

/-- The flags byte: bit 0 OVERRUN, bit 1 REPORTS_DROPPED (13 R181). -/
def flagsByte (overrun dropped : Bool) : Byte := byte (packBits [overrun, dropped])

/-- GET_ZONE offset 4 (13 Table 13.3). -/
def zoneMarks (unconf park suspended withdrawn : Bool) : Byte := byte (packBits [unconf, park, suspended, withdrawn])

/-- Plan record offset 4 (13 Table 13.4). -/
def planMarks (p : Plan) : Byte := byte (packBits [p.starved, p.capped])

/-- GET_PLAN offset 4: the capacity release mark and the re-application mark (13 Table 13.4). -/
def changeoverMarks (c : Changeover) : Byte := byte (packBits [c.released, c.reapply])

/-- GET_SYSTEM page 0 offset 28 (13 Table 13.6). -/
def sequencerMarks (q : Sequencer) : Byte := byte (packBits [q.stopSent, q.takenStopped, q.stopMark, q.grantSent])

/-- GET_SYSTEM page 0 offset 29 (13 Table 13.6). -/
def protectionMarks (p : Protection) (linkLost : Bool) : Byte :=
  byte (packBits [p.floatHeld, p.freezeLim, p.supplyLim, p.supplyLow, p.coilFault, linkLost, p.lockout])

/-- GET_SYSTEM page 1 offset 4: the hold reasons (13 Table 13.6). -/
def holdReasons (b : Blower) : Byte := byte (packBits [b.coldBlow, b.defrostHold])

/-- CAP offset 6 (13 Table 13.7). -/
def capFlags (grant notice lockout : Bool) : Byte := byte (packBits [grant, notice, lockout])

/-- STAT offset 8 (13 Table 13.7). -/
def statFlags (r : StatRecord) : Byte :=
  byte (packBits [r.defrostReq, r.defrostActive, r.holdoff, r.standdownReady])

/-- The stopping trip set: bit n names kind n (13 R183). -/
def stopBits (stops : List TripKind) : Nat := packBits (allTrips.map fun k => stops.contains k)

end Sys2Proof.Machine
end

