-- ==== Sys2Proof/Machine/Operands.lean ====
section
/-! DEFINITION. Reading the operands of the commands: fields and markers of host requests (13 R180, Table 13.2), requests from
their KIND and payload (12 R173), settings (12 R175), STAT, INFO and sensor replies (13 R184, R185), and line samples
(08 R122 to R124; 01 R12), and the bytes of the host line (12 R170). -/

namespace Sys2Proof.Machine

/-! ### Fields of host requests -/

/-- A two-byte field as sent: H'7FFE means unchanged (13 R180). -/
def carriedWord (w : Word) : Option Nat := if w = 0x7FFE then none else some w.toNat

/-- A one-byte field as sent: H'FE means unchanged (13 R180). -/
def carriedByte (b : Byte) : Option Nat := if b = 0xFE then none else some b.toNat

/-- A temperature field as sent: H'7FFE means unchanged (13 R180). -/
def carriedTemp (w : Word) : Option Int := if w = 0x7FFE then none else some w.toInt

/-- The zone a zone byte names, if it is 0..7 (12 R173). -/
def zoneOf (b : Byte) : Option ZoneId := if h : b.toNat < 8 then some ⟨b.toNat, h⟩ else none

/-- A sensor address field: 0 is NONE (13 R180). -/
def addressOf (b : Byte) : Option Nat := if b = 0 then none else some b.toNat

/-- Policy codes (02 R23, 13 R180). -/
def policyOf : Nat → Option Policy
  | 0 => some .auto | 1 => some .cool | 2 => some .heat | 3 => some .dry | 4 => some .fan | _ => none

/-- Operating request codes: ON 0, OFF 1 (11 Table 11.1, 13 R180). -/
def requestOf : Nat → Option OpRequest
  | 0 => some .on | 1 => some .off | _ => none

/-- Frost protection codes: 1 on, 0 off (13 R180). -/
def frostOf : Nat → Option Bool
  | 0 => some false | 1 => some true | _ => none

/-- A value carried, or the value in force when the field is unchanged. -/
def orInForce {α : Type} (inForce : α) : Option α → α
  | some a => a
  | none => inForce

/-- x brought into a..b (00, Rounding). -/
def clampInt (x a b : Int) : Int := if x < a then a else if b < x then b else x

/-- x brought into a..b (00, Rounding). -/
def clampNat (x a b : Nat) : Nat := if x < a then a else if b < x then b else x

/-- ceil(a / b) (00, Rounding). -/
def ceilDiv (a b : Nat) : Nat := (a + b - 1) / b

/-- Whether n lies in a..b, both ends included. -/
def within (n a b : Nat) : Bool := decide (a ≤ n) && decide (n ≤ b)

/-! ### SET_ZONE (01 R7, R8) -/

/-- The setpoints after a SET_ZONE request, and whether any value was adjusted (01 R7, R8). -/
def setZoneResult (old : Setpoints) (unconf : Bool) (coolW heatW dryW : Word) (parkB : Byte) : Setpoints × Bool :=
  let coolC := (carriedTemp coolW).map fun t => clampInt t 160 320
  let heatC := (carriedTemp heatW).map fun t => clampInt t 100 300
  let dryAsSent := carriedWord dryW
  let dry : Option Nat :=
    match dryAsSent with
    | none => old.dry
    | some r => if dryW = 0x7FFF then none else some (clampNat r 400 700)
  let dryClamped : Bool :=
    match dryAsSent with
    | none => false
    | some r => decide (dryW ≠ 0x7FFF) && decide (clampNat r 400 700 ≠ r)
  let cool0 := orInForce old.cool coolC
  let heat0 := orInForce old.heat heatC
  let close := decide (cool0 < heat0 + 10)
  let heatOnly := coolC.isNone && heatC.isSome
  let cool := if close && heatOnly then heat0 + 10 else cool0
  let heat := if close && !heatOnly then cool0 - 10 else heat0
  let parkAsked := orInForce old.park ((carriedByte parkB).map fun p => decide (p ≠ 0))
  let parkRefused := unconf && parkAsked && (carriedByte parkB).isSome
  let park := if parkRefused then false else parkAsked
  let adjusted :=
    decide (coolC ≠ carriedTemp coolW) || decide (heatC ≠ carriedTemp heatW) || dryClamped || close || parkRefused
  (⟨cool, heat, dry, park⟩, adjusted)

/-! ### CONFIG_ZONE (01 R5) -/

/-- The configuration values of a configure request, if each lies in its range (01 R5, first check). -/
def zoneConfigOf (da ra : Word) (rank address : Byte) : Option ZoneConfig :=
  if within da.toNat 20 600 && decide (ra.toNat ≤ da.toNat) && within rank.toNat 1 8 && decide (address.toNat ≤ 31) then
    some ⟨da.toNat, ra.toNat, rank.toNat, addressOf address⟩
  else none

/-! ### CONFIG_SYSTEM (12 R175, 07 R109) -/

/-- A blower table as sent, in units. -/
def tableOf (t : List PointFields) : List BlowerPoint :=
  t.map fun p => ⟨p.airflow.toNat, p.speed.toNat, p.rpm.toNat⟩

/-- Whether each point follows the one before it: airflow strictly ascending, speed and rpm non-decreasing (07 R109). -/
def tableRises : List BlowerPoint → Bool
  | a :: b :: rest =>
    decide (a.airflow < b.airflow) && decide (a.speed ≤ b.speed) && decide (a.rpm ≤ b.rpm) && tableRises (b :: rest)
  | _ => true

/-- Whether a table may be accepted (07 R109). -/
def tableGood (t : List BlowerPoint) : Bool :=
  decide (t.length = 6) && tableRises t &&
    t.all fun p => within p.airflow 50 2500 && within p.speed 10 100 && within p.rpm 100 3000

/-- The restore policy code: RESUME 0, STAY_OFF 1. -/
def restoreOf : Nat → Option RestorePolicy
  | 0 => some .resume | 1 => some .stayOff | _ => none

/-- The resting ambient gate as sent: H'7FFD is ALWAYS, H'7FFE unchanged (13 Table 13.2). -/
def gateOf (inForce : Option Int) (w : Word) : Option Int :=
  if w = 0x7FFE then inForce else if w = 0x7FFD then none else some w.toInt

/-- Whether a gate lies in its range (12 Table 12.3). -/
def gateGood : Option Int → Bool
  | none => true
  | some t => decide (-100 ≤ t) && decide (t ≤ 150)

/-- Whether settings lie in the ranges of 12 Table 12.3 and are consistent (12 R175). -/
def settingsGood (c : Settings) : Bool :=
  within c.qrated 300 2000 && within c.qmax c.qrated 2500 && within c.qsysMin 100 c.qmax && within c.minHold 10 60 &&
    within c.releaseTime 2 15 && within c.restTime 3 15 && within c.maxWait 20 120 && within c.pressureCap 50 250 &&
    gateGood c.ambientGate && [190, 198, 205, 212].contains c.supplyLow && within c.breakLength 11 14 &&
    within c.buttonHold 3 10 && tableGood c.table

/-- The settings a CONFIG_SYSTEM request would put in force, if the request passes its checks (12 R175). -/
def configSystemResult (old : Settings) (f : SettingFields) (table : Option (List PointFields)) : Option Settings :=
  match (match carriedByte f.restorePolicy with | none => some old.restorePolicy | some n => restoreOf n) with
  | none => none
  | some restore =>
    let new : Settings :=
      { qrated := orInForce old.qrated (carriedWord f.qrated)
        qmax := orInForce old.qmax (carriedWord f.qmax)
        qsysMin := orInForce old.qsysMin (carriedWord f.qsysMin)
        minHold := orInForce old.minHold (carriedByte f.minHold)
        releaseTime := orInForce old.releaseTime (carriedByte f.releaseTime)
        restTime := orInForce old.restTime (carriedByte f.restTime)
        maxWait := orInForce old.maxWait (carriedByte f.maxWait)
        pressureCap := orInForce old.pressureCap (carriedByte f.pressureCap)
        restorePolicy := restore
        ambientGate := gateOf old.ambientGate f.ambientGate
        supplyLow := orInForce old.supplyLow (carriedByte f.supplyLow)
        breakLength := orInForce old.breakLength (carriedByte f.breakLength)
        buttonHold := orInForce old.buttonHold (carriedByte f.buttonHold)
        table := match table with | none => old.table | some t => tableOf t }
    if settingsGood new then some new else none

/-! ### Requests from KIND and payload (12 R173, 13 R181, Table 13.2) -/

/-- Six blower table points of five bytes each. -/
def pointsOf : List Byte → Option (List PointFields)
  | [] => some []
  | a :: b :: c :: d :: e :: rest => (pointsOf rest).map fun l => ⟨ofBytes a b, c, ofBytes d e⟩ :: l
  | _ => none

/-- The payload of a CONFIG_SYSTEM request. -/
def configSystemOf : List Byte → Option Request
  | b0 :: b1 :: b2 :: b3 :: b4 :: b5 :: b6 :: b7 :: b8 :: b9 :: b10 :: b11 :: b12 :: b13 :: b14 :: b15 :: b16 :: rest =>
    let f : SettingFields :=
      ⟨ofBytes b0 b1, ofBytes b2 b3, ofBytes b4 b5, b6, b7, b8, b9, b10, b11, ofBytes b12 b13, b14, b15, b16⟩
    if rest.length = 0 then some (.configSystem f none)
    else if rest.length = 30 then (pointsOf rest).map fun t => .configSystem f (some t)
    else none
  | _ => none

/-- The payload of a CONFIG_ZONE request: action 0 with its four values, action 1 without (13 Table 13.2). -/
def configZoneOf : List Byte → Option Request
  | [zone, action] => if action = 0 then none else if action = 1 then some (.unconfigure zone) else some (.badAction zone)
  | [zone, action, d1, d0, r1, r0, rank, address] =>
    if action = 0 then some (.configure zone (ofBytes d1 d0) (ofBytes r1 r0) rank address)
    else if action = 1 then none
    else some (.badAction zone)
  | _ => none

/-- The payload of each request kind, in the order of 12 Table 12.2; nothing when its length is not one the kind allows. -/
def payloadOf (kind : Nat) (p : List Byte) : Option Request :=
  match kind, p with
  | 0x01, [] => some .getInfo
  | 0x02, [] => some (.getSystem none)
  | 0x02, [page] => some (.getSystem (some page))
  | 0x03, [zone] => some (.getZone zone)
  | 0x04, [] => some (.getPlan none)
  | 0x04, [sel] => some (.getPlan (some sel))
  | 0x05, [] => some .getQueue
  | 0x06, [r, pol, f] => some (.setSystem r pol f)
  | 0x07, [zone, c1, c0, h1, h0, d1, d0, park] =>
    some (.setZone zone (ofBytes c1 c0) (ofBytes h1 h0) (ofBytes d1 d0) park)
  | 0x08, l => configSystemOf l
  | 0x09, l => configZoneOf l
  | 0x0A, [zone] => some (.clearZoneFault zone)
  | 0x0B, [] => some .clearLockout
  | 0x0C, [] => some .saveConfig
  | 0x0D, [m1, m0] => some (.setReports (ofBytes m1 m0))
  | 0x0E, dir :: k :: len :: data => some (.outdoorDiag dir k len data)
  | 0x0F, [] => some .restart
  | _, _ => none

/-- The request of a complete frame with a good sum: UNKNOWN_KIND first, then BAD_LENGTH (12 R173). -/
def parseRequest (kind : Byte) (payload : List Byte) : Request :=
  if 0x01 ≤ kind.toNat ∧ kind.toNat ≤ 0x0F then
    match payloadOf kind.toNat payload with
    | some r => r
    | none => .badLength kind
  else .unknownKind kind

/-- The KIND of a request (13 R181). -/
def Request.kind : Request → Byte
  | .unknownKind k => k | .badLength k => k
  | .getInfo => 0x01 | .getSystem _ => 0x02 | .getZone _ => 0x03 | .getPlan _ => 0x04 | .getQueue => 0x05
  | .setSystem _ _ _ => 0x06 | .setZone _ _ _ _ _ => 0x07 | .configSystem _ _ => 0x08 | .configure _ _ _ _ _ => 0x09
  | .unconfigure _ => 0x09 | .badAction _ => 0x09 | .clearZoneFault _ => 0x0A | .clearLockout => 0x0B
  | .saveConfig => 0x0C | .setReports _ => 0x0D | .outdoorDiag _ _ _ _ => 0x0E | .restart => 0x0F

/-- The KIND of a reply: the request's KIND with the top bit set (12 section 12.3), also where an unknown KIND has it set already, for
which 13 R181 would add H'80 and wrap (DESIGN CHOICE, log 76). -/
def replyKind (k : Byte) : Byte := k ||| 0x80

/-! ### Outdoor Link responses (08 R127, R128; 13 R184) -/

/-- A received temperature field: absent for H'7FFF, and refused outside −400..850 (13 R184). -/
def receivedTemp (w : Word) : Option (Option Int) :=
  if w = 0x7FFF then some none
  else if -400 ≤ w.toInt ∧ w.toInt ≤ 850 then some (some w.toInt)
  else none

/-- Compressor state codes (08 Table 8.2). -/
def compressorOf : Nat → Option CompressorState
  | 0 => some .stopped | 1 => some .starting | 2 => some .running | 3 => some .stopping | _ => none

/-- Trip codes NONE 0 .. OVERCURRENT 5 (08 Table 8.2). -/
def tripCodeOf : Nat → Option (Option TripKind)
  | 0 => some none | 1 => some (some .highPressure) | 2 => some (some .lowPressure) | 3 => some (some .dischargeHot)
  | 4 => some (some .driveFault) | 5 => some (some .overcurrent) | _ => none

/-- The record of ten STAT data bytes, if every field lies in its range (08 R127, 13 R184). -/
def statOf : List Byte → Option StatRecord
  | [c, sp, a1, a0, o1, o0, d1, d0, fl, tr] =>
    match compressorOf c.toNat, receivedTemp (ofBytes a1 a0), receivedTemp (ofBytes o1 o0), receivedTemp (ofBytes d1 d0),
      tripCodeOf tr.toNat with
    | some comp, some amb, some oc, some dis, some trip =>
      if sp.toNat ≤ 100 then
        some ⟨comp, sp.toNat, amb, oc, dis, bitOf fl 0, bitOf fl 1, bitOf fl 2, bitOf fl 3, trip⟩
      else none
    | _, _, _, _, _ => none
  | _ => none

/-- The record of three INFO data bytes, if every field lies in its range (08 R128, 13 R184). -/
def infoOf : List Byte → Option InfoRecord
  | [cls, hp, level] =>
    if within cls.toNat 1 99 && decide (hp.toNat ≤ 1) && within level.toNat 1 15 then
      some ⟨cls.toNat, decide (hp.toNat = 1), level.toNat⟩
    else none
  | _ => none

/-- The data bytes of a response of the required length, when all bytes have arrived and the sum is 0; bytes after the
check byte are ignored (08 R123). -/
def goodData (kind : Byte) (length : Nat) (bytes : List Byte) : Option (List Byte) :=
  if length + 1 ≤ bytes.length ∧ responseSum kind length (bytes.take (length + 1)) = 0 then some (bytes.take length)
  else none

/-! ### Line samples (08 R122, R123) -/

/-- The majority of three samples (08 R122). -/
def majority (a b c : Bool) : Bool := (a && b) || (a && c) || (b && c)

/-- Bit k of a byte on the line, from the three samples taken at its middle; the start bit is bit 0 (08 R122). -/
def lineBit (samples : BitVec 33) (k : Nat) : Bool :=
  majority (samples.getLsbD (3 * k)) (samples.getLsbD (3 * k + 1)) (samples.getLsbD (3 * k + 2))

/-- The eleven bits of a byte sent on the link: the start bit, the data bits with the least significant first, the even parity
bit and the stop bit (08 R122). -/
def sentBits (b : Byte) : List Bool :=
  let data := (List.range 8).map fun k => b.getLsbD k
  false :: data ++ [data.foldl (fun p x => p != x) false, true]

/-- The eleven bits read from a byte's samples (08 R122). -/
def readBits (samples : BitVec 33) : List Bool := (List.range 11).map (lineBit samples)

/-- Whether byte `n` of a frame, read back by its samples, differs from the byte sent (08 R124). -/
def differsAt (bytes : List Byte) (n : Nat) (samples : BitVec 33) : Bool :=
  match bytes[n]? with
  | some b => decide (readBits samples ≠ sentBits b)
  | none => false

/-- The failure a received byte shows, if any: odd parity over the eight data bits and the parity bit, else a low stop bit
(08 R123). -/
def byteFailure (samples : BitVec 33) : Option FailureKind :=
  let parity := (List.range 9).foldl (fun p k => p != lineBit samples (k + 1)) false
  if parity then some .parity else if lineBit samples 10 then none else some .framing

/-! ### The host receiver (12 R170) -/

/-- What the receiver makes of a byte. -/
inductive Heard where
  | nothing | abandoned | badSum
  | frame (kind : Byte) (payload : List Byte)
  deriving DecidableEq, Repr

/-- A hunting receiver takes a byte: H'A5 starts a frame, any other byte is discarded; one whose stop bit is low is no H'A5
(12 R170; log 43). -/
def huntByte (now : Nat) (b : HostByte) : Receiver :=
  if b.stop && decide (b.value = 0xA5) then .collecting [] now else .hunting

/-- A collecting receiver takes the next byte of its frame: a LENGTH out of range abandons the frame, and CHECK completes it
(12 R170). -/
def collectByte (now : Nat) (got : List Byte) (b : Byte) : Receiver × Heard :=
  match got with
  | [] => if within b.toNat 1 64 then (.collecting [b] now, .nothing) else (.hunting, .abandoned)
  | len :: _ =>
    if got.length < len.toNat + 1 then (.collecting (got ++ [b]) now, .nothing)
    else
      match receiveFrame (got ++ [b]) with
      | some (kind, payload) => (.hunting, .frame kind payload)
      | none => (.hunting, .badSum)

/-- The receiver takes a byte: inside a frame a gap of more than 20 ms or a low stop bit abandons the frame, and a byte that
comes after such a gap is hunted (12 R170; log 43). -/
def Receiver.byte (now : Nat) (r : Receiver) (b : HostByte) : Receiver × Heard :=
  match r with
  | .hunting => (huntByte now b, .nothing)
  | .collecting got _ =>
    if 20000 < b.gap then (huntByte now b, .abandoned)
    else if b.stop then collectByte now got b.value
    else (.hunting, .abandoned)

/-- The receiver takes the bytes of a row in their order. -/
def Receiver.run (now : Nat) (r : Receiver) : List HostByte → Receiver × List Heard
  | [] => (r, [])
  | b :: rest =>
    let one := r.byte now b
    let more := one.1.run now rest
    (more.1, if one.2 = .nothing then more.2 else one.2 :: more.2)

/-- Whether the receiver is inside a frame and more than 20 ms have passed since the end of its latest byte (12 R170). -/
def Receiver.gapOver (now : Nat) (r : Receiver) : Bool :=
  match r with
  | .hunting => false
  | .collecting _ last => decide (last + 20 < now)

/-! ### The line filters of the Zone Sensing Bus (01 R12; log 42) -/

/-- A sample of the line: the accepted level changes where two successive samples agree on the new level (01 R12). -/
def LineFilter.sample (f : LineFilter) (level : Bool) : LineFilter := ⟨if level = f.last then level else f.accepted, level⟩

/-- A sample of both lines, each through its own filter (01 R12). -/
def BusFilter.sample (f : BusFilter) (x : BusSample) : BusFilter := ⟨f.line.sample x.line, f.other.sample x.other⟩

/-- The samples of one bit taken in turn. -/
def BusFilter.through (f : BusFilter) (samples : List BusSample) : BusFilter := samples.foldl BusFilter.sample f

/-- The bits read from the accepted level of the line that carries them, each at the end of its samples, and the filters after them
(01 R12; log 42). -/
def BusFilter.bits (f : BusFilter) : List (List BusSample) → BusFilter × List Bool
  | [] => (f, [])
  | bit :: rest =>
    let g := f.through bit
    let more := g.bits rest
    (more.1, g.line.accepted :: more.2)

/-- The bytes that bits make, eight bits each with the most significant first; bits short of a byte make none (log 42). -/
def bytesOfBits : List Bool → List Byte
  | a :: b :: c :: d :: e :: f :: g :: h :: rest => BitVec.ofBoolListBE [a, b, c, d, e, f, g, h] :: bytesOfBits rest
  | _ => []

/-! ### Zone sensor replies (01 R13, 13 R185) -/

/-- The acknowledge of an address: the address plus H'80 (13 R185). -/
def acknowledgeOf (address : Nat) : Byte := byte address + 0x80

/-- The reading of a reply frame: nothing when the attempt fails by R13; otherwise the temperature and the RH, absent when
its value lies outside 0.0..100.0 %. -/
def sensorReading (address : Nat) : List Byte → Option (Int × Option Nat)
  | [t1, t0, h1, h0, status, check] =>
    let t := (ofBytes t1 t0).toInt
    let h := (ofBytes h1 h0).toNat
    if byteSum [byte address, t1, t0, h1, h0, status, check] = 0 ∧ status = 0 ∧ -100 ≤ t ∧ t ≤ 500 then
      some (t, if h ≤ 1000 then some h else none)
    else none
  | _ => none

end Sys2Proof.Machine
end

