-- ==== Sys2Proof/Config.lean ====
section
/-! DEFINITION. The values the spec leaves to the world outside the part or states nowhere. None has a body, so nothing
can be proved from a value of one (logs 7, 8, 13, 25, 41). -/

namespace Sys2Proof.Config

/-- Whether the winding of a damper output is open at a time in ms (06 R102; log 7). -/
opaque windingOpen : Nat → Nat → Bool

/-- Whether the Outdoor Link reads low at a time in ms while the ZD8 does not drive it (08 R124; log 41). -/
opaque linkLow : Nat → Bool

/-- The samples that the ZD8 reads back of its own byte on the Outdoor Link at a time in ms (08 R122, R124; log 25). -/
opaque readBack : Nat → BitVec 33

/-- The return-air reading, in tenths of °C, that a conversion at a time in ms gives (01 R17; log 8). -/
opaque returnAirReading : Nat → Int

/-- The indoor coil reading, in tenths of °C, that a conversion at a time in ms gives (10 R153; log 8). -/
opaque indoorCoilReading : Nat → Int

/-- The supply-air reading, in tenths of °C, that a conversion at a time in ms gives (10 R154; log 8). -/
opaque supplyAirReading : Nat → Int

/-- The duct static pressure reading, in Pa, that a conversion at a time in ms gives (07 R119; log 8). -/
opaque ductPressureReading : Nat → Int

/-- The mains voltage reading, in V, that a conversion at a time in ms gives (10 R157; log 8). -/
opaque mainsReading : Nat → Int

/-- The trip time in a TRIP report marked cleared, by kind number and running clock; no rule states it (log 13). -/
opaque clearedTripTime : Nat → Nat → Nat

/-- The number of entries in a TRIP report marked cleared, by kind number and running clock; no rule states it (log 13). -/
opaque clearedTripEntries : Nat → Nat → Nat

/-- The stopping byte of a TRIP report marked cleared, by kind number and running clock; no rule states it (log 13). -/
opaque clearedTripStopping : Nat → Nat → Bool

end Sys2Proof.Config
end

