-- ==== Sys2Proof/Machine/Reports.lean ====
section
/-! DEFINITION. Event reports as bytes (13 R181, R182), and the plan record they share with GET_PLAN (13 Table 13.4). -/

namespace Sys2Proof.Machine

/-- The plan record of 42 bytes (13 Table 13.4). -/
def planRecord (p : Plan) : List Byte :=
  word p.number ++ [byte p.mode.code, byte p.factor, planMarks p] ++ word p.q ++ [byte p.c] ++ optTemp p.coilTarget ++
    (p.zones.toList.map fun z => [byte z.role.code] ++ word z.air ++ [byte z.opening]).flatten

/-- The number n of a report kind, its KIND being H'40 + n (13 R181). -/
def Report.index : Report → Nat
  | .state .. => 0
  | .mode .. => 1
  | .plan .. => 2
  | .zoneState .. => 3
  | .zoneSensor .. => 3
  | .trip .. => 4
  | .notCounted .. => 4
  | .tripCleared .. => 4
  | .lockout .. => 5
  | .lockoutCleared => 5
  | .defrost .. => 6
  | .link .. => 7
  | .diagResult .. => 8
  | .button .. => 9

/-- The KIND of a report (13 R181). -/
def Report.kind (r : Report) : Byte := byte (0x40 + r.index)

/-- Three trip times, absent ones as 0 (13 R182). -/
def threeTimes (l : List Nat) : List Byte :=
  word32 (l.getD 0 0) ++ word32 (l.getD 1 0) ++ word32 (l.getD 2 0)

/-- The items of a report after its flags byte, in the order their rule names them (13 R182; logs 12, 13). -/
def Report.items : Report → List Byte
  | .state new old cause => [byte new.code, byte old.code, byte cause.code]
  | .mode new old served target => [byte new.code, byte old.code, byte (sideCode served), byte (targetCode target)]
  | .plan p => planRecord p
  | .zoneState zone new => [byte zone.val, byte new.code]
  | .zoneSensor zone new => [byte zone.val, byte new.code]
  | .trip kind time entries stopping locked =>
    [byte kind.code, 0] ++ word32 time ++ [byte entries, flagByte stopping, flagByte locked]
  | .notCounted coilFault held time locked =>
    [if coilFault then 12 else 11, 1] ++ word32 time ++ [flagByte held, 0, flagByte locked]
  | .tripCleared kind time locked =>
    [byte kind.code, 2] ++ word32 (Config.clearedTripTime kind.code time) ++
      [byte (Config.clearedTripEntries kind.code time), flagByte (Config.clearedTripStopping kind.code time),
        flagByte locked]
  | .lockout kind times => [1, byte kind.code] ++ threeTimes times
  | .lockoutCleared => [0, 0xFF] ++ threeTimes []
  | .defrost phase cause entered =>
    [byte phase.code, byte cause.code] ++ (match entered with | some q => [byte q.code] | none => [])
  | .link new old cause failure => [byte new.code, byte old.code, byte cause.code, byte (failureCode failure)]
  | .diagResult kind outcome failure data =>
    [kind, byte outcome.code, byte (failureCode failure), byte data.length] ++ data
  | .button event request => [byte event.code, byte request.code]

end Sys2Proof.Machine
end

