-- ==== Sys2Proof/Machine/Ops.lean ====
section
/-! DEFINITION. Operations that every block uses: the transmitter and the report queue (12 R171, R172, R176), early-pass
requests (02 R22), the stored image and its writer (12 R177), and reads of zone records. -/

namespace Sys2Proof.Machine

/-! ### The transmitter and its two sources -/

/-- The frame `bytes` in the transmitter from `now` on. -/
def Port.send (p : Port) (now : Nat) (isReply : Bool) (bytes : List Byte) : Port :=
  { p with
    tx := some ⟨bytes, isReply, now + hostFrameMs bytes.length⟩
    lastSent := if isReply then .reply else .report }

/-- The oldest report goes out. The first report after the dropped mark was set carries REPORTS_DROPPED and clears the mark
(12 R176). -/
def Port.sendReport (p : Port) (now : Nat) : Port :=
  match p.reports with
  | [] => p
  | r :: rest =>
    { p with reports := rest, dropped := false }.send now false (hostFrame r.kind (flagsByte false p.dropped :: r.items))

/-- The reply that is ready goes out. -/
def Port.sendReply (p : Port) (now : Nat) : Port :=
  match p.reply with
  | some (kind :: payload) => { p with reply := none }.send now true (hostFrame kind payload)
  | _ => p

/-- A free transmitter takes its next frame: a report after a reply where one is queued, else the reply, else the oldest
report (12 R172). -/
def Port.pump (p : Port) (now : Nat) : Port :=
  if p.tx.isSome then p
  else if p.lastSent = .reply ∧ p.reports ≠ [] then p.sendReport now
  else if p.reply.isSome then p.sendReply now
  else p.sendReport now

/-- Whether the report mask selects a report; DIAG_RESULT is queued whatever the mask (12 R176, 13 R181). -/
def maskSelects (mask : Word) (r : Report) : Bool :=
  match r with
  | .diagResult .. => true
  | _ => mask.getLsbD r.index

/-- A report is tested against the mask and appended to a queue of at most eight, or dropped (12 R176). -/
def Port.raise (p : Port) (now : Nat) (r : Report) : Port :=
  if maskSelects p.mask r then
    if p.reports.length < 8 then { p with reports := p.reports ++ [r] }.pump now else { p with dropped := true }
  else p

/-- A reply of the request in service, handed to the transmitter: status, flags and the rest. OVERRUN is sent and its mark
cleared (12 R171, 13 R181). -/
def Port.handReply (p : Port) (now : Nat) (kind : Byte) (status : Status) (body : List Byte) : Port :=
  { p with
    reply := some (replyKind kind :: byte status.code :: flagsByte p.overrun false :: body)
    overrun := false }.pump now

/-- An event report raised by any block (12 R176). -/
def raise (r : Report) (s : State) : State := { s with port := s.port.raise s.now r }

/-- A reply of the request in service (12 R171). -/
def handReply (kind : Byte) (status : Status) (body : List Byte) (s : State) : State :=
  { s with port := s.port.handReply s.now kind status body }

/-! ### Early passes (02 R22) -/

/-- A request for an early evaluation pass. -/
def requestPass (s : State) : State := { s with eval := { s.eval with early := true } }

/-! ### Zones -/

/-- The state of a zone. -/
def stateOf (s : State) (z : ZoneId) : ZoneState := (s.zst.get z).state

/-- Whether a zone is configured: ACTIVE, PARKED or FAULT (01 R3). -/
def configured (s : State) (z : ZoneId) : Bool := decide (stateOf s z ≠ .unused)

/-- A zone changes its state, with its ZONE report (01 R3). -/
def setZoneState (z : ZoneId) (new : ZoneState) (s : State) : State :=
  raise (.zoneState z new) { s with zst := s.zst.modify z fun x => { x with state := new } }

/-- The damper of a zone. -/
def damperOf (s : State) (z : ZoneId) : Damper := s.drive.dampers.get z

/-! ### The Configuration Store (12 R177) -/

/-- One zone of the image; a zone with unconfigure pending is written as UNUSED. -/
def imageZone (s : State) (z : ZoneId) : ImageZone :=
  ⟨configured s z && !(s.zst.get z).unconf, s.zcfg.get z, s.setp.get z⟩

/-- The image of the values in force. -/
def imageInForce (s : State) : Image :=
  ⟨s.cfg, Eight.ofFn (imageZone s), s.op.request, s.op.policy, s.op.frost, s.port.mask⟩

/-- The image an auto-save writes, and whether it writes the whole: the two values into the stored image, or the whole
while STORE_DEFAULTED is set. -/
def autoImage (s : State) : Image × Bool :=
  match s.store.image with
  | some i => if s.store.defaulted then (imageInForce s, true)
              else ({ i with request := s.op.request, policy := s.op.policy }, false)
  | none => (imageInForce s, true)

/-- With the writer idle and the mark set, an auto-save begins and clears the mark. -/
def startAutoSave (s : State) : State :=
  if s.store.writer = .idle ∧ s.store.autoPending = true then
    { s with store :=
        { s.store with writer := .auto (autoImage s).1 (autoImage s).2 s.now, autoPending := false } }
  else s

/-- A change of the operating request or the policy sets the pending mark, and an idle writer begins. -/
def autoSave (s : State) : State :=
  startAutoSave { s with store := { s.store with autoPending := true } }

/-- A full write of the values in force begins and clears a pending auto-save. -/
def startFullWrite (s : State) : State :=
  { s with store := { s.store with writer := .full (imageInForce s) s.now, autoPending := false } }

end Sys2Proof.Machine
end

