-- ==== Sys2Proof/Machine/Sensing.lean ====
section
/-! DEFINITION. The Zone Sensing Controller (01 R11 to R19): the sweep, the judgment of a poll, the sensor states and the
effective temperature. -/

namespace Sys2Proof.Machine

/-! ### One sensor record -/

/-- The effective temperature of a configured zone (01 R17). -/
def effOf (state : SensorState) (temp returnAir : Option Int) : Option Int :=
  match state with
  | .fresh => temp
  | .stale => temp
  | _ => returnAir

/-- A good poll (01 R14, R16). -/
def SensorRec.good (now : Nat) (t : Int) (rh : Option Nat) (_ : SensorRec) : SensorRec :=
  { state := .fresh, temp := some t, rh := rh, eff := some t, failures := 0, ageFrom := some now }

/-- A failed poll (01 R14): the count rises to at most 3, and the third in FRESH gives STALE. -/
def SensorRec.failed (r : SensorRec) : SensorRec :=
  { r with
    failures := min 3 (r.failures + 1)
    state := if r.state = .fresh ∧ 3 ≤ r.failures + 1 then .stale else r.state }

/-- The expiry of the age timer (01 R14, R16): LOST, with the RH made absent. -/
def SensorRec.expired (returnAir : Option Int) (r : SensorRec) : SensorRec :=
  { r with state := .lost, rh := none, eff := returnAir, ageFrom := none }

/-- Sensing that restarts for an address, or stops for NONE, in a configured zone (01 R6, R14, R17). -/
def SensorRec.restarted (now : Nat) (returnAir : Option Int) (address : Option Nat) : SensorRec :=
  match address with
  | some _ => ⟨.waiting, none, none, returnAir, 0, some now⟩
  | none => ⟨.noSensor, none, none, returnAir, 0, none⟩

/-- Whether the age timer of a record has reached 180 s (01 R15). -/
def SensorRec.ageDue (now : Nat) (r : SensorRec) : Bool :=
  match r.ageFrom with
  | some t => decide (t + 180000 ≤ now)
  | none => false

/-! ### The records in the state -/

/-- A zone's sensing fields. -/
def sensorOf (s : State) (z : ZoneId) : SensorRec := s.sens.zone.get z

/-- A zone's sensing fields replaced, with no report. -/
def putSensor (z : ZoneId) (new : SensorRec) (s : State) : State :=
  { s with sens := { s.sens with zone := s.sens.zone.set z new } }

/-- A zone's sensing fields replaced; a change of sensor state gives its ZONE report and an early-pass request (01 R14). A zone
in WAITING that is given another address stays in WAITING and gives no report (DEDUCED, log 45). -/
def changeSensor (z : ZoneId) (new : SensorRec) (s : State) : State :=
  if new.state = (sensorOf s z).state then putSensor z new s
  else requestPass (raise (.zoneSensor z new.state) (putSensor z new s))

/-- The outcome of a poll in progress for a zone is discarded from now on (01 R18). -/
def discardPoll (z : ZoneId) (s : State) : State :=
  match s.sens.poll with
  | some p => if p.zone = z then { s with sens := { s.sens with poll := some { p with discarded := true } } } else s
  | none => s

/-- Sensing of a configured zone restarts or stops for its new address (01 R6, R14, R18). -/
def restartSensing (z : ZoneId) (address : Option Nat) (s : State) : State :=
  changeSensor z (SensorRec.restarted s.now s.sens.returnAir address) (discardPoll z s)

/-- Sensing of a zone that becomes UNUSED stops (01 R4, R14, R18). -/
def stopSensing (z : ZoneId) (s : State) : State := changeSensor z SensorRec.zero (discardPoll z s)

/-! ### The sweep and the poll (01 R11 to R13) -/

/-- The slot length a new sweep takes (01 R11). -/
def sweepSlotMs (op : OpState) : Nat := if op = .resting then 7500 else 1250

/-- The slot of the next zone begins: a configured zone with an address is polled (01 R11, R12). -/
def beginSlot (s : State) : State :=
  let z := s.sens.nextSlot
  let slotMs := if z.val = 0 then sweepSlotMs s.op.state else s.sens.slotMs
  let poll : Option Poll :=
    if configured s z then (s.zcfg.get z).address.map fun a => ⟨z, a, 1, s.now, false⟩ else none
  { s with sens :=
      { s.sens with nextSlot := z + 1, nextSlotAt := s.sens.nextSlotAt + slotMs, slotMs := slotMs, poll := poll } }

/-- A new 10 s sweep begins at slot 0 (01 R11, R19). -/
def restartSweep (s : State) : State :=
  { s with sens := { s.sens with nextSlot := 0, nextSlotAt := s.now, slotMs := 1250, poll := none } }

/-- The poll ends with a failed attempt: the first is repeated at once, the second is a failed poll (01 R13, R14). -/
def failAttempt (p : Poll) (s : State) : State :=
  if p.attempt = 1 then { s with sens := { s.sens with poll := some { p with attempt := 2, startedAt := s.now } } }
  else
    let s := { s with sens := { s.sens with poll := none } }
    if p.discarded then s else changeSensor p.zone (sensorOf s p.zone).failed s

/-- The poll ends good (01 R13, R14). -/
def passPoll (p : Poll) (t : Int) (rh : Option Nat) (s : State) : State :=
  let s := { s with sens := { s.sens with poll := none } }
  if p.discarded then s else changeSensor p.zone ((sensorOf s p.zone).good s.now t rh) s

/-- Whether the 15 ms window of a poll attempt has closed (01 R12). -/
def Poll.windowClosed (now : Nat) (p : Poll) : Bool := decide (p.startedAt + 15 ≤ now)

/-! ### Return air (01 R17) -/

/-- A thermistor reading within its bounds is available. -/
def available (lo hi reading : Int) : Option Int := if lo ≤ reading ∧ reading ≤ hi then some reading else none

/-- The effective temperature renewed from the return-air reading, in a configured zone (01 R17; log 11). -/
def renewEff (s : State) (returnAir : Option Int) (z : ZoneId) : SensorRec :=
  let r := sensorOf s z
  if configured s z then { r with eff := effOf r.state r.temp returnAir } else r

/-- A conversion of the return-air input (01 R17). -/
def returnAirConverted (reading : Int) (s : State) : State :=
  let ra := available (-200) 600 reading
  { s with sens := { s.sens with returnAir := ra, zone := Eight.ofFn (renewEff s ra) } }

end Sys2Proof.Machine
end

