-- ==== Sys2Proof/Machine/Drive.lean ====
section
/-! DEFINITION. The Damper Drive (06 R93 to R107): damper records, the move queue, the drive slots, the air-path condition, and a
zone that becomes UNUSED (01 R4). Granting slots stands with the blower's guard in AirPath.lean. -/

namespace Sys2Proof.Machine

/-! ### Reading the drive -/

/-- The queue entry of a damper; there is at most one (06 R95). -/
def Drive.entryOf (v : Drive) (d : ZoneId) : Option QueueEntry := v.queue.find? fun e => decide (e.damper = d)

/-- The slot a damper holds. -/
def Drive.slotOf (v : Drive) (d : ZoneId) : Option Slot :=
  match v.slot1 with
  | some x => if x.damper = d then some x else v.slot2.filter fun y => decide (y.damper = d)
  | none => v.slot2.filter fun y => decide (y.damper = d)

/-- The opening a damper is committed to: the target of its MOVE in motion or queued, 0 for a HOME, or its position;
absent when the position is UNKNOWN (04 R69, 06 R96; log 31). -/
def Drive.committed (v : Drive) (d : ZoneId) : Option Nat :=
  match v.slotOf d with
  | some ⟨_, .move t, _, _, _⟩ => some t
  | some ⟨_, .home, _, _, _⟩ => some 0
  | none =>
    match v.entryOf d with
    | some ⟨_, .move t⟩ => some t
    | some ⟨_, .home⟩ => some 0
    | none => (v.dampers.get d).position

/-- Whether a position is known and at least 20 steps. -/
def passes (p : Option Nat) : Bool :=
  match p with
  | some n => decide (20 ≤ n)
  | none => false

/-- The air-path condition (06 R104). -/
def Drive.airPath (v : Drive) : Bool := v.dampers.toList.any fun d => passes d.position

/-! ### Changing one damper, the queue and the slots -/

/-- One damper record changed. -/
def Drive.onDamper (v : Drive) (d : ZoneId) (f : Damper → Damper) : Drive :=
  { v with dampers := v.dampers.modify d f }

/-- An entry joins at the tail and its damper is QUEUED (06 R95). -/
def Drive.append (v : Drive) (d : ZoneId) (what : Drift) : Drive :=
  let v : Drive := { v with queue := v.queue ++ [⟨d, what⟩] }
  v.onDamper d fun x => { x with motion := .queued }

/-- The entry of a damper changed in place (06 R95). -/
def Drive.retarget (v : Drive) (d : ZoneId) (what : Drift) : Drive :=
  { v with queue := v.queue.map fun e => if e.damper = d then { e with what := what } else e }

/-- The entry of a damper leaves the queue. -/
def Drive.unqueue (v : Drive) (d : ZoneId) : Drive :=
  { v with queue := v.queue.filter fun e => decide (e.damper ≠ d) }

/-- The slot of a damper is freed. -/
def Drive.free (v : Drive) (d : ZoneId) : Drive :=
  { v with
    slot1 := v.slot1.filter fun x => decide (x.damper ≠ d)
    slot2 := v.slot2.filter fun x => decide (x.damper ≠ d) }

/-- A reset HOME of a damper has drained (06 R107). -/
def Drive.drained (v : Drive) (d : ZoneId) : Drive :=
  { v with resetHomes := v.resetHomes.filter fun z => decide (z ≠ d) }

/-- The follow-on for a target after a HOME: none for 0 (06 Table 6.2). -/
def followTarget (t : Nat) : FollowOn := if t = 0 then .nothing else .target t

/-! ### Requests (06 R96 to R98) -/

/-- A move request to the damper of an ACTIVE zone (06 Table 6.2). -/
def Drive.requestMove (v : Drive) (d : ZoneId) (t : Nat) : Drive :=
  let x := v.dampers.get d
  match x.motion with
  | .idle =>
    match x.position with
    | some p => if t = p then v else v.append d (.move t)
    | none => (v.append d .home).onDamper d fun y => { y with followOn := followTarget t }
  | .queued =>
    match v.entryOf d with
    | some ⟨_, .move _⟩ =>
      if x.position = some t then (v.unqueue d).onDamper d fun y => { y with motion := .idle }
      else v.retarget d (.move t)
    | some ⟨_, .home⟩ => v.onDamper d fun y => { y with followOn := followTarget t }
    | none => v
  | .moving =>
    match v.slotOf d with
    | some ⟨_, .move u, _, _, _⟩ =>
      v.onDamper d fun y => { y with followOn := if t = u then .nothing else .target t }
    | _ => v
  | .homing => v.onDamper d fun y => { y with followOn := followTarget t }
  | .fault => v

/-- A damper that is to be homed is passed over no longer (04 R77; log 53). -/
def Drive.tookUp (v : Drive) (d : ZoneId) : Drive :=
  { v with passedOver := v.passedOver.filter fun z => decide (z ≠ d) }

/-- A home request (06 R97). -/
def Drive.requestHome (v : Drive) (d : ZoneId) : Drive :=
  match (v.dampers.get d).motion with
  | .idle => (v.tookUp d).append d .home
  | .queued =>
    match v.entryOf d with
    | some ⟨_, .move t⟩ => (v.retarget d .home).onDamper d fun y => { y with followOn := followTarget t }
    | _ => v
  | .moving => v.onDamper d fun y => { y with followOn := .home }
  | .homing => v
  | .fault => v

/-- Withdraw a MOVE entry (06 R98). -/
def Drive.withdrawMove (v : Drive) (d : ZoneId) : Drive :=
  match v.entryOf d with
  | some ⟨_, .move _⟩ => (v.unqueue d).onDamper d fun y => { y with motion := .idle }
  | _ => v

/-- Clear a follow-on target; a follow-on of HOME stays (06 R98). -/
def Drive.clearFollowOn (v : Drive) (d : ZoneId) : Drive :=
  v.onDamper d fun y => { y with followOn := if y.followOn = .home then .home else .nothing }

/-- Withdraw for UNUSED: entry and follow-on go, a motion runs to its end (06 R98), and a damper in FAULT becomes IDLE with
stall count 0 (06 R103), still passed over by the plans that name its zone (04 R77; log 53). -/
def Drive.withdrawAll (v : Drive) (d : ZoneId) : Drive :=
  let v := if v.slotOf d = none then v.drained d else v
  let v := if (v.dampers.get d).motion = .fault then { v with passedOver := v.passedOver ++ [d] } else v
  (v.unqueue d).onDamper d fun y =>
    { y with
      followOn := .nothing
      motion := if y.motion = .queued ∨ y.motion = .fault then .idle else y.motion
      stalls := if y.motion = .fault then 0 else y.stalls }

/-! ### Motion (06 R94, R99 to R103) -/

/-- Whether a slot is free. -/
def Drive.slotFree (v : Drive) : Bool := v.slot1.isNone || v.slot2.isNone

/-- The motion of an entry begins in a free slot; a HOME makes the position UNKNOWN (06 R94, R99). Where both slots are free it takes
slot 1, also as the only entry, for which R99 names no slot (DESIGN CHOICE, log 72). -/
def Drive.start (v : Drive) (now : Nat) (e : QueueEntry) : Drive :=
  let opens :=
    match e.what with
    | .move t => decide ((v.dampers.get e.damper).position.getD 200 < t)
    | .home => false
  let x : Slot := ⟨e.damper, e.what, 0, now, opens⟩
  let v := if v.slot1.isNone then { v with slot1 := some x } else { v with slot2 := some x }
  v.onDamper e.damper fun y =>
    match e.what with
    | .move _ => { y with motion := .moving }
    | .home => { y with motion := .homing, position := none }

/-- A damper enters FAULT (06 R103). -/
def Drive.fault (v : Drive) (d : ZoneId) : Drive :=
  (((v.free d).unqueue d).drained d).onDamper d fun y =>
    { y with motion := .fault, position := none, followOn := .nothing }

/-- A position one step nearer to a target. -/
def towards (p t : Nat) : Nat := if p < t then p + 1 else if t < p then p - 1 else p

/-- The slot of a damper with one more step issued. -/
def Slot.stepped (d : ZoneId) (x : Slot) : Slot :=
  if x.damper = d then { x with steps := x.steps + 1, lastStep := x.lastStep + 20 } else x

/-- One step of the motion of a damper (06 R94). -/
def Drive.stepMotion (v : Drive) (d : ZoneId) : Drive :=
  let moved : Drive :=
    match v.slotOf d with
    | some ⟨_, .move t, _, _, _⟩ => v.onDamper d fun y => { y with position := y.position.map fun p => towards p t }
    | _ => v
  { moved with slot1 := v.slot1.map (Slot.stepped d), slot2 := v.slot2.map (Slot.stepped d) }

/-- Whether the last step of a damper's motion has been issued: a MOVE at its target, a HOME after 220 steps (06 R94, R100). -/
def Drive.motionDone (v : Drive) (d : ZoneId) : Bool :=
  match v.slotOf d with
  | some ⟨_, .move t, _, _, _⟩ => decide ((v.dampers.get d).position = some t)
  | some ⟨_, .home, n, _, _⟩ => decide (220 ≤ n)
  | none => false

/-- Whether a step of a damper's motion is due (06 R94). -/
def Drive.stepDue (v : Drive) (now : Nat) (d : ZoneId) : Bool :=
  match v.slotOf d with
  | some x => decide (x.lastStep + 20 ≤ now) && !v.motionDone d
  | none => false

/-- Whether a damper is making a MOVE. -/
def Drive.isMove (v : Drive) (d : ZoneId) : Bool :=
  match v.slotOf d with
  | some ⟨_, .move _, _, _, _⟩ => true
  | _ => false

/-- A damper takes its follow-on at the end of its motion (06 R100). -/
def Drive.takeFollowOn (v : Drive) (d : ZoneId) : Drive :=
  let x := v.dampers.get d
  let v := v.onDamper d fun y => { y with followOn := .nothing, motion := .idle }
  match x.followOn with
  | .nothing => v
  | .target t => if x.position = some t then v else v.append d (.move t)
  | .home => v.append d .home

/-- A MOVE completes (06 R100). -/
def Drive.completeMove (v : Drive) (d : ZoneId) : Drive :=
  ((v.free d).onDamper d fun y => { y with stalls := 0 }).takeFollowOn d

/-- A HOME completes (06 R100). -/
def Drive.completeHome (v : Drive) (d : ZoneId) : Drive :=
  (((v.free d).drained d).onDamper d fun y => { y with position := some 0 }).takeFollowOn d

/-- A MOVE stalls: the motion ends with the position UNKNOWN (06 R101). -/
def Drive.stallStop (v : Drive) (d : ZoneId) : Drive :=
  (v.free d).onDamper d fun y => { y with motion := .idle, position := none, followOn := .nothing }

/-- The drive after either reset: a HOME queued for every configured zone, in ascending damper number (06 R107). -/
def Drive.afterReset (homes : List ZoneId) : Drive :=
  { dampers := Eight.ofFn fun d => ⟨none, if homes.contains d then .queued else .idle, .nothing, 0⟩
    queue := homes.map fun d => ⟨d, .home⟩, slot1 := none, slot2 := none, resetHomes := homes, passedOver := [] }

/-! ### Requests and zone states in the machine -/

/-- The Damper Drive takes a move request only for a damper whose zone is ACTIVE (06 R96). -/
def moveRequest (d : ZoneId) (t : Nat) (s : State) : State :=
  if stateOf s d = .active then { s with drive := s.drive.requestMove d t } else s

/-- A home request (06 R97). -/
def homeRequest (d : ZoneId) (s : State) : State := { s with drive := s.drive.requestHome d }

/-- A zone becomes UNUSED (01 R4). A damper that came here through FAULT is IDLE at UNKNOWN after it, and passed over (06 R103, 04 R77;
log 53). -/
def releaseZone (z : ZoneId) (s : State) : State :=
  let s := requestPass (setZoneState z .unused s)
  let s := { s with zst := s.zst.modify z fun x => { x with unconf := false } }
  let s := stopSensing z s
  { s with work := s.work.set z ZoneWork.zero, drive := s.drive.withdrawAll z }

/-- A damper enters FAULT, and its zone with it; a zone with unconfigure pending goes on to UNUSED (06 R103, 01 R3, R4). The
Plan Changeover Controller is told. -/
def faultDamper (d : ZoneId) (s : State) : State :=
  let s := { s with drive := s.drive.fault d
                    todo := { s.todo with faulted := s.todo.faulted ++ [d], phaseCheck := true } }
  match stateOf s d with
  | .active =>
    let s := requestPass (setZoneState d .fault s)
    if (s.zst.get d).unconf then releaseZone d s else s
  | .parked =>
    let s := requestPass (setZoneState d .fault s)
    if (s.zst.get d).unconf then releaseZone d s else s
  | _ => s

end Sys2Proof.Machine
end

