-- ==== Sys2Proof/Machine/Blower.lean ====
section
/-! DEFINITION. The Blower Controller (07 R108 to R121): the blower table, goals, ramp and settle, retry, hold, run-on and the
pressure cap, each over the blower's own record. -/

namespace Sys2Proof.Machine

/-! ### The blower table (07 R109) -/

/-- The pair (speed demand, expected speed) for an airflow above the first of the points that begin with `a`. -/
def tableWalk (q : Nat) (a : BlowerPoint) : List BlowerPoint → Nat × Nat
  | [] => (a.speed, a.rpm)
  | b :: rest =>
    if q ≤ b.airflow then
      (a.speed + ceilDiv ((q - a.airflow) * (b.speed - a.speed)) (b.airflow - a.airflow),
        a.rpm + (q - a.airflow) * (b.rpm - a.rpm) / (b.airflow - a.airflow))
    else tableWalk q b rest

/-- The speed goal and the expected speed of a blower goal (07 R109). -/
def tableOfGoal (t : List BlowerPoint) (q : Nat) : Nat × Nat :=
  if q = 0 then (0, 0)
  else
    match t with
    | [] => (0, 0)
    | a :: rest => if q ≤ a.airflow then (a.speed, a.rpm) else tableWalk q a rest

/-! ### The tachometer and the settle band (07 R112; log 14) -/

/-- Whether a measured speed lies within ±10 % of the expected one. -/
def bandHolds (measured expected : Nat) : Bool :=
  decide (10 * (max measured expected - min measured expected) ≤ expected)

/-- Whether 1 s has passed without a tachometer pulse. -/
def Blower.silent (now : Nat) (b : Blower) : Bool := decide (b.lastPulse + 1000 ≤ now)

/-- The measured speed: that of the last pulse, and 0 after 1 s without one. -/
def Blower.speedNow (now : Nat) (b : Blower) : Nat := if b.silent now then 0 else b.measured

/-- Whether the measured speed lies in the band. -/
def Blower.bandNow (now : Nat) (b : Blower) : Bool := b.inBand && !b.silent now

/-- Since when the measured speed has been in the band, or out of it. -/
def Blower.bandSince (now : Nat) (b : Blower) : Nat :=
  if b.inBand && b.silent now then b.lastPulse + 1000 else b.bandFrom

/-- The band judged anew for a measured and an expected speed. -/
def Blower.judgeBand (now measured expected : Nat) (b : Blower) : Blower :=
  let new := bandHolds measured expected
  { b with inBand := new, bandFrom := if new = b.bandNow now then b.bandSince now else now }

/-- A tachometer pulse that shows a speed. -/
def Blower.pulse (now rpm : Nat) (b : Blower) : Blower :=
  { b.judgeBand now rpm b.expected with measured := rpm, lastPulse := now }

/-! ### Goals (07 R109, R110) -/

/-- The speed demand set at once. -/
def Blower.setDemand (now demand : Nat) (b : Blower) : Blower :=
  { b with
    demand := demand
    rampFrom := now
    zeroFrom := if demand = 0 then (if b.demand = 0 then b.zeroFrom else some now) else none
    goalSince := if demand = b.speedGoal then some now else none }

/-- A retry pause that is running ends: the demand ramps again from where it stands, from now on (07 R111, R113). -/
def Blower.leavePause (now : Nat) (b : Blower) : Blower :=
  if b.retryFrom.isSome then { b with retryFrom := none, rampFrom := now } else b

/-- A blower goal in force: speed goal and expected speed by the table, with the ramp and the settle condition begun anew for it.
The settle timeout counts in RAMP with the demand at the speed goal, and begins anew only where the speed goal changes; where RUN
returns to RAMP with the speed goal unchanged it begins at that event (07 R109, R111 to R113; log 14). -/
def Blower.setGoal (now : Nat) (table : List BlowerPoint) (q : Nat) (b : Blower) : Blower :=
  let new := tableOfGoal table q
  { b.judgeBand now (b.speedNow now) new.2 with
    goal := q
    speedGoal := new.1
    expected := new.2
    rampFrom := if b.demand = b.speedGoal then now else b.rampFrom
    goalSince := if b.demand = new.1 then some now else none
    settleFrom :=
      if b.demand = new.1 ∧ b.retryFrom = none ∧ b.state = .ramp then
        some (if new.1 = b.speedGoal then b.settleFrom.getD now else now)
      else none }

/-- OFF: nothing is carried and the demand falls to 0 at the ramp rate. -/
def Blower.turnOff (now : Nat) (table : List BlowerPoint) (b : Blower) : Blower :=
  Blower.setGoal now table 0 { b.leavePause now with state := .off, carried := none, runOnUntil := none }

/-- RAMP toward a goal; a retry pause goes on (07 R113). -/
def Blower.rampTo (now : Nat) (table : List BlowerPoint) (g : Nat) (b : Blower) : Blower :=
  Blower.setGoal now table g { b with state := .ramp, carried := none, runOnUntil := none }

/-- HOLD: the given goal is kept (07 R114). -/
def Blower.enterHold (now : Nat) (table : List BlowerPoint) (b : Blower) : Blower :=
  Blower.setGoal now table 0 { b.leavePause now with state := .hold, carried := none, runOnUntil := none }

/-- A goal given by the Plan Changeover Controller (07 R110, R113, R117). -/
def Blower.give (now : Nat) (table : List BlowerPoint) (running : Bool) (g : Nat) (b : Blower) : Blower :=
  let b := { b with given := g }
  match b.state with
  | .off => if g = 0 then b else b.rampTo now table g
  | .hold => b
  | .runOn => if g = 0 then b else b.rampTo now table g
  | _ =>
    if g = 0 then
      if running then { b with carried := some b.goal } else b.turnOff now table
    else if g = b.goal then { b with carried := none }
    else b.rampTo now table g

/-- What the air-path guard does to the blower (07 R110). -/
def Blower.guard (now : Nat) (table : List BlowerPoint) (b : Blower) : Blower :=
  let st : BlowerState := if b.coldBlow || b.defrostHold then .hold else .off
  Blower.setDemand now 0
    (Blower.setGoal now table 0
      { b.leavePause now with given := 0, carried := none, runOnUntil := none, state := st })

/-- A new table applied to the goal in force: a changed speed goal or expected speed counts as a new goal (07 R109). -/
def Blower.newTable (now : Nat) (table : List BlowerPoint) (b : Blower) : Blower :=
  if tableOfGoal table b.goal = (b.speedGoal, b.expected) then b
  else Blower.setGoal now table b.goal { b with state := if b.state = .run then .ramp else b.state }

/-! ### Ramp, settle, retry (07 R111 to R113) -/

/-- Whether a ramp tick is due; none falls in a retry pause. -/
def Blower.rampDue (now : Nat) (b : Blower) : Bool :=
  decide (b.demand ≠ b.speedGoal) && b.retryFrom.isNone && decide (b.rampFrom + 250 ≤ now)

/-- The speed demand moves one point toward the speed goal (07 R111). -/
def Blower.ramp (now : Nat) (b : Blower) : Blower :=
  let d := towards b.demand b.speedGoal
  { b with
    demand := d
    rampFrom := b.rampFrom + 250
    zeroFrom := if d = 0 then some now else none
    goalSince := if d = b.speedGoal then some now else none
    settleFrom := if d = b.speedGoal ∧ b.state = .ramp then some now else b.settleFrom }

/-- Whether the blower has become settled at its goal (07 R112). -/
def Blower.settledDue (now : Nat) (b : Blower) : Bool :=
  match b.goalSince with
  | some g => decide (b.state = .ramp) && b.retryFrom.isNone && b.bandNow now &&
      decide (max g (b.bandSince now) + 3000 ≤ now)
  | none => false

/-- RAMP becomes RUN. -/
def Blower.settle (b : Blower) : Blower := { b with state := .run, settleFrom := none }

/-- Whether the measured speed has been out of the band for 3 s in RUN (07 R112). -/
def Blower.unsettledDue (now : Nat) (b : Blower) : Bool :=
  decide (b.state = .run) && !b.bandNow now && decide (b.bandSince now + 3000 ≤ now)

/-- RUN returns to RAMP with the demand at its goal, and the settle timeout counts from here. -/
def Blower.unsettle (now : Nat) (b : Blower) : Blower := { b with state := .ramp, settleFrom := some now }

/-- Whether 30 s have passed without settling (07 R113). -/
def Blower.timeoutDue (now : Nat) (b : Blower) : Bool :=
  match b.settleFrom with
  | some t => decide (b.state = .ramp) && b.retryFrom.isNone && decide (t + 30000 ≤ now)
  | none => false

/-- The demand becomes 0 at once and the retry pause begins (07 R113). -/
def Blower.beginRetry (now : Nat) (b : Blower) : Blower :=
  { b.setDemand now 0 with retryFrom := some now, settleFrom := none }

/-- Whether the 60 s retry pause has ended (07 R113). -/
def Blower.retryDue (now : Nat) (b : Blower) : Bool :=
  match b.retryFrom with
  | some t => decide (t + 60000 ≤ now)
  | none => false

/-- The demand ramps again from 0. -/
def Blower.endRetry (now : Nat) (b : Blower) : Blower := { b with retryFrom := none, rampFrom := now }

/-! ### Hold, run-on and rest (07 R114 to R118) -/

/-- A hold reason arises: COLD_BLOW where `cold`, else DEFROST (07 R114). -/
def Blower.addHold (now : Nat) (table : List BlowerPoint) (cold : Bool) (b : Blower) : Blower :=
  let b := if cold then { b with coldBlow := true } else { b with defrostHold := true }
  if b.state = .hold then b else b.enterHold now table

/-- A hold reason is removed; the last one ends HOLD (07 R114). -/
def Blower.removeHold (now : Nat) (table : List BlowerPoint) (cold : Bool) (b : Blower) : Blower :=
  let b := if cold then { b with coldBlow := false } else { b with defrostHold := false }
  if b.state = .hold ∧ b.coldBlow = false ∧ b.defrostHold = false then
    if b.given = 0 then b.turnOff now table else b.rampTo now table b.given
  else b

/-- The run-on of a stopping mode, in ms (07 R117). -/
def runOnMs : Option Mode → Option Nat
  | some .cool => some 60000
  | some .heat => some 90000
  | some .test => some 60000
  | _ => none

/-- The compressor stop is reported to the blower (07 R117, R118); a retry pause with a carried airflow ends with it, in RUN_ON or
OFF at once (DEDUCED, log 50). -/
def Blower.stopReported (now : Nat) (table : List BlowerPoint) (stopping : Option Mode) (b : Blower) : Blower :=
  if b.state = .ramp ∨ b.state = .run then
    match b.carried with
    | none => b
    | some q =>
      match runOnMs stopping with
      | none => b.turnOff now table
      | some t =>
        Blower.setGoal now table (q / 2) { b.leavePause now with state := .runOn, runOnUntil := some (now + t) }
  else b

/-- Whether the run-on timer has expired (07 R118). -/
def Blower.runOnDue (now : Nat) (b : Blower) : Bool :=
  match b.runOnUntil with
  | some t => decide (b.state = .runOn) && decide (t ≤ now)
  | none => false

/-- Whether the blower is at rest (07 R116). -/
def Blower.atRest (now : Nat) (b : Blower) : Bool :=
  match b.zeroFrom with
  | some t => decide (b.demand = 0) && (b.silent now || decide (t + 30000 ≤ now))
  | none => false

/-! ### The pressure cap (07 R119, R120) -/

/-- A pressure reading is available within 0..500 Pa. -/
def pressureOf (reading : Int) : Option Nat := if 0 ≤ reading ∧ reading ≤ 500 then some reading.toNat else none

/-- Whether the above-cap time counts. -/
def Blower.aboveCap (cap : Nat) (b : Blower) : Bool :=
  match b.pressure with
  | some p => decide (b.state = .run) && decide (cap < p)
  | none => false

/-- Whether the below-relief time counts. -/
def Blower.belowRelief (cap : Nat) (b : Blower) : Bool :=
  match b.pressure with
  | some p => decide (10 * p < 8 * cap)
  | none => false

/-- A time that counts while its condition holds: started, kept or cleared. -/
def runWhile (holds : Bool) (now : Nat) (from_ : Option Nat) : Option Nat :=
  if holds then some (from_.getD now) else none

/-- Whether a time has reached a length. -/
def reached (from_ : Option Nat) (ms now : Nat) : Bool :=
  match from_ with
  | some t => decide (t + ms ≤ now)
  | none => false

/-- The pressure times started and cleared as their conditions stand. -/
def Blower.syncPressure (now cap : Nat) (b : Blower) : Blower :=
  { b with
    aboveFrom := runWhile (b.aboveCap cap) now b.aboveFrom
    belowFrom := runWhile (b.belowRelief cap) now b.belowFrom }

/-- Qhi steps down at 10 s above the cap (07 R119). -/
def Blower.stepDown (now qmax qsysMin : Nat) (b : Blower) : Blower :=
  if qsysMin < b.qhi then { b with qhi := max (b.qhi - qmax / 10) qsysMin, capped := true, aboveFrom := some now }
  else { b with aboveFrom := some now }

/-- Qhi steps up at 10 min below relief (07 R120). -/
def Blower.stepUp (now qmax : Nat) (b : Blower) : Blower :=
  let q := min (b.qhi + qmax / 10) qmax
  { b with qhi := q, capped := if q = qmax then false else b.capped, belowFrom := some now }

/-- Qhi and the pressure times after CONFIG_SYSTEM (07 R120). -/
def Blower.reconfigure (old new : Settings) (b : Blower) : Blower :=
  let b := if old.qmax ≠ new.qmax ∨ old.qsysMin ≠ new.qsysMin then { b with qhi := new.qmax, capped := false } else b
  if old.qmax ≠ new.qmax ∨ old.qsysMin ≠ new.qsysMin ∨ old.pressureCap ≠ new.pressureCap then
    { b with aboveFrom := none, belowFrom := none }
  else b

/-- The blower after either reset (07 R121); no pulse has been seen since it (log 6). -/
def Blower.afterReset (now qmax : Nat) : Blower :=
  { state := .off, given := 0, carried := none, coldBlow := false, defrostHold := false, goal := 0, speedGoal := 0
    demand := 0, expected := 0, retryFrom := none, runOnUntil := none, qhi := qmax, capped := false
    aboveFrom := none, belowFrom := none, pressure := none, rampFrom := now, goalSince := some now
    settleFrom := none, zeroFrom := some now, measured := 0, lastPulse := now, inBand := true
    bandFrom := now }

end Sys2Proof.Machine
end

