-- ==== Sys2Proof/Machine/AirPath.lean ====
section
/-! DEFINITION. The air-path guard over the dampers and the blower (06 R104), the blower's goals and holds behind it (07 R110, R114),
and the grant of drive slots (06 R99, R102). -/

namespace Sys2Proof.Machine

/-- The Plan Changeover Controller is told that its changeover must restart (04 R78, 06 R104). -/
def tellRestart (s : State) : State := { s with todo := { s.todo with restart := true } }

/-- The Plan Changeover Controller is told that the end of its phase is to be judged (04 R72, R74). -/
def tellPhase (s : State) : State := { s with todo := { s.todo with phaseCheck := true } }

/-- The air-path guard acts: the goal becomes 0, an early pass is requested and the changeover restarts (06 R104, 07 R110). -/
def blowerGuard (s : State) : State :=
  tellRestart (requestPass { s with blower := s.blower.guard s.now s.cfg.table })

/-- The guard acts when the blower goal is above 0 and no damper passes air (06 R104; log 17). -/
def airGuard (s : State) : State :=
  if s.blower.goal ≠ 0 ∧ s.drive.airPath = false then blowerGuard s else s

/-- Whether the compressor counts as running for the blower (07 R117, 09 Table 9.2). -/
def compressorRunning (s : State) : Bool :=
  match s.seq.state with
  | .running => true
  | .stopWait => true
  | .defrostPrep => !s.seq.takenStopped
  | .defrostActive => !s.seq.takenStopped
  | .defrostRecovery => !s.seq.takenStopped
  | _ => false

/-- A goal goes to the blower as R110 writes it. -/
def giveBlower (g : Nat) (s : State) : State :=
  { s with blower := s.blower.give s.now s.cfg.table (compressorRunning s) g }

/-- A goal offered to the blower: without an air path a goal above 0 is taken as 0, with the early pass and the restart of
the guard (06 R104, 07 R110). -/
def offerGoal (g : Nat) (s : State) : State :=
  if g ≠ 0 ∧ s.drive.airPath = false then tellRestart (requestPass (giveBlower 0 s)) else giveBlower g s

/-- A hold reason arises. On entry into HOLD the Plan Changeover Controller has a HOLD report, which it acts on in its BLOWER phase, also
where the same command ends the hold (07 R114, 04 R73). -/
def addHold (cold : Bool) (s : State) : State :=
  { s with
    blower := s.blower.addHold s.now s.cfg.table cold
    todo :=
      if s.co.phase = .blower ∧ s.blower.state ≠ .hold then { s.todo with holdReport := true } else s.todo }

/-- A hold reason is removed; a goal that returns is checked for its air path, and without one the guard acts in full, so that the
demand is 0 at once (07 R114, 06 R104; DEDUCED, log 49). -/
def removeHold (cold : Bool) (s : State) : State :=
  airGuard { s with blower := s.blower.removeHold s.now s.cfg.table cold }

/-- The oldest queue entry is granted a free slot; an open circuit faults its damper instead (06 R99, R102). -/
def grantOne (s : State) : State :=
  match s.drive.queue with
  | [] => s
  | e :: rest =>
    let s := { s with drive := { s.drive with queue := rest } }
    if s.inp.windingOpen.get e.damper then airGuard (faultDamper e.damper s)
    else airGuard { s with drive := s.drive.start s.now e }

/-- Whether a slot can be granted. -/
def canGrant (s : State) : Bool := s.drive.slotFree && decide (s.drive.queue ≠ [])

end Sys2Proof.Machine
end

