-- ==== Sys2Proof/Machine/Sequencer.lean ====
section
/-! DEFINITION. The Compressor Sequencer (09 R136 to R150): what it commands, starting, stopping, trips, lockout, the link and the
defrost handshake. -/

namespace Sys2Proof.Machine

/-! ### What is commanded (09 R137) -/

/-- The wanted capacity of a release under a protective limit. -/
def wantedOf (release : Option Release) (limit : Nat) : Nat :=
  match release with
  | some r => if min r.c limit < 20 then 0 else min r.c limit
  | none => 0

/-- The wanted capacity. -/
def wanted (s : State) : Nat := wantedOf s.seq.release s.prot.limit

/-- The mode of the latest release. -/
def releaseMode (q : Sequencer) : Option Mode := q.release.map Release.mode

/-- Whether STOP is commanded in a defrost state. -/
def Sequencer.defrostStopped (q : Sequencer) : Bool := q.takenStopped || q.stopMark

/-- The commanded capacity. -/
def commanded (s : State) : Nat :=
  match s.seq.state with
  | .running => wanted s
  | .stopWait => if s.seq.stopSent then 0 else 20
  | .defrostPrep => if s.seq.defrostStopped then 0 else wanted s
  | .defrostActive => if s.seq.defrostStopped then 0 else wanted s
  | .defrostRecovery => if s.seq.defrostStopped then 0 else wanted s
  | _ => 0

/-- The CAP mode; absent is STOP. -/
def capModeOf (s : State) : Option Mode :=
  match s.seq.state with
  | .running => releaseMode s.seq
  | .stopWait => if s.seq.stopSent then none else s.seq.stopping
  | .defrostPrep => if s.seq.defrostStopped then none else some .heat
  | .defrostActive => if s.seq.defrostStopped then none else some .heat
  | .defrostRecovery => if s.seq.defrostStopped then none else some .heat
  | _ => none

/-- Whether the minimum-off timer has expired (09 R138). -/
def minOffExpired (s : State) : Bool := decide (s.seq.minOffFrom + 180000 ≤ s.now)

/-- The seconds left on the minimum-off timer. -/
def minOffLeft (s : State) : Nat := leftSeconds s.now (s.seq.minOffFrom + 180000)

/-- Whether a defrost is in progress. -/
def SeqState.defrosting : SeqState → Bool
  | .defrostPrep => true
  | .defrostActive => true
  | .defrostRecovery => true
  | _ => false

/-! ### Small changes of the sequencer's record -/

/-- The sequencer's state replaced. -/
def seqTo (q : SeqState) (s : State) : State := { s with seq := { s.seq with state := q } }

/-- The minimum-off timer restarts at 0 (09 R138). -/
def restartMinOff (s : State) : State := { s with seq := { s.seq with minOffFrom := s.now, minOffDone := false } }

/-- WAIT_START where a start is wanted, STOPPED otherwise (09 R143). -/
def restState (s : State) : SeqState := if wanted s = 0 then .stopped else .waitStart

/-- The sequencer at rest after a stop: its stop and defrost marks are clear. -/
def seqRest (q : SeqState) (s : State) : State :=
  { s with seq :=
      { s.seq with state := q, stopSent := false, takenStopped := false, stopMark := false, grantSent := false
                   defrostFrom := none, recoveryFrom := none, startFailFrom := none } }

/-- STOP_WAIT with stop sent, or without it while the minimum run lasts (09 R141, R142). -/
def stopWait (sent : Bool) (s : State) : State :=
  { s with seq := { s.seq with state := .stopWait, stopSent := sent, startFailFrom := none } }

/-! ### The stop report (09 R143) -/

/-- The Mode Arbiter takes a stop report as the REST start point (02 R36). -/
def restStartPoint (s : State) : State :=
  if s.arb.mode = .rest ∧ s.arb.restStart = none then { s with arb := { s.arb with restStart := some s.now } } else s

/-- The compressor stop is reported to the arbiter and the blower (09 R143; 02 R36; 07 R115, R117). -/
def stopReport (s : State) : State :=
  let s := restartMinOff { s with seq := { s.seq with runStart := none } }
  let s := restStartPoint s
  let s := { s with blower := s.blower.stopReported s.now s.cfg.table s.seq.stopping }
  if s.blower.coldBlow then removeHold true s else s

/-! ### Defrost phases (09 R146 to R149) -/

/-- The end of recovery: the state entered by the first case that applies, the hold and the deferral ended (09 R148). -/
def endRecovery (cause : DefrostCause) (s : State) : State :=
  let q := s.seq
  let next : SeqState :=
    if !q.takenStopped then (if !q.stopMark && decide (wanted s ≠ 0) then .running else .stopWait)
    else if s.prot.lockout then .lockout
    else if s.prot.stops ≠ [] then .tripped
    else restState s
  let s := seqRest next s
  let s := if next = .stopWait then stopWait true s else s
  let s := requestPass { s with arb := { s.arb with deferral := false } }
  raise (.defrost .ended cause (some next)) (removeHold false s)

/-- Whether the indoor coil reads 30.0 °C or above (09 R148). -/
def coilWarm (s : State) : Bool :=
  match s.prot.coil with
  | some t => decide (300 ≤ t)
  | none => false

/-- Entry into DEFROST_RECOVERY; a coil already warm ends it at once (09 R148). -/
def enterRecovery (cause : DefrostCause) (s : State) : State :=
  let s := { s with seq :=
    { s.seq with state := .defrostRecovery, grantSent := false, defrostFrom := none, recoveryFrom := some s.now } }
  let s := raise (.defrost .recovery cause none) s
  if coilWarm s then endRecovery .coilWarm s else s

/-- The blower is at rest: the grant is sent (09 R146). -/
def grantDefrost (s : State) : State :=
  raise (.defrost .granted .blowerAtRest none)
    { s with seq := { s.seq with grantSent := true, defrostFrom := some s.now } }

/-- Whether the at-rest report of the blower is due (07 R116). -/
def atRestDue (s : State) : Bool :=
  decide (s.seq.state = .defrostPrep) && !s.seq.grantSent && decide (s.blower.state = .hold) && s.blower.defrostHold &&
    s.blower.atRest s.now

/-- Entry into DEFROST_PREP; a blower already at rest is reported at once (09 R146, 07 R116). -/
def enterPrep (s : State) : State :=
  let s := { s with seq :=
    { s.seq with state := .defrostPrep, takenStopped := false, stopMark := false, grantSent := false
                 defrostFrom := none } }
  let s := { addHold false s with arb := { s.arb with deferral := true } }
  let s := raise (.defrost .prep .request none) s
  if atRestDue s then grantDefrost s else s

/-- In a defrost state the compressor is taken as stopped, once, with its stop report (09 R149). -/
def takeStopped (s : State) : State :=
  if s.seq.takenStopped then s
  else
    let s := stopReport s
    { s with seq := { s.seq with takenStopped := true } }

/-- A defrost is interrupted with the compressor taken as stopped (09 R149). -/
def interruptDefrost (cause : DefrostCause) (s : State) : State :=
  let s := takeStopped s
  if s.seq.state = .defrostRecovery then s else enterRecovery cause s

/-- A stop mark in a defrost state; DEFROST_PREP is left (09 R149). -/
def markStop (s : State) : State :=
  let s := { s with seq := { s.seq with stopMark := true } }
  if s.seq.state = .defrostPrep then enterRecovery .stop s else s

/-! ### Stops (09 R141, R142) -/

/-- A cause of immediate stop: the operating request OFF, the end of TEST, SUPPLY_LOW, a limit below 20 (09 R142, R149). In the
defrost states the end of TEST sets the stop mark as the other causes do (DEDUCED, log 58). -/
def immediateStop (s : State) : State :=
  match s.seq.state with
  | .running => stopWait true s
  | .stopWait => stopWait true s
  | .defrostPrep => markStop s
  | .defrostActive => markStop s
  | .defrostRecovery => markStop s
  | _ => s

/-- STOPPED and WAIT_START follow the wanted capacity (09 R139). -/
def followWanted (s : State) : State :=
  match s.seq.state with
  | .stopped => seqTo (restState s) s
  | .waitStart => seqTo (restState s) s
  | _ => s

/-- The capacity of the latest release is taken as 0: the operating request becomes OFF, or TEST ends (09 R137, R142). -/
def releaseOff (s : State) : State :=
  let s := { s with seq := { s.seq with release := s.seq.release.map fun r => { r with c := 0 } } }
  followWanted (immediateStop s)

/-- The protective limit has changed (09 R137, R141, R142). -/
def limitChanged (s : State) : State := followWanted (if s.prot.limit < 20 then immediateStop s else s)

/-- Whether the minimum run of 300 s is still in progress (09 R141). -/
def inMinimumRun (s : State) : Bool :=
  match s.seq.runStart with
  | some t => decide (s.now < t + 300000)
  | none => false

/-- A release (04 R75, 09 R137, R139, R141, R142). -/
def seqRelease (r : Release) (s : State) : State :=
  let s := { s with seq :=
    { s.seq with release := some r, stopping := if r.c = 0 then s.seq.stopping else some r.mode } }
  match s.seq.state with
  | .running =>
    if r.mode = .rest then stopWait true s
    else if r.c = 0 then stopWait (!inMinimumRun s) s
    else if wanted s = 0 then stopWait true s
    else s
  | .stopWait =>
    if s.seq.stopSent then s
    else if r.mode = .rest then stopWait true s
    else if wanted s = 0 then s
    else seqTo .running s
  | .stopped => followWanted s
  | .waitStart => followWanted s
  | _ => s

/-! ### Starting (09 R139) -/

/-- The conditions that hold a wanted start. -/
def startHeld (s : State) : Bool :=
  !minOffExpired s || s.prot.supplyLow || s.prot.coilFault ||
    decide (s.link.state ≠ .active ∧ s.link.state ≠ .degraded) ||
    (match s.link.lastStatus with
     | some r => r.holdoff
     | none => true)

/-- Whether a start is to be commanded now. -/
def startDue (s : State) : Bool := decide (s.seq.state = .waitStart) && decide (wanted s ≠ 0) && !startHeld s

/-- The start command (09 R139). COLD_BLOW arises under HEAT whatever the coil reads at that moment (DEDUCED, log 55). -/
def startCompressor (s : State) : State :=
  let s := { s with seq :=
    { s.seq with state := .running, startFailMs := 0, startFailFrom := none, runStart := none, stopSent := false } }
  if releaseMode s.seq = some .heat then addHold true s else s

/-- The start-fail time counts in RUNNING with no run start time while the last status record shows HOLDOFF clear
(09 R140). -/
def startFailCounts (s : State) : Bool :=
  decide (s.seq.state = .running) && s.seq.runStart.isNone &&
    (match s.link.lastStatus with
     | some r => !r.holdoff
     | none => false)

/-- The start-fail time in ms. -/
def startFailTime (s : State) : Nat :=
  match s.seq.startFailFrom with
  | some t => s.seq.startFailMs + (s.now - t)
  | none => s.seq.startFailMs

/-- The start-fail time started or held as its conditions stand. -/
def syncStartFail (s : State) : State :=
  if startFailCounts s then
    { s with seq := { s.seq with startFailFrom := some (s.seq.startFailFrom.getD s.now) } }
  else { s with seq := { s.seq with startFailMs := startFailTime s, startFailFrom := none } }

/-! ### Trips, lockout and the link (09 R144, R145) -/

/-- A stopping trip is reported (09 R138, R144, R149). -/
def stoppingTrip (s : State) : State :=
  let s := restartMinOff s
  match s.seq.state with
  | .stopped => seqRest .tripped s
  | .waitStart => seqRest .tripped s
  | .running => seqRest .tripped (stopReport s)
  | .stopWait => seqRest .tripped (stopReport s)
  | .defrostPrep => interruptDefrost .trip s
  | .defrostActive => interruptDefrost .trip s
  | .defrostRecovery => interruptDefrost .trip s
  | .tripped => s
  | .lockout => s

/-- LOCKOUT is set (09 R144, R149). -/
def lockoutSet (s : State) : State :=
  let s := restartMinOff s
  match s.seq.state with
  | .running => seqRest .lockout (stopReport s)
  | .stopWait => seqRest .lockout (stopReport s)
  | .defrostPrep => interruptDefrost .lockout s
  | .defrostActive => interruptDefrost .lockout s
  | .defrostRecovery => interruptDefrost .lockout s
  | _ => seqRest .lockout s

/-- No stopping trip is present any more (09 R144). -/
def noStoppingTrip (s : State) : State := if s.seq.state = .tripped then seqTo (restState s) s else s

/-- LOCKOUT is cleared (09 R144). -/
def lockoutEnds (s : State) : State :=
  if s.seq.state = .lockout then seqTo (if s.prot.stops ≠ [] then .tripped else restState s) s else s

/-- The link enters LOST (09 R138, R145, R149). -/
def seqLinkLost (s : State) : State :=
  let s := restartMinOff s
  match s.seq.state with
  | .running => (fun s => seqRest (restState s) s) (stopReport s)
  | .stopWait => (fun s => seqRest (restState s) s) (stopReport s)
  | .defrostPrep => interruptDefrost .linkLost s
  | .defrostActive => interruptDefrost .linkLost s
  | .defrostRecovery => interruptDefrost .linkLost s
  | _ => s

/-! ### A good STAT (09 R140, R143, R146, R147, R149) -/

/-- The stop that a STAT showing STOPPED reports outside the defrost states. -/
def statStops (s : State) : State := (fun s => seqRest (restState s) s) (stopReport s)

/-- The first good STAT showing RUNNING after the start command sets the run start time, in every state in which the compressor
counts as running (09 R140, Table 9.1). -/
def confirmStart (r : StatRecord) (s : State) : State :=
  if r.compressor = .running ∧ s.seq.runStart = none ∧ compressorRunning s = true then
    { s with seq := { s.seq with runStart := some s.now, startFailMs := startFailTime s, startFailFrom := none } }
  else s

/-- A good STAT in RUNNING. A stop is taken before a defrost request of the same STAT (DEDUCED, log 28). -/
def statRunning (r : StatRecord) (s : State) : State :=
  if r.compressor = .stopped ∧ s.seq.runStart ≠ none then statStops s
  else if r.defrostReq && decide (releaseMode s.seq = some .heat) then enterPrep s
  else s

/-- A good STAT in DEFROST_PREP or DEFROST_ACTIVE with the compressor not shown STOPPED. -/
def statDefrost (r : StatRecord) (s : State) : State :=
  match s.seq.state with
  | .defrostPrep =>
    if r.defrostActive && s.seq.grantSent then
      raise (.defrost .active .outdoorActive none)
        { s with seq := { s.seq with state := .defrostActive, defrostFrom := some s.now } }
    else if !r.defrostReq && !r.defrostActive then enterRecovery .withdrawn s
    else s
  | .defrostActive => if !r.defrostReq && !r.defrostActive then enterRecovery .outdoorDone s else s
  | _ => s

/-- A good STAT goes to the sequencer. In the defrost states a stop is taken alone, with cause STOP, before the flags of the same
STAT, and in DEFROST_PREP also before the start was confirmed (DEDUCED, log 51); in DEFROST_ACTIVE it enters DEFROST_RECOVERY also
after a stop mark (DEDUCED, log 57). -/
def seqStat (r : StatRecord) (s : State) : State :=
  let s := confirmStart r s
  match s.seq.state with
  | .running => statRunning r s
  | .stopWait => if r.compressor = .stopped then statStops s else s
  | .defrostPrep => if r.compressor = .stopped ∧ s.seq.takenStopped = false then interruptDefrost .stop s else statDefrost r s
  | .defrostActive =>
    if r.compressor = .stopped ∧ s.seq.takenStopped = false then interruptDefrost .stop s else statDefrost r s
  | .defrostRecovery =>
    if r.compressor = .stopped ∧ s.seq.takenStopped = false then interruptDefrost .stop s else s
  | _ => s

/-- The sequencer after either reset (09 R150). -/
def Sequencer.afterReset (now : Nat) (lockout : Bool) : Sequencer :=
  { state := if lockout then .lockout else .stopped, release := none, stopping := none, minOffFrom := now
    minOffDone := false, startFailMs := 0, startFailFrom := none, runStart := none, stopSent := false
    takenStopped := false, stopMark := false, grantSent := false, defrostFrom := none, recoveryFrom := none }

end Sys2Proof.Machine
end

