-- ==== Sys2Proof/Machine/Protection.lean ====
section
/-! DEFINITION. The Protection Monitor (10 R151 to R160): trips and their histories, the set of stopping trips, the float, coil,
supply and mains conditions, the protective limit and LOCKOUT. -/

namespace Sys2Proof.Machine

/-! ### Trips, histories and the set of stopping trips (10 R156, R158, R159) -/

/-- The running clock in seconds (10 section 10.1). -/
def clockSeconds (s : State) : Nat := s.now / 1000

/-- A history with a new trip recorded: entries more than 60 min old go, then the oldest of three, and the new time joins
(10 R158 steps 1 to 3). -/
def recordTime (l : List Nat) (t : Nat) : List Nat :=
  let recent := l.filter fun e => decide (t ≤ e + 3600)
  (if 3 ≤ recent.length then recent.tail else recent) ++ [t]

/-- A kind leaves the set of stopping trips, with its cleared report; the sequencer is told when the set becomes empty
(10 R156). -/
def leaveStops (k : TripKind) (s : State) : State :=
  if s.prot.stops.contains k then
    let left := s.prot.stops.filter fun x => decide (x ≠ k)
    let s := { s with prot := { s.prot with stops := left } }
    let s := raise (.tripCleared k (clockSeconds s) s.prot.lockout) s
    if left = [] then noStoppingTrip s else s
  else s

/-- A kind joins the set of stopping trips and is reported to the sequencer as it joins (10 R151). -/
def joinStops (k : TripKind) (s : State) : State :=
  if s.prot.stops.contains k then s
  else stoppingTrip { s with prot := { s.prot with stops := s.prot.stops ++ [k] } }

/-- A trip is recorded, with its TRIP report, and LOCKOUT where its history then holds three; a stopping trip joins the
set (10 R156, R158, R159). At one event the TRIP report is raised before the LOCKOUT report (DESIGN CHOICE, log 68), and the trip
reaches the sequencer before LOCKOUT, so that a DEFROST report of this event carries cause TRIP (DESIGN CHOICE, log 69). -/
def recordTrip (k : TripKind) (stopping : Bool) (s : State) : State :=
  let t := clockSeconds s
  let l := recordTime (s.prot.hist.get k) t
  let locks := decide (3 ≤ l.length) && !s.prot.lockout
  let s := { s with prot := { s.prot with hist := s.prot.hist.set k l, lockout := s.prot.lockout || locks } }
  let s := requestPass (raise (.trip k t l.length stopping s.prot.lockout) s)
  let s := if locks then raise (.lockout k l) s else s
  let s := if stopping then joinStops k s else s
  if locks then lockoutSet s else s

/-- CLEAR_LOCKOUT: every history is emptied, and a LOCKOUT that is set is cleared (10 R159). -/
def clearLockout (s : State) : State :=
  let was := s.prot.lockout
  let s := { s with prot := { s.prot with hist := Histories.empty, lockout := false } }
  if was then requestPass (raise .lockoutCleared (lockoutEnds s)) else requestPass s

/-! ### Float (10 R152) -/

/-- Whether a mode belongs to the cooling watch: COOL, DRY or TEST. -/
def coolsCoil : Option Mode → Bool
  | some .cool => true
  | some .dry => true
  | some .test => true
  | _ => false

/-- FLOAT is a stopping trip while the condition is held under a COOL, DRY or TEST release. -/
def floatStops (s : State) : Bool := s.prot.floatHeld && coolsCoil (releaseMode s.seq)

/-- FLOAT's membership of the set judged again, at each change of the condition and at each release. -/
def judgeFloat (s : State) : State := if floatStops s then joinStops .float s else leaveStops .float s

/-- The float condition becomes held. -/
def floatHolds (s : State) : State :=
  let s := requestPass { s with prot := { s.prot with floatHeld := true } }
  recordTrip .float (floatStops s) s

/-- The float condition becomes clear. -/
def floatClears (s : State) : State := judgeFloat (requestPass { s with prot := { s.prot with floatHeld := false } })

/-- Whether the float input has read a level for a time. -/
def floatRead (closed : Bool) (ms : Nat) (s : State) : Bool :=
  decide (s.inp.floatClosed = closed) && decide (s.inp.floatSince + ms ≤ s.now)

/-! ### The protective limit (10 R155) -/

/-- Whether the freeze watch applies (10 R153). -/
def freezeWatch (s : State) : Bool := compressorRunning s && coolsCoil (releaseMode s.seq)

/-- Whether the supply watch applies (10 R154). -/
def supplyWatch (s : State) : Bool := compressorRunning s && decide (releaseMode s.seq = some .heat)

/-- Whether a limiting condition is present. -/
def limiting (s : State) : Bool := s.prot.freezeLim || s.prot.supplyLim

/-- A down step of the protective limit; a freeze step to 0 records COIL_FREEZE (10 R153, R155). -/
def limitDown (s : State) : State :=
  let old := s.prot.limit
  let s := { s with prot := { s.prot with limit := old - 10, stepFrom := some s.now } }
  let freezes := s.prot.freezeLim && decide (old ≠ 0) && decide (old ≤ 10) && freezeWatch s
  let s := if old = 0 then s else limitChanged s
  if freezes then recordTrip .coilFreeze true s else s

/-- An up step of the protective limit (10 R155). -/
def limitUp (s : State) : State :=
  let old := s.prot.limit
  let s := { s with prot := { s.prot with limit := min 100 (old + 10), recoverFrom := some s.now } }
  if old = s.prot.limit then s else limitChanged s

/-- Freeze limiting becomes present: the recovery time restarts at 0, also where the step it brings ends the limiting again
(10 R153, R155). -/
def freezeLimits (s : State) : State :=
  limitDown { s with prot := { s.prot with freezeLim := true, recoverFrom := none } }

/-- Supply-hot limiting becomes present: the recovery time restarts at 0 (10 R154, R155). -/
def supplyLimits (s : State) : State :=
  limitDown { s with prot := { s.prot with supplyLim := true, recoverFrom := none } }

/-- A watch that does not apply has its time at 0 and its limiting absent (10 R153, R154). -/
def endWatches (s : State) : State :=
  let fw := freezeWatch s
  let sw := supplyWatch s
  { s with prot :=
      { s.prot with
        belowZeroFrom := if fw then s.prot.belowZeroFrom else none
        above60From := if sw then s.prot.above60From else none
        freezeLim := s.prot.freezeLim && fw
        supplyLim := s.prot.supplyLim && sw } }

/-- The watches, and the step and recovery times of the protective limit, as a command leaves them (10 R153 to R155). -/
def syncWatches (s : State) : State :=
  let s := endWatches s
  { s with prot :=
      { s.prot with
        stepFrom := if limiting s then s.prot.stepFrom else none
        recoverFrom := runWhile (!limiting s) s.now s.prot.recoverFrom } }

/-! ### Indoor coil (10 R153, 07 R115, 09 R148) -/

/-- The coil sensor fault as the successive conversions leave it. Its report comes before the cleared report of COIL_FREEZE, which the
fault takes out of the set (10 R153; DESIGN CHOICE, log 68). -/
def judgeCoilSensor (reading : Option Int) (s : State) : State :=
  let bad := if reading.isNone then min 3 (s.prot.coilBad + 1) else 0
  let good := if reading.isSome then min 10 (s.prot.coilGood + 1) else 0
  let fault := if s.prot.coilFault then decide (good < 10) else decide (3 ≤ bad)
  let was := s.prot.coilFault
  let s := { s with prot := { s.prot with coil := reading, coilBad := bad, coilGood := good, coilFault := fault } }
  if fault = was then s
  else
    let s := raise (.notCounted true fault (clockSeconds s) s.prot.lockout) s
    if fault then leaveStops .coilFreeze s else s

/-- Whether a reading lies below a bound. -/
def below (reading : Option Int) (bound : Int) : Bool :=
  match reading with
  | some t => decide (t < bound)
  | none => false

/-- Whether a reading lies above a bound. -/
def above (reading : Option Int) (bound : Int) : Bool :=
  match reading with
  | some t => decide (bound < t)
  | none => false

/-- The below-zero time and freeze limiting after a conversion: the time starts at a conversion, not at the beginning of the watch
(DEDUCED, log 59). -/
def judgeFreeze (reading : Option Int) (s : State) : State :=
  let counts := freezeWatch s && below reading 0
  { s with prot :=
      { s.prot with
        belowZeroFrom := runWhile counts s.now s.prot.belowZeroFrom
        freezeLim := s.prot.freezeLim && counts } }

/-- A conversion of the indoor coil (10 R153): the sensor fault, the freeze watch, COIL_FREEZE, COLD_BLOW, which ends at the first
conversion that reads warm (log 55), and the recovery end. -/
def coilConverted (raw : Int) (s : State) : State :=
  let reading := available (-300) 800 raw
  let s := judgeFreeze reading (judgeCoilSensor reading s)
  let s := if freezeWatch s && below reading (-30) then recordTrip .coilFreeze true s else s
  let s := if above reading 49 then leaveStops .coilFreeze s else s
  let s := if s.blower.coldBlow && above reading 279 then removeHold true s else s
  if decide (s.seq.state = .defrostRecovery) && coilWarm s then endRecovery .coilWarm s else s

/-! ### Supply air (10 R154) -/

/-- A conversion of the supply air: the above-60 time starts at a conversion, not at the beginning of the watch (DEDUCED, log 59). -/
def supplyConverted (raw : Int) (s : State) : State :=
  let reading := available (-200) 900 raw
  let counts := supplyWatch s && above reading 600
  let s := { s with prot :=
    { s.prot with
      supply := reading
      supplyGoneFrom := runWhile reading.isNone s.now s.prot.supplyGoneFrom
      above60From := runWhile counts s.now s.prot.above60From
      supplyLim := s.prot.supplyLim && counts } }
  let s := if supplyWatch s && above reading 700 then recordTrip .supplyHot true s else s
  if below reading 501 then leaveStops .supplyHot s else s

/-! ### Outdoor codes, holds and mains (10 R156, R157) -/

/-- The outdoor trip kinds. -/
def outdoorKinds : List TripKind := [.highPressure, .lowPressure, .dischargeHot, .driveFault, .overcurrent]

/-- Every outdoor kind but one leaves the set. -/
def leaveOutdoor (keep : Option TripKind) (s : State) : State :=
  (outdoorKinds.filter fun k => decide (some k ≠ keep)).foldl (fun s k => leaveStops k s) s

/-- The trip code of a good STAT against that of the previous one (10 R156). A new code is recorded before the cleared report of the
one it replaces (DESIGN CHOICE, log 68). -/
def protStat (previous : Option StatRecord) (r : StatRecord) (s : State) : State :=
  match r.trip with
  | none => leaveOutdoor none s
  | some k =>
    if (previous.bind StatRecord.trip) = some k then s
    else leaveOutdoor (some k) (recordTrip k true s)

/-- START_FAIL is reported: recorded, with its hold time started (10 R156). -/
def startFailTrip (s : State) : State :=
  recordTrip .startFail true { s with prot := { s.prot with startFailHold := some s.now } }

/-- DEFROST_LONG is reported: recorded, with its hold time started (10 R156). -/
def defrostLongTrip (s : State) : State :=
  recordTrip .defrostLong true { s with prot := { s.prot with defrostLongHold := some s.now } }

/-- The hold time of START_FAIL or DEFROST_LONG (10 R156). -/
def holdFrom (kind : HoldKind) (p : Protection) : Option Nat :=
  match kind with
  | .startFail => p.startFailHold
  | .defrostLong => p.defrostLongHold

/-- A hold time ends and its trip leaves the set (10 R156). -/
def endHold (kind : HoldKind) (s : State) : State :=
  match kind with
  | .startFail => leaveStops .startFail { s with prot := { s.prot with startFailHold := none } }
  | .defrostLong => leaveStops .defrostLong { s with prot := { s.prot with defrostLongHold := none } }

/-- A conversion of the mains voltage (10 R157). A time cleared by a new threshold starts at the first conversion after it that meets
the new level (DEDUCED, log 60). -/
def mainsConverted (reading : Int) (s : State) : State :=
  { s with prot :=
      { s.prot with
        lowFrom := runWhile (decide (reading < s.cfg.supplyLow)) s.now s.prot.lowFrom
        highFrom := runWhile (decide ((s.cfg.supplyLow : Int) + 8 ≤ reading)) s.now s.prot.highFrom } }

/-- SUPPLY_LOW changes, with its report; on holding it is an immediate stop (10 R157, 09 R142). -/
def supplyLowTo (held : Bool) (s : State) : State :=
  let s := { s with prot := { s.prot with supplyLow := held } }
  let s := raise (.notCounted false held (clockSeconds s) s.prot.lockout) s
  if held then immediateStop s else s

/-- The Protection Monitor after either reset; host restart keeps the histories and LOCKOUT (10 R160). -/
def Protection.afterReset (now : Nat) (hist : Histories) (lockout : Bool) : Protection :=
  { floatHeld := false, freezeLim := false, belowZeroFrom := none, supplyLim := false, above60From := none
    stops := [], startFailHold := none, defrostLongHold := none, supplyLow := false, lowFrom := none
    highFrom := none, coil := none, coilBad := 0, coilGood := 0, coilFault := false, supply := none
    supplyGoneFrom := none, limit := 100, stepFrom := none, recoverFrom := some now, hist := hist
    lockout := lockout }

end Sys2Proof.Machine
end

