-- ==== Sys2Proof/Machine/Changeover.lean ====
section
/-! DEFINITION. The Plan Changeover Controller (04 R68 to R79). -/

namespace Sys2Proof.Machine

/-! ### Requests (04 R69, R70) -/

/-- Whether a damper is one that the service test opens while its phase is OPENING (11 R168). -/
def testOpens (s : State) (d : ZoneId) : Bool := decide (s.op.testPhase = .opening) && s.op.testDampers.contains d

/-- Whether a role is CALLING, RELIEF or CLOSED. -/
def Role.driven : Role → Bool
  | .calling => true
  | .relief => true
  | .closed => true
  | _ => false

/-- Whether a damper has a HOME queued or in motion. -/
def homeAhead (s : State) (d : ZoneId) : Bool :=
  match s.drive.slotOf d with
  | some ⟨_, .home, _, _, _⟩ => true
  | some ⟨_, .move _, _, _, _⟩ => false
  | none =>
    match s.drive.entryOf d with
    | some ⟨_, .home⟩ => true
    | _ => false

/-- Whether a damper is in FAULT. -/
def inFault (s : State) (d : ZoneId) : Bool := decide ((damperOf s d).motion = .fault)

/-- Whether a damper is passed over in the conditions that name the zones of a plan: it is in FAULT, or it left FAULT because its zone
became UNUSED (04 R69, R72, R74, R77; log 53). -/
def passedBy (s : State) (d : ZoneId) : Bool := inFault s d || s.drive.passedOver.contains d

/-- The controller's request for a zone of a plan: none for IDLE or EXCLUDED, for a damper in FAULT, behind a HOME,
or for a damper that the service test opens (04 R70, 11 R168). -/
def requestFor (p : Plan) (z : ZoneId) (s : State) : State :=
  if (p.zones.get z).role.driven && !inFault s z && !homeAhead s z && !testOpens s z then
    moveRequest z (p.zones.get z).opening s
  else s

/-- The openings of R71: every zone wanted wider than its committed opening, in ascending order. -/
def requestOpenings (p : Plan) (s : State) : State :=
  allZones.foldl
    (fun s z => if (s.drive.committed z).getD 0 < (p.zones.get z).opening then requestFor p z s else s) s

/-- The closings of R73: every zone whose committed opening differs, in ascending order. -/
def requestClosings (p : Plan) (s : State) : State :=
  allZones.foldl
    (fun s z => if s.drive.committed z ≠ some (p.zones.get z).opening then requestFor p z s else s) s

/-! ### Release of capacity (04 R75) -/

/-- The plan's mode, capacity and coil target go to the sequencer. A watch that a release ends restarts at that release, also where a
later release of the same command begins it again; FLOAT's membership is judged at the release (04 R75, 10 R152 to R154). -/
def releasePlan (p : Plan) (s : State) : State :=
  let s := { s with co := { s.co with released := true } }
  judgeFloat (endWatches (seqRelease ⟨p.mode, p.c, p.coilTarget⟩ s))

/-- The capacity step of R71: a capacity not above the commanded one is released now. -/
def capacityStep (p : Plan) (s : State) : State :=
  if p.c ≤ commanded s then releasePlan p s else { s with co := { s.co with released := false } }

/-! ### Starting, superseding and restarting (04 R71, R76 to R78) -/

/-- The phase becomes OPEN for a plan that is incoming: its openings and its capacity step (04 R71, R76 step 3). -/
def openPhase (p : Plan) (s : State) : State :=
  let s := { s with
    co := { s.co with incoming := some p, phase := .opening }, todo := { s.todo with holdReport := false } }
  tellPhase (capacityStep p (requestOpenings p s))

/-- The MOVE entry of one damper against a new plan: retargeted in place to a greater opening, otherwise withdrawn (04 R76
step 1), whatever the state of its zone (DEDUCED, log 54). -/
def adjustEntry (p : Plan) (d : ZoneId) (s : State) : State :=
  match s.drive.entryOf d with
  | some ⟨_, .move _⟩ =>
    let o := (p.zones.get d).opening
    if (p.zones.get d).role.driven && !inFault s d && decide ((damperOf s d).position.getD 200 < o) then
      { s with drive := s.drive.retarget d (.move o) }
    else { s with drive := s.drive.withdrawMove d }
  | _ => s

/-- The follow-on target of a damper in motion is cleared (04 R76 step 1). -/
def clearInMotion (d : ZoneId) (s : State) : State :=
  match (damperOf s d).motion with
  | .moving => { s with drive := s.drive.clearFollowOn d }
  | .homing => { s with drive := s.drive.clearFollowOn d }
  | _ => s

/-- Old intent removed, but for the dampers the service test is opening (04 R76 step 1). -/
def removeIntent (p : Plan) (s : State) : State :=
  allZones.foldl (fun s d => if testOpens s d then s else clearInMotion d (adjustEntry p d s)) s

/-- A plan becomes incoming by the three steps of R76, with a re-application mark. -/
def supersede (p : Plan) (reapply : Bool) (s : State) : State :=
  let s := removeIntent p s
  openPhase p { s with co := { s.co with reapply := reapply } }

/-- A plan that is taken: it starts a changeover, or supersedes the incoming plan (04 R71, R76). -/
def takePlan (p : Plan) (s : State) : State :=
  if s.co.phase = .applied then openPhase p { s with co := { s.co with reapply := false } } else supersede p false s

/-- A plan handed on: held during defrost deferral, else taken (04 R79). -/
def handOn (p : Plan) (s : State) : State :=
  if s.arb.deferral then { s with co := { s.co with held := some p } } else takePlan p s

/-- The end of the deferral takes the held plan (04 R79). -/
def takeHeld (s : State) : State :=
  match s.co.held with
  | some p => takePlan p { s with co := { s.co with held := none } }
  | none => s

/-- A damper that enters FAULT abandons a changeover that drives its zone (04 R77). -/
def abandonFor (d : ZoneId) (s : State) : State :=
  match s.co.incoming with
  | some p =>
    if s.co.phase ≠ .applied ∧ s.co.reapply = false ∧ (p.zones.get d).role ≠ .excluded then
      supersede s.co.applied true (requestPass s)
    else s
  | none => s

/-- The guard's restart of the changeover of the plan in force (04 R78). An incoming plan already released is judged and
released again (DEDUCED, log 47). -/
def restartChangeover (s : State) : State :=
  match s.co.incoming with
  | some p => openPhase p s
  | none => supersede s.co.applied true s

/-! ### The ends of the phases (04 R72 to R74) -/

/-- Whether a damper is opening toward a target of at most an opening; it is below that target until its completion is reported
(04 R72). -/
def stillOpening (s : State) (z : ZoneId) (o : Nat) : Bool :=
  match s.drive.slotOf z with
  | some ⟨_, .move t, _, _, opens⟩ => opens && decide (t ≤ o)
  | _ => false

/-- Whether a zone's damper stands at least at an opening, or is passed over (04 R72, R77). -/
def openEnough (p : Plan) (s : State) (z : ZoneId) : Bool :=
  let o := (p.zones.get z).opening
  decide (o = 0) || passedBy s z ||
    (match (damperOf s z).position with
     | some n => decide (o ≤ n) && !stillOpening s z o
     | none => false)

/-- The condition that ends OPEN (04 R72). -/
def openDone (p : Plan) (s : State) : Bool := allZones.all fun z => openEnough p s z

/-- OPEN ends: the goal is given and the phase becomes BLOWER; with no air path for a goal above 0 it stays OPEN and an early
pass is requested (04 R72). -/
def endOpen (p : Plan) (s : State) : State :=
  if p.q ≠ 0 ∧ s.drive.airPath = false then requestPass s
  else offerGoal p.q { s with co := { s.co with phase := .blower } }

/-- The condition that ends BLOWER: a goal of 0, HOLD or a HOLD report of this command, or the blower settled at the goal (04 R73,
07 R110, R114). -/
def blowerDone (s : State) : Bool :=
  s.todo.holdReport || decide (s.blower.given = 0) || decide (s.blower.state = .hold) || decide (s.blower.state = .run)

/-- BLOWER ends: the capacity that waited is released, the closings are requested and the phase becomes CLOSE
(04 R73). -/
def endBlower (p : Plan) (s : State) : State :=
  let s := { s with co := { s.co with phase := .closing }, todo := { s.todo with holdReport := false } }
  let s := if s.co.released then s else releasePlan p s
  tellPhase (requestClosings p s)

/-- Whether a zone's damper stands where CLOSE wants it, or is passed over (04 R74, R77). -/
def closedEnough (p : Plan) (s : State) (z : ZoneId) : Bool :=
  !(p.zones.get z).role.driven || passedBy s z ||
    (decide ((damperOf s z).position = some (p.zones.get z).opening) && decide ((damperOf s z).motion = .idle))

/-- The condition that ends CLOSE (04 R74). -/
def closeDone (p : Plan) (s : State) : Bool := allZones.all fun z => closedEnough p s z

/-- A zone with unconfigure pending that a plan closes becomes UNUSED (01 R4, 04 R74), a PARKED one as an ACTIVE one (DEDUCED,
log 44), with its ZONE report in ascending zone index (DESIGN CHOICE, log 68). -/
def finishUnconfigure (p : Plan) (s : State) : State :=
  allZones.foldl
    (fun s z => if (s.zst.get z).unconf && decide ((p.zones.get z).role = .closed) then releaseZone z s else s) s

/-- CLOSE ends: the incoming plan becomes the applied one, with its PLAN report (04 R74). The capacity release mark, which has
no meaning in APPLIED, is cleared (DESIGN CHOICE, log 48). -/
def endClose (p : Plan) (s : State) : State :=
  let s := { s with co :=
    { s.co with applied := p, incoming := none, phase := .applied, released := false, reapply := false } }
  finishUnconfigure p (raise (.plan p) s)

/-! ### Repair moves (04 R71) -/

/-- The plan a repair move works for, and the test its position must fail. -/
def repairPlan (s : State) : Option Plan :=
  match s.co.phase with
  | .applied => some s.co.applied
  | .opening => s.co.incoming
  | .closing => s.co.incoming
  | .blower => none

/-- Whether a position wants a repair in a phase: below O in OPEN, different from O in CLOSE and APPLIED. -/
def wantsRepair (phase : Phase) (position o : Nat) : Bool :=
  if phase = .opening then decide (position < o) else decide (position ≠ o)

/-- A completion is reported for a damper that is then neither moving nor queued: a repair move is requested where one is
wanted (04 R71). -/
def repair (d : ZoneId) (s : State) : State :=
  match repairPlan s, (damperOf s d).position with
  | some p, some n =>
    let z := p.zones.get d
    if decide ((damperOf s d).motion = .idle) && z.role.driven && !testOpens s d && wantsRepair s.co.phase n z.opening
    then moveRequest d z.opening s
    else s
  | _, _ => s

/-- The controller after either reset (04 R68). -/
def Changeover.afterReset : Changeover := ⟨Plan.empty, none, .applied, none, false, false⟩

end Sys2Proof.Machine
end

