-- ==== Sys2Proof/Machine/Link.lean ====
section
/-! DEFINITION. The Outdoor Link Controller (08 R122 to R135): CAP contents, what a round carries, the line, failures and the
diagnostic slot. How frames begin, and what a lost link does, stands in LinkFrames.lean. -/

namespace Sys2Proof.Machine

/-! ### CAP contents (08 R129, 13 R184) -/

/-- CAP mode codes: STOP 0, COOL 1, DRY 2, HEAT 3, TEST 4. -/
def capModeCode : Option Mode → Nat
  | some .cool => 1
  | some .dry => 2
  | some .heat => 3
  | some .test => 4
  | _ => 0

/-- Whether the link overrides the command: START or LOST. -/
def linkOverrides (k : Link) : Bool := decide (k.state = .start) || decide (k.state = .lost)

/-- Whether the outdoor unit takes a coil target: level 2 and above (08 R128). -/
def takesCoilTarget (k : Link) : Bool :=
  match k.info with
  | some i => decide (2 ≤ i.level)
  | none => false

/-- The mode sent. -/
def sentMode (s : State) : Option Mode := if linkOverrides s.link then none else capModeOf s

/-- The capacity sent. -/
def sentCapacity (s : State) : Nat := if linkOverrides s.link then 0 else commanded s

/-- The coil target sent. -/
def sentCoilTarget (s : State) : Option Int :=
  if linkOverrides s.link || !takesCoilTarget s.link then none else s.seq.release.bind Release.coilTarget

/-- STANDDOWN_NOTICE, set in NOTICE and in RESTING (11 R164, R165). -/
def noticeFlag (s : State) : Bool := s.op.notice || decide (s.op.state = .resting)

/-- The seven data bytes of a CAP frame. -/
def capData (s : State) : List Byte :=
  [byte (capModeCode (sentMode s)), byte (sentCapacity s)] ++ optTemp (sentCoilTarget s) ++ optTemp s.prot.coil ++
    [capFlags s.seq.grantSent (noticeFlag s) s.prot.lockout]

/-! ### Frames (08 R122, R126, R133) -/

/-- A diagnostic not yet sent. -/
def waitingDiag (k : Link) : Option Diagnostic := k.diag.filter fun d => !d.begun

/-- The diagnostic not yet sent that the round in progress carries (08 R133, R134). -/
def chosenDiag (k : Link) : Option Diagnostic := (waitingDiag k).filter fun d => d.chosen

/-- The kind of frame of a diagnostic. -/
def Diagnostic.frameKind (d : Diagnostic) : FrameKind := if d.isRead then .diagRead else .diagCommand

/-- Whether the last good STAT arrived less than 2 s before a moment (08 R133). -/
def statRecent (now : Nat) (k : Link) : Bool :=
  match k.lastGood with
  | some t => decide (now < t + 2000)
  | none => false

/-- The request frame of a round built now (08 R126, R133). -/
def requestOfRound (now : Nat) (k : Link) : FrameKind :=
  match k.state with
  | .start => .info
  | .active => (match waitingDiag k with | some d => if statRecent now k then d.frameKind else .stat | none => .stat)
  | .degraded => (match waitingDiag k with | some d => if statRecent now k then d.frameKind else .stat | none => .stat)
  | .lost => .stat
  | .slow => .stat

/-- The round period (08 R126). -/
def roundMs (k : LinkState) : Nat := if k = .slow then 10000 else 1000

/-- The round's request frame is due 50 ms after its tick (08 R126). -/
def requestDue (s : State) : Option Round :=
  match s.link.round with
  | some r => if !r.requestBegun && decide (r.tick + 50 ≤ s.now) && s.link.frame.isNone then some r else none
  | none => none

/-- SLOW's diagnostic frame is due 150 ms after the tick (08 R126). -/
def slowDiagDue (s : State) : Option Round :=
  match s.link.round with
  | some r => if r.slowDiag && decide (r.tick + 150 ≤ s.now) && s.link.frame.isNone then some r else none
  | none => none

/-- The byte of a frame whose stop bit ends now, if one does (08 R122; log 25). -/
def endingByte (now : Nat) (f : LinkFrame) : Option Nat :=
  (List.range f.bytes.length).find? fun n => decide (now + linkBytesMs (f.bytes.length - 1 - n) = f.sentBy)

/-- Whether a byte of a frame ends now that has been read back otherwise than it was sent (08 R124). -/
def readsOtherwise (s : State) (f : LinkFrame) : Bool :=
  match endingByte s.now f with
  | some n => differsAt f.bytes n s.link.readBack
  | none => false

/-- The frame in progress where a byte of it that ends now has been read back otherwise than it was sent (08 R124). -/
def collidedFrame (s : State) : Option LinkFrame := s.link.frame.filter fun f => readsOtherwise s f

/-- The frame in progress once all of its bytes have been sent and read back as they were sent (08 R123, R124). -/
def sentFrame (s : State) : Option LinkFrame :=
  s.link.frame.filter fun f => decide (f.sentBy ≤ s.now) && !readsOtherwise s f

/-- Whether a frame is a request frame. -/
def FrameKind.isRequest : FrameKind → Bool
  | .stat => true
  | .info => true
  | .diagRead => true
  | _ => false

/-- A command frame that has been sent whole (08 R123). -/
def sentCommand (s : State) : Option LinkFrame := (sentFrame s).filter fun f => !f.kind.isRequest

/-- The request frame in progress with its header sent. -/
def awaitingResponse (s : State) : Option LinkFrame := (sentFrame s).filter fun f => f.kind.isRequest

/-- The frame in progress, while its response window is open (08 R123). -/
def windowFrame (s : State) (kind : FrameKind) : Option LinkFrame :=
  (sentFrame s).filter fun f => decide (f.kind = kind) && decide (s.now ≤ f.sentBy + 40)

/-- The close of the response window of the frame in progress, or of the latest one (08 R123). -/
def Link.closing (k : Link) : Nat :=
  match k.frame with
  | some f => if f.kind.isRequest then f.sentBy + 40 else k.windowEnd
  | none => k.windowEnd

/-- The exchange of the frame in progress ends: its bytes have been read back, and the response window of a request frame stays
open to its close (08 R123, R124, R132). -/
def endFrame (s : State) : State :=
  { s with link := { s.link with frame := none, collisions := 0, windowEnd := s.link.closing } }

/-- Whether no frame is in progress and no response window is open (08 R132). -/
def linkFree (s : State) : Bool := s.link.frame.isNone && decide (s.link.windowEnd ≤ s.now)

/-- Whether a wake's round is to begin (08 R132). -/
def wakeRoundDue (s : State) : Bool := s.link.wakeRound && linkFree s

/-! ### The line (08 R124; log 41) -/

/-- Whether the ZD8 drives the line: a frame of its own is being sent. -/
def Link.driven (now : Nat) (k : Link) : Bool :=
  match k.frame with
  | some f => decide (now < f.sentBy)
  | none => false

/-- The line has read low at a moment; what the ZD8 drives itself does not count. -/
def Link.heardLow (now : Nat) (k : Link) : Link := if k.driven now then k else { k with lowAt := some now }

/-- The line is read low now. -/
def noteLow (s : State) : State := { s with link := s.link.heardLow s.now }

/-- Whether the line has read high for the 2 ms before now. -/
def lineQuiet (s : State) : Bool :=
  match s.link.lowAt with
  | some t => decide (t + 2 ≤ s.now)
  | none => true

/-- The collision count: 0 from the moment the header of a request frame in progress has been read back (08 R124). -/
def Link.collisionsNow (now : Nat) (k : Link) : Nat :=
  match k.frame with
  | some f => if f.kind.isRequest && decide (f.sentBy < now) then 0 else k.collisions
  | none => k.collisions

/-- Bytes of a response arrive in the window of a frame (08 R123). -/
def takeBytes (f : LinkFrame) (bytes : List Byte) (s : State) : State :=
  let s := if bytes = [] then s else noteLow s
  { s with link := { s.link with frame := some { f with arrived := f.arrived ++ bytes } } }

/-! ### The state and the failures (08 R125, R127, R130, R131) -/

/-- A change of link state, with its LINK report and early-pass request (08 R131). -/
def linkTo (new : LinkState) (cause : LinkCause) (s : State) : State :=
  let old := s.link.state
  requestPass (raise (.link new old cause s.link.lastFailure) { s with link := { s.link with state := new } })

/-- The kind of a failed exchange is recorded. -/
def noteFailure (kind : FailureKind) (s : State) : State := { s with link := { s.link with lastFailure := some kind } }

/-- A failed STAT exchange: the count rises to at most 3 outside LOST, and the third in ACTIVE gives DEGRADED
(08 R125, R127, R130). -/
def statFailed (kind : FailureKind) (s : State) : State :=
  let s := noteFailure kind s
  if s.link.state = .lost then s
  else
    let n := min 3 (s.link.statFailures + 1)
    let s := { s with link := { s.link with statFailures := n } }
    if s.link.state = .active ∧ n = 3 then linkTo .degraded .statFailures s else s

/-- The diagnostic in the slot ends with its result (08 R134). -/
def endDiag (outcome : DiagOutcome) (failure : Option FailureKind) (data : List Byte) (s : State) : State :=
  match s.link.diag with
  | some d => raise (.diagResult d.kind outcome failure data) { s with link := { s.link with diag := none } }
  | none => s

/-- The exchange of a request frame fails (08 R123, R127, R128, R134). -/
def exchangeFailed (kind : FrameKind) (failure : FailureKind) (s : State) : State :=
  match kind with
  | .stat => statFailed failure s
  | .info => noteFailure failure s
  | .diagRead => endDiag .noResponse (some failure) [] (noteFailure failure s)
  | .diagCommand => endDiag .noResponse (some failure) [] s
  | .cap => s

/-- The limit of the STAT age in a state, where it runs (08 R130). -/
def ageLimit : LinkState → Option Nat
  | .active => some 10000
  | .degraded => some 10000
  | .slow => some 30000
  | _ => none

/-- Whether the STAT age has reached its limit. -/
def statAgeDue (s : State) : Bool :=
  match ageLimit s.link.state with
  | some ms => reached s.link.statAgeFrom ms s.now
  | none => false

/-- The record entries of LOST: the age stops and the count is 0; a round of 10 s is cut to 1 s (08 R130, R126; log 21). -/
def loseLink (cause : LinkCause) (s : State) : State :=
  let next :=
    match s.link.state, s.link.round with
    | .slow, some r => max s.now (r.tick + 1000)
    | _, _ => s.link.nextRound
  let s := { s with link := { s.link with statAgeFrom := none, statFailures := 0, nextRound := next } }
  linkTo .lost cause s

/-- RESTING is entered: ACTIVE becomes SLOW, and the next tick comes 10 s after that of the round in progress
(08 R130, R132). -/
def slowLink (s : State) : State :=
  if s.link.state = .active then
    let next :=
      match s.link.round with
      | some r => r.tick + 10000
      | none => s.link.nextRound
    linkTo .slow .resting { s with link := { s.link with statAgeFrom := some s.now, nextRound := next } }
  else s

/-- The wake: SLOW becomes ACTIVE and a new round is to begin, at once or once the frame in progress and its response window are
over (08 R130, R132). -/
def wakeLink (s : State) : State :=
  if s.link.state = .slow then
    linkTo .active .wake
      { s with link := { s.link with statAgeFrom := some s.now, statFailures := 0, wakeRound := true } }
  else s

/-- A good INFO (08 R128, R130; 02 R23). -/
def goodInfo (r : InfoRecord) (s : State) : State :=
  let s := { s with link := { s.link with info := some r }
                    eval := { s.eval with hpCapable := s.eval.hpCapable && r.heatPump } }
  if s.link.state = .start then
    linkTo .active .goodInfo { s with link := { s.link with statAgeFrom := some s.now, statFailures := 0 } }
  else s

/-- The link after either reset (08 R135). -/
def Link.afterReset (now : Nat) : Link :=
  { state := .start, nextRound := now, round := none, frame := none, wakeRound := false, statFailures := 0
    collisions := 0, statAgeFrom := none, lastGood := none, lastFailure := none, lastStatus := none, info := none
    diag := none, windowEnd := now, lowAt := none, readBack := 0 }

end Sys2Proof.Machine
end

