-- ==== Sys2Proof/Machine/Operating.lean ====
section
/-! DEFINITION. The Operating State Controller (11 R161 to R169): operating states, the operating request, stand-down and wake, the
service button and the service test. -/

namespace Sys2Proof.Machine

/-! ### States and the request (11 R161, R163) -/

/-- The operating state of a request. -/
def opOf : OpRequest → OpState
  | .on => .on
  | .off => .off

/-- The other request. -/
def OpRequest.inverse : OpRequest → OpRequest
  | .on => .off
  | .off => .on

/-- RESTING is left: the link leaves SLOW and the sweep returns to 10 s (01 R11, 08 R130, 11 R166). -/
def leaveResting (s : State) : State := restartSweep (wakeLink s)

/-- A change of operating state, with its STATE report and early-pass request (11 R161). -/
def changeOp (new : OpState) (cause : StateCause) (s : State) : State :=
  let old := s.op.state
  if new = old then s
  else
    let s := requestPass (raise (.state new old cause) { s with op := { s.op with state := new } })
    if old = .resting then leaveResting s else s

/-- Whether the idle condition holds (11 R164). -/
def idleHolds (s : State) : Bool :=
  (decide (s.op.state = .off) || decide (s.op.state = .on)) && decide (s.arb.mode = .idle)

/-- The idle time restarts at 0 (11 R164 to R166). -/
def restartIdle (s : State) : State :=
  { s with op := { s.op with idleFrom := if idleHolds s then some s.now else none, idleDone := false } }

/-- The notice is withdrawn (11 R165). -/
def withdrawNotice (s : State) : State := restartIdle { s with op := { s.op with notice := false, noticeFrom := none } }

/-- A wake: the state follows the request and RESTING is left, with the idle time at 0 (11 R166). -/
def wake (s : State) : State := restartIdle (changeOp (opOf s.op.request) .wake s)

/-- A wake event that applies: it wakes RESTING and withdraws a notice (11 R165, R166). -/
def wakeEvent (s : State) : State :=
  if s.op.state = .resting then wake s else if s.op.notice then withdrawNotice s else s

/-- A wake event that applies under request ON only (11 Table 11.2). -/
def wakeIfOn (s : State) : State := if s.op.request = .on then wakeEvent s else s

/-- The operating request written, with the effects of a change (11 R163). -/
def writeRequest (new : OpRequest) (cause : StateCause) (s : State) : State :=
  if new = s.op.request then s
  else
    let s := requestPass (autoSave { s with op := { s.op with request := new } })
    let s := if new = .off then releaseOff s else s
    match s.op.state with
    | .off => changeOp (opOf new) cause s
    | .on => changeOp (opOf new) cause s
    | .resting => wake s
    | .startup => s
    | .test => s

/-! ### The service test (11 R168, R169) -/

/-- The preparation begins: the request becomes OFF and the phase PREPARING. It begins in OFF or ON only, so RESTING is left first
(DESIGN CHOICE, log 24). A NOTICE that stands then goes on (DESIGN CHOICE, log 70). -/
def beginPreparation (s : State) : State :=
  let s := writeRequest .off .button s
  let s := if s.op.state = .resting then wake s else s
  { s with op := { s.op with testPhase := .preparing, opened := [], testDampers := [] } }

/-- The preparation ends without a test. -/
def endPreparation (s : State) : State :=
  { s with op := { s.op with testPhase := .idle, opened := [], testDampers := [] } }

/-- TEST ends: the state becomes the request and the release's capacity is taken as 0 (11 R169, 09 R137). -/
def endTest (s : State) : State :=
  let s := { s with op := { s.op with testFrom := none } }
  releaseOff (changeOp (opOf s.op.request) .testEnd s)

/-- TEST or its preparation is ended by a press or by a host write of the request. -/
def endService (s : State) : State :=
  if s.op.state = .test then endTest s else if s.op.testPhase ≠ .idle then endPreparation s else s

/-- Whether TEST or its preparation is in progress. -/
def inService (s : State) : Bool := decide (s.op.state = .test) || decide (s.op.testPhase ≠ .idle)

/-- Whether PREPARING is to end: the minimum-off time is over and no compressor runs. -/
def preparingDone (s : State) : Bool :=
  decide (s.op.testPhase = .preparing) && minOffExpired s &&
    (match s.seq.state with
     | .stopped => true
     | .waitStart => true
     | .tripped => true
     | .lockout => true
     | _ => false)

/-- The dampers that OPENING opens. -/
def openingDampers (s : State) : List ZoneId :=
  allZones.filter fun z => decide (stateOf s z = .active) && !(s.zst.get z).unconf

/-- A damper is counted as opened. -/
def markOpened (d : ZoneId) (s : State) : State :=
  if s.op.opened.contains d then s else { s with op := { s.op with opened := s.op.opened ++ [d] } }

/-- One damper asked to open; one that already stands at 200 is counted at once (11 R168), also where the request withdrew its MOVE
entry (06 Table 6.2; R168 names no such event: DESIGN CHOICE, log 62). -/
def openForTest (d : ZoneId) (s : State) : State :=
  let s := moveRequest d 200 s
  if (damperOf s d).position = some 200 ∧ (damperOf s d).motion = .idle then markOpened d s else s

/-- OPENING begins. -/
def beginOpening (s : State) : State :=
  let ds := openingDampers s
  ds.foldl (fun s d => openForTest d s)
    { s with op := { s.op with testPhase := .opening, opened := [], testDampers := ds } }

/-- The dampers of OPENING whose zone has left ACTIVE are counted as opened. -/
def leftActive (s : State) : List ZoneId :=
  if s.op.testPhase = .opening then
    s.op.testDampers.filter fun d => decide (stateOf s d ≠ .active) && !s.op.opened.contains d
  else []

/-- Whether every damper that OPENING asked for is in the opened set. -/
def openingDone (s : State) : Bool :=
  decide (s.op.testPhase = .opening) && s.op.testDampers.all fun d => s.op.opened.contains d

/-- The operating state TEST is entered, also from RESTING where a NOTICE led there during the preparation; RESTING is left with it, and
the link leaves SLOW (DESIGN CHOICE, log 70). -/
def enterTest (s : State) : State :=
  let s := { s with op :=
    { s.op with testPhase := .idle, opened := [], testDampers := [], testFrom := some s.now } }
  changeOp .test .testBegin s

/-- A completion report as OPENING takes it (11 R168). -/
def testCompletion (d : ZoneId) (s : State) : State :=
  if testOpens s d then
    if (damperOf s d).position = some 200 then markOpened d s
    else if (damperOf s d).motion = .idle ∧ s.op.opened.contains d = false then moveRequest d 200 s
    else s
  else s

/-! ### The button (11 R167) -/

/-- A BUTTON report with the request as it stands. -/
def reportButton (e : ButtonEvent) (s : State) : State := raise (.button e s.op.request) s

/-- A press: a wake event in every state (11 Table 11.2), taken in the state woken to; it ends a test or its preparation. A STATE report
of the same event comes before the BUTTON report (DESIGN CHOICE, log 68). -/
def pressed (s : State) : State :=
  let s := wakeEvent { s with op := { s.op with accepted := true } }
  if inService s then
    let s := endService s
    reportButton .testEnd { s with op := { s.op with button := .ignored, pressFrom := none } }
  else
    reportButton .press { s with op := { s.op with button := .pressed, pressFrom := some s.now } }

/-- The action TOGGLE (11 R163, R167). The release of a press accepted in STARTUP may fall in PREPARING, begun by a latched TEST: it
inverts the request and PREPARING runs on (DESIGN CHOICE, log 63). -/
def toggle (s : State) : State :=
  if s.op.state = .startup then reportButton .latched { s with op := { s.op with latched := .toggle } }
  else reportButton .toggle (writeRequest s.op.request.inverse .button s)

/-- A release. -/
def released (s : State) : State :=
  let was := s.op.button
  let s := { s with op := { s.op with accepted := false, button := .released, pressFrom := none } }
  if was = .pressed then toggle s else s

/-- The hold time is reached while PRESSED: the action TEST (11 R167, R168). A press accepted in STARTUP that reaches it in PREPARING
begins the preparation again (DESIGN CHOICE, log 63). -/
def heldLong (s : State) : State :=
  let s := { s with op := { s.op with button := .held, pressFrom := none } }
  if s.op.state = .startup then reportButton .latched { s with op := { s.op with latched := .test } }
  else reportButton .test (beginPreparation s)

/-! ### Start-up (11 R162) -/

/-- Whether STARTUP is to end: no reset HOME remains. -/
def startupDone (s : State) : Bool := decide (s.op.state = .startup) && decide (s.drive.resetHomes = [])

/-- The latched action is applied. -/
def applyLatched (s : State) : State :=
  let was := s.op.latched
  let s := { s with op := { s.op with latched := .nothing } }
  match was with
  | .nothing => s
  | .toggle => reportButton .toggle (writeRequest s.op.request.inverse .button s)
  | .test => reportButton .test (beginPreparation s)

/-- STARTUP ends. -/
def endStartup (s : State) : State :=
  let s := applyLatched s
  changeOp (opOf s.op.request) .startupEnd s

/-! ### Stand-down (11 R164, R165) -/

/-- Whether an outdoor ambient meets the resting gate. -/
def meetsGate (gate : Option Int) (ambient : Option Int) : Bool :=
  match gate, ambient with
  | none, _ => true
  | some _, none => false
  | some g, some t => decide (g ≤ t)

/-- The ambient temperature of the last status record. -/
def lastAmbient (s : State) : Option Int := s.link.lastStatus.bind StatRecord.ambient

/-- The conditions of R164 beside the idle time. -/
def standDownOk (s : State) : Bool :=
  idleHolds s && decide (s.seq.state = .stopped) && decide (s.link.state = .active) && !s.arb.deferral &&
    meetsGate s.cfg.ambientGate (lastAmbient s)

/-- The idle time and the stand-down state as their conditions stand after an event (11 R164, R165). -/
def standDown (s : State) : State :=
  let s := { s with op :=
    { s.op with
      idleFrom := runWhile (idleHolds s) s.now s.op.idleFrom
      idleDone := idleHolds s && s.op.idleDone } }
  if s.op.notice then (if standDownOk s then s else withdrawNotice s)
  else if standDownOk s && reached s.op.idleFrom 1800000 s.now then
    { s with op := { s.op with notice := true, noticeFrom := some s.now } }
  else s

/-- RESTING is entered on STANDDOWN_READY (11 R165). -/
def enterResting (s : State) : State :=
  slowLink (changeOp .resting .standdown { s with op := { s.op with notice := false, noticeFrom := none } })

/-- A good STAT as the controller takes it: an ambient below the gate is a wake event, and READY ends the wait in NOTICE while the
conditions of R164 still hold (11 R165, R166; log 27), also while a service test is prepared (DESIGN CHOICE, log 70). -/
def opStat (r : StatRecord) (s : State) : State :=
  if !meetsGate s.cfg.ambientGate r.ambient then wakeEvent s
  else if s.op.notice && r.standdownReady && standDownOk s then enterResting s
  else s

/-- The controller after either reset (11 R161, R162). The accepted button level is open, whatever the input reads: a button held closed
through a reset gives a press 50 ms after it (DESIGN CHOICE, log 64). -/
def Operating.afterReset (request : OpRequest) (policy : Policy) (frost : Bool) (cause : RestartCause) : Operating :=
  { state := .startup, request := request, policy := policy, frost := frost, idleFrom := none, idleDone := false
    notice := false, noticeFrom := none, testPhase := .idle, testDampers := [], opened := [], testFrom := none
    button := .released, pressFrom := none, accepted := false, latched := .nothing, restartCause := cause }

end Sys2Proof.Machine
end

