-- ==== Sys2Proof/Machine/LinkFrames.lean ====
section
/-! DEFINITION. The beginning of frames on the Outdoor Link (08 R122, R126, R132, R133), their abandonment by collision (08 R124), and
the loss of the link (08 R130, R131). -/

namespace Sys2Proof.Machine

/-- The link enters LOST, for the link, the sequencer and the operating state in turn (08 R130, R131; 09 R145; 11 R166). -/
def linkLost (cause : LinkCause) (s : State) : State := wakeEvent (seqLinkLost (loseLink cause s))

/-- A frame of a kind is abandoned by collision (08 R124, R125, R130). A request frame that was not begun fails its exchange with
kind collision as one whose header failed its read-back does (DEDUCED, log 56). A STAT that is at once the third failure and the fifth
collision in ACTIVE enters DEGRADED with its report first and then LOST (R130 gives no order: DESIGN CHOICE, log 61).
A diagnostic that is the fifth collision raises its DIAG_RESULT before the LINK report of LOST (DESIGN CHOICE, log 61). In LOST too the
collision count rises (R124 and R125 against the last words of R127: DEDUCED, log 73). -/
def abandonFrame (kind : FrameKind) (s : State) : State :=
  let n := min 5 (s.link.collisionsNow s.now + 1)
  let s := { s with link := { s.link with frame := none, collisions := n } }
  let s := exchangeFailed kind .collision s
  if n = 5 ∧ ageLimit s.link.state ≠ none then linkLost .collisions s else s

/-- A frame of a kind with the bytes the ZD8 sends begins now, or is abandoned where the line has been low in the 2 ms before
(08 R124). -/
def beginFrame (kind : FrameKind) (bytes : List Byte) (s : State) : State :=
  if lineQuiet s then
    { s with link :=
        { s.link with frame := some ⟨kind, bytes, s.now, s.now + linkFrameMs s.cfg.breakLength bytes.length, []⟩ } }
  else abandonFrame kind s

/-- The round built at its tick (08 R126): its request frame, and the diagnostic of the slot chosen for it or not (08 R133,
R134). -/
def planRound (s : State) : State :=
  let request := requestOfRound s.now s.link
  let slow := decide (s.link.state = .slow) && (waitingDiag s.link).isSome
  let chosen := slow || decide (request = .diagCommand) || decide (request = .diagRead)
  { s with link :=
      { s.link with
        round := some ⟨s.now, request, false, slow⟩, nextRound := s.now + roundMs s.link.state, wakeRound := false
        diag := s.link.diag.map fun d => { d with chosen := chosen } } }

/-- A round begins with its CAP (08 R126, R129). -/
def beginRound (s : State) : State := beginFrame .cap (commandFrame capKind (capData s)) (planRound s)

/-- The frame of the diagnostic in the slot begins (08 R133). -/
def beginDiag (d : Diagnostic) (s : State) : State :=
  let s := { s with link := { s.link with diag := some { d with begun := true } } }
  if d.isRead then beginFrame .diagRead (requestHeader d.kind d.length) s
  else beginFrame .diagCommand (commandFrame d.kind d.data) s

/-- The diagnostic of a round begins, or its STAT where that diagnostic is gone (08 R134). -/
def beginDiagOrStat (s : State) : State :=
  match chosenDiag s.link with
  | some d => beginDiag d s
  | none => beginFrame .stat (requestHeader statKind 10) s

/-- The request frame of a round begins (08 R126, R134). -/
def beginRequest (r : Round) (s : State) : State :=
  let s := { s with link := { s.link with round := some { r with requestBegun := true } } }
  match r.request with
  | .info => beginFrame .info (requestHeader infoKind 3) s
  | .diagRead => beginDiagOrStat s
  | .diagCommand => beginDiagOrStat s
  | .cap => beginFrame .stat (requestHeader statKind 10) s
  | .stat => beginFrame .stat (requestHeader statKind 10) s

/-- SLOW's diagnostic frame begins, if the slot still holds the diagnostic of the round (08 R126, R134). -/
def beginSlowDiag (r : Round) (s : State) : State :=
  let s := { s with link := { s.link with round := some { r with slowDiag := false } } }
  match chosenDiag s.link with
  | some d => beginDiag d s
  | none => s

/-- The frame that is due now begins, if one is: the CAP of a round, its request frame, or SLOW's diagnostic (08 R126, R132). -/
def beginDue (s : State) : State :=
  if decide (s.link.nextRound ≤ s.now) || wakeRoundDue s then beginRound s
  else
    match requestDue s, slowDiagDue s with
    | some r, _ => beginRequest r s
    | none, some r => beginSlowDiag r s
    | none, none => s

end Sys2Proof.Machine
end

