-- ==== Sys2Proof/Machine/Demand.lean ====
section
/-! DEFINITION. Step 1 and step 2 of an evaluation pass: calls and sensible demand (02 R23 to R27), dry calls and latent demand
(05 R80 to R83), and relief withdrawal (03 R61 to R63). -/

namespace Sys2Proof.Machine

/-! ### Which calls may be formed (02 R23) -/

/-- What the formation of calls reads of the whole machine. -/
structure CallSetting where
  request : OpRequest
  policy : Policy
  frost : Bool
  hpCapable : Bool
  deriving DecidableEq, Repr

/-- Whether COOL calls are formed. -/
def CallSetting.cools (c : CallSetting) : Bool :=
  decide (c.request = .on) && (decide (c.policy = .auto) || decide (c.policy = .cool))

/-- Whether HEAT calls are formed. -/
def CallSetting.heats (c : CallSetting) : Bool :=
  decide (c.request = .on) && (decide (c.policy = .auto) || decide (c.policy = .heat)) && c.hpCapable

/-- Whether DRY calls are formed. -/
def CallSetting.dries (c : CallSetting) : Bool :=
  decide (c.request = .on) && (decide (c.policy = .auto) || decide (c.policy = .cool) || decide (c.policy = .dry))

/-- Whether FROST calls are formed. -/
def CallSetting.frosts (c : CallSetting) : Bool := decide (c.request = .off) && c.frost && c.hpCapable

/-- What the machine lets a pass form. -/
def callSetting (s : State) : CallSetting := ⟨s.op.request, s.op.policy, s.op.frost, s.eval.hpCapable⟩

/-! ### Sensible calls and demand (02 R24 to R26) -/

/-- Whether a sensible call holds after a pass: held until its error is −2 or less, begun at +3 or more (02 R24). -/
def sensibleHolds (held : Bool) (e : Int) : Bool := if held then decide (-2 < e) else decide (3 ≤ e)

/-- The integral after a pass (02 R26 step 2). -/
def integral (before : Nat) (e : Int) : Nat := (clampInt (before + e.tdiv 5) 0 50).toNat

/-- The sensible demand from an error and an integral (02 R26 steps 1 and 3). -/
def sensibleDemand (e : Int) (i : Nat) : Nat := (clampInt ((e * 5).tdiv 2 + i) 10 100).toNat

/-- A record with a sensible call of kind `k` and error `e`; the integral starts from 0 with a new call (02 R26). -/
def sensibleWork (k : Call) (e : Int) (w : ZoneWork) : ZoneWork :=
  let i := integral (if w.call = k then w.i else 0) e
  { w with call := k, suspended := false, d := sensibleDemand e i, i := i, l := 0 }

/-- A SATISFIED record (02 R27). -/
def satisfiedWork (w : ZoneWork) : ZoneWork := { w with call := .satisfied, suspended := false, d := 0, i := 0, l := 0 }

/-! ### FROST (02 R25) -/

/-- Whether a sensor has a reading of its own: FRESH or STALE. -/
def SensorState.own : SensorState → Bool
  | .fresh => true
  | .stale => true
  | _ => false

/-- The measured temperature of a FRESH or STALE sensor. -/
def ownTemp (r : SensorRec) : Option Int := if r.state.own then r.temp else none

/-- Whether a FROST call holds after a pass. -/
def frostHolds (held : Bool) (r : SensorRec) : Bool :=
  match ownTemp r with
  | some t => if held then decide (t < 80) else decide (t < 50)
  | none => false

/-- A record with a FROST call. -/
def frostWork (w : ZoneWork) : ZoneWork := { w with call := .frost, suspended := false, d := 100, i := 0, l := 0 }

/-! ### DRY (05 R80 to R83) -/

/-- The readings an eligible zone's DRY call is judged by: temperature, RH and dry target (05 R80). -/
def dryReadings (p : Setpoints) (r : SensorRec) : Option (Int × Nat × Nat) :=
  match ownTemp r, r.rh, p.dry with
  | some t, some rh, some target => some (t, rh, target)
  | _, _, _ => none

/-- Whether a DRY call holds after a pass (05 R81). -/
def dryHolds (held : Bool) (heat t : Int) (rh target : Nat) : Bool :=
  if held then decide (target < rh) else decide (target + 30 ≤ rh) && decide (heat + 20 ≤ t)

/-- Whether a DRY call is suspended after a pass (05 R82). -/
def drySuspends (was : Bool) (heat t : Int) : Bool := if was then decide (t < heat + 20) else decide (t ≤ heat + 10)

/-- A record with a DRY call (05 R83). -/
def dryWork (suspended : Bool) (rh target : Nat) (w : ZoneWork) : ZoneWork :=
  let l := min (rh - target) 100
  { w with
    call := .dry, suspended := suspended, i := 0
    l := if suspended then 0 else l
    d := if suspended then 0 else clampNat l 10 100 }

/-! ### One zone at step 1 -/

/-- The record of a zone that forms no sensible call and no FROST call: DRY or SATISFIED. -/
def dryOrSatisfied (c : CallSetting) (p : Setpoints) (r : SensorRec) (w : ZoneWork) : ZoneWork :=
  match dryReadings p r with
  | some (t, rh, target) =>
    let held := decide (w.call = .dry)
    if c.dries && dryHolds held p.heat t rh target then
      dryWork (drySuspends (held && w.suspended) p.heat t) rh target w
    else satisfiedWork w
  | none => satisfiedWork w

/-- The record of an ACTIVE zone without unconfigure pending, after step 1. -/
def activeWork (c : CallSetting) (p : Setpoints) (r : SensorRec) (w : ZoneWork) : ZoneWork :=
  match r.eff with
  | none => satisfiedWork w
  | some t =>
    if c.cools && sensibleHolds (decide (w.call = .cool)) (t - p.cool) then sensibleWork .cool (t - p.cool) w
    else if c.heats && sensibleHolds (decide (w.call = .heat)) (p.heat - t) then sensibleWork .heat (p.heat - t) w
    else if c.frosts && frostHolds (decide (w.call = .frost)) r then frostWork w
    else dryOrSatisfied c p r w

/-- The record of a zone after step 1 (02 R20). -/
def stepOne (s : State) (z : ZoneId) : ZoneWork :=
  let st := s.zst.get z
  let w := s.work.get z
  if decide (st.state = .active) && !st.unconf then activeWork (callSetting s) (s.setp.get z) (sensorOf s z) w
  else satisfiedWork w

/-- Whether a pass has formed a call for a zone: a COOL, HEAT, DRY or FROST call, begun at the pass or held (11 R166; log 16). -/
def ZoneWork.calls (w : ZoneWork) : Bool := decide (w.call ≠ .satisfied)

/-! ### Relief withdrawal at step 2 (03 R61 to R63) -/

/-- The relief band side that a pass finds (03 R61). -/
def bandSideOf (a : Arbiter) : Option Side :=
  match a.mode with
  | .cool => some .cooling
  | .dry => some .cooling
  | .heat => some .heating
  | .rest => a.restTarget
  | _ => a.lastServed

/-- Relief withdrawn against a band (03 R62). -/
def withdrawn (side : Side) (p : Setpoints) (t : Int) (was : Bool) : Bool :=
  match side with
  | .cooling => if t ≤ p.heat + 10 then true else if p.heat + 20 ≤ t then false else was
  | .heating => if p.cool - 10 ≤ t then true else if t ≤ p.cool - 20 then false else was

/-- The own temperature of a relief-eligible zone (03 R61). -/
def reliefTemp (s : State) (z : ZoneId) : Option Int :=
  let st := s.zst.get z
  if decide (st.state = .active) && !st.unconf && decide (0 < (s.zcfg.get z).ra) then ownTemp (sensorOf s z) else none

/-- Relief withdrawn of a zone after step 2, for the side found and the side held (03 R61, R63). Under the cooling band a zone whose DRY
call is suspended after step 1 is withdrawn at every pass, also one that becomes relief-eligible between the bounds (05 R82, R89;
against the table of 03 R62, which leaves it as it was: DEDUCED, log 36). -/
def stepTwo (s : State) (side : Option Side) (z : ZoneId) : Bool :=
  let w := s.work.get z
  match side, reliefTemp s z with
  | some sd, some t =>
    withdrawn sd (s.setp.get z) t (decide (side = s.app.bandSide) && w.withdrawn) ||
      (decide (sd = .cooling) && decide (w.call = .dry) && w.suspended)
  | _, _ => false

/-- Step 1 in the machine. -/
def formCalls (s : State) : State := { s with work := Eight.ofFn (stepOne s) }

/-- Step 2 in the machine. -/
def judgeRelief (s : State) : State :=
  let side := bandSideOf s.arb
  { s with
    work := Eight.ofFn fun z => { s.work.get z with withdrawn := stepTwo s side z }
    app := { s.app with bandSide := side } }

end Sys2Proof.Machine
end

