-- ==== Sys2Proof/Machine/Arbiter.lean ====
section
/-! DEFINITION. Step 3 of an evaluation pass: the Mode Arbiter (02 R29 to R40). -/

namespace Sys2Proof.Machine

/-! ### Aggregates and side conditions (02 R29) -/

/-- What a zone adds to an aggregate. -/
def weight (side : Side) (da : Nat) (w : ZoneWork) : Nat :=
  match side, w.call with
  | .cooling, .cool => da * w.d
  | .cooling, .dry => if w.suspended then 0 else da * w.l
  | .heating, .heat => da * w.d
  | .heating, .frost => da * w.d
  | _, _ => 0

/-- The aggregate of a side. -/
def aggregate (s : State) (side : Side) : Nat :=
  (Eight.ofFn fun z => weight side (s.zcfg.get z).da (s.work.get z)).sum

/-- The other side. -/
def Side.other : Side → Side
  | .cooling => .heating
  | .heating => .cooling

/-- What the arbiter decides by. -/
structure SideView where
  now : Nat
  wCool : Nat
  wHeat : Nat
  blocked : Bool
  anyCool : Bool
  anyDry : Bool
  request : OpRequest
  policy : Policy
  hpCapable : Bool
  inTest : Bool
  atRest : Bool
  minHold : Nat
  releaseTime : Nat
  restTime : Nat
  maxWait : Nat
  deriving DecidableEq, Repr

/-- The aggregate of a side in a view. -/
def SideView.w (v : SideView) : Side → Nat
  | .cooling => v.wCool
  | .heating => v.wHeat

/-- Whether a side is blocked: the cooling side while the float condition is held. -/
def SideView.isBlocked (v : SideView) : Side → Bool
  | .cooling => v.blocked
  | .heating => false

/-- Whether a side has callers and is not blocked (02 R32). -/
def SideView.candidate (v : SideView) (side : Side) : Bool := decide (0 < v.w side) && !v.isBlocked side

/-- Whether the policy forms calls of a side (02 R34). -/
def SideView.forms (v : SideView) : Side → Bool
  | .cooling => decide (v.policy ≠ .heat)
  | .heating => decide (v.policy ≠ .cool) && decide (v.policy ≠ .dry) && v.hpCapable

/-- Whether the compressor is not running, so that a REST entered now starts now (02 R36). -/
def seqAtRest (q : SeqState) : Bool :=
  match q with
  | .stopped => true
  | .waitStart => true
  | .tripped => true
  | .lockout => true
  | _ => false

/-- The view of the machine at step 3. -/
def sideView (s : State) : SideView :=
  { now := s.now, wCool := aggregate s .cooling, wHeat := aggregate s .heating, blocked := s.prot.floatHeld
    anyCool := s.work.toList.any fun w => decide (w.call = .cool)
    anyDry := s.work.toList.any fun w => decide (w.call = .dry) && !w.suspended
    request := s.op.request, policy := s.op.policy, hpCapable := s.eval.hpCapable
    inTest := decide (s.op.state = .test), atRest := seqAtRest s.seq.state
    minHold := s.cfg.minHold, releaseTime := s.cfg.releaseTime, restTime := s.cfg.restTime, maxWait := s.cfg.maxWait }

/-- Minutes in ms. -/
def minutes (n : Nat) : Nat := n * 60000

/-! ### Changes of the arbiter's record -/

/-- No side is served and no REST is in progress. -/
def Arbiter.clear (a : Arbiter) (mode : Mode) : Arbiter :=
  { a with
    mode := mode, served := none, sideStart := none, noCallers := none, restTarget := none, restStart := none
    restLength := none, restEnded := false }

/-- REST is entered toward a side (02 R36). -/
def Arbiter.enterRest (a : Arbiter) (v : SideView) (target : Side) : Arbiter :=
  { a.clear .rest with
    restTarget := some target, restLength := some v.restTime, restStart := if v.atRest then some v.now else none }

/-- The mode of the cooling side (02 R33). -/
def coolingMode (v : SideView) (was : Mode) : Mode := if v.anyCool then .cool else if v.anyDry then .dry else was

/-- A side is started (02 R32). -/
def Arbiter.start (a : Arbiter) (v : SideView) (side : Side) : Arbiter :=
  { a.clear (match side with | .heating => .heat | .cooling => coolingMode v .cool) with
    served := some side, sideStart := some v.now, lastServed := some side }

/-- The side chosen from those with callers and not blocked (02 R32 steps 1 and 2). -/
def chosenSide (a : Arbiter) (v : SideView) : Option Side :=
  if v.candidate .cooling && v.candidate .heating then
    if v.wHeat < v.wCool then some .cooling
    else if v.wCool < v.wHeat then some .heating
    else
      match a.lastServed with
      | some side => some side.other
      | none => some .cooling
  else if v.candidate .cooling then some .cooling
  else if v.candidate .heating then some .heating
  else none

/-- The decision from NONE; `rested` when a REST has just been completed (02 R32, R36). -/
def Arbiter.fromNone (a : Arbiter) (v : SideView) (rested : Bool) : Arbiter :=
  match chosenSide a v with
  | none => a.clear .idle
  | some side => if !rested && decide (a.lastServed = some side.other) then a.enterRest v side else a.start v side

/-- A side is left: REST toward the other side where it has callers and is not blocked, else NONE (02 R34). -/
def Arbiter.leave (a : Arbiter) (v : SideView) (side : Side) : Arbiter :=
  if v.candidate side.other then a.enterRest v side.other else a.clear .idle

/-- The no-callers time renewed (02 R34). -/
def noCallersOf (a : Arbiter) (v : SideView) (side : Side) : Option Nat :=
  if 0 < v.w side then none else some (a.noCallers.getD v.now)

/-- Whether a side served is left by R34. -/
def leavesSide (v : SideView) (side : Side) (noCallers : Option Nat) : Bool :=
  v.isBlocked side ||
    (decide (v.w side = 0) &&
      (decide (v.request = .off) || !v.forms side || reached noCallers (minutes v.releaseTime) v.now))

/-- The waiting start of a side. -/
def Arbiter.waitOf (a : Arbiter) : Side → Option Nat
  | .cooling => a.waitCool
  | .heating => a.waitHeat

/-- Whether a side served that has callers is left by R35: outweighed after the minimum hold, or at the maximum wait of the other
side. -/
def yieldsSide (a : Arbiter) (v : SideView) (side : Side) : Bool :=
  let o := side.other
  decide (0 < v.w side) && !v.isBlocked o &&
    ((reached a.sideStart (minutes v.minHold) v.now && decide (v.w side < v.w o)) ||
      reached (a.waitOf o) (minutes v.maxWait) v.now)

/-- A side served at a pass: left by R35, also where R34 would leave it at the same pass, left by R34, or kept with the mode of
R33. -/
def Arbiter.serve (a : Arbiter) (v : SideView) (side : Side) : Arbiter :=
  let nc := noCallersOf a v side
  if yieldsSide a v side then a.enterRest v side.other
  else if leavesSide v side nc then a.leave v side
  else
    { a with
      noCallers := nc
      mode := match side with | .heating => .heat | .cooling => coolingMode v a.mode }

/-- Whether a REST has its time ended (02 R36). -/
def Arbiter.restOver (a : Arbiter) (now : Nat) : Bool :=
  a.restEnded || reached a.restStart (minutes (a.restLength.getD 0)) now

/-- The decision of a pass, without the waiting starts (02 R31). Defrost deferral keeps the mode and the side as they stand, also
where the mode is not HEAT (DEDUCED, log 46). -/
def Arbiter.decideMode (a : Arbiter) (v : SideView) : Arbiter :=
  if a.deferral then
    match a.served with
    | some side => { a with noCallers := noCallersOf a v side }
    | none => a
  else if v.inTest then a.clear .test
  else if decide (a.mode = .rest) && !a.restOver v.now then a
  else if decide (v.request = .on) && decide (v.policy = .fan) then a.clear .fan
  else
    match a.served with
    | some side => a.serve v side
    | none => a.fromNone v (decide (a.mode = .rest))

/-- A waiting start renewed (02 R37). -/
def renewWait (waits : Bool) (now : Nat) (was : Option Nat) : Option Nat := if waits then some (was.getD now) else none

/-- The waiting starts of the sides renewed (02 R37); none is kept in TEST (02 R39). -/
def Arbiter.renewWaits (a : Arbiter) (v : SideView) : Arbiter :=
  let waits := fun side : Side => !decide (a.mode = .test) && decide (0 < v.w side) && decide (a.served ≠ some side)
  { a with
    waitCool := renewWait (waits .cooling) v.now a.waitCool
    waitHeat := renewWait (waits .heating) v.now a.waitHeat }

/-- The waiting since of a zone renewed (02 R37, R39). -/
def zoneWaits (a : Arbiter) (da : Nat) (active : Bool) (w : ZoneWork) : Bool :=
  active && !decide (a.mode = .test) &&
    ((decide (0 < weight .cooling da w) && decide (a.served ≠ some .cooling)) ||
      (decide (0 < weight .heating da w) && decide (a.served ≠ some .heating)))

/-- Step 3 in the machine: the mode, its MODE report, and the waiting starts (02 R31, R37, R40). -/
def chooseMode (s : State) : State :=
  let v := sideView s
  let a := (s.arb.decideMode v).renewWaits v
  let work := Eight.ofFn fun z =>
    let w := s.work.get z
    { w with waiting :=
        renewWait (zoneWaits a (s.zcfg.get z).da (decide (stateOf s z = .active)) w) s.now w.waiting }
  let old := s.arb.mode
  let s := { s with arb := a, work := work }
  if a.mode = old then s else raise (.mode a.mode old a.served a.restTarget) s

/-- Whether the time of a REST has been reached and its end not taken (02 R36). -/
def restEndDue (s : State) : Bool :=
  decide (s.arb.mode = .rest) && !s.arb.restEnded && s.arb.restOver s.now

end Sys2Proof.Machine
end

