-- ==== Sys2Proof/Machine/Apportion.lean ====
section
/-! DEFINITION. Step 4 of an evaluation pass: the five stages that build a plan (03 R43 to R60), and its coil target and airflow
factor (05 R85 to R90). -/

namespace Sys2Proof.Machine

/-! ### What a plan is built from (03 R43) -/

/-- One zone as a plan sees it. -/
structure ZoneView where
  active : Bool
  unconf : Bool
  da : Nat
  ra : Nat
  rank : Nat
  call : Call
  suspended : Bool
  d : Nat
  withdrawn : Bool
  temp : Int
  rh : Nat
  deriving DecidableEq, Repr

/-- The values a plan is built from. -/
structure PlanView where
  mode : Mode
  zones : Eight ZoneView
  qrated : Nat
  qsysMin : Nat
  qhi : Nat
  capped : Bool
  deriving DecidableEq, Repr

/-- An ACTIVE zone without unconfigure pending. -/
def ZoneView.takesPart (z : ZoneView) : Bool := z.active && !z.unconf

/-- Whether a zone holds an unsuspended DRY call. -/
def ZoneView.dries (z : ZoneView) : Bool := decide (z.call = .dry) && !z.suspended

/-! ### The calling set (03 R45) -/

/-- Membership of the calling set by mode (03 Table 3.2). -/
def inK (mode : Mode) (z : ZoneView) : Bool :=
  z.takesPart &&
    (match mode with
     | .cool => decide (z.call = .cool) || z.dries
     | .dry => z.dries
     | .heat => decide (z.call = .heat) || decide (z.call = .frost)
     | .fan => true
     | .test => true
     | .idle => false
     | .rest => false)

/-- The calling set of a plan. -/
def PlanView.k (v : PlanView) (z : ZoneId) : Bool := inK v.mode (v.zones.get z)

/-- The members of the calling set in ascending index. -/
def PlanView.members (v : PlanView) : List ZoneId := allZones.filter v.k

/-- The D of a member in stage 1 (03 Table 3.2). -/
def PlanView.dOf (v : PlanView) (z : ZoneId) : Nat := if v.mode = .fan then 50 else (v.zones.get z).d

/-! ### Airflow factor and coil target (05 R85, R86, R88, R90) -/

/-- Whether the plan dries: DRY, or COOL with latent trim (05 R88). -/
def PlanView.trims (v : PlanView) : Bool := v.members.any fun z => (v.zones.get z).dries

/-- The airflow factor (05 Table 5.1). -/
def PlanView.f (v : PlanView) : Nat :=
  match v.mode with
  | .cool => if v.trims then 85 else 100
  | .dry => 70
  | _ => 100

/-- The dew-point estimate (05 R85). -/
def dewPoint (t : Int) (rh : Nat) : Int := t - ((1000 - max rh 500) / 5 : Nat)

/-- The smallest of a list of temperatures. -/
def smallest : List Int → Option Int
  | [] => none
  | x :: rest => some (rest.foldl min x)

/-- The coil target (05 R86). -/
def PlanView.coilTarget (v : PlanView) : Option Int :=
  match v.mode with
  | .cool => target
  | .dry => target
  | _ => none
where
  /-- The smallest contribution, clamped to 4.0..14.0 °C. -/
  target : Option Int :=
    (smallest ((v.members.filter fun z => (v.zones.get z).dries).map fun z =>
      dewPoint (v.zones.get z).temp (v.zones.get z).rh - 60)).map fun t => clampInt t 40 140

/-! ### Stages 1 and 2 (03 R48 to R50) -/

/-- Qlo (03 R48). -/
def PlanView.qlo (v : PlanView) : Nat := v.qsysMin * v.f / 100

/-- Qref (03 R48). -/
def PlanView.qref (v : PlanView) : Nat := v.qrated * v.f / 100

/-- The raw airflow of a zone (03 R49, R60). -/
def PlanView.raw (v : PlanView) (z : ZoneId) : Nat :=
  if v.k z then
    if v.mode = .test then (v.zones.get z).da else max ((v.zones.get z).da * v.dOf z * v.f / 10000) 20
  else 0

/-- ΣR. -/
def PlanView.rawSum (v : PlanView) : Nat := (Eight.ofFn v.raw).sum

/-- The airflow of a zone after the ceiling (03 R50). -/
def PlanView.a2 (v : PlanView) (z : ZoneId) : Nat := if v.qhi < v.rawSum then v.raw z * v.qhi / v.rawSum else v.raw z

/-- ΣA2. -/
def PlanView.a2Sum (v : PlanView) : Nat := (Eight.ofFn v.a2).sum

/-! ### Stage 3 (03 R51 to R53) -/

/-- `z` inserted before the first element it must precede. -/
def insertBy (before : ZoneId → ZoneId → Bool) (z : ZoneId) : List ZoneId → List ZoneId
  | [] => [z]
  | y :: rest => if before z y then z :: y :: rest else y :: insertBy before z rest

/-- A list sorted, equal elements keeping their order. -/
def sortBy (before : ZoneId → ZoneId → Bool) : List ZoneId → List ZoneId
  | [] => []
  | z :: rest => insertBy (fun a b => !before b a) z (sortBy before rest)

/-- The order of the overblow: descending D, equal D and FAN and TEST in ascending index (03 R51). -/
def PlanView.overblowOrder (v : PlanView) : List ZoneId :=
  if v.mode = .fan ∨ v.mode = .test then v.members
  else sortBy (fun a b => decide (v.dOf b < v.dOf a)) v.members

/-- Whether a zone is a relief zone of the plan (03 R52). -/
def PlanView.isRelief (v : PlanView) (z : ZoneId) : Bool :=
  let x := v.zones.get z
  x.takesPart && !v.k z && decide (0 < x.ra) && !x.withdrawn

/-- The order of the relief fill: ascending rank, equal ranks in ascending index (03 R52). -/
def PlanView.reliefOrder (v : PlanView) : List ZoneId :=
  sortBy (fun a b => decide ((v.zones.get a).rank < (v.zones.get b).rank)) (allZones.filter v.isRelief)

/-- A shortfall assigned to zones in turn, each up to its limit: what is left, and the airflows. -/
def fill (limit : ZoneId → Nat) : List ZoneId → Nat → Eight Nat → Nat × Eight Nat
  | [], short, air => (short, air)
  | z :: rest, short, air =>
    let add := min short (limit z - air.get z)
    fill limit rest (short - add) (air.set z (air.get z + add))

/-- The shortfall of stage 3. -/
def PlanView.short (v : PlanView) : Nat := v.qlo - v.a2Sum

/-- The shortfall left after the overblow, and the airflows. -/
def PlanView.overblown (v : PlanView) : Nat × Eight Nat :=
  fill (fun z => (v.zones.get z).da) v.overblowOrder v.short (Eight.ofFn v.a2)

/-- The shortfall left after the relief fill, and the airflows. -/
def PlanView.filled (v : PlanView) : Nat × Eight Nat :=
  fill (fun z => (v.zones.get z).ra) v.reliefOrder v.overblown.1 v.overblown.2

/-! ### Stages 4 and 5 (03 R55 to R57, R59, R60) -/

/-- The opening for an airflow (03 R55). -/
def openingOf (air da : Nat) : Nat := if air = 0 then 0 else clampNat (ceilDiv (air * 200) da) 20 200

/-- A capacity of 1..19 becomes 20 where the air allows 20, else 0 (03 R57). -/
def smallCapacity (c cair : Nat) : Nat := if c = 0 ∨ 20 ≤ c then c else if 20 ≤ cair then 20 else 0

/-- Cair (03 R56). -/
def PlanView.cair (v : PlanView) (q : Nat) : Nat := 125 * q / v.qref

/-- C0 (03 R56). -/
def PlanView.c0 (v : PlanView) : Nat := ceilDiv (100 * v.a2Sum) v.qref

/-- The capacity of a plan built through the stages (03 R56, R57, R59, R60). -/
def PlanView.capacity (v : PlanView) (q : Nat) : Nat :=
  match v.mode with
  | .cool => smallCapacity (min (min v.c0 100) (v.cair q)) (v.cair q)
  | .dry => smallCapacity (min (min v.c0 100) (v.cair q)) (v.cair q)
  | .heat => smallCapacity (min (min v.c0 100) (v.cair q)) (v.cair q)
  | .test => smallCapacity (min 60 (v.cair q)) (v.cair q)
  | _ => 0

/-- The role of a zone in a plan built through the stages (03 R47). -/
def PlanView.role (v : PlanView) (air : Nat) (z : ZoneId) : Role :=
  let x := v.zones.get z
  if !x.active then .excluded
  else if x.unconf then .closed
  else if air = 0 then .closed
  else if v.k z then .calling
  else .relief

/-! ### The plan (03 R46, R54, R58) -/

/-- A plan built through the stages. -/
def stagedPlan (v : PlanView) : Plan :=
  let air := v.filled.2
  { number := 0, mode := v.mode, factor := v.f
    zones := Eight.ofFn fun z => ⟨v.role (air.get z) z, air.get z, openingOf (air.get z) (v.zones.get z).da⟩
    q := air.sum, c := v.capacity air.sum, coilTarget := v.coilTarget, starved := decide (v.filled.1 ≠ 0)
    capped := v.capped }

/-- The role of a zone in a holding plan (03 R46). -/
def holdingRole (z : ZoneView) : Role := if !z.active then .excluded else if z.unconf then .closed else .idle

/-- A holding plan (03 R46). -/
def holdingPlan (v : PlanView) : Plan :=
  { number := 0, mode := v.mode, factor := v.f, zones := Eight.ofFn fun z => ⟨holdingRole (v.zones.get z), 0, 0⟩
    q := 0, c := 0, coilTarget := none, starved := false, capped := v.capped }

/-- The plan of a pass: a holding plan where the calling set is empty (03 R46). -/
def buildPlan (v : PlanView) : Plan := if v.members = [] then holdingPlan v else stagedPlan v

/-- The next plan number; 0 is never given (03 R42). -/
def nextNumber (n : Nat) : Nat := if n = 65535 then 1 else n + 1

/-- Whether two plans agree in every field but the number (03 R64). -/
def identical (a b : Plan) : Bool := decide ({ a with number := 0 } = { b with number := 0 })

/-! ### The plan of the machine -/

/-- One zone of the machine as a plan sees it. -/
def zoneView (s : State) (z : ZoneId) : ZoneView :=
  let c := s.zcfg.get z
  let w := s.work.get z
  let r := sensorOf s z
  { active := decide (stateOf s z = .active), unconf := (s.zst.get z).unconf, da := c.da, ra := c.ra, rank := c.rank
    call := w.call, suspended := w.suspended, d := w.d, withdrawn := w.withdrawn, temp := r.temp.getD 0
    rh := r.rh.getD 0 }

/-- The values the machine's plan is built from (03 R43). -/
def planView (s : State) : PlanView :=
  { mode := s.arb.mode, zones := Eight.ofFn (zoneView s), qrated := s.cfg.qrated, qsysMin := s.cfg.qsysMin
    qhi := s.blower.qhi, capped := s.blower.capped }

end Sys2Proof.Machine
end

