-- ==== Sys2Proof/Machine/Pass.lean ====
section
/-! DEFINITION. An evaluation pass as a whole (02 R20 to R22), with the park requests it applies (01 R3), the comparison of its plan
(03 R64, R65) and the wake of a call it forms (11 R166). -/

namespace Sys2Proof.Machine

/-- The state of a zone once a pass has applied its park request (01 R3). -/
def parkedState (park : Bool) (st : ZoneState) : ZoneState :=
  match st with
  | .active => if park then .parked else .active
  | .parked => if park then .parked else .active
  | .unused => .unused
  | .fault => .fault

/-- The park requests of all zones applied, with a ZONE report for each change (01 R3), in ascending zone index (DESIGN CHOICE,
log 68). -/
def applyParks (s : State) : State :=
  allZones.foldl
    (fun s z =>
      let new := parkedState (s.setp.get z).park (stateOf s z)
      if new = stateOf s z then s else setZoneState z new s) s

/-- The reference plan of the comparison (03 R64). -/
def referencePlan (c : Changeover) : Plan :=
  match c.held, c.incoming with
  | some p, _ => p
  | none, some p => p
  | none, none => c.applied

/-- A plan identical to its reference is discarded, which completes an unconfiguring that the applied plan already serves;
another is numbered and handed on (03 R64 to R66, 01 R4). -/
def finishPlan (p : Plan) (s : State) : State :=
  if identical p (referencePlan s.co) then
    if s.co.incoming.isNone then finishUnconfigure s.co.applied s else s
  else
    let n := nextNumber s.app.number
    handOn { p with number := n } { s with app := { s.app with number := n } }

/-- The beginning of a pass: the timer restarts and the early-pass request is taken (02 R21). -/
def beginPass (s : State) : State :=
  { s with eval := { s.eval with timerFrom := some s.now, early := false, lastPass := some s.now } }

/-- Whether step 1 leaves a call in some zone. -/
def anyCalls (s : State) : Bool := allZones.any fun z => (s.work.get z).calls

/-- Step 1 with the wake of a call it forms (02 R20, 11 R166). -/
def passCalls (s : State) : State :=
  let formed := formCalls s
  if anyCalls formed then wakeEvent formed else formed

/-- Step 4: park requests, the plan and its hand-off. -/
def passPlan (s : State) : State :=
  let s := applyParks s
  finishPlan (buildPlan (planView s)) s

/-- An evaluation pass (02 R20). -/
def runPass (s : State) : State := passPlan (chooseMode (judgeRelief (passCalls (beginPass s))))

/-- Whether a pass is to begin for an early-pass request, or as the first after STARTUP (02 R21, R22). -/
def passDue (s : State) : Bool :=
  decide (s.op.state ≠ .startup) &&
    (match s.eval.lastPass with
     | none => true
     | some t => s.eval.early && decide (t + 5000 ≤ s.now))

/-- Whether the evaluation timer has expired (02 R21). -/
def timerDue (s : State) : Bool := decide (s.op.state ≠ .startup) && reached s.eval.timerFrom 30000 s.now

end Sys2Proof.Machine
end

