-- ==== Sys2Proof/Machine/Settle.lean ====
section
/-! DEFINITION. The end of a command: the consequences that fall at the same event are worked off one by one, a pass that is due
begins, and the times that run while a condition holds are started or cleared (logs 9, 10, 29). -/

namespace Sys2Proof.Machine

/-- The end test of the present phase, asked for by an event of R72 or R74; BLOWER is judged by the blower itself. -/
def phaseStep (s : State) : State :=
  let s := { s with todo := { s.todo with phaseCheck := false } }
  match s.co.incoming with
  | none => s
  | some p =>
    match s.co.phase with
    | .opening => if openDone p s then endOpen p s else s
    | .closing => if closeDone p s then endClose p s else s
    | _ => s

/-- The first consequence that is still to be worked off, if any (log 9). -/
def microStep (s : State) : Option State :=
  match s.todo.faulted with
  | d :: rest => some (abandonFor d { s with todo := { s.todo with faulted := rest } })
  | [] =>
    if s.todo.restart then some (restartChangeover { s with todo := { s.todo with restart := false } })
    else if s.co.held.isSome && !s.arb.deferral then some (takeHeld s)
    else
      match leftActive s with
      | d :: _ => some (markOpened d s)
      | [] =>
        if canGrant s then some (grantOne s)
        else if s.todo.phaseCheck then some (phaseStep s)
        else if decide (s.co.phase = .blower) && blowerDone s then s.co.incoming.map fun p => endBlower p s
        else if wakeRoundDue s then some (beginRound s)
        else if startDue s then some (startCompressor s)
        else if startupDone s then some (endStartup s)
        else if preparingDone s then some (beginOpening s)
        else if openingDone s then some (enterTest s)
        else none

/-- The consequences worked off, up to a number of them (log 29). -/
def settle : Nat → State → State
  | 0, s => s
  | n + 1, s =>
    match microStep s with
    | some t => settle n t
    | none => s

/-- The number of consequences one event can have (log 29). -/
def settleFuel : Nat := 64

/-- The times that count while a condition holds (07 R119, R120; 09 R140; 10 R153 to R155; 11 R164). -/
def sync (s : State) : State :=
  let s := { s with blower := s.blower.syncPressure s.now s.cfg.pressureCap }
  standDown (syncStartFail (syncWatches s))

/-- A pass that is due begins, with its consequences (log 10). -/
def passStep (s : State) : State := if passDue s then settle settleFuel (runPass s) else s

/-- The end of a command. -/
def finish (s : State) : State := sync (passStep (settle settleFuel s))

end Sys2Proof.Machine
end

