-- ==== Sys2Proof/Machine/Reset.lean ====
section
/-! DEFINITION. Power-on reset and host restart (11 R162, Table 11.3; 12 R178, R179; 01 R10, R19; 06 R107). -/

namespace Sys2Proof.Machine

/-- One zone of the factory default image: zone 0 configured, the others UNUSED (12 R178, 01 R10). -/
def factoryZone (z : ZoneId) : ImageZone := ⟨decide (z.val = 0), ZoneConfig.factory, Setpoints.factory⟩

/-- The factory default image (12 R178). -/
def Image.factory : Image := ⟨Settings.factory, Eight.ofFn factoryZone, .off, .auto, false, 0x03FF⟩

/-- Sensing of a zone after either reset (01 R19; log 11). -/
def sensorAfterReset (now : Nat) (z : ImageZone) : SensorRec :=
  if z.configured then SensorRec.restarted now none z.config.address else SensorRec.zero

/-- The machine after either reset, with the image loaded, a request, a restart cause, and what survives; the command queue
stands (11 Table 11.3). -/
def resetState (now : Nat) (image : Image) (request : OpRequest) (cause : RestartCause) (hist : Histories)
    (lockout : Bool) (store : Store) (s : State) : State :=
  { now := now
    inp := { s.inp with floatSince := now, buttonSince := now }
    zcfg := Eight.ofFn fun z => (image.zones.get z).config
    zst := Eight.ofFn fun z => ⟨if (image.zones.get z).configured then .active else .unused, false⟩
    setp := Eight.ofFn fun z => (image.zones.get z).setpoints
    sens := ⟨Eight.ofFn fun z => sensorAfterReset now (image.zones.get z), none, 0, now, 1250, none, BusFilter.high⟩
    work := Eight.all ZoneWork.zero
    eval := ⟨none, false, none, true⟩
    arb := ⟨.idle, none, none, none, none, none, none, false, none, none, none, false⟩
    app := ⟨0, none⟩
    co := Changeover.afterReset
    drive := Drive.afterReset (allZones.filter fun z => (image.zones.get z).configured)
    blower := Blower.afterReset now image.settings.qmax
    link := Link.afterReset now
    seq := Sequencer.afterReset now lockout
    prot := Protection.afterReset now hist lockout
    op := Operating.afterReset request image.policy image.frost cause
    port :=
      { receiver := .hunting, service := none, waiting := none, overrun := false, dropped := false, reports := []
        mask := image.mask, reply := none, tx := none, lastSent := .nothing, restartDue := false }
    store := store
    cfg := image.settings
    todo := Todo.clear
    pending := s.pending }

/-- The image a load finds: a power-on reset that interrupts a write leaves one that fails its check (12 R177). -/
def imageAtPowerOn (st : Store) : Option Image := if st.writer = .idle then st.image else none

/-- The image in force after a load (12 R178). -/
def loaded (image : Option Image) : Image := image.getD Image.factory

/-- The operating request after power-on reset (11 R162). -/
def restoredRequest (i : Image) : OpRequest :=
  match i.settings.restorePolicy with
  | .resume => i.request
  | .stayOff => .off

/-- Power-on reset (11 R162). -/
def powerOn (s : State) : State :=
  let image := imageAtPowerOn s.store
  finish (resetState 0 (loaded image) (restoredRequest (loaded image)) .powerOn Histories.empty false
    ⟨image, .idle, false, image.isNone⟩ s)

/-- Host restart: the request, the trip histories, LOCKOUT and the running clock are kept (11 Table 11.3). A write begun after the reply
to RESTART was handed on is dropped, and the earlier image stays and is loaded (DESIGN CHOICE, log 65). -/
def hostRestart (s : State) : State :=
  let image := s.store.image
  finish (resetState s.now (loaded image) s.op.request .hostRestart s.prot.hist s.prot.lockout
    ⟨image, .idle, false, image.isNone⟩ s)

end Sys2Proof.Machine
end

