-- ==== Sys2Proof/Machine/Reads.lean ====
section
/-! DEFINITION. The bodies of replies, after their status and flags bytes (13 R181 to R183, Tables 13.3 to 13.6). -/

namespace Sys2Proof.Machine

/-- The GET_INFO body (13 R183). -/
def infoBody (s : State) : List Byte :=
  [0x5A, 0x08, 1, byte s.op.restartCause.code, flagByte s.store.defaulted, flagByte s.link.info.isSome] ++
    (match s.link.info with
     | some i => [byte i.capacityClass, flagByte i.heatPump, byte i.level]
     | none => [0, 0, 0])

/-- The GET_ZONE body (13 Table 13.3). -/
def zoneBody (s : State) (z : ZoneId) : List Byte :=
  let st := s.zst.get z
  let c := s.zcfg.get z
  let p := s.setp.get z
  let r := sensorOf s z
  let w := s.work.get z
  let d := damperOf s z
  [byte z.val, byte st.state.code, zoneMarks st.unconf p.park w.suspended w.withdrawn] ++ word c.da ++ word c.ra ++
    [byte c.rank, byte (c.address.getD 0)] ++ tempField p.cool ++ tempField p.heat ++ optRh p.dry ++ [byte r.state.code] ++
    optTemp r.temp ++ optRh r.rh ++ optTemp r.eff ++ [byte w.call.code, byte w.d, byte w.i, byte w.l] ++
    optAge s.now w.waiting ++ [byte (positionCode d.position), byte d.motion.code, byte d.followOn.code, byte d.stalls]

/-- The plan a GET_PLAN selector names: 0 applied, 1 incoming, 2 held (13 Table 13.2). -/
def selectedPlan (s : State) (selector : Nat) : Option (Option Plan) :=
  if selector = 0 then some (some s.co.applied)
  else if selector = 1 then some s.co.incoming
  else if selector = 2 then some s.co.held
  else none

/-- The GET_PLAN body (13 R182). -/
def planBody (s : State) (selector : Nat) (p : Option Plan) : List Byte :=
  [byte selector, byte s.co.phase.code, changeoverMarks s.co, flagByte p.isSome] ++
    (match p with
     | some p => planRecord p
     | none => List.replicate 42 0)

/-- One queue entry of GET_QUEUE (13 Table 13.5). -/
def entryBytes (e : QueueEntry) : List Byte :=
  match e.what with
  | .move t => [byte e.damper.val, byte t]
  | .home => [byte (e.damper.val + 0x80), 0]

/-- The damper that holds a slot. -/
def slotByte : Option Slot → Byte
  | some x => byte x.damper.val
  | none => 0xFF

/-- The GET_QUEUE body (13 Table 13.5). -/
def queueBody (s : State) : List Byte :=
  [byte s.drive.queue.length] ++
    ((s.drive.queue.map entryBytes).flatten ++ List.replicate 16 0xFF).take 16 ++
    [slotByte s.drive.slot1, slotByte s.drive.slot2] ++
    (s.drive.dampers.toList.map fun d =>
      [byte (positionCode d.position), byte d.motion.code, byte d.followOn.code, byte d.stalls]).flatten

/-- The seconds left of a length of time counted from a moment; the marker when it is absent. -/
def optLeft (now ms : Nat) : Option Nat → List Byte
  | some t => word (leftSeconds now (t + ms))
  | none => [0xFF, 0xFF]

/-- GET_SYSTEM page 0 (13 Table 13.6; log 30). -/
def systemPage0 (s : State) : List Byte :=
  [byte s.op.state.code, byte s.op.request.code, byte s.op.policy.code, flagByte s.op.frost, flagByte s.op.notice] ++
    word (ageSeconds s.now (s.op.idleFrom.getD s.now)) ++
    [match s.op.noticeFrom with
     | some t => byte (ageSeconds s.now t)
     | none => 0xFF] ++
    [byte s.op.testPhase.code] ++ optLeft s.now 1200000 s.op.testFrom ++
    [byte s.arb.mode.code, byte (sideCode s.arb.served), byte (targetCode s.arb.restTarget)] ++
    optLeft s.now (minutes (s.arb.restLength.getD 0)) s.arb.restStart ++
    [byte (sideCode s.arb.lastServed), flagByte s.arb.deferral, byte s.seq.state.code, byte (stoppingCode s.seq.stopping),
      byte (wanted s), byte (commanded s), byte (minOffLeft s)] ++
    optAge s.now s.seq.runStart ++
    [sequencerMarks s.seq, protectionMarks s.prot (decide (s.link.state = .lost))] ++ word (stopBits s.prot.stops) ++
    [byte s.prot.limit]

/-- A trip code as STAT carries it. -/
def tripCodeByte : Option TripKind → Byte
  | some .highPressure => 1
  | some .lowPressure => 2
  | some .dischargeHot => 3
  | some .driveFault => 4
  | some .overcurrent => 5
  | _ => 0

/-- The ten STAT data bytes of a record (13 Table 13.7). -/
def statBytes (r : StatRecord) : List Byte :=
  [byte r.compressor.code, byte r.speed] ++ optTemp r.ambient ++ optTemp r.outdoorCoil ++ optTemp r.discharge ++
    [statFlags r, tripCodeByte r.trip]

/-- GET_SYSTEM page 1 (13 Table 13.6). -/
def systemPage1 (s : State) : List Byte :=
  let b := s.blower
  [byte b.state.code, holdReasons b] ++ word b.given ++ optWord b.carried ++ word b.goal ++
    [byte b.speedGoal, byte b.demand] ++ word b.expected ++ word (b.speedNow s.now) ++ optWord b.pressure ++ word b.qhi ++
    [flagByte b.capped, byte s.link.state.code, byte s.link.statFailures, byte (s.link.collisionsNow s.now)] ++
    optAge s.now s.link.statAgeFrom ++
    [byte (failureCode s.link.lastFailure), flagByte s.link.diag.isSome, flagByte s.link.lastStatus.isSome] ++
    (match s.link.lastStatus with
     | some r => statBytes r
     | none => List.replicate 10 0)

/-- The age of a trip entry in whole minutes (13 Table 13.6). -/
def entryAge (s : State) (l : List Nat) (n : Nat) : Byte :=
  match l[n]? with
  | some t => byte (min ((clockSeconds s - t) / 60) 254)
  | none => 0xFF

/-- GET_SYSTEM page 2 (13 Table 13.6). -/
def systemPage2 (s : State) : List Byte :=
  (allTrips.map fun k =>
    let l := s.prot.hist.get k
    [byte l.length, entryAge s l 0, entryAge s l 1, entryAge s l 2]).flatten

/-- A GET_SYSTEM page (13 R183). -/
def systemPage (s : State) (page : Nat) : Option (List Byte) :=
  if page = 0 then some (byte 0 :: systemPage0 s)
  else if page = 1 then some (byte 1 :: systemPage1 s)
  else if page = 2 then some (byte 2 :: systemPage2 s)
  else none

/-- The three values a SET_SYSTEM reply carries. -/
def operatingBody (s : State) : List Byte :=
  [byte s.op.request.code, byte s.op.policy.code, flagByte s.op.frost]

/-- The setpoint fields a SET_ZONE reply carries. -/
def setpointBody (z : ZoneId) (p : Setpoints) : List Byte :=
  [byte z.val] ++ tempField p.cool ++ tempField p.heat ++ optRh p.dry ++ [flagByte p.park]

/-- A resting ambient gate, ALWAYS as H'7FFD (13 Table 13.2). -/
def gateField : Option Int → List Byte
  | some t => tempField t
  | none => [0x7F, 0xFD]

/-- The 17 setting bytes and the 30 table bytes a CONFIG_SYSTEM reply carries. -/
def settingsBody (c : Settings) : List Byte :=
  word c.qrated ++ word c.qmax ++ word c.qsysMin ++
    [byte c.minHold, byte c.releaseTime, byte c.restTime, byte c.maxWait, byte c.pressureCap, byte c.restorePolicy.code] ++
    gateField c.ambientGate ++ [byte c.supplyLow, byte c.breakLength, byte c.buttonHold] ++
    (c.table.map fun p => word p.airflow ++ [byte p.speed] ++ word p.rpm).flatten

end Sys2Proof.Machine
end

