-- ==== Sys2Proof/Machine/HostPort.lean ====
section
/-! DEFINITION. The host's requests: their checks, actions and replies (12 R171, R173 to R175, R177; 01 R4 to R8; 06 R105; 08 R133),
and the service of requests in arrival order (12 R171, R172). -/

namespace Sys2Proof.Machine

/-! ### Replies -/

/-- A refused request: status and flags and nothing more (13 R181). -/
def refuse (r : Request) (status : Status) (s : State) : State := handReply r.kind status [] s

/-- An accepted request with status OK. -/
def accept (r : Request) (body : List Byte) (s : State) : State := handReply r.kind .ok body s

/-! ### SET_SYSTEM (12 R174) -/

/-- The three values of a SET_SYSTEM request in force after it, if each carried value has a code. -/
def systemValues (request policy frost : Byte) : Option (Option OpRequest × Option Policy × Option Bool) :=
  match (match carriedByte request with | none => some none | some n => (requestOf n).map some),
    (match carriedByte policy with | none => some none | some n => (policyOf n).map some),
    (match carriedByte frost with | none => some none | some n => (frostOf n).map some) with
  | some r, some p, some f => some (r, p, f)
  | _, _, _ => none

/-- The policy and frost protection put in force. -/
def putPolicy (policy : Policy) (frost : Bool) (s : State) : State :=
  { s with op := { s.op with policy := policy, frost := frost } }

/-- An operating request carried by the host: it ends TEST or its preparation, and a change acts by R163 (12 R174, 11 R165,
R168, R169). -/
def hostRequest (new : OpRequest) (s : State) : State :=
  if s.op.state = .test then endTest (writeRequest new .request s)
  else
    let s := endService s
    let s := if new ≠ s.op.request ∧ s.op.notice = true then withdrawNotice s else s
    writeRequest new .request s

/-- The values of an accepted SET_SYSTEM written together (12 R174): the policy and frost protection are in force before the
request acts, so that its one auto-save holds all of them (12 R177); a changed policy starts an auto-save too, and a change of
policy or frost protection is a wake event under ON (11 R166). -/
def writeSystem (req : Option OpRequest) (policy : Policy) (frost : Bool) (s : State) : State :=
  let polled := decide (policy ≠ s.op.policy)
  let changed := polled || decide (frost ≠ s.op.frost)
  let asked := req.any fun new => decide (new ≠ s.op.request)
  let s := putPolicy policy frost s
  let s := match req with | some new => hostRequest new s | none => s
  let s := if polled && !asked then autoSave s else s
  if changed then wakeIfOn (requestPass s) else s

/-- SET_SYSTEM. -/
def doSetSystem (request policy frost : Byte) (s : State) : State :=
  let r := Request.setSystem request policy frost
  if (carriedByte policy).bind policyOf = some .heat ∧ s.eval.hpCapable = false then refuse r .notSupported s
  else
    match systemValues request policy frost with
    | none => refuse r .badValue s
    | some (req, pol, fr) =>
      let s := writeSystem req (pol.getD s.op.policy) (fr.getD s.op.frost) s
      accept r (operatingBody s) s

/-! ### Zone requests (01 R4 to R8, 06 R105) -/

/-- SET_ZONE. -/
def doSetZone (zone : Byte) (cool heat dry : Word) (park : Byte) (s : State) : State :=
  let r := Request.setZone zone cool heat dry park
  match zoneOf zone with
  | none => refuse r .badZone s
  | some z =>
    let new := setZoneResult (s.setp.get z) (s.zst.get z).unconf cool heat dry park
    let s := wakeIfOn (requestPass { s with setp := s.setp.set z new.1 })
    handReply r.kind (if new.2 then .adjusted else .ok) (setpointBody z new.1) s

/-- Whether another configured zone holds a sensor address (01 R5). -/
def addressTaken (s : State) (z : ZoneId) (address : Option Nat) : Bool :=
  address.isSome && allZones.any fun x => decide (x ≠ z) && configured s x && decide ((s.zcfg.get x).address = address)

/-- An accepted configure request (01 R6). One that keeps the sensor address of a configured zone leaves a poll in progress to complete
(R18 names no such request apart: DEDUCED, log 71). -/
def configureZone (z : ZoneId) (c : ZoneConfig) (s : State) : State :=
  let was := stateOf s z
  let old := (s.zcfg.get z).address
  let s := requestPass
    { s with zcfg := s.zcfg.set z c, zst := s.zst.modify z fun x => { x with unconf := false } }
  if was = .unused then restartSensing z c.address (homeRequest z (setZoneState z .active s))
  else if c.address = old then s
  else restartSensing z c.address s

/-- CONFIG_ZONE configure. -/
def doConfigure (zone : Byte) (da ra : Word) (rank address : Byte) (s : State) : State :=
  let r := Request.configure zone da ra rank address
  match zoneOf zone with
  | none => refuse r .badZone s
  | some z =>
    match zoneConfigOf da ra rank address with
    | none => refuse r .badValue s
    | some c =>
      if addressTaken s z c.address then refuse r .addressInUse s
      else accept r [] (wakeIfOn (configureZone z c s))

/-- An accepted unconfigure request (01 R4). The outcome of a poll of the zone in progress is discarded (01 R18); the polls of later slots
go on until the zone becomes UNUSED (DEDUCED, log 71). -/
def unconfigureZone (z : ZoneId) (s : State) : State :=
  match stateOf s z with
  | .unused => s
  | .fault => wakeIfOn (releaseZone z s)
  | _ =>
    if (s.zst.get z).unconf then s
    else
      wakeIfOn (requestPass (discardPoll z
        { s with
          zst := s.zst.modify z fun x => { x with unconf := true }
          setp := s.setp.modify z fun x => { x with park := false } }))

/-- CONFIG_ZONE unconfigure. -/
def doUnconfigure (zone : Byte) (s : State) : State :=
  let r := Request.unconfigure zone
  match zoneOf zone with
  | none => refuse r .badZone s
  | some z => accept r [] (unconfigureZone z s)

/-- An accepted CLEAR_ZONE_FAULT; for a zone not in FAULT it changes no record and raises its early pass (06 R105, 12 R173;
log 18). The integral starts from 0 (01 R2), which it already is where a pass ran in FAULT; otherwise the call held since before the fault
goes on with that I (DESIGN CHOICE, log 75). -/
def clearFault (z : ZoneId) (s : State) : State :=
  if stateOf s z = .fault then
    let s := { s with drive := s.drive.onDamper z fun d => { d with stalls := 0, motion := .idle } }
    let s := { s with work := s.work.modify z fun w => { w with i := 0 } }
    homeRequest z (requestPass (setZoneState z .active s))
  else requestPass s

/-- CLEAR_ZONE_FAULT. -/
def doClearZoneFault (zone : Byte) (s : State) : State :=
  let r := Request.clearZoneFault zone
  match zoneOf zone with
  | none => refuse r .badZone s
  | some z => accept r [] (clearFault z s)

/-! ### CONFIG_SYSTEM (12 R175) -/

/-- New settings in force, with their effects on the blower, the pressure cap and the supply-low times (07 R109, R120;
10 R157; log 60). -/
def applySettings (c : Settings) (s : State) : State :=
  let old := s.cfg
  let s := { s with cfg := c, blower := (s.blower.reconfigure old c).newTable s.now c.table }
  if c.supplyLow = old.supplyLow then s
  else { s with prot := { s.prot with lowFrom := none, highFrom := none } }

/-- CONFIG_SYSTEM. -/
def doConfigSystem (f : SettingFields) (table : Option (List PointFields)) (s : State) : State :=
  let r := Request.configSystem f table
  match configSystemResult s.cfg f table with
  | none => refuse r .badValue s
  | some c => accept r (settingsBody c) (wakeIfOn (requestPass (applySettings c s)))

/-! ### The other requests -/

/-- GET_SYSTEM. -/
def doGetSystem (page : Option Byte) (s : State) : State :=
  match systemPage s (page.getD 0).toNat with
  | some body => accept (.getSystem page) body s
  | none => refuse (.getSystem page) .badValue s

/-- GET_ZONE. -/
def doGetZone (zone : Byte) (s : State) : State :=
  match zoneOf zone with
  | some z => accept (.getZone zone) (zoneBody s z) s
  | none => refuse (.getZone zone) .badZone s

/-- GET_PLAN. -/
def doGetPlan (selector : Option Byte) (s : State) : State :=
  match selectedPlan s (selector.getD 0).toNat with
  | some p => accept (.getPlan selector) (planBody s (selector.getD 0).toNat p) s
  | none => refuse (.getPlan selector) .badValue s

/-- SET_REPORTS: a mask with any of bits 10..15 set is refused (13 R181). -/
def doSetReports (mask : Word) (s : State) : State :=
  if mask.toNat < 1024 then accept (.setReports mask) [] { s with port := { s.port with mask := mask } }
  else refuse (.setReports mask) .badValue s

/-- Whether a diagnostic's direction, kind and length are in range (12 Table 12.2, 13 R184). -/
def diagInRange (direction kind length : Byte) : Bool :=
  decide (direction.toNat ≤ 1) && within kind.toNat 0xE0 0xEF && decide (length.toNat ≤ 8)

/-- OUTDOOR_DIAG (12 Table 12.2, 13 Table 13.2, 08 R133). A request of either direction carries as many data bytes as its length says;
those of a read are dropped, and the data count is judged after the ranges (DEDUCED, log 20). -/
def doOutdoorDiag (direction kind length : Byte) (data : List Byte) (s : State) : State :=
  let r := Request.outdoorDiag direction kind length data
  if !diagInRange direction kind length then refuse r .badValue s
  else if data.length ≠ length.toNat then refuse r .badLength s
  else if s.link.diag.isSome then refuse r .busy s
  else
    let d : Diagnostic :=
      ⟨decide (direction = 1), kind, length.toNat, if direction = 0 then data else [], s.now, false, false⟩
    accept r [] { s with link := { s.link with diag := some d } }

/-- The request in service moves to a stage. -/
def toStage (r : Request) (stage : ServiceStage) (s : State) : State :=
  { s with port := { s.port with service := some ⟨r, stage⟩ } }

/-- SAVE_CONFIG: the full write begins, or waits for an auto-save to end (12 R177). -/
def doSaveConfig (s : State) : State :=
  if s.store.writer = .idle then startFullWrite (toStage .saveConfig .saving s) else toStage .saveConfig .saveWaiting s

/-- RESTART: the reply goes out once no write is in progress or pending (12 R177). -/
def doRestart (s : State) : State :=
  if s.store.writer = .idle ∧ s.store.autoPending = false then accept .restart [] (toStage .restart .restarting s)
  else toStage .restart .restartWaiting s

/-- A request is taken: its checks are made, its action is done and its reply handed on (12 R171, R173). -/
def perform (r : Request) (s : State) : State :=
  match r with
  | .unknownKind _ => refuse r .unknownKind s
  | .badLength _ => refuse r .badLength s
  | .getInfo => accept r (infoBody s) s
  | .getSystem page => doGetSystem page s
  | .getZone zone => doGetZone zone s
  | .getPlan selector => doGetPlan selector s
  | .getQueue => accept r (queueBody s) s
  | .setSystem request policy frost => doSetSystem request policy frost s
  | .setZone zone cool heat dry park => doSetZone zone cool heat dry park s
  | .configSystem f table => doConfigSystem f table s
  | .configure zone da ra rank address => doConfigure zone da ra rank address s
  | .unconfigure zone => doUnconfigure zone s
  | .badAction zone => refuse r (match zoneOf zone with | some _ => .badValue | none => .badZone) s
  | .clearZoneFault zone => doClearZoneFault zone s
  | .clearLockout => accept r [] (clearLockout s)
  | .saveConfig => doSaveConfig s
  | .setReports mask => doSetReports mask s
  | .outdoorDiag direction kind length data => doOutdoorDiag direction kind length data s
  | .restart => doRestart s

/-! ### Service (12 R171, R172) -/

/-- A request enters service and is taken. -/
def takeRequest (r : Request) (s : State) : State := perform r (toStage r .replying s)

/-- A request is offered: it enters service, waits, or is dropped with the overrun mark set (12 R171). -/
def offer (r : Request) (s : State) : State :=
  if s.port.service.isNone then takeRequest r s
  else if s.port.waiting.isNone then { s with port := { s.port with waiting := some r } }
  else { s with port := { s.port with overrun := true } }

/-- The waiting request moves into service. -/
def takeWaiting (s : State) : State :=
  match s.port.waiting with
  | some r => takeRequest r { s with port := { s.port with waiting := none } }
  | none => s

/-- The transmitter takes its next frame. -/
def pumpPort (s : State) : State := { s with port := s.port.pump s.now }

/-- The reply of the request in service has been sent: a RESTART leads to the host restart, another request leaves service
and the waiting one enters (12 R171, R177). -/
def replySent (s : State) : State :=
  match s.port.service with
  | some ⟨_, .restarting⟩ => { s with port := { s.port with restartDue := true } }
  | some ⟨_, .replying⟩ => takeWaiting { s with port := { s.port with service := none } }
  | _ => s

/-- The frame in the transmitter has been sent (12 R171, R172). After a reply the waiting request is taken, its reports with it, before the
freed transmitter chooses its next frame, so with eight reports queued such a report is dropped (DESIGN CHOICE, log 66). -/
def frameSent (f : TxFrame) (s : State) : State :=
  let s := { s with port := { s.port with tx := none } }
  pumpPort (if f.isReply then replySent s else s)

/-! ### The writer (12 R177) -/

/-- A write ends with its image stored. -/
def storeImage (i : Image) (whole : Bool) (s : State) : State :=
  { s with store :=
      { s.store with image := some i, writer := .idle, defaulted := if whole then false else s.store.defaulted } }

/-- What follows a write: a full write that waits, a pending auto-save, or a restart that waits (12 R177). The full write that waits writes
the values in force now, not those at the taking of its SAVE_CONFIG (DESIGN CHOICE, log 67). -/
def afterWrite (s : State) : State :=
  match s.port.service with
  | some ⟨r, .saveWaiting⟩ => startFullWrite (toStage r .saving s)
  | some ⟨r, .saving⟩ => startAutoSave (accept r [] (toStage r .replying s))
  | some ⟨r, .restartWaiting⟩ =>
    if s.store.autoPending then startAutoSave s else accept r [] (toStage r .restarting s)
  | _ => startAutoSave s

end Sys2Proof.Machine
end

