-- ==== Sys2Proof/Machine/LinkEvents.lean ====
section
/-! DEFINITION. Events on the Outdoor Link that reach several blocks: a good STAT, a byte read back, a response
(08 R123, R124, R127, R128, R130, R131, R134). -/

namespace Sys2Proof.Machine

/-- The record, the counts and the age at a good STAT (08 R127, R130). -/
def recordStat (r : StatRecord) (s : State) : State :=
  { s with link :=
      { s.link with
        lastStatus := some r
        lastGood := some s.now
        statFailures := 0
        statAgeFrom := if (ageLimit s.link.state).isSome then some s.now else none } }

/-- The change of link state at a good STAT (08 R127, R130). -/
def statState (s : State) : State :=
  match s.link.state with
  | .degraded => linkTo .active .goodStat s
  | .lost => linkTo .start .goodStat s
  | _ => s

/-- A good STAT: the link, the sequencer, the Protection Monitor and the Operating State Controller take it in this order
(08 R127; log 9). -/
def goodStat (r : StatRecord) (s : State) : State :=
  let previous := s.link.lastStatus
  opStat r (protStat previous r (seqStat r (statState (recordStat r s))))

/-- A command frame has been sent whole (08 R123, R124, R134). -/
def commandSent (f : LinkFrame) (s : State) : State :=
  let s := endFrame s
  if f.kind = .diagCommand then endDiag .sent none [] s else s

/-- A complete STAT response judged (08 R123, R127). -/
def statArrived (bytes : List Byte) (s : State) : State :=
  match (goodData statKind 10 bytes).bind statOf with
  | some r => goodStat r (endFrame s)
  | none => exchangeFailed .stat .check (endFrame s)

/-- A complete INFO response judged (08 R123, R128). -/
def infoArrived (bytes : List Byte) (s : State) : State :=
  match (goodData infoKind 3 bytes).bind infoOf with
  | some r => goodInfo r (endFrame s)
  | none => exchangeFailed .info .check (endFrame s)

/-- A complete response to a diagnostic read judged (08 R133, R134). -/
def diagArrived (d : Diagnostic) (bytes : List Byte) (s : State) : State :=
  match goodData d.kind d.length bytes with
  | some data => endDiag .data none data (endFrame s)
  | none => exchangeFailed .diagRead .check (endFrame s)

/-- The response window closes, with a number of bytes of which at least the start bit has been seen beside those that have
arrived (08 R123; log 35). -/
def windowClosed (f : LinkFrame) (begun : Nat) (s : State) : State :=
  let s := if begun = 0 then s else noteLow s
  exchangeFailed f.kind (if f.arrived = [] ∧ begun = 0 then .noResponse else .shortLength) (endFrame s)

/-- Whether a frame's response window has closed. -/
def closedWindow (s : State) : Option LinkFrame := (awaitingResponse s).filter fun f => decide (f.sentBy + 40 ≤ s.now)

/-- Whether a diagnostic has waited 10 s without its frame having begun (08 R134). -/
def diagTimeoutDue (s : State) : Bool :=
  match waitingDiag s.link with
  | some d => decide (d.enteredAt + 10000 ≤ s.now)
  | none => false

end Sys2Proof.Machine
end

