-- ==== Sys2Proof/Machine/HostRows.lean ====
section
/-! DEFINITION. Meanings of the resets, the host port and the Configuration Store rows (11 R162; 12 R170 to R177). -/

namespace Sys2Proof.Machine

/-- What a command answers. -/
abbrev Result := Host.Outcome State Fault Refusal

/-- POWER_ON_RESET (11 R162). -/
def execPowerOnReset (s : State) : Result := .next (powerOn s)

/-- HOST_RESTART, once the reply to RESTART has been sent (12 R177). -/
def execHostRestart (s : State) : Result := .next (if s.port.restartDue then hostRestart s else s)

/-- The receiver moved on. -/
def putReceiver (r : Receiver) (s : State) : State := { s with port := { s.port with receiver := r } }

/-- A request of a frame that is complete with a good sum is offered; nothing else heard leaves a trace (12 R170, R171). -/
def offerHeard (h : Heard) (s : State) : State :=
  match h with
  | .frame kind payload => offer (parseRequest kind payload) s
  | _ => s

/-- HOST_FRAME_RECEIVED: bytes arrive on the line, and every frame complete with a good sum is a request (12 R170, R171; log 43). -/
def execHostFrameReceived (bytes : List HostByte) (s : State) : Result :=
  let ran := s.port.receiver.run s.now bytes
  let frames := ran.2.filter fun h => decide (h ≠ .badSum) && decide (h ≠ .abandoned)
  let t := putReceiver ran.1 s
  .next (if frames = [] then t else finish (frames.foldl (fun s h => offerHeard h s) t))

/-- HOST_FRAME_BAD_SUM: a frame whose sum is not 0 is complete and is discarded (12 R170; log 43). -/
def execHostFrameBadSum (s : State) : Result := .next (putReceiver .hunting s)

/-- HOST_FRAME_ABANDON: no byte for more than 20 ms inside a frame; a bad LENGTH and a low stop bit are found with their byte by
HOST_FRAME_RECEIVED (12 R170; log 43). -/
def execHostFrameAbandon (s : State) : Result :=
  .next (if s.port.receiver.gapOver s.now then putReceiver .hunting s else s)

/-- UNKNOWN_KIND: a KIND outside H'01..H'0F (12 R173, 13 R181). -/
def execUnknownKind (kind : Byte) (s : State) : Result :=
  .next (if within kind.toNat 1 15 then s else offer (.unknownKind kind) s)

/-- GET_INFO (12 R173, 13 R183). -/
def execGetInfo (s : State) : Result := .next (offer .getInfo s)

/-- GET_SYSTEM (13 R183). -/
def execGetSystem (page : Option Byte) (s : State) : Result := .next (offer (.getSystem page) s)

/-- GET_ZONE (13 R182). -/
def execGetZone (zone : Byte) (s : State) : Result := .next (offer (.getZone zone) s)

/-- GET_PLAN (13 R182). -/
def execGetPlan (selector : Option Byte) (s : State) : Result := .next (offer (.getPlan selector) s)

/-- GET_QUEUE (13 R182). -/
def execGetQueue (s : State) : Result := .next (offer .getQueue s)

/-- SET_SYSTEM (12 R174). -/
def execSetSystem (request policy frost : Byte) (s : State) : Result :=
  .next (finish (offer (.setSystem request policy frost) s))

/-- SET_ZONE (01 R7, R8). -/
def execSetZone (zone : Byte) (cool heat dry : Word) (park : Byte) (s : State) : Result :=
  .next (finish (offer (.setZone zone cool heat dry park) s))

/-- CONFIG_SYSTEM (12 R175). -/
def execConfigSystem (settings : SettingFields) (table : Option (List PointFields)) (s : State) : Result :=
  .next (finish (offer (.configSystem settings table) s))

/-- CONFIG_ZONE with action configure (01 R5, R6). -/
def execConfigZoneConfigure (zone : Byte) (da ra : Word) (rank address : Byte) (s : State) : Result :=
  .next (finish (offer (.configure zone da ra rank address) s))

/-- CONFIG_ZONE with action unconfigure (01 R4). -/
def execConfigZoneUnconfigure (zone : Byte) (s : State) : Result := .next (finish (offer (.unconfigure zone) s))

/-- CLEAR_ZONE_FAULT (06 R105). -/
def execClearZoneFault (zone : Byte) (s : State) : Result := .next (finish (offer (.clearZoneFault zone) s))

/-- CLEAR_LOCKOUT (10 R159). -/
def execClearLockout (s : State) : Result := .next (finish (offer .clearLockout s))

/-- SAVE_CONFIG (12 R177). -/
def execSaveConfig (s : State) : Result := .next (offer .saveConfig s)

/-- SET_REPORTS (12 R173, 13 R181). -/
def execSetReports (mask : Word) (s : State) : Result := .next (offer (.setReports mask) s)

/-- OUTDOOR_DIAG (08 R133). -/
def execOutdoorDiag (direction kind length : Byte) (data : List Byte) (s : State) : Result :=
  .next (offer (.outdoorDiag direction kind length data) s)

/-- RESTART (12 R177). -/
def execRestart (s : State) : Result := .next (offer .restart s)

/-- The frame in the transmitter, once its last byte has been sent. -/
def endedFrame (s : State) : Option TxFrame := s.port.tx.filter fun f => decide (f.endsAt ≤ s.now)

/-- HOST_FRAME_SENT (12 R171, R172). -/
def execHostFrameSent (s : State) : Result :=
  .next
    (match endedFrame s with
     | some f => finish (frameSent f s)
     | none => s)

/-- FULL_WRITE_END (12 R177). -/
def execFullWriteEnd (s : State) : Result :=
  .next
    (match s.store.writer with
     | .full i _ => afterWrite (storeImage i true s)
     | _ => s)

/-- AUTO_SAVE_END (12 R177). -/
def execAutoSaveEnd (s : State) : Result :=
  .next
    (match s.store.writer with
     | .auto i whole _ => afterWrite (storeImage i whole s)
     | _ => s)

end Sys2Proof.Machine
end

