-- ==== Sys2Proof/Machine/BlowerRows.lean ====
section
/-! DEFINITION. Meanings of the blower and duct pressure rows (07 R111 to R120) and of the tachometer. -/

namespace Sys2Proof.Machine

/-- BLOWER_RAMP_TICK (07 R111). -/
def execBlowerRampTick (s : State) : Result :=
  .next (if s.blower.rampDue s.now then { s with blower := s.blower.ramp s.now } else s)

/-- BLOWER_SETTLED (07 R112). -/
def execBlowerSettled (s : State) : Result :=
  .next (if s.blower.settledDue s.now then finish { s with blower := s.blower.settle } else s)

/-- BLOWER_UNSETTLED (07 R112). -/
def execBlowerUnsettled (s : State) : Result :=
  .next (if s.blower.unsettledDue s.now then finish { s with blower := s.blower.unsettle s.now } else s)

/-- SETTLE_TIMEOUT (07 R113, 10 R156). -/
def execSettleTimeout (s : State) : Result :=
  .next
    (if s.blower.timeoutDue s.now then finish (recordTrip .blower false { s with blower := s.blower.beginRetry s.now })
    else s)

/-- RETRY_PAUSE_END (07 R113). -/
def execRetryPauseEnd (s : State) : Result :=
  .next (if s.blower.retryDue s.now then finish { s with blower := s.blower.endRetry s.now } else s)

/-- RUN_ON_EXPIRY (07 R118). -/
def execRunOnExpiry (s : State) : Result :=
  .next (if s.blower.runOnDue s.now then finish { s with blower := s.blower.turnOff s.now s.cfg.table } else s)

/-- Whether COLD_BLOW has lasted 120 s from the first STAT showing RUNNING (07 R115). -/
def coldBlowDue (s : State) : Bool := s.blower.coldBlow && reached s.seq.runStart 120000 s.now

/-- COLD_BLOW_TIMEOUT (07 R115). -/
def execColdBlowTimeout (s : State) : Result := .next (if coldBlowDue s then finish (removeHold true s) else s)

/-- BLOWER_AT_REST (07 R116, 09 R146). -/
def execBlowerAtRest (s : State) : Result := .next (if atRestDue s then finish (grantDefrost s) else s)

/-- DUCT_PRESSURE_CONVERSION (07 R119). -/
def execDuctPressureConversion (reading : Int) (s : State) : Result :=
  .next
    { s with blower :=
        ({ s.blower with pressure := pressureOf reading } : Blower).syncPressure s.now s.cfg.pressureCap }

/-- ABOVE_CAP_TIME_EXPIRY (07 R119). -/
def execAboveCapTimeExpiry (s : State) : Result :=
  .next
    (if reached s.blower.aboveFrom 10000 s.now then
      let t := { s with blower := s.blower.stepDown s.now s.cfg.qmax s.cfg.qsysMin }
      finish (if s.cfg.qsysMin < s.blower.qhi then requestPass t else t)
    else s)

/-- Whether the below-relief time has reached 10 min with Qhi below Qmax (07 R120). -/
def belowReliefDue (s : State) : Bool := reached s.blower.belowFrom 600000 s.now && decide (s.blower.qhi < s.cfg.qmax)

/-- BELOW_RELIEF_TIME_EXPIRY (07 R120). -/
def execBelowReliefTimeExpiry (s : State) : Result :=
  .next (if belowReliefDue s then finish (requestPass { s with blower := s.blower.stepUp s.now s.cfg.qmax }) else s)

/-- TACHOMETER_PULSE: a pulse that shows a speed (07 R112, R116; log 14). -/
def execTachometerPulse (rpm : Nat) (s : State) : Result := .next { s with blower := s.blower.pulse s.now rpm }

end Sys2Proof.Machine
end

