-- ==== Sys2Proof/Machine/DamperRows.lean ====
section
/-! DEFINITION. Meanings of the damper rows (06 R94, R100, R101). -/

namespace Sys2Proof.Machine

/-- DAMPER_STEP (06 R94, R104). -/
def execDamperStep (damper : ZoneId) (s : State) : Result :=
  .next
    (if s.drive.stepDue s.now damper then
      let s := { s with drive := s.drive.stepMotion damper }
      if s.blower.goal ≠ 0 ∧ s.drive.airPath = false then finish (blowerGuard s) else s
    else s)

/-- A completion reported to the Plan Changeover Controller and to the Operating State Controller (06 R100). -/
def reportCompletion (d : ZoneId) (s : State) : State := testCompletion d (repair d (tellPhase s))

/-- MOVE_COMPLETE (06 R100). -/
def execMoveComplete (damper : ZoneId) (s : State) : Result :=
  .next
    (if s.drive.isMove damper && s.drive.motionDone damper then
      finish (reportCompletion damper { s with drive := s.drive.completeMove damper })
    else s)

/-- HOME_COMPLETE (06 R100). -/
def execHomeComplete (damper : ZoneId) (s : State) : Result :=
  .next
    (if !s.drive.isMove damper && s.drive.motionDone damper then
      finish (reportCompletion damper { s with drive := s.drive.completeHome damper })
    else s)

/-- A stall (06 R101): the first two append a HOME, the third faults the damper; a damper of an UNUSED zone stays IDLE
(log 33). -/
def stall (d : ZoneId) (s : State) : State :=
  let n := (damperOf s d).stalls
  let counted := fun k : Nat => s.drive.onDamper d fun x => { x with stalls := k }
  match stateOf s d with
  | .unused => { s with drive := s.drive.stallStop d }
  | .fault => { s with drive := s.drive.stallStop d }
  | _ =>
    if n + 1 < 3 then { s with drive := ((counted (n + 1)).stallStop d).requestHome d }
    else faultDamper d { s with drive := (counted 3).stallStop d }

/-- DAMPER_STALL (06 R101, R104). -/
def execDamperStall (damper : ZoneId) (s : State) : Result :=
  .next (if s.drive.isMove damper then finish (airGuard (stall damper s)) else s)

end Sys2Proof.Machine
end

