-- ==== Sys2Proof/Machine/LinkRows.lean ====
section
/-! DEFINITION. Meanings of the outdoor link rows (08 R122 to R134). -/

namespace Sys2Proof.Machine

/-- A frame's beginning with what follows: an abandoned frame has consequences, one that begins has none (08 R124). -/
def withBreak (begin_ : State → State) (s : State) : State := if lineQuiet s then begin_ s else finish (begin_ s)

/-- ROUND_TICK (08 R124, R126). -/
def execRoundTick (s : State) : Result := .next (if s.link.nextRound ≤ s.now then withBreak beginRound s else s)

/-- LINK_REQUEST_FRAME_START (08 R124, R126). -/
def execLinkRequestFrameStart (s : State) : Result :=
  .next
    (match requestDue s with
     | some r => withBreak (beginRequest r) s
     | none => s)

/-- LINK_DIAG_FRAME_START (08 R124, R126, R133). -/
def execLinkDiagFrameStart (s : State) : Result :=
  .next
    (match slowDiagDue s with
     | some r => withBreak (beginSlowDiag r) s
     | none => s)

/-- LINK_COLLISION: a byte of the frame in progress that ends now was read back otherwise than it was sent, or the line has been
low in the 2 ms before the frame that is due now; that frame is abandoned (08 R124; logs 25, 41). -/
def execLinkCollision (s : State) : Result :=
  .next
    (match collidedFrame s with
     | some f => finish (abandonFrame f.kind s)
     | none => if lineQuiet s || s.link.driven s.now then s else finish (beginDue s))

/-- LINK_COMMAND_FRAME_SENT (08 R123). -/
def execLinkCommandFrameSent (s : State) : Result :=
  .next
    (match sentCommand s with
     | some f => commandSent f s
     | none => s)

/-- STAT_RESPONSE: bytes arrive in the window; a response that is not complete with them is left to its window (08 R123, R127). -/
def execStatResponse (bytes : List Byte) (s : State) : Result :=
  .next
    (match windowFrame s .stat with
     | some f =>
       let all := f.arrived ++ bytes
       if all.length < 11 then takeBytes f bytes s else finish (statArrived all (takeBytes f bytes s))
     | none => s)

/-- INFO_RESPONSE: bytes arrive in the window; a response that is not complete with them is left to its window (08 R123, R128). -/
def execInfoResponse (bytes : List Byte) (s : State) : Result :=
  .next
    (match windowFrame s .info with
     | some f =>
       let all := f.arrived ++ bytes
       if all.length < 4 then takeBytes f bytes s else finish (infoArrived all (takeBytes f bytes s))
     | none => s)

/-- DIAG_READ_RESPONSE: bytes arrive in the window; a response that is not complete with them is left to its window (08 R123,
R134). -/
def execDiagReadResponse (bytes : List Byte) (s : State) : Result :=
  .next
    (match windowFrame s .diagRead, s.link.diag with
     | some f, some d =>
       let all := f.arrived ++ bytes
       if all.length < d.length + 1 then takeBytes f bytes s else diagArrived d all (takeBytes f bytes s)
     | _, _ => s)

/-- LINK_BYTE_ERROR: a byte's 33 samples, three for each of its eleven bits (08 R122, R123). -/
def execLinkByteError (samples : BitVec 33) (s : State) : Result :=
  .next
    (match awaitingResponse s, byteFailure samples with
     | some f, some kind =>
       if s.now ≤ f.sentBy + 40 then finish (exchangeFailed f.kind kind (endFrame (noteLow s))) else s
     | _, _ => s)

/-- RESPONSE_WINDOW_CLOSE, with the number of bytes of which the start bit has been seen beside those that have arrived
(08 R123; log 35). -/
def execResponseWindowClose (begun : Nat) (s : State) : Result :=
  .next
    (match closedWindow s with
     | some f => finish (windowClosed f begun s)
     | none => s)

/-- STAT_AGE_LIMIT (08 R130). -/
def execStatAgeLimit (s : State) : Result := .next (if statAgeDue s then finish (linkLost .noStat s) else s)

/-- DIAG_TIMEOUT (08 R134). -/
def execDiagTimeout (s : State) : Result :=
  .next (if diagTimeoutDue s then endDiag .noResponse (some .notSent) [] s else s)

/-- WAKE_ROUND_START (08 R124, R132). -/
def execWakeRoundStart (s : State) : Result := .next (if wakeRoundDue s then withBreak beginRound s else s)

end Sys2Proof.Machine
end

