-- ==== Sys2Proof/Machine/OperatingRows.lean ====
section
/-! DEFINITION. Meanings of the operating state rows (11 R164 to R169) and of the button input. -/

namespace Sys2Proof.Machine

/-- Whether the idle time has reached 30 min, not yet taken (11 R164). -/
def idleDue (s : State) : Bool := !s.op.idleDone && reached s.op.idleFrom 1800000 s.now

/-- IDLE_TIME_REACHED (11 R164). -/
def execIdleTimeReached (s : State) : Result :=
  .next (if idleDue s then finish { s with op := { s.op with idleDone := true } } else s)

/-- Whether the notice has stood for 60 s (11 R165). -/
def noticeDue (s : State) : Bool := s.op.notice && reached s.op.noticeFrom 60000 s.now

/-- NOTICE_TIME_EXPIRY (11 R165). -/
def execNoticeTimeExpiry (s : State) : Result := .next (if noticeDue s then finish (withdrawNotice s) else s)

/-- Whether the button input has read a level for 50 ms that is not the accepted one (11 R167). -/
def buttonRead (closed : Bool) (s : State) : Bool :=
  decide (s.inp.buttonClosed = closed) && decide (s.op.accepted ≠ closed) && decide (s.inp.buttonSince + 50 ≤ s.now)

/-- BUTTON_PRESS (11 R167). -/
def execButtonPress (s : State) : Result := .next (if buttonRead true s then finish (pressed s) else s)

/-- BUTTON_RELEASE (11 R167). -/
def execButtonRelease (s : State) : Result := .next (if buttonRead false s then finish (released s) else s)

/-- Whether the hold time has been reached while PRESSED (11 R167). It is the hold time in force now, also where it was written during
the press (DESIGN CHOICE, log 74). -/
def buttonHoldDue (s : State) : Bool :=
  decide (s.op.button = .pressed) && reached s.op.pressFrom (s.cfg.buttonHold * 1000) s.now

/-- BUTTON_HOLD_TIME (11 R167, R168). -/
def execButtonHoldTime (s : State) : Result := .next (if buttonHoldDue s then finish (heldLong s) else s)

/-- Whether the test has lasted 20 min (11 R169). -/
def testTimeDue (s : State) : Bool := decide (s.op.state = .test) && reached s.op.testFrom 1200000 s.now

/-- TEST_TIME_EXPIRY (11 R169). -/
def execTestTimeExpiry (s : State) : Result := .next (if testTimeDue s then finish (endTest s) else s)

/-- BUTTON_INPUT_CHANGE (11 R167). -/
def execButtonInputChange (closed : Bool) (s : State) : Result :=
  .next
    (if closed = s.inp.buttonClosed then s
    else { s with inp := { s.inp with buttonClosed := closed, buttonSince := s.now } })

end Sys2Proof.Machine
end

