-- ==== Sys2Proof/Machine/ProtectionRows.lean ====
section
/-! DEFINITION. Meanings of the protection rows (10 R152 to R157) and of the float input. -/

namespace Sys2Proof.Machine

/-- INDOOR_COIL_CONVERSION (10 R153). -/
def execIndoorCoilConversion (reading : Int) (s : State) : Result := .next (finish (coilConverted reading s))

/-- Whether the below-zero time has reached 60 s (10 R153). -/
def freezeDue (s : State) : Bool := reached s.prot.belowZeroFrom 60000 s.now && !s.prot.freezeLim

/-- FREEZE_TIME_EXPIRY (10 R153, R155). -/
def execFreezeTimeExpiry (s : State) : Result := .next (if freezeDue s then finish (freezeLimits s) else s)

/-- SUPPLY_AIR_CONVERSION (10 R154). -/
def execSupplyAirConversion (reading : Int) (s : State) : Result := .next (finish (supplyConverted reading s))

/-- Whether the above-60 time has reached 60 s (10 R154). -/
def above60Due (s : State) : Bool := reached s.prot.above60From 60000 s.now && !s.prot.supplyLim

/-- ABOVE_60_TIME_EXPIRY (10 R154, R155). -/
def execAbove60TimeExpiry (s : State) : Result := .next (if above60Due s then finish (supplyLimits s) else s)

/-- Whether supply readings have been unavailable for 60 s under SUPPLY_HOT (10 R154). -/
def supplyGoneDue (s : State) : Bool := reached s.prot.supplyGoneFrom 60000 s.now && s.prot.stops.contains .supplyHot

/-- SUPPLY_UNAVAILABLE_EXPIRY (10 R154). -/
def execSupplyUnavailableExpiry (s : State) : Result :=
  .next (if supplyGoneDue s then finish (leaveStops .supplyHot s) else s)

/-- Whether a further down step is due (10 R155). -/
def limitStepDue (s : State) : Bool := limiting s && reached s.prot.stepFrom 60000 s.now

/-- LIMIT_STEP_TIME (10 R155). -/
def execLimitStepTime (s : State) : Result := .next (if limitStepDue s then finish (limitDown s) else s)

/-- Whether an up step is due (10 R155). -/
def limitRecoveryDue (s : State) : Bool := !limiting s && reached s.prot.recoverFrom 120000 s.now

/-- LIMIT_RECOVERY_TIME (10 R155). -/
def execLimitRecoveryTime (s : State) : Result := .next (if limitRecoveryDue s then finish (limitUp s) else s)

/-- TRIP_HOLD_EXPIRY (10 R156). -/
def execTripHoldExpiry (kind : HoldKind) (s : State) : Result :=
  .next (if reached (holdFrom kind s.prot) 180000 s.now then finish (endHold kind s) else s)

/-- FLOAT_HELD (10 R152). -/
def execFloatHeld (s : State) : Result :=
  .next (if !s.prot.floatHeld && floatRead true 2000 s then finish (floatHolds s) else s)

/-- FLOAT_CLEARED (10 R152). -/
def execFloatCleared (s : State) : Result :=
  .next (if s.prot.floatHeld && floatRead false 60000 s then finish (floatClears s) else s)

/-- MAINS_CONVERSION (10 R157). -/
def execMainsConversion (reading : Int) (s : State) : Result := .next (mainsConverted reading s)

/-- SUPPLY_LOW_HELD (10 R157). -/
def execSupplyLowHeld (s : State) : Result :=
  .next (if !s.prot.supplyLow && reached s.prot.lowFrom 2000 s.now then finish (supplyLowTo true s) else s)

/-- SUPPLY_LOW_CLEARED (10 R157). -/
def execSupplyLowCleared (s : State) : Result :=
  .next (if s.prot.supplyLow && reached s.prot.highFrom 10000 s.now then finish (supplyLowTo false s) else s)

/-- FLOAT_INPUT_CHANGE (10 R152). -/
def execFloatInputChange (closed : Bool) (s : State) : Result :=
  .next
    (if closed = s.inp.floatClosed then s else { s with inp := { s.inp with floatClosed := closed, floatSince := s.now } })

end Sys2Proof.Machine
end

