-- ==== Sys2Proof/Machine/SensingRows.lean ====
section
/-! DEFINITION. Meanings of the zone sensing rows (01 R11 to R17) and of the evaluation rows (02 R21, R22, R36). -/

namespace Sys2Proof.Machine

/-- SWEEP_SLOT_START (01 R11). -/
def execSweepSlotStart (s : State) : Result := .next (if s.sens.nextSlotAt ≤ s.now then beginSlot s else s)

/-- SENSOR_NO_ACKNOWLEDGE (01 R13). -/
def execSensorNoAcknowledge (s : State) : Result :=
  .next
    (match s.sens.poll with
     | some p => finish (failAttempt p s)
     | none => s)

/-- A reply to a poll judged: a wrong acknowledge fails the attempt, an incomplete frame leaves it to its window, a complete
one is judged by R13 (01 R12, R13; 13 R185). -/
def judgeReply (p : Poll) (acknowledge : Byte) (reply : List Byte) (s : State) : State :=
  if acknowledge ≠ acknowledgeOf p.address then failAttempt p s
  else if reply.length < 6 then s
  else
    match sensorReading p.address (reply.take 6) with
    | some (t, rh) => passPoll p t rh s
    | none => failAttempt p s

/-- The filters of both lines take the samples of bits (01 R12). -/
def sampleLines (samples : List (List BusSample)) (s : State) : State :=
  { s with sens := { s.sens with lines := (s.sens.lines.bits samples).1 } }

/-- The bytes of a reply's samples judged: the first is the acknowledge, and without one nothing is complete (01 R12). -/
def judgeBytes (p : Poll) (bytes : List Byte) (s : State) : State :=
  match bytes with
  | acknowledge :: reply => judgeReply p acknowledge reply s
  | [] => s

/-- SENSOR_REPLY: the samples of both lines in each bit that a sensor sends after the address, those of its acknowledge and those of
its reply (01 R12, R13). Outside a reply in its window no sample is taken, so that the filters keep their levels (DESIGN CHOICE,
log 42). -/
def execSensorReply (acknowledge reply : List (List BusSample)) (s : State) : Result :=
  .next
    (match s.sens.poll with
     | some p =>
       let samples := acknowledge ++ reply
       if s.now ≤ p.startedAt + 15 then
         finish (judgeBytes p (bytesOfBits (s.sens.lines.bits samples).2) (sampleLines samples s))
       else s
     | none => s)

/-- SENSOR_WINDOW_CLOSE (01 R12). -/
def execSensorWindowClose (s : State) : Result :=
  .next
    (match s.sens.poll with
     | some p => if p.windowClosed s.now then finish (failAttempt p s) else s
     | none => s)

/-- SENSOR_AGE_EXPIRY (01 R14, R15). -/
def execSensorAgeExpiry (zone : ZoneId) (s : State) : Result :=
  .next
    (if (sensorOf s zone).ageDue s.now then
      finish (changeSensor zone ((sensorOf s zone).expired s.sens.returnAir) s)
    else s)

/-- RETURN_AIR_CONVERSION (01 R17). -/
def execReturnAirConversion (reading : Int) (s : State) : Result := .next (returnAirConverted reading s)

/-- EVALUATION_TIMER_EXPIRY (02 R21). -/
def execEvaluationTimerExpiry (s : State) : Result := .next (if timerDue s then finish (runPass s) else s)

/-- EARLY_PASS_SPACING_END (02 R21, R22). -/
def execEarlyPassSpacingEnd (s : State) : Result := .next (if passDue s then finish (runPass s) else s)

/-- REST_END (02 R36). -/
def execRestEnd (s : State) : Result :=
  .next (if restEndDue s then finish (requestPass { s with arb := { s.arb with restEnded := true } }) else s)

end Sys2Proof.Machine
end

