-- ==== Sys2Proof/Machine/SequencerRows.lean ====
section
/-! DEFINITION. Meanings of the compressor sequencer rows (09 R138 to R148). -/

namespace Sys2Proof.Machine

/-- MINIMUM_OFF_EXPIRY (09 R138, R139). -/
def execMinimumOffExpiry (s : State) : Result :=
  .next
    (if minOffExpired s && !s.seq.minOffDone then finish { s with seq := { s.seq with minOffDone := true } } else s)

/-- Whether the start-fail time has reached 60 s (09 R140). -/
def startFailDue (s : State) : Bool :=
  decide (s.seq.state = .running) && s.seq.runStart.isNone && decide (60000 ≤ startFailTime s)

/-- START_FAIL_TIMEOUT (09 R140). -/
def execStartFailTimeout (s : State) : Result := .next (if startFailDue s then finish (startFailTrip s) else s)

/-- Whether the minimum run ends (09 R141). -/
def minimumRunDue (s : State) : Bool :=
  decide (s.seq.state = .stopWait) && !s.seq.stopSent && reached s.seq.runStart 300000 s.now

/-- MINIMUM_RUN_END (09 R141). -/
def execMinimumRunEnd (s : State) : Result := .next (if minimumRunDue s then finish (stopWait true s) else s)

/-- Whether the grant has stood for 60 s in DEFROST_PREP (09 R146). -/
def prepTimeoutDue (s : State) : Bool :=
  decide (s.seq.state = .defrostPrep) && s.seq.grantSent && reached s.seq.defrostFrom 60000 s.now

/-- The defrost time stops, and DEFROST_LONG is reported. -/
def defrostTooLong (s : State) : State := defrostLongTrip { s with seq := { s.seq with defrostFrom := none } }

/-- DEFROST_PREP_TIMEOUT (09 R146). -/
def execDefrostPrepTimeout (s : State) : Result := .next (if prepTimeoutDue s then finish (defrostTooLong s) else s)

/-- Whether the defrost time has reached 15 min (09 R147). -/
def activeTimeoutDue (s : State) : Bool :=
  decide (s.seq.state = .defrostActive) && reached s.seq.defrostFrom 900000 s.now

/-- DEFROST_ACTIVE_TIMEOUT (09 R147). -/
def execDefrostActiveTimeout (s : State) : Result := .next (if activeTimeoutDue s then finish (defrostTooLong s) else s)

/-- Whether the recovery time has reached 180 s (09 R148). -/
def recoveryDue (s : State) : Bool :=
  decide (s.seq.state = .defrostRecovery) && reached s.seq.recoveryFrom 180000 s.now

/-- RECOVERY_TIME_EXPIRY (09 R148). -/
def execRecoveryTimeExpiry (s : State) : Result :=
  .next (if recoveryDue s then finish (endRecovery .recoveryTime s) else s)

end Sys2Proof.Machine
end

