-- ==== Sys2Proof/Machine/Tick.lean ====
section
/-! DEFINITION. What the part does while no command waits (log 2): the timer events that are due join the queue; when none is
due, one millisecond passes, and the conversions of that millisecond join the queue. -/

namespace Sys2Proof.Machine

/-- One event where it is due. -/
def dueIf (due : Bool) (i : Instr) : List Instr := if due then [i] else []

/-- One event for each zone or damper where it is due, in ascending number. -/
def dueFor (due : ZoneId → Bool) (i : ZoneId → Instr) : List Instr := (allZones.filter due).map i

/-- Whether a store write has had its 250 ms (12 R177; log 15). -/
def autoEndDue (s : State) : Bool :=
  match s.store.writer with
  | .auto _ _ t => decide (t + 250 ≤ s.now)
  | _ => false

/-- Whether a full write has had its 250 ms (12 R177; log 15). -/
def fullEndDue (s : State) : Bool :=
  match s.store.writer with
  | .full _ t => decide (t + 250 ≤ s.now)
  | _ => false

/-- Whether the window of a poll attempt has closed (01 R12). -/
def pollDue (s : State) : Bool :=
  match s.sens.poll with
  | some p => p.windowClosed s.now
  | none => false

/-- The due events of the host port and the Configuration Store (12). -/
def duePort (s : State) : List Instr :=
  dueIf s.port.restartDue .hostRestart ++ dueIf (s.port.receiver.gapOver s.now) .hostFrameAbandon ++
    dueIf (endedFrame s).isSome .hostFrameSent ++ dueIf (fullEndDue s) .fullWriteEnd ++
    dueIf (autoEndDue s) .autoSaveEnd

/-- The due events of zone sensing and of the evaluation (01, 02). -/
def dueSensing (s : State) : List Instr :=
  dueIf (pollDue s) .sensorWindowClose ++ dueIf (decide (s.sens.nextSlotAt ≤ s.now)) .sweepSlotStart ++
    dueFor (fun z => (sensorOf s z).ageDue s.now) .sensorAgeExpiry ++ dueIf (restEndDue s) .restEnd ++
    dueIf (timerDue s) .evaluationTimerExpiry ++ dueIf (passDue s) .earlyPassSpacingEnd

/-- The due events of the dampers (06): steps, then completions. -/
def dueDampers (s : State) : List Instr :=
  dueFor (fun d => s.drive.stepDue s.now d) .damperStep ++
    dueFor (fun d => s.drive.isMove d && s.drive.motionDone d) .moveComplete ++
    dueFor (fun d => !s.drive.isMove d && s.drive.motionDone d) .homeComplete

/-- The due events of the blower (07). -/
def dueBlower (s : State) : List Instr :=
  dueIf (s.blower.rampDue s.now) .blowerRampTick ++ dueIf (s.blower.settledDue s.now) .blowerSettled ++
    dueIf (s.blower.unsettledDue s.now) .blowerUnsettled ++ dueIf (s.blower.timeoutDue s.now) .settleTimeout ++
    dueIf (s.blower.retryDue s.now) .retryPauseEnd ++ dueIf (s.blower.runOnDue s.now) .runOnExpiry ++
    dueIf (coldBlowDue s) .coldBlowTimeout ++ dueIf (atRestDue s) .blowerAtRest ++
    dueIf (reached s.blower.aboveFrom 10000 s.now) .aboveCapTimeExpiry ++ dueIf (belowReliefDue s) .belowReliefTimeExpiry

/-- The due events of the link (08); a window closes with no byte arrived beyond those the frame keeps. -/
def dueLink (s : State) : List Instr :=
  dueIf (collidedFrame s).isSome .linkCollision ++ dueIf (sentCommand s).isSome .linkCommandFrameSent ++ dueIf (closedWindow s).isSome (.responseWindowClose 0) ++
    dueIf (wakeRoundDue s) .wakeRoundStart ++
    dueIf (decide (s.link.nextRound ≤ s.now)) .roundTick ++ dueIf (requestDue s).isSome .linkRequestFrameStart ++
    dueIf (slowDiagDue s).isSome .linkDiagFrameStart ++ dueIf (statAgeDue s) .statAgeLimit ++
    dueIf (diagTimeoutDue s) .diagTimeout

/-- The due events of the sequencer (09). -/
def dueSequencer (s : State) : List Instr :=
  dueIf (minOffExpired s && !s.seq.minOffDone) .minimumOffExpiry ++ dueIf (startFailDue s) .startFailTimeout ++
    dueIf (minimumRunDue s) .minimumRunEnd ++ dueIf (prepTimeoutDue s) .defrostPrepTimeout ++
    dueIf (activeTimeoutDue s) .defrostActiveTimeout ++ dueIf (recoveryDue s) .recoveryTimeExpiry

/-- The due events of the Protection Monitor (10). -/
def dueProtection (s : State) : List Instr :=
  dueIf (freezeDue s) .freezeTimeExpiry ++ dueIf (above60Due s) .above60TimeExpiry ++
    dueIf (supplyGoneDue s) .supplyUnavailableExpiry ++ dueIf (limitStepDue s) .limitStepTime ++
    dueIf (limitRecoveryDue s) .limitRecoveryTime ++
    dueIf (reached s.prot.startFailHold 180000 s.now) (.tripHoldExpiry .startFail) ++
    dueIf (reached s.prot.defrostLongHold 180000 s.now) (.tripHoldExpiry .defrostLong) ++
    dueIf (!s.prot.floatHeld && floatRead true 2000 s) .floatHeld ++
    dueIf (s.prot.floatHeld && floatRead false 60000 s) .floatCleared ++
    dueIf (!s.prot.supplyLow && reached s.prot.lowFrom 2000 s.now) .supplyLowHeld ++
    dueIf (s.prot.supplyLow && reached s.prot.highFrom 10000 s.now) .supplyLowCleared

/-- The due events of the operating states (11). -/
def dueOperating (s : State) : List Instr :=
  dueIf (buttonRead true s) .buttonPress ++ dueIf (buttonRead false s) .buttonRelease ++
    dueIf (buttonHoldDue s) .buttonHoldTime ++ dueIf (testTimeDue s) .testTimeExpiry ++ dueIf (idleDue s) .idleTimeReached ++
    dueIf (noticeDue s) .noticeTimeExpiry

/-- Every timer event that is due, block by block in one fixed order (DESIGN CHOICE, log 9): so the hold time of DEFROST_LONG ends before a
recovery time that began with it, and that recovery does not end in TRIPPED (10 R156, 09 R148). -/
def dueEvents (s : State) : List Instr :=
  duePort s ++ dueProtection s ++ dueLink s ++ dueDampers s ++ dueBlower s ++ dueSequencer s ++ dueSensing s ++ dueOperating s

/-- The conversions of a millisecond: once a second, and ten times a second the mains voltage (01 R17, 07 R119, 10 R153, R154,
R157; log 8). A second and a tenth of a second are those of the running clock (DESIGN CHOICE, log 52). -/
def conversionsAt (t : Nat) : List Instr :=
  (if t % 1000 = 0 then
    [.returnAirConversion (Config.returnAirReading t), .indoorCoilConversion (Config.indoorCoilReading t),
      .supplyAirConversion (Config.supplyAirReading t), .ductPressureConversion (Config.ductPressureReading t)]
  else []) ++
    (if t % 100 = 0 then [.mainsConversion (Config.mainsReading t)] else [])

/-- One millisecond passes. -/
def passTime (s : State) : State :=
  let t := s.now + 1
  { s with now := t
           inp := { s.inp with windingOpen := Eight.ofFn fun d => Config.windingOpen t d.val }
           link := { (if Config.linkLow t then s.link.heardLow t else s.link) with readBack := Config.readBack t }
           pending := s.pending ++ conversionsAt t }

/-- What an empty queue leads to. -/
def tick (s : State) : State :=
  match dueEvents s with
  | [] => passTime s
  | due => { s with pending := s.pending ++ due }

end Sys2Proof.Machine
end

