-- ==== Sys2Proof/Machine/Dispatch.lean ====
section
/-! DEFINITION. The meaning of every command, arm by arm. -/

namespace Sys2Proof.Machine

-- one arm for each row of spec/opcode_table.json
def exec (i : Instr) (s : State) : Host.Outcome State Fault Refusal :=
  match i with
  | .powerOnReset => Sys2Proof.Machine.execPowerOnReset s
  | .hostRestart => Sys2Proof.Machine.execHostRestart s
  | .hostFrameReceived bytes => Sys2Proof.Machine.execHostFrameReceived bytes s
  | .hostFrameBadSum => Sys2Proof.Machine.execHostFrameBadSum s
  | .hostFrameAbandon => Sys2Proof.Machine.execHostFrameAbandon s
  | .unknownKind kind => Sys2Proof.Machine.execUnknownKind kind s
  | .getInfo => Sys2Proof.Machine.execGetInfo s
  | .getSystem page => Sys2Proof.Machine.execGetSystem page s
  | .getZone zone => Sys2Proof.Machine.execGetZone zone s
  | .getPlan selector => Sys2Proof.Machine.execGetPlan selector s
  | .getQueue => Sys2Proof.Machine.execGetQueue s
  | .setSystem request policy frost => Sys2Proof.Machine.execSetSystem request policy frost s
  | .setZone zone cool heat dry park => Sys2Proof.Machine.execSetZone zone cool heat dry park s
  | .configSystem settings table => Sys2Proof.Machine.execConfigSystem settings table s
  | .configZoneConfigure zone da ra rank address => Sys2Proof.Machine.execConfigZoneConfigure zone da ra rank address s
  | .configZoneUnconfigure zone => Sys2Proof.Machine.execConfigZoneUnconfigure zone s
  | .clearZoneFault zone => Sys2Proof.Machine.execClearZoneFault zone s
  | .clearLockout => Sys2Proof.Machine.execClearLockout s
  | .saveConfig => Sys2Proof.Machine.execSaveConfig s
  | .setReports mask => Sys2Proof.Machine.execSetReports mask s
  | .outdoorDiag direction kind length data => Sys2Proof.Machine.execOutdoorDiag direction kind length data s
  | .restart => Sys2Proof.Machine.execRestart s
  | .hostFrameSent => Sys2Proof.Machine.execHostFrameSent s
  | .fullWriteEnd => Sys2Proof.Machine.execFullWriteEnd s
  | .autoSaveEnd => Sys2Proof.Machine.execAutoSaveEnd s
  | .sweepSlotStart => Sys2Proof.Machine.execSweepSlotStart s
  | .sensorNoAcknowledge => Sys2Proof.Machine.execSensorNoAcknowledge s
  | .sensorReply acknowledge reply => Sys2Proof.Machine.execSensorReply acknowledge reply s
  | .sensorWindowClose => Sys2Proof.Machine.execSensorWindowClose s
  | .sensorAgeExpiry zone => Sys2Proof.Machine.execSensorAgeExpiry zone s
  | .returnAirConversion reading => Sys2Proof.Machine.execReturnAirConversion reading s
  | .evaluationTimerExpiry => Sys2Proof.Machine.execEvaluationTimerExpiry s
  | .earlyPassSpacingEnd => Sys2Proof.Machine.execEarlyPassSpacingEnd s
  | .restEnd => Sys2Proof.Machine.execRestEnd s
  | .damperStep damper => Sys2Proof.Machine.execDamperStep damper s
  | .moveComplete damper => Sys2Proof.Machine.execMoveComplete damper s
  | .homeComplete damper => Sys2Proof.Machine.execHomeComplete damper s
  | .damperStall damper => Sys2Proof.Machine.execDamperStall damper s
  | .blowerRampTick => Sys2Proof.Machine.execBlowerRampTick s
  | .blowerSettled => Sys2Proof.Machine.execBlowerSettled s
  | .blowerUnsettled => Sys2Proof.Machine.execBlowerUnsettled s
  | .settleTimeout => Sys2Proof.Machine.execSettleTimeout s
  | .retryPauseEnd => Sys2Proof.Machine.execRetryPauseEnd s
  | .runOnExpiry => Sys2Proof.Machine.execRunOnExpiry s
  | .coldBlowTimeout => Sys2Proof.Machine.execColdBlowTimeout s
  | .blowerAtRest => Sys2Proof.Machine.execBlowerAtRest s
  | .ductPressureConversion reading => Sys2Proof.Machine.execDuctPressureConversion reading s
  | .aboveCapTimeExpiry => Sys2Proof.Machine.execAboveCapTimeExpiry s
  | .belowReliefTimeExpiry => Sys2Proof.Machine.execBelowReliefTimeExpiry s
  | .roundTick => Sys2Proof.Machine.execRoundTick s
  | .linkRequestFrameStart => Sys2Proof.Machine.execLinkRequestFrameStart s
  | .linkDiagFrameStart => Sys2Proof.Machine.execLinkDiagFrameStart s
  | .linkCollision => Sys2Proof.Machine.execLinkCollision s
  | .linkCommandFrameSent => Sys2Proof.Machine.execLinkCommandFrameSent s
  | .statResponse bytes => Sys2Proof.Machine.execStatResponse bytes s
  | .infoResponse bytes => Sys2Proof.Machine.execInfoResponse bytes s
  | .diagReadResponse bytes => Sys2Proof.Machine.execDiagReadResponse bytes s
  | .linkByteError samples => Sys2Proof.Machine.execLinkByteError samples s
  | .responseWindowClose arrived => Sys2Proof.Machine.execResponseWindowClose arrived s
  | .statAgeLimit => Sys2Proof.Machine.execStatAgeLimit s
  | .diagTimeout => Sys2Proof.Machine.execDiagTimeout s
  | .wakeRoundStart => Sys2Proof.Machine.execWakeRoundStart s
  | .minimumOffExpiry => Sys2Proof.Machine.execMinimumOffExpiry s
  | .startFailTimeout => Sys2Proof.Machine.execStartFailTimeout s
  | .minimumRunEnd => Sys2Proof.Machine.execMinimumRunEnd s
  | .defrostPrepTimeout => Sys2Proof.Machine.execDefrostPrepTimeout s
  | .defrostActiveTimeout => Sys2Proof.Machine.execDefrostActiveTimeout s
  | .recoveryTimeExpiry => Sys2Proof.Machine.execRecoveryTimeExpiry s
  | .indoorCoilConversion reading => Sys2Proof.Machine.execIndoorCoilConversion reading s
  | .freezeTimeExpiry => Sys2Proof.Machine.execFreezeTimeExpiry s
  | .supplyAirConversion reading => Sys2Proof.Machine.execSupplyAirConversion reading s
  | .above60TimeExpiry => Sys2Proof.Machine.execAbove60TimeExpiry s
  | .supplyUnavailableExpiry => Sys2Proof.Machine.execSupplyUnavailableExpiry s
  | .limitStepTime => Sys2Proof.Machine.execLimitStepTime s
  | .limitRecoveryTime => Sys2Proof.Machine.execLimitRecoveryTime s
  | .tripHoldExpiry kind => Sys2Proof.Machine.execTripHoldExpiry kind s
  | .floatHeld => Sys2Proof.Machine.execFloatHeld s
  | .floatCleared => Sys2Proof.Machine.execFloatCleared s
  | .mainsConversion reading => Sys2Proof.Machine.execMainsConversion reading s
  | .supplyLowHeld => Sys2Proof.Machine.execSupplyLowHeld s
  | .supplyLowCleared => Sys2Proof.Machine.execSupplyLowCleared s
  | .idleTimeReached => Sys2Proof.Machine.execIdleTimeReached s
  | .noticeTimeExpiry => Sys2Proof.Machine.execNoticeTimeExpiry s
  | .buttonPress => Sys2Proof.Machine.execButtonPress s
  | .buttonRelease => Sys2Proof.Machine.execButtonRelease s
  | .buttonHoldTime => Sys2Proof.Machine.execButtonHoldTime s
  | .testTimeExpiry => Sys2Proof.Machine.execTestTimeExpiry s
  | .floatInputChange closed => Sys2Proof.Machine.execFloatInputChange closed s
  | .tachometerPulse rpm => Sys2Proof.Machine.execTachometerPulse rpm s
  | .buttonInputChange closed => Sys2Proof.Machine.execButtonInputChange closed s

end Sys2Proof.Machine
end

