-- ==== Sys2Proof/Safety.lean ====
section
/-! DEFINITION. What the claims call a good configuration, a safe air path and a calm state, in terms of State. -/

namespace Sys2Proof.Machine

/-! ### Values in their ranges -/

/-- Setpoints in their ranges and 1.0 °C apart (01 R7, R8). -/
def SetpointsGood (p : Setpoints) : Prop :=
  160 ≤ p.cool ∧ p.cool ≤ 320 ∧ 100 ≤ p.heat ∧ p.heat ≤ 300 ∧ p.heat + 10 ≤ p.cool ∧
    ∀ t, p.dry = some t → 400 ≤ t ∧ t ≤ 700

/-- Configuration values of a zone in their ranges (01 R1, R5). -/
def ZoneConfigGood (c : ZoneConfig) : Prop :=
  20 ≤ c.da ∧ c.da ≤ 600 ∧ c.ra ≤ c.da ∧ 1 ≤ c.rank ∧ c.rank ≤ 8 ∧ ∀ a, c.address = some a → 1 ≤ a ∧ a ≤ 31

/-- A stored image whose values lie in their ranges. -/
def ImageGood (i : Image) : Prop :=
  settingsGood i.settings = true ∧
    ∀ z, ZoneConfigGood (i.zones.get z).config ∧ SetpointsGood (i.zones.get z).setpoints

/-- The image a write is putting into the store, if one is. -/
def Writer.image : Writer → Option Image
  | .idle => none
  | .auto i _ _ => some i
  | .full i _ => some i

/-- Every configuration value in force, stored or being stored lies in its range (01 R5, R7, R8; 12 R175). -/
def ConfigurationGood (s : State) : Prop :=
  settingsGood s.cfg = true ∧ (∀ z, ZoneConfigGood (s.zcfg.get z) ∧ SetpointsGood (s.setp.get z)) ∧
    (∀ i, s.store.image = some i → ImageGood i) ∧ ∀ i, s.store.writer.image = some i → ImageGood i

/-- Every trip history holds at most three entries, and three only while LOCKOUT is set (10 R158). -/
def HistoriesGood (s : State) : Prop :=
  ∀ k, (s.prot.hist.get k).length ≤ 3 ∧ ((s.prot.hist.get k).length = 3 → s.prot.lockout = true)

/-- The protective limit is one of 0, 10, ..., 100 (10 R155). -/
def LimitGood (s : State) : Prop := s.prot.limit ≤ 100 ∧ s.prot.limit % 10 = 0

/-! ### Times that count while a condition holds -/

/-- The compressor runs under COOL, DRY or TEST (10 R153). -/
def FreezeWatched (s : State) : Prop :=
  compressorRunning s = true ∧ ∃ r, s.seq.release = some r ∧ (r.mode = .cool ∨ r.mode = .dry ∨ r.mode = .test)

/-- The compressor runs under HEAT (10 R154). -/
def SupplyWatched (s : State) : Prop := compressorRunning s = true ∧ ∃ r, s.seq.release = some r ∧ r.mode = .heat

/-- The idle condition (11 R164). -/
def Idle (s : State) : Prop := (s.op.state = .off ∨ s.op.state = .on) ∧ s.arb.mode = .idle

/-- The last status record meets the resting ambient gate (11 R164). -/
def MeetsGate (s : State) : Prop :=
  ∀ g, s.cfg.ambientGate = some g → ∃ r x, s.link.lastStatus = some r ∧ r.ambient = some x ∧ g ≤ x

/-- The blower runs settled above the pressure cap (07 R119). -/
def AboveCap (s : State) : Prop := s.blower.state = .run ∧ ∃ n, s.blower.pressure = some n ∧ s.cfg.pressureCap < n

/-- The duct pressure is below the relief level (07 R120). -/
def BelowRelief (s : State) : Prop := ∃ n, s.blower.pressure = some n ∧ 10 * n < 8 * s.cfg.pressureCap

/-- The start command waits for RUNNING, and the outdoor unit does not hold the start off (09 R140). -/
def StartAwaited (s : State) : Prop :=
  s.seq.state = .running ∧ s.seq.runStart = none ∧ ∃ r, s.link.lastStatus = some r ∧ r.holdoff = false

/-- Nothing but the wanted capacity decides on a start: the minimum-off time has elapsed, the link is ACTIVE or DEGRADED, the last status
record shows HOLDOFF clear, and neither SUPPLY_LOW nor the coil sensor fault is held (09 R139). -/
def StartFree (s : State) : Prop :=
  s.seq.minOffFrom + 180000 ≤ s.now ∧ s.prot.supplyLow = false ∧ s.prot.coilFault = false ∧
    (s.link.state = .active ∨ s.link.state = .degraded) ∧ ∃ r, s.link.lastStatus = some r ∧ r.holdoff = false

/-- A HOLD that ends finds a damper open, or no goal to return to, so the air-path guard stays out (06 R104, 07 R114). -/
def HoldEndsSafely (s : State) : Prop :=
  s.drive.airPath = true ∨ s.blower.given = 0 ∧ s.blower.goal = 0 ∧ s.blower.carried = none

/-- Every time that counts while a condition holds runs exactly, or at most, while it does: the pressure times (07 R119, R120), the
start-fail time (09 R140), the watches, the step and the recovery of the protective limit (10 R153 to R155), the idle time and the
notice with its conditions (11 R164, R165). -/
structure TimesInStep (s : State) : Prop where
  aboveCap : s.blower.aboveFrom ≠ none ↔ AboveCap s
  belowRelief : s.blower.belowFrom ≠ none ↔ BelowRelief s
  startFail : s.seq.startFailFrom ≠ none ↔ StartAwaited s
  freezeWatch : s.prot.belowZeroFrom ≠ none ∨ s.prot.freezeLim = true → FreezeWatched s
  supplyWatch : s.prot.above60From ≠ none ∨ s.prot.supplyLim = true → SupplyWatched s
  limitStep : s.prot.stepFrom ≠ none ↔ s.prot.freezeLim = true ∨ s.prot.supplyLim = true
  limitRecovery : s.prot.recoverFrom ≠ none ↔ s.prot.freezeLim = false ∧ s.prot.supplyLim = false
  idle : s.op.idleFrom ≠ none ↔ Idle s
  idleReached : s.op.idleDone = true → Idle s
  noticeTime : s.op.noticeFrom ≠ none ↔ s.op.notice = true
  notice : s.op.notice = true →
    Idle s ∧ s.seq.state = .stopped ∧ s.link.state = .active ∧ s.arb.deferral = false ∧ MeetsGate s

/-! ### The Damper Drive (06 R93 to R95) -/

/-- The queue entries of a damper and the motion it makes in a slot agree with its motion state: one entry in QUEUED, one slot in
MOVING and HOMING, neither in IDLE and FAULT (06 R93, R95). -/
def MotionAgrees (v : Drive) (d : ZoneId) : Prop :=
  let entries := (v.queue.filter fun e => decide (e.damper = d)).map QueueEntry.what
  let slots := ((v.slot1.toList ++ v.slot2.toList).filter fun x => decide (x.damper = d)).map Slot.what
  match (v.dampers.get d).motion with
  | .idle => entries = [] ∧ slots = []
  | .fault => entries = [] ∧ slots = []
  | .queued => entries.length = 1 ∧ slots = []
  | .moving => entries = [] ∧ ∃ u, slots = [.move u]
  | .homing => entries = [] ∧ slots = [.home]

/-- Every known position and every target lies in 0..200, motions agree with the queue and the slots, and the damper of a zone in
FAULT is in FAULT (06 R93 to R95, R103; 03 R55). -/
structure DriveAgrees (s : State) : Prop where
  position : ∀ (d : ZoneId) (n : Nat), (damperOf s d).position = some n → n ≤ 200
  followOn : ∀ (d : ZoneId) (n : Nat), (damperOf s d).followOn = .target n → n ≤ 200
  entry : ∀ (e : QueueEntry) (n : Nat), e ∈ s.drive.queue → e.what = .move n → n ≤ 200
  slot : ∀ (x : Slot) (n : Nat), s.drive.slot1 = some x ∨ s.drive.slot2 = some x → x.what = .move n → n ≤ 200
  motion : ∀ d : ZoneId, MotionAgrees s.drive d
  fault : ∀ d : ZoneId, stateOf s d = .fault → (damperOf s d).motion = .fault
  plan : ∀ (p : Plan) (z : ZoneId),
    p = s.co.applied ∨ s.co.incoming = some p ∨ s.co.held = some p → (p.zones.get z).opening ≤ 200

/-! ### The air path (06 R104) -/

/-- A homing damper has no known position (06 R99). -/
def HomesUnknown (v : Drive) : Prop :=
  ∀ x, v.slot1 = some x ∨ v.slot2 = some x → x.what = .home → (v.dampers.get x.damper).position = none

/-- The blower has a goal above 0 only with an air path, and while it blows it carries an airflow only with a goal (06 R104,
07 R117). -/
def AirSafeOf (v : Drive) (b : Blower) : Prop :=
  (b.goal ≠ 0 → v.airPath = true) ∧
    (b.state = .ramp ∨ b.state = .run → ∀ q, b.carried = some q → q ≠ 0 → b.goal ≠ 0) ∧ HomesUnknown v

/-- The air path is safe in a state. -/
def AirSafe (s : State) : Prop := AirSafeOf s.drive s.blower

/-! ### Blower goals (07 R109 to R113) -/

/-- Blower `b` becomes `c` by a goal put in force: speed goal and expected speed by the table, ramp, settle condition and settle
timeout begun anew for it, the band judged by the new expected speed. Nothing else of the record changes but the pressure times, which
the end of the command renews. -/
def GoalPut (now : Nat) (table : List BlowerPoint) (q : Nat) (b c : Blower) : Prop :=
  let measured := if b.lastPulse + 1000 ≤ now then 0 else b.measured
  c.goal = q ∧ (c.speedGoal, c.expected) = tableOfGoal table q ∧
    c.rampFrom = (if b.demand = b.speedGoal then now else b.rampFrom) ∧
    c.goalSince = (if b.demand = c.speedGoal then some now else none) ∧
    c.settleFrom =
      (if b.demand = c.speedGoal ∧ b.retryFrom = none ∧ b.state = .ramp then
        some (if c.speedGoal = b.speedGoal then b.settleFrom.getD now else now)
      else none) ∧
    (c.inBand = true ↔ 10 * measured ≤ 11 * c.expected ∧ 9 * c.expected ≤ 10 * measured) ∧
    c.bandFrom = (if c.inBand = b.bandNow now then b.bandSince now else now) ∧
    { c with
      goal := b.goal, speedGoal := b.speedGoal, expected := b.expected, rampFrom := b.rampFrom, goalSince := b.goalSince
      settleFrom := b.settleFrom, inBand := b.inBand, bandFrom := b.bandFrom, aboveFrom := b.aboveFrom
      belowFrom := b.belowFrom } = b

/-- A blower whose retry pause, if one is running, has ended (07 R113). -/
def unpaused (now : Nat) (b : Blower) : Blower :=
  { b with retryFrom := none, rampFrom := if b.retryFrom = none then b.rampFrom else now }

/-- Blower `b` becomes `c` by a ramp toward a goal: in RAMP, nothing carried, no run-on; a retry pause goes on (07 R110, R113). -/
def RampsTo (now : Nat) (table : List BlowerPoint) (q : Nat) (b c : Blower) : Prop :=
  GoalPut now table q { b with state := .ramp, carried := none, runOnUntil := none } c

/-- Blower `b` becomes `c` by OFF: nothing carried, no run-on, no retry pause, goal 0, the demand to ramp to 0 (07 R110, R118). -/
def TurnsOff (now : Nat) (table : List BlowerPoint) (b c : Blower) : Prop :=
  GoalPut now table 0 { unpaused now b with state := .off, carried := none, runOnUntil := none } c

/-- Blower `b` becomes `c` by HOLD: the given goal kept, nothing carried, no run-on, no retry pause, goal 0 (07 R114). -/
def Holds (now : Nat) (table : List BlowerPoint) (b c : Blower) : Prop :=
  GoalPut now table 0 { unpaused now b with state := .hold, carried := none, runOnUntil := none } c

/-! ### Plans (03) -/

/-- A plan view whose values lie in the ranges the zone records and the settings keep. -/
def PlanViewGood (v : PlanView) : Prop :=
  100 ≤ v.qsysMin ∧ v.qsysMin ≤ v.qhi ∧ 300 ≤ v.qrated ∧
    ∀ z, 20 ≤ (v.zones.get z).da ∧ (v.zones.get z).ra ≤ (v.zones.get z).da ∧ (v.zones.get z).d ≤ 100

/-! ### Fields of replies (13 Tables 13.3 to 13.6) -/

/-- A body whose first byte stands at offset `base` of its reply carries some bytes at an offset of the reply. -/
def Carries (base : Nat) (body : List Byte) (offset : Nat) (bytes : List Byte) : Prop :=
  base ≤ offset ∧ (body.drop (offset - base)).take bytes.length = bytes

/-! ### States with nothing to follow -/

/-- A host write that changes something is no wake event here: the state is not RESTING, or the request is OFF (11 R166). -/
def Awake (s : State) : Prop := s.op.state ≠ .resting ∨ s.op.request = .off

/-- No block but the Compressor Sequencer and the Damper Drive has anything to do at this event: no changeover, no service test, no
STARTUP, no wake's round due, and no pass due at the end of the command (logs 9, 10). -/
def Settled (s : State) : Prop :=
  s.todo = Todo.clear ∧ s.co.phase = .applied ∧ s.co.incoming = none ∧ s.co.held = none ∧
    s.op.state ≠ .startup ∧ s.op.testPhase = .idle ∧ wakeRoundDue s = false ∧ ∃ p, s.eval.lastPass = some p ∧ s.now < p + 5000

/-- No other block has anything to do at this event: beside `Settled`, no move waits for a slot and no start is wanted. -/
def Calm (s : State) : Prop := Settled s ∧ s.drive.queue = [] ∧ s.seq.state ≠ .waitStart

/-- A command that takes an evaluation pass: at the timer's 30 s, or 5 s after the last pass with an early-pass request pending, or for
the first pass (02 R21, R22). No test phase is in progress, nothing is left to follow, no winding is open and no zone has unconfigure
pending. -/
def PassTaken (s : State) (c : Instr) : Prop :=
  s.op.state ≠ .startup ∧ s.op.testPhase = .idle ∧ s.todo = Todo.clear ∧
    (∀ z : ZoneId, s.inp.windingOpen.get z = false ∧ (s.zst.get z).unconf = false) ∧
    (c = .evaluationTimerExpiry ∧ (∃ t0, s.eval.timerFrom = some t0 ∧ t0 + 30000 ≤ s.now) ∨
      c = .earlyPassSpacingEnd ∧
        (s.eval.lastPass = none ∨ s.eval.early = true ∧ ∃ t0, s.eval.lastPass = some t0 ∧ t0 + 5000 ≤ s.now))

/-- The state of a zone once its park request has been applied (01 R3). -/
def parkedBy (park : Bool) (st : ZoneState) : ZoneState :=
  if st = .active ∧ park = true then .parked else if st = .parked ∧ park = false then .active else st

/-- The plan that a pass builds from a state: from the calls, the relief, the mode and the park states of that pass (02 R20). -/
def planOfPass (s : State) : Plan :=
  let formed := { s with work := Eight.ofFn (stepOne s) }
  buildPlan (planView { s with
    work := Eight.ofFn fun z => { stepOne s z with withdrawn := stepTwo formed (bandSideOf s.arb) z }
    zst := Eight.ofFn fun z => ⟨parkedBy (s.setp.get z).park (stateOf s z), false⟩
    arb := { s.arb with mode := (s.arb.decideMode (sideView formed)).mode } })

/-- A state without the times and marks that are renewed at the end of every command while their conditions hold (07 R119, R120;
09 R140; 10 R153 to R155; 11 R164, R165). -/
def State.timeless (s : State) : State :=
  { s with
    blower := { s.blower with aboveFrom := none, belowFrom := none }
    seq := { s.seq with startFailMs := 0, startFailFrom := none }
    prot :=
      { s.prot with
        belowZeroFrom := none, above60From := none, freezeLim := false, supplyLim := false, stepFrom := none
        recoverFrom := none }
    op := { s.op with idleFrom := none, idleDone := false, notice := false, noticeFrom := none } }

/-- The port has no request in service, no frame under way and nothing to send (12 R171, R172). -/
def PortIdle (s : State) : Prop :=
  s.port.service = none ∧ s.port.tx = none ∧ s.port.reply = none ∧ s.port.reports = []

/-- A state with the reply of a request under way: the request in service, its frame in the transmitter from SYNC on, the
overrun mark sent and cleared (12 R171, R172; 13 R181). -/
def answered (s : State) (r : Request) (status : Status) (body : List Byte) : State :=
  let frame := hostFrame (r.kind ||| 0x80) (byte status.code :: flagByte s.port.overrun :: body)
  { s with port :=
      { s.port with
        service := some ⟨r, .replying⟩, overrun := false, lastSent := .reply
        tx := some ⟨frame, true, s.now + hostFrameMs frame.length⟩ } }

/-- The request that a host command offers to the port (12 Table 12.2); UNKNOWN_KIND only for a KIND that is none. -/
def requestOfCommand : Instr → Option Request
  | .unknownKind kind => if within kind.toNat 1 15 then none else some (.unknownKind kind)
  | .getInfo => some .getInfo
  | .getSystem page => some (.getSystem page)
  | .getZone zone => some (.getZone zone)
  | .getPlan selector => some (.getPlan selector)
  | .getQueue => some .getQueue
  | .setSystem request policy frost => some (.setSystem request policy frost)
  | .setZone zone cool heat dry park => some (.setZone zone cool heat dry park)
  | .configSystem settings table => some (.configSystem settings table)
  | .configZoneConfigure zone da ra rank address => some (.configure zone da ra rank address)
  | .configZoneUnconfigure zone => some (.unconfigure zone)
  | .clearZoneFault zone => some (.clearZoneFault zone)
  | .clearLockout => some .clearLockout
  | .saveConfig => some .saveConfig
  | .setReports mask => some (.setReports mask)
  | .outdoorDiag direction kind length data => some (.outdoorDiag direction kind length data)
  | .restart => some .restart
  | _ => none

/-- The payload of a request (13 Table 13.2). -/
def Request.payload : Request → List Byte
  | .unknownKind _ | .badLength _ | .getInfo | .getQueue | .clearLockout | .saveConfig | .restart => []
  | .getSystem page => page.toList
  | .getZone zone | .clearZoneFault zone => [zone]
  | .getPlan selector => selector.toList
  | .setSystem request policy frost => [request, policy, frost]
  | .setZone zone cool heat dry park => [zone] ++ word cool.toNat ++ word heat.toNat ++ word dry.toNat ++ [park]
  | .configSystem f table =>
    word f.qrated.toNat ++ word f.qmax.toNat ++ word f.qsysMin.toNat ++
      [f.minHold, f.releaseTime, f.restTime, f.maxWait, f.pressureCap, f.restorePolicy] ++ word f.ambientGate.toNat ++
      [f.supplyLow, f.breakLength, f.buttonHold] ++
      ((table.getD []).map fun p => word p.airflow.toNat ++ [p.speed] ++ word p.rpm.toNat).flatten
  | .configure zone da ra rank address => [zone, 0] ++ word da.toNat ++ word ra.toNat ++ [rank, address]
  | .unconfigure zone => [zone, 1]
  | .badAction zone => [zone, 2]
  | .setReports mask => word mask.toNat
  | .outdoorDiag direction kind length data => [direction, kind, length] ++ data

/-- The refusals of the host's requests: the first failing check decides the status (12 R173 to R175, Table 12.2; 01 R5; 13 R181).
That NOT_SUPPORTED comes before every BAD_VALUE of SET_SYSTEM is log 19; that BAD_VALUE comes before the data count of OUTDOOR_DIAG,
for a read too, is log 20; that H'7FFE is a plain value of a mask or of DA is log 39. -/
inductive RefusedAs (s : State) : Instr → Status → Prop where
  | kind (k : Byte) : k = 0 ∨ 15 < k.toNat → RefusedAs s (.unknownKind k) .unknownKind
  | page (p : Byte) : 2 < p.toNat → RefusedAs s (.getSystem (some p)) .badValue
  | selector (p : Byte) : 2 < p.toNat → RefusedAs s (.getPlan (some p)) .badValue
  | getZone (z : Byte) : 7 < z.toNat → RefusedAs s (.getZone z) .badZone
  | setZone (z : Byte) (c h d : Word) (p : Byte) : 7 < z.toNat → RefusedAs s (.setZone z c h d p) .badZone
  | configureZone (z : Byte) (da ra : Word) (rank a : Byte) :
    7 < z.toNat → RefusedAs s (.configZoneConfigure z da ra rank a) .badZone
  | unconfigureZone (z : Byte) : 7 < z.toNat → RefusedAs s (.configZoneUnconfigure z) .badZone
  | clearFault (z : Byte) : 7 < z.toNat → RefusedAs s (.clearZoneFault z) .badZone
  | configureValue (z : Byte) (da ra : Word) (rank a : Byte) :
    z.toNat < 8 → da.toNat < 20 ∨ 600 < da.toNat ∨ da.toNat < ra.toNat ∨ rank = 0 ∨ 8 < rank.toNat ∨ 31 < a.toNat →
      RefusedAs s (.configZoneConfigure z da ra rank a) .badValue
  | configureAddress (z : Byte) (da ra : Word) (rank a : Byte) (other : ZoneId) :
    z.toNat < 8 → 20 ≤ da.toNat → da.toNat ≤ 600 → ra.toNat ≤ da.toNat → rank ≠ 0 → rank.toNat ≤ 8 → a ≠ 0 →
      a.toNat ≤ 31 → other.val ≠ z.toNat → stateOf s other ≠ .unused → (s.zcfg.get other).address = some a.toNat →
      RefusedAs s (.configZoneConfigure z da ra rank a) .addressInUse
  | notSupported (request frost : Byte) :
    s.eval.hpCapable = false → RefusedAs s (.setSystem request 2 frost) .notSupported
  | systemValue (request policy frost : Byte) :
    policy ≠ 2 →
      (request ≠ 0xFE ∧ 1 < request.toNat) ∨ (policy ≠ 0xFE ∧ 4 < policy.toNat) ∨ (frost ≠ 0xFE ∧ 1 < frost.toNat) →
      RefusedAs s (.setSystem request policy frost) .badValue
  | mask (m : Word) : 1024 ≤ m.toNat → RefusedAs s (.setReports m) .badValue
  | diagValue (direction kind length : Byte) (data : List Byte) :
    1 < direction.toNat ∨ kind.toNat < 0xE0 ∨ 0xEF < kind.toNat ∨ 8 < length.toNat →
      RefusedAs s (.outdoorDiag direction kind length data) .badValue
  | diagBusy (direction kind length : Byte) (data : List Byte) :
    direction.toNat ≤ 1 → 0xE0 ≤ kind.toNat → kind.toNat ≤ 0xEF → length.toNat ≤ 8 →
      data.length = length.toNat → s.link.diag ≠ none →
      RefusedAs s (.outdoorDiag direction kind length data) .busy
  | diagLength (direction kind length : Byte) (data : List Byte) :
    direction.toNat ≤ 1 → 0xE0 ≤ kind.toNat → kind.toNat ≤ 0xEF → length.toNat ≤ 8 → data.length ≠ length.toNat →
      RefusedAs s (.outdoorDiag direction kind length data) .badLength
  | configSystem (f : SettingFields) (table : Option (List PointFields)) :
    configSystemResult s.cfg f table = none → RefusedAs s (.configSystem f table) .badValue

/-! ### Failing exchanges on the link (08 R123 to R127) and counted trips (10 R158) -/

/-- The link with the exchange of a frame judged: the collision count is 0, the window stands open to its close, and the line was
low now where something of the response was heard (08 R123, R124, R132; log 41). -/
def judgedLink (s : State) (f : LinkFrame) (heard : Bool) : Link :=
  { s.link with
    collisions := 0, windowEnd := f.sentBy + 40, lowAt := if heard then some s.now else s.link.lowAt }

/-- The link with a frame that is being sent abandoned by collision (08 R124). -/
def collidedLink (s : State) : Link := { s.link with collisions := min 5 (s.link.collisions + 1) }

/-- The link after a frame of a kind has failed: a STAT exchange counts to at most 3 outside LOST, and the third in ACTIVE gives
DEGRADED; a diagnostic leaves the slot (08 R124, R127, R130, R134). -/
def failedLink (k : Link) (frame : FrameKind) (kind : FailureKind) : Link :=
  let k := { k with frame := none }
  match frame with
  | .cap => k
  | .diagCommand => { k with diag := none }
  | .diagRead => { k with diag := none, lastFailure := some kind }
  | .info => { k with lastFailure := some kind }
  | .stat =>
    if k.state = .lost then { k with lastFailure := some kind }
    else
      { k with
        lastFailure := some kind
        statFailures := min 3 (k.statFailures + 1)
        state := if k.state = .active ∧ 2 ≤ k.statFailures then .degraded else k.state }

/-- A byte of a frame ends now: the bytes after it take the time from now to the end of the frame (08 R122; log 25). -/
abbrev ByteEnds (s : State) (f : LinkFrame) (n : Nat) : Prop := s.now + 55 * (f.bytes.length - 1 - n) / 48 = f.sentBy

/-- The bytes of a frame that end now have been read back as they were sent (08 R124). -/
def ReadsBack (s : State) (f : LinkFrame) : Prop :=
  ∀ (n : Nat) (b : Byte), f.bytes[n]? = some b → ByteEnds s f n → readBits s.link.readBack = sentBits b

/-- The response window of a frame is open: its header has been sent and read back, and 40 ms have not passed since
(08 R123, R124). -/
def WindowOpen (s : State) (f : LinkFrame) : Prop := f.sentBy ≤ s.now ∧ ReadsBack s f ∧ s.now ≤ f.sentBy + 40

/-- The ways the frame in progress fails: the command, the frame, the kind of failure and the link as the failure finds it
(08 R123, R124, R127, R128). -/
inductive FailingExchange (s : State) : Instr → LinkFrame → FailureKind → Link → Prop where
  | collision (f : LinkFrame) (n : Nat) (b : Byte) :
    f.bytes[n]? = some b → ByteEnds s f n → readBits s.link.readBack ≠ sentBits b →
      FailingExchange s .linkCollision f .collision (collidedLink s)
  | silence (f : LinkFrame) :
    f.kind = .stat ∨ f.kind = .info ∨ f.kind = .diagRead → f.sentBy + 40 ≤ s.now → f.arrived = [] →
      FailingExchange s (.responseWindowClose 0) f .noResponse (judgedLink s f false)
  | short (f : LinkFrame) (n : Nat) :
    f.kind = .stat ∨ f.kind = .info ∨ f.kind = .diagRead → f.sentBy + 40 ≤ s.now → f.arrived ≠ [] ∨ n ≠ 0 →
      FailingExchange s (.responseWindowClose n) f .shortLength (judgedLink s f (decide (n ≠ 0)))
  | byte (f : LinkFrame) (samples : BitVec 33) (kind : FailureKind) :
    f.kind = .stat ∨ f.kind = .info ∨ f.kind = .diagRead → WindowOpen s f →
      byteFailure samples = some kind → FailingExchange s (.linkByteError samples) f kind (judgedLink s f true)
  | stat (f : LinkFrame) (bytes : List Byte) :
    f.kind = .stat → WindowOpen s f → 11 ≤ (f.arrived ++ bytes).length →
      (goodData 0x52 10 (f.arrived ++ bytes)).bind statOf = none →
      FailingExchange s (.statResponse bytes) f .check (judgedLink s f (decide (bytes ≠ [])))
  | info (f : LinkFrame) (bytes : List Byte) :
    f.kind = .info → WindowOpen s f → 4 ≤ (f.arrived ++ bytes).length →
      (goodData 0x54 3 (f.arrived ++ bytes)).bind infoOf = none →
      FailingExchange s (.infoResponse bytes) f .check (judgedLink s f (decide (bytes ≠ [])))
  | diag (f : LinkFrame) (bytes : List Byte) (d : Diagnostic) :
    f.kind = .diagRead → WindowOpen s f → s.link.diag = some d →
      d.length + 1 ≤ (f.arrived ++ bytes).length → goodData d.kind d.length (f.arrived ++ bytes) = none →
      FailingExchange s (.diagReadResponse bytes) f .check (judgedLink s f (decide (bytes ≠ [])))

/-- The commands that record a counted trip, and when (07 R113; 09 R140, R146, R147; 10 R152 to R155). -/
inductive TripsBy (s : State) : Instr → TripKind → Prop where
  | startFail :
    s.seq.state = .running → s.seq.runStart = none →
      60000 ≤ s.seq.startFailMs + (match s.seq.startFailFrom with | some t => s.now - t | none => 0) →
      TripsBy s .startFailTimeout .startFail
  | prep (t : Nat) :
    s.seq.state = .defrostPrep → s.seq.grantSent = true → s.seq.defrostFrom = some t → t + 60000 ≤ s.now →
      TripsBy s .defrostPrepTimeout .defrostLong
  | active (t : Nat) :
    s.seq.state = .defrostActive → s.seq.defrostFrom = some t → t + 900000 ≤ s.now →
      TripsBy s .defrostActiveTimeout .defrostLong
  | blower (t : Nat) :
    s.blower.state = .ramp → s.blower.retryFrom = none → s.blower.settleFrom = some t → t + 30000 ≤ s.now →
      TripsBy s .settleTimeout .blower
  | float :
    s.prot.floatHeld = false → s.inp.floatClosed = true → s.inp.floatSince + 2000 ≤ s.now → TripsBy s .floatHeld .float
  | coil (raw : Int) : FreezeWatched s → -300 ≤ raw → raw < -30 → TripsBy s (.indoorCoilConversion raw) .coilFreeze
  | freezeFirst (t : Nat) :
    FreezeWatched s → s.prot.limit = 10 → s.prot.freezeLim = false → s.prot.belowZeroFrom = some t → t + 60000 ≤ s.now →
      TripsBy s .freezeTimeExpiry .coilFreeze
  | freezeStep (t : Nat) :
    FreezeWatched s → s.prot.limit = 10 → s.prot.freezeLim = true → s.prot.stepFrom = some t → t + 60000 ≤ s.now →
      TripsBy s .limitStepTime .coilFreeze
  | supply (raw : Int) :
    SupplyWatched s → 700 < raw → raw ≤ 900 →
      TripsBy s (.supplyAirConversion raw) .supplyHot

/-! ### Causes of an immediate stop (09 R142, R149) and writes that wake (11 R166) -/

/-- The commands that are a cause of immediate stop, and when: the request becomes OFF, SUPPLY_LOW arises, the limit falls below 20
(09 R142, R149). -/
inductive ImmediateStop (s : State) : Instr → Prop where
  | off :
    s.op.request = .on → s.op.state = .on → s.port.service = none →
      ImmediateStop s (.setSystem (byte OpRequest.off.code) 0xFE 0xFE)
  | supplyLow (t : Nat) :
    s.prot.supplyLow = false → s.prot.lowFrom = some t → t + 2000 ≤ s.now → ImmediateStop s .supplyLowHeld
  | limit (t : Nat) :
    s.prot.limit = 20 → s.prot.freezeLim = true ∨ s.prot.supplyLim = true → s.prot.stepFrom = some t →
      t + 60000 ≤ s.now → ImmediateStop s .limitStepTime

/-- The host's configuration writes that wake under request ON, as accepted: SET_ZONE, CONFIG_SYSTEM, CONFIG_ZONE, and a SET_SYSTEM
that changes the policy or frost protection (11 Table 11.2). -/
inductive WakingWrite (s : State) : Instr → Prop where
  | setZone (z : ZoneId) (cool heat dry : Word) (park : Byte) : WakingWrite s (.setZone (byte z.val) cool heat dry park)
  | configSystem (f : SettingFields) (table : Option (List PointFields)) (c : Settings) :
    configSystemResult s.cfg f table = some c → WakingWrite s (.configSystem f table)
  | configure (z : ZoneId) (da ra : Word) (rank a : Byte) (c : ZoneConfig) :
    zoneConfigOf da ra rank a = some c → addressTaken s z c.address = false →
      WakingWrite s (.configZoneConfigure (byte z.val) da ra rank a)
  | unconfigure (z : ZoneId) :
    stateOf s z ≠ .unused → stateOf s z = .fault ∨ (s.zst.get z).unconf = false →
      WakingWrite s (.configZoneUnconfigure (byte z.val))
  | setSystem (p : Policy) (f : Bool) :
    p ≠ s.op.policy ∨ f ≠ s.op.frost → (p = .heat → s.eval.hpCapable = true) →
      WakingWrite s (.setSystem 0xFE (byte p.code) (flagByte f))

end Sys2Proof.Machine
end

