-- ==== Sys2Proof/WellFormed.lean ====
section
/-! DEFINITION. Commands whose operands could come over their connection. Meanings are total and take any operand; these checks say
which operands the lines can carry. -/

namespace Sys2Proof

/-- Each bit on the Zone Sensing Bus is sampled at least once, in at most so many bits: eight of the acknowledge, and 48 of the six
bytes of a reply (01 R12, 13 R185). -/
def samplesFit (most : Nat) (samples : List (List BusSample)) : Bool :=
  decide (samples.length ≤ most) && samples.all fun bit => !bit.isEmpty

/-- A blower table sent has six points (13 Table 13.2). -/
def tableFits (table : Option (List PointFields)) : Bool :=
  match table with
  | some t => decide (t.length = 6)
  | none => true

/-- A KIND that UNKNOWN_KIND answers lies outside H'01..H'0F (12 R173). -/
def kindUnknown (kind : Byte) : Bool := decide (kind.toNat = 0) || decide (15 < kind.toNat)

/-- A diagnostic's data fill at most the rest of a payload of 63 bytes (12 R170). -/
def dataFits (data : List Byte) : Bool := decide (data.length ≤ 60)

/-- Whether a command's operands could come over its connection. -/
def wellFormed : Instr → Bool
  | .sensorReply acknowledge reply => samplesFit 8 acknowledge && samplesFit 48 reply
  | .unknownKind kind => kindUnknown kind
  | .configSystem _ table => tableFits table
  | .outdoorDiag _ _ _ data => dataFits data
  | .powerOnReset | .hostRestart | .hostFrameReceived _ | .hostFrameBadSum | .hostFrameAbandon | .linkCollision => true
  | .getInfo | .getSystem _ | .getZone _ => true
  | .getPlan _ | .getQueue | .setSystem _ _ _ | .setZone _ _ _ _ _ | .configZoneConfigure _ _ _ _ _ => true
  | .configZoneUnconfigure _ | .clearZoneFault _ | .clearLockout | .saveConfig | .setReports _ | .restart => true
  | .hostFrameSent | .fullWriteEnd | .autoSaveEnd | .sweepSlotStart | .sensorNoAcknowledge => true
  | .sensorWindowClose | .sensorAgeExpiry _ | .returnAirConversion _ | .evaluationTimerExpiry => true
  | .earlyPassSpacingEnd | .restEnd | .damperStep _ | .moveComplete _ | .homeComplete _ | .damperStall _ => true
  | .blowerRampTick | .blowerSettled | .blowerUnsettled | .settleTimeout | .retryPauseEnd | .runOnExpiry => true
  | .coldBlowTimeout | .blowerAtRest | .ductPressureConversion _ | .aboveCapTimeExpiry => true
  | .belowReliefTimeExpiry | .roundTick | .linkRequestFrameStart | .linkDiagFrameStart => true
  | .linkCommandFrameSent | .statResponse _ | .infoResponse _ | .diagReadResponse _ | .linkByteError _ => true
  | .responseWindowClose _ | .statAgeLimit | .diagTimeout | .wakeRoundStart | .minimumOffExpiry => true
  | .startFailTimeout | .minimumRunEnd | .defrostPrepTimeout | .defrostActiveTimeout | .recoveryTimeExpiry => true
  | .indoorCoilConversion _ | .freezeTimeExpiry | .supplyAirConversion _ | .above60TimeExpiry => true
  | .supplyUnavailableExpiry | .limitStepTime | .limitRecoveryTime | .tripHoldExpiry _ | .floatHeld => true
  | .floatCleared | .mainsConversion _ | .supplyLowHeld | .supplyLowCleared | .idleTimeReached => true
  | .noticeTimeExpiry | .buttonPress | .buttonRelease | .buttonHoldTime | .testTimeExpiry => true
  | .floatInputChange _ | .tachometerPulse _ | .buttonInputChange _ => true

end Sys2Proof
end

