-- ==== Sys2Proof/Certificates/Slice0/Obligations.lean ====
section
/-! DEFINITION. The statements for the provers, block by block. -/

open Sys2Proof Sys2Proof.Machine

/-! ### The step, the resets and the invariants -/

/-- A step takes the command at the front of the queue and runs it on the rest (model's choice, log 1) -/
def Obligations.StepRunsFrontCommand : Prop :=
  ∀ (c : Instr) (rest : List Instr) (s : State), s.pending = c :: rest → step s = exec c { s with pending := rest }

/-- On an empty queue the due events join it, else one millisecond passes (model's choice, logs 2, 7, 8, 25, 41) -/
def Obligations.EmptyQueueLetsTimePass : Prop :=
  ∀ s : State, s.pending = [] →
    (dueEvents s ≠ [] → step s = .next { s with pending := dueEvents s }) ∧
    (dueEvents s = [] →
      ∃ t, step s = .next t ∧ t.now = s.now + 1 ∧ t.pending = conversionsAt (s.now + 1) ∧
        (∀ d : ZoneId, t.inp.windingOpen.get d = Config.windingOpen (s.now + 1) d.val) ∧
        t.link.lowAt =
          (if Config.linkLow (s.now + 1) = true ∧ ∀ f, s.link.frame = some f → f.sentBy ≤ s.now + 1 then some (s.now + 1)
          else s.link.lowAt) ∧
        t.link.readBack = Config.readBack (s.now + 1) ∧
        { t with
          now := s.now, pending := [], inp := { t.inp with windingOpen := s.inp.windingOpen }
          link := { t.link with lowAt := s.link.lowAt, readBack := s.link.readBack } } = s)

/-- No command stops the part, none changes the queue, and only power-on reset changes the clock -/
def Obligations.EveryCommandAnswers : Prop :=
  ∀ (c : Instr) (s : State),
    ∃ t, exec c s = .next t ∧ t.pending = s.pending ∧ (c ≠ .powerOnReset → t.now = s.now)

/-- The values State.reset holds, and that the invariants below hold at it -/
def Obligations.StateAfterReset : Prop :=
  let s := State.reset
  s.now = 0 ∧ s.pending = [] ∧ s.cfg = Settings.factory ∧ s.store.image = none ∧ s.store.defaulted = true ∧
    stateOf s 0 = .active ∧ s.setp.get 0 = ⟨240, 200, none, false⟩ ∧ s.zcfg.get 0 = ⟨600, 0, 1, none⟩ ∧
    (∀ z : ZoneId, z ≠ 0 → stateOf s z = .unused) ∧ (∀ z : ZoneId, (damperOf s z).position = none) ∧
    s.drive.queue = [] ∧ s.drive.slot1 = some ⟨0, .home, 0, 0, false⟩ ∧ s.drive.slot2 = none ∧
    s.op.state = .startup ∧ s.op.request = .off ∧ s.op.policy = .auto ∧ s.op.frost = false ∧
    s.op.restartCause = .powerOn ∧ s.arb.mode = .idle ∧ s.arb.lastServed = none ∧
    s.co.applied = Plan.empty ∧ s.co.incoming = none ∧ s.co.held = none ∧ s.co.phase = .applied ∧
    s.blower.state = .off ∧ s.blower.demand = 0 ∧ s.blower.goal = 0 ∧ s.blower.qhi = 1100 ∧
    s.link.state = .start ∧ s.link.info = none ∧ s.link.lastStatus = none ∧ s.link.diag = none ∧
    s.link.lowAt = none ∧ s.seq.state = .stopped ∧ s.seq.release = none ∧ s.seq.minOffFrom = 0 ∧
    s.prot.limit = 100 ∧ s.prot.hist = Histories.empty ∧ s.prot.lockout = false ∧
    s.port.mask = 0x03FF ∧ s.port.reports = [] ∧ s.port.service = none ∧
    exec .powerOnReset s = .next s ∧ ConfigurationGood s ∧ HistoriesGood s ∧ LimitGood s ∧ AirSafe s ∧
    TimesInStep s ∧ DriveAgrees s

/-- Both resets load the image or the factory defaults; HOST_RESTART keeps the clock, the request, the histories and
LOCKOUT -/
def Obligations.ResetsReload : Prop :=
  ∀ s : State,
    let reloaded := fun (image : Option Image) (t : State) =>
      let i := image.getD Image.factory
      t.cfg = i.settings ∧
        (∀ z : ZoneId, t.zcfg.get z = (i.zones.get z).config ∧ t.setp.get z = (i.zones.get z).setpoints) ∧
        t.op.policy = i.policy ∧ t.op.frost = i.frost ∧ t.port.mask = i.mask ∧
        t.store = ⟨image, .idle, false, image.isNone⟩ ∧ t.prot.limit = 100 ∧ t.blower.qhi = i.settings.qmax ∧
        t.blower.capped = false ∧ t.eval.hpCapable = true ∧ t.link.info = none ∧ t.link.lastStatus = none ∧
        t.link.diag = none ∧ t.blower.measured = 0 ∧ t.blower.lastPulse = t.now ∧
        t.port.receiver = .hunting ∧ t.port.service = none ∧ t.port.waiting = none ∧
        t.port.overrun = false ∧ t.port.restartDue = false ∧ t.pending = s.pending
    let image := if s.store.writer = .idle then s.store.image else none
    let i := image.getD Image.factory
    (∃ t, exec .powerOnReset s = .next t ∧ reloaded image t ∧ t.now = 0 ∧
      t.op.request = (match i.settings.restorePolicy with | .resume => i.request | .stayOff => .off) ∧
      t.op.restartCause = .powerOn ∧ t.prot.hist = Histories.empty ∧ t.prot.lockout = false) ∧
    (s.port.restartDue = true →
      ∃ t, exec .hostRestart s = .next t ∧ reloaded s.store.image t ∧ t.now = s.now ∧ t.op.request = s.op.request ∧
        t.op.restartCause = .hostRestart ∧ t.prot.hist = s.prot.hist ∧ t.prot.lockout = s.prot.lockout) ∧
    (s.port.restartDue = false → exec .hostRestart s = .next s)

/-- Every configuration value in force or stored stays in its range, whatever the host sends -/
def Obligations.ConfigurationStaysGood : Prop :=
  ∀ s t : State, ConfigurationGood s → step s = .next t → ConfigurationGood t

/-- A history never holds more than three entries, three only under LOCKOUT, and the limit stays a multiple of 10 up
to 100 -/
def Obligations.TripRecordStaysGood : Prop :=
  ∀ s t : State, HistoriesGood s → LimitGood s → step s = .next t → HistoriesGood t ∧ LimitGood t

/-- The blower never has a goal above 0 without a damper known to stand at 20 steps or more -/
def Obligations.AirPathStaysSafe : Prop :=
  ∀ s t : State, AirSafe s → step s = .next t → AirSafe t

/-- Each time that counts while a condition holds runs with its condition: pressure, start-fail, watches, limit, idle
and notice times -/
def Obligations.TimesStayInStep : Prop :=
  ∀ s t : State, TimesInStep s → step s = .next t → TimesInStep t

/-- A known damper position stays in 0..200, and a damper has at most one queue entry or slot, as its motion state
says -/
def Obligations.DriveStaysInAgreement : Prop :=
  ∀ s t : State, DriveAgrees s → step s = .next t → DriveAgrees t

/-- A timer command whose time has not come, or whose thing is not in progress, changes nothing (model's choice, log
3) -/
def Obligations.EventsNotDueDoNothing : Prop :=
  ∀ s : State,
    let idle := fun c : Instr => exec c s = .next s
    let before := fun (since : Option Nat) (ms : Nat) => ∀ t, since = some t → s.now < t + ms
    let b := s.blower
    let k := s.link
    let q := s.seq
    let p := s.prot
    let o := s.op
    (s.port.restartDue = false → idle .hostRestart) ∧
    ((∀ got last, s.port.receiver = .collecting got last → s.now ≤ last + 20) → idle .hostFrameAbandon) ∧
    ((∀ f, s.port.tx = some f → s.now < f.endsAt) → idle .hostFrameSent) ∧
    ((∀ i t, s.store.writer ≠ .full i t) → idle .fullWriteEnd) ∧
    ((∀ i w t, s.store.writer ≠ .auto i w t) → idle .autoSaveEnd) ∧
    (s.sens.poll = none → idle .sensorNoAcknowledge) ∧
    ((∀ x, s.sens.poll = some x → s.now < x.startedAt + 15) → idle .sensorWindowClose) ∧
    ((∀ x, s.sens.poll = some x → x.startedAt + 15 < s.now) → ∀ ack reply, idle (.sensorReply ack reply)) ∧
    (s.now < s.sens.nextSlotAt → idle .sweepSlotStart) ∧
    (∀ z, before (sensorOf s z).ageFrom 180000 → idle (.sensorAgeExpiry z)) ∧
    (o.state = .startup ∨ before s.eval.timerFrom 30000 → idle .evaluationTimerExpiry) ∧
    (o.state = .startup ∨ s.eval.lastPass ≠ none ∧ (s.eval.early = false ∨ before s.eval.lastPass 5000) →
      idle .earlyPassSpacingEnd) ∧
    (s.arb.mode ≠ .rest ∨ s.arb.restEnded = true ∨ before s.arb.restStart (s.arb.restLength.getD 0 * 60000) →
      idle .restEnd) ∧
    (∀ d,
      let x := s.drive.slotOf d
      let at_ := (damperOf s d).position
      ((∀ y, x = some y → s.now < y.lastStep + 20) ∨ (∃ y u, x = some y ∧ y.what = .move u ∧ at_ = some u) ∨
          (∃ y, x = some y ∧ y.what = .home ∧ 220 ≤ y.steps) → idle (.damperStep d)) ∧
        ((∀ y u, x = some y → y.what = .move u → at_ ≠ some u) → idle (.moveComplete d)) ∧
        ((∀ y, x = some y → y.what = .home → y.steps < 220) → idle (.homeComplete d)) ∧
        ((∀ y, x = some y → y.what = .home) → idle (.damperStall d))) ∧
    (b.demand = b.speedGoal ∨ b.retryFrom ≠ none ∨ s.now < b.rampFrom + 250 → idle .blowerRampTick) ∧
    (b.state ≠ .ramp ∨ b.retryFrom ≠ none ∨ b.inBand = false ∨ before b.goalSince 3000 ∨
        s.now < b.bandFrom + 3000 ∨ b.lastPulse + 1000 ≤ s.now → idle .blowerSettled) ∧
    (b.state ≠ .run ∨ b.inBand = true ∧ s.now < b.lastPulse + 4000 ∨ b.inBand = false ∧ s.now < b.bandFrom + 3000 →
      idle .blowerUnsettled) ∧
    (b.state ≠ .ramp ∨ b.retryFrom ≠ none ∨ before b.settleFrom 30000 → idle .settleTimeout) ∧
    (before b.retryFrom 60000 → idle .retryPauseEnd) ∧ (b.state ≠ .runOn ∨ before b.runOnUntil 0 → idle .runOnExpiry) ∧
    (b.coldBlow = false ∨ before q.runStart 120000 → idle .coldBlowTimeout) ∧
    (q.state ≠ .defrostPrep ∨ q.grantSent = true ∨ b.demand ≠ 0 ∨ b.zeroFrom = none ∨
        s.now < b.lastPulse + 1000 ∧ before b.zeroFrom 30000 → idle .blowerAtRest) ∧
    (before b.aboveFrom 10000 → idle .aboveCapTimeExpiry) ∧
    (b.qhi = s.cfg.qmax ∨ before b.belowFrom 600000 → idle .belowReliefTimeExpiry) ∧
    (s.now < k.nextRound → idle .roundTick) ∧
    (k.frame ≠ none ∨ (∀ r, k.round = some r → r.requestBegun = true ∨ s.now < r.tick + 50) →
      idle .linkRequestFrameStart) ∧
    (k.frame ≠ none ∨ (∀ r, k.round = some r → r.slowDiag = false ∨ s.now < r.tick + 150) → idle .linkDiagFrameStart) ∧
    ((∀ f, k.frame = some f → f.sentBy < s.now) → (∀ t, k.lowAt = some t → t + 2 ≤ s.now) → idle .linkCollision) ∧
    ((∀ f, k.frame = some f → s.now < f.sentBy ∨ f.kind.isRequest = true) → idle .linkCommandFrameSent) ∧
    ((∀ f, k.frame = some f → s.now < f.sentBy ∨ f.sentBy + 40 < s.now) →
      (∀ x, idle (.statResponse x) ∧ idle (.infoResponse x) ∧ idle (.diagReadResponse x)) ∧
        ∀ x, idle (.linkByteError x)) ∧
    ((∀ f, k.frame = some f → s.now < f.sentBy + 40) → ∀ n, idle (.responseWindowClose n)) ∧
    (k.state = .start ∨ k.state = .lost ∨ before k.statAgeFrom (if k.state = .slow then 30000 else 10000) →
      idle .statAgeLimit) ∧
    ((∀ d, k.diag = some d → d.begun = true ∨ s.now < d.enteredAt + 10000) → idle .diagTimeout) ∧
    (k.wakeRound = false ∨ k.frame ≠ none ∨ s.now < k.windowEnd → idle .wakeRoundStart) ∧
    (s.now < q.minOffFrom + 180000 → idle .minimumOffExpiry) ∧
    (q.state ≠ .running ∨ q.runStart ≠ none ∨ startFailTime s < 60000 → idle .startFailTimeout) ∧
    (q.state ≠ .stopWait ∨ q.stopSent = true ∨ before q.runStart 300000 → idle .minimumRunEnd) ∧
    (q.state ≠ .defrostPrep ∨ before q.defrostFrom 60000 → idle .defrostPrepTimeout) ∧
    (q.state ≠ .defrostActive ∨ before q.defrostFrom 900000 → idle .defrostActiveTimeout) ∧
    (q.state ≠ .defrostRecovery ∨ before q.recoveryFrom 180000 → idle .recoveryTimeExpiry) ∧
    (before p.belowZeroFrom 60000 → idle .freezeTimeExpiry) ∧ (before p.above60From 60000 → idle .above60TimeExpiry) ∧
    (before p.supplyGoneFrom 60000 → idle .supplyUnavailableExpiry) ∧
    (p.freezeLim = false ∧ p.supplyLim = false ∨ before p.stepFrom 60000 → idle .limitStepTime) ∧
    (before p.recoverFrom 120000 → idle .limitRecoveryTime) ∧
    (before p.startFailHold 180000 → idle (.tripHoldExpiry .startFail)) ∧
    (before p.defrostLongHold 180000 → idle (.tripHoldExpiry .defrostLong)) ∧
    (p.floatHeld = true ∨ s.inp.floatClosed = false ∨ s.now < s.inp.floatSince + 2000 → idle .floatHeld) ∧
    (p.floatHeld = false ∨ s.inp.floatClosed = true ∨ s.now < s.inp.floatSince + 60000 → idle .floatCleared) ∧
    (p.supplyLow = true ∨ before p.lowFrom 2000 → idle .supplyLowHeld) ∧
    (p.supplyLow = false ∨ before p.highFrom 10000 → idle .supplyLowCleared) ∧
    (o.idleDone = true ∨ before o.idleFrom 1800000 → idle .idleTimeReached) ∧
    (o.notice = false ∨ before o.noticeFrom 60000 → idle .noticeTimeExpiry) ∧
    (s.inp.buttonClosed = false ∨ o.accepted = true ∨ s.now < s.inp.buttonSince + 50 → idle .buttonPress) ∧
    (s.inp.buttonClosed = true ∨ o.accepted = false ∨ s.now < s.inp.buttonSince + 50 → idle .buttonRelease) ∧
    (o.button ≠ .pressed ∨ before o.pressFrom (s.cfg.buttonHold * 1000) → idle .buttonHoldTime) ∧
    (o.state ≠ .test ∨ before o.testFrom 1200000 → idle .testTimeExpiry)

/-! ### Frames and their decoding -/

/-- The receiver reads exactly the frame a sender builds, and parses every request's KIND and payload back, field for
field -/
def Obligations.RequestFramesRoundTrip : Prop :=
  (∀ (f : List Byte) (kind : Byte) (payload : List Byte),
      receiveFrame f = some (kind, payload) ↔ payload.length ≤ 63 ∧ f = (hostFrame kind payload).tail) ∧
    ∀ (c : Instr) (r : Request), wellFormed c = true → requestOfCommand c = some r → parseRequest r.kind r.payload = r

/-- STAT and INFO records are read back from their bytes, with the check byte and the line bits of R122 -/
def Obligations.LinkResponsesRoundTrip : Prop :=
  (∀ (b : Byte) (k : Fin 8) (n : Fin 11) (samples : BitVec 33),
      let sample := fun i : Nat => (samples.getLsbD (3 * n.val + i)).toNat
      (sentBits b).length = 11 ∧ (sentBits b)[0]? = some false ∧ (sentBits b)[k.val + 1]? = some (b.getLsbD k.val) ∧
        (((sentBits b).drop 1).take 9).count true % 2 = 0 ∧ (sentBits b)[10]? = some true ∧
        (readBits samples)[n.val]? = some (decide (2 ≤ sample 0 + sample 1 + sample 2)) ∧
        (byteFailure samples = none ↔ ∃ c : Byte, (readBits samples).tail = (sentBits c).tail)) ∧
    (∀ (kind c : Byte) (data more : List Byte), data.length ≤ 16 →
      goodData kind data.length (data ++ c :: more) =
        if c = checkByte (kind :: byte data.length :: data) then some data else none) ∧
    (∀ (bytes : List Byte) (r : StatRecord), statOf bytes = some r →
      statBytes r = bytes.modify 8 (· &&& 0x0F)) ∧
    (∀ bytes : List Byte, (∃ r, statOf bytes = some r) ↔
      ∃ c sp a1 a0 o1 o0 d1 d0 fl tr : Byte, bytes = [c, sp, a1, a0, o1, o0, d1, d0, fl, tr] ∧
        c.toNat ≤ 3 ∧ sp.toNat ≤ 100 ∧ tr.toNat ≤ 5 ∧
        ∀ t : Word, t = a1 ++ a0 ∨ t = o1 ++ o0 ∨ t = d1 ++ d0 → t = 0x7FFF ∨ -400 ≤ t.toInt ∧ t.toInt ≤ 850) ∧
    (∀ (a b c : Byte), infoOf [a, b, c] =
      if 1 ≤ a.toNat ∧ a.toNat ≤ 99 ∧ b.toNat ≤ 1 ∧ 1 ≤ c.toNat ∧ c.toNat ≤ 15 then
        some ⟨a.toNat, decide (b = 1), c.toNat⟩
      else none)

/-! ### The Host Message Port -/

/-- Bytes make frames as R170 says; a request's frame does what the request's own row does, a bad or abandoned one
nothing -/
def Obligations.HostFramesActAsTheirRows : Prop :=
  let line := fun l : List Byte => l.map fun b => (⟨b, 0, true⟩ : HostByte)
  let junk := fun l : List HostByte => ∀ x ∈ l, x.value ≠ 0xA5 ∨ x.stop = false
  let hears := fun (s : State) (r : Receiver) => ({ s with port := { s.port with receiver := r } } : State)
  (∀ (now later : Nat) (a b : List HostByte) (kind : Byte) (payload : List Byte), payload.length ≤ 63 →
      a ++ b = line (hostFrame kind payload) →
      let one := Receiver.hunting.run now a
      let two := one.1.run later b
      two.1 = .hunting ∧ one.2 ++ two.2 = [.frame kind payload]) ∧
  (∀ (s : State) (before : List HostByte), junk before → s.port.receiver = .hunting →
      exec (.hostFrameReceived before) s = .next s ∧
      exec (.hostFrameReceived (before ++ line [0xA5])) s = .next (hears s (.collecting [] s.now)) ∧
      (∀ len : Byte, len = 0 ∨ 64 < len.toNat →
        exec (.hostFrameReceived (before ++ line [0xA5, len])) s = .next s) ∧
      ∀ (len : Byte) (rest : List Byte), 1 ≤ len.toNat → len.toNat ≤ 64 → rest.length = len.toNat + 1 →
        byteSum (len :: rest) ≠ 0 → exec (.hostFrameReceived (before ++ line (0xA5 :: len :: rest))) s = .next s) ∧
  (∀ s : State, exec .hostFrameBadSum s = .next (hears s .hunting)) ∧
  (∀ (s : State) (got : List Byte) (last : Nat) (x : HostByte), s.port.receiver = .collecting got last →
      (x.stop = false → x.gap ≤ 20000 → exec (.hostFrameReceived [x]) s = .next (hears s .hunting)) ∧
      (20000 < x.gap →
        exec (.hostFrameReceived [x]) s =
          .next (hears s (if x.stop = true ∧ x.value = 0xA5 then .collecting [] s.now else .hunting))) ∧
      (last + 20 < s.now → exec .hostFrameAbandon s = .next (hears s .hunting))) ∧
  ∀ (s : State) (before : List HostByte), Calm s → s.port.receiver = .hunting → junk before →
    (∀ (c : Instr) (r : Request), wellFormed c = true → requestOfCommand c = some r →
      ∃ t u, exec (.hostFrameReceived (before ++ line (hostFrame r.kind r.payload))) s = .next t ∧
        exec c s = .next u ∧ t.timeless = u.timeless) ∧
    (∀ (kind : Byte) (payload : List Byte), PortIdle s → 1 ≤ kind.toNat → kind.toNat ≤ 15 → payload.length ≤ 63 →
      payloadOf kind.toNat payload = none →
      ∃ t, exec (.hostFrameReceived (before ++ line (hostFrame kind payload))) s = .next t ∧
        t.timeless = (answered s (.badLength kind) .badLength []).timeless)

/-- A request that arrives while one is in service waits, or is dropped with the overrun mark where one waits already
-/
def Obligations.RequestsWaitOrAreDropped : Prop :=
  ∀ (c : Instr) (r : Request) (s : State), Calm s → requestOfCommand c = some r → s.port.service ≠ none →
    ∃ t, exec c s = .next t ∧
      t.timeless =
        ({ s with port :=
            if s.port.waiting = none then { s.port with waiting := some r }
            else { s.port with overrun := true } } : State).timeless

/-- A refused request is answered with its status and flags alone and changes nothing else (order of checks: logs 19,
20, 39) -/
def Obligations.RefusedRequestsAnswered : Prop :=
  ∀ (c : Instr) (r : Request) (status : Status) (s : State), Calm s → PortIdle s → requestOfCommand c = some r →
    RefusedAs s c status →
    ∃ t, exec c s = .next t ∧ t.timeless = (answered s r status []).timeless

/-- GET_INFO, GET_SYSTEM, GET_ZONE, GET_PLAN and GET_QUEUE are answered at once and change only the port -/
def Obligations.ReadsAnswered : Prop :=
  ∀ s : State, PortIdle s →
    exec .getInfo s = .next (answered s .getInfo .ok (infoBody s)) ∧
    (∀ page : Option Byte,
      ((page.getD 0) = 0 → exec (.getSystem page) s = .next (answered s (.getSystem page) .ok (0 :: systemPage0 s))) ∧
      ((page.getD 0) = 1 → exec (.getSystem page) s = .next (answered s (.getSystem page) .ok (1 :: systemPage1 s))) ∧
      ((page.getD 0) = 2 → exec (.getSystem page) s = .next (answered s (.getSystem page) .ok (2 :: systemPage2 s)))) ∧
    (∀ z : ZoneId, exec (.getZone (byte z.val)) s = .next (answered s (.getZone (byte z.val)) .ok (zoneBody s z))) ∧
    (∀ sel : Option Byte,
      ((sel.getD 0) = 0 →
        exec (.getPlan sel) s = .next (answered s (.getPlan sel) .ok (planBody s 0 (some s.co.applied)))) ∧
      ((sel.getD 0) = 1 →
        exec (.getPlan sel) s = .next (answered s (.getPlan sel) .ok (planBody s 1 s.co.incoming))) ∧
      ((sel.getD 0) = 2 →
        exec (.getPlan sel) s = .next (answered s (.getPlan sel) .ok (planBody s 2 s.co.held)))) ∧
    exec .getQueue s = .next (answered s .getQueue .ok (queueBody s))

/-- Every field of the read replies stands at its offset of Tables 13.3 to 13.6, encoded by R180 and the readings of logs
14, 22 and 30 -/
def Obligations.ReadLayouts : Prop :=
  ∀ (s : State) (z : ZoneId) (p : Plan) (sel : Nat) (o : Option Plan),
    let bits := fun l : List Bool => byte (l.foldr (fun b n => (if b then 1 else 0) + 2 * n) 0)
    let age := fun t : Option Nat =>
      match t with
      | some t0 => word (min ((s.now - t0) / 1000) 65534)
      | none => [0xFF, 0xFF]
    let left := fun (ms : Nat) (t : Option Nat) =>
      match t with
      | some t0 => word ((t0 + ms - s.now + 999) / 1000)
      | none => [0xFF, 0xFF]
    let info := Carries 2 (infoBody s)
    let zone := Carries 2 (zoneBody s z)
    let plan := Carries 0 (planRecord p)
    let page0 := Carries 3 (systemPage0 s)
    let page1 := Carries 3 (systemPage1 s)
    let st := s.zst.get z
    let c := s.zcfg.get z
    let set := s.setp.get z
    let r := sensorOf s z
    let w := s.work.get z
    let x := damperOf s z
    let b := s.blower
    let k := s.link
    let q := s.seq
    let g := s.prot
    ((infoBody s).length = 9 ∧ info 2 [0x5A, 0x08] ∧ info 4 [1] ∧
      info 5 [byte s.op.restartCause.code, flagByte s.store.defaulted, flagByte k.info.isSome] ∧
      (∀ i, k.info = some i → info 8 [byte i.capacityClass, flagByte i.heatPump, byte i.level]) ∧
      (k.info = none → info 8 [0, 0, 0])) ∧
    ((zoneBody s z).length = 32 ∧ zone 2 [byte z.val, byte st.state.code] ∧
      zone 4 [bits [st.unconf, set.park, w.suspended, w.withdrawn]] ∧ zone 5 (word c.da) ∧ zone 7 (word c.ra) ∧
      zone 9 [byte c.rank, byte (c.address.getD 0)] ∧ zone 11 (tempField set.cool) ∧ zone 13 (tempField set.heat) ∧
      zone 15 (optRh set.dry) ∧ zone 17 [byte r.state.code] ∧ zone 18 (optTemp r.temp) ∧ zone 20 (optRh r.rh) ∧
      zone 22 (optTemp r.eff) ∧ zone 24 [byte w.call.code, byte w.d, byte w.i, byte w.l] ∧ zone 28 (age w.waiting) ∧
      zone 30 [byte (x.position.getD 0xFF), byte x.motion.code, byte x.followOn.code, byte x.stalls]) ∧
    ((planRecord p).length = 42 ∧ plan 0 (word p.number) ∧ plan 2 [byte p.mode.code, byte p.factor] ∧
      plan 4 [bits [p.starved, p.capped]] ∧ plan 5 (word p.q) ∧ plan 7 [byte p.c] ∧ plan 8 (optTemp p.coilTarget) ∧
      plan (10 + 4 * z.val) [byte (p.zones.get z).role.code] ∧ plan (11 + 4 * z.val) (word (p.zones.get z).air) ∧
      plan (13 + 4 * z.val) [byte (p.zones.get z).opening]) ∧
    (let body := planBody s sel o;
      body.length = 46 ∧ Carries 2 body 2 [byte sel, byte s.co.phase.code] ∧
        Carries 2 body 4 [bits [s.co.released, s.co.reapply], flagByte o.isSome] ∧
        (∀ p', o = some p' → Carries 2 body 6 (planRecord p')) ∧ (o = none → Carries 2 body 6 (List.replicate 42 0))) ∧
    (let queue := Carries 2 (queueBody s);
      (queueBody s).length = 51 ∧ queue 2 [byte s.drive.queue.length] ∧
        (∀ (n : Fin 8) (e : QueueEntry), s.drive.queue[n.val]? = some e →
          (∀ u, e.what = .move u → queue (3 + 2 * n.val) [byte e.damper.val, byte u]) ∧
            (e.what = .home → queue (3 + 2 * n.val) [byte (0x80 + e.damper.val), 0])) ∧
        (∀ n : Fin 8, s.drive.queue.length ≤ n.val → queue (3 + 2 * n.val) [0xFF, 0xFF]) ∧
        queue 19
          [byte (s.drive.slot1.elim 0xFF fun y => y.damper.val), byte (s.drive.slot2.elim 0xFF fun y => y.damper.val)] ∧
        queue (21 + 4 * z.val)
          [byte (x.position.getD 0xFF), byte x.motion.code, byte x.followOn.code, byte x.stalls]) ∧
    ((systemPage0 s).length + 1 = 31 ∧
      page0 3
        [byte s.op.state.code, byte s.op.request.code, byte s.op.policy.code, flagByte s.op.frost, flagByte s.op.notice] ∧
      page0 8 (word (s.op.idleFrom.elim 0 fun t => min ((s.now - t) / 1000) 65534)) ∧
      page0 10 [byte (s.op.noticeFrom.elim 0xFF fun t => min ((s.now - t) / 1000) 65534)] ∧
      page0 11 [byte s.op.testPhase.code] ∧ page0 12 (left 1200000 s.op.testFrom) ∧
      page0 14 [byte s.arb.mode.code, byte (sideCode s.arb.served), byte (targetCode s.arb.restTarget)] ∧
      page0 17 (left (s.arb.restLength.getD 0 * 60000) s.arb.restStart) ∧
      page0 19 [byte (sideCode s.arb.lastServed), flagByte s.arb.deferral] ∧
      page0 21 [byte q.state.code, byte (stoppingCode q.stopping), byte (wanted s), byte (commanded s)] ∧
      page0 25 [byte ((q.minOffFrom + 180000 - s.now + 999) / 1000)] ∧ page0 26 (age q.runStart) ∧
      page0 28 [bits [q.stopSent, q.takenStopped, q.stopMark, q.grantSent]] ∧
      page0 29
        [bits [g.floatHeld, g.freezeLim, g.supplyLim, g.supplyLow, g.coilFault, decide (k.state = .lost), g.lockout]] ∧
      (∃ hi lo, page0 30 [hi, lo] ∧ ∀ t : TripKind, (hi ++ lo : Word).getLsbD t.code = decide (t ∈ g.stops)) ∧
      page0 32 [byte g.limit]) ∧
    ((systemPage1 s).length + 1 = 38 ∧ page1 3 [byte b.state.code, bits [b.coldBlow, b.defrostHold]] ∧
      page1 5 (word b.given) ∧ page1 7 (optWord b.carried) ∧ page1 9 (word b.goal) ∧
      page1 11 [byte b.speedGoal, byte b.demand] ∧ page1 13 (word b.expected) ∧
      page1 15 (word (if b.lastPulse + 1000 ≤ s.now then 0 else b.measured)) ∧ page1 17 (optWord b.pressure) ∧
      page1 19 (word b.qhi) ∧ page1 21 [flagByte b.capped, byte k.state.code, byte k.statFailures] ∧
      page1 24 [byte (k.collisionsNow s.now)] ∧ page1 25 (age k.statAgeFrom) ∧
      page1 27 [byte (failureCode k.lastFailure), flagByte k.diag.isSome, flagByte k.lastStatus.isSome] ∧
      (∀ y, k.lastStatus = some y → page1 30 (statBytes y)) ∧ (k.lastStatus = none → page1 30 (List.replicate 10 0))) ∧
    ((systemPage2 s).length + 1 = 45 ∧
      ∀ t : TripKind,
        let l := g.hist.get t
        Carries 3 (systemPage2 s) (3 + 4 * t.code) [byte l.length] ∧
          ∀ n : Fin 3, Carries 3 (systemPage2 s) (4 + 4 * t.code + n.val)
            [byte (l[n.val]?.elim 0xFF fun e => min ((s.now / 1000 - e) / 60) 254)])

/-- SET_SYSTEM writes the values it carries, saves a changed request or policy, and answers; OFF takes the release as
0 and stops -/
def Obligations.SetSystemWrites : Prop :=
  (∀ (s : State) (policy frost : Byte) (p : Policy) (f : Bool), Calm s → PortIdle s → Awake s →
      (policy = 0xFE ∧ p = s.op.policy ∨ policyOf policy.toNat = some p) →
      (frost = 0xFE ∧ f = s.op.frost ∨ frostOf frost.toNat = some f) →
      (policy = 2 → s.eval.hpCapable = true) →
      let u := { s with op := { s.op with policy := p, frost := f } }
      let saved :=
        if p = s.op.policy then s.store
        else if s.store.writer = .idle then
          { s.store with writer := .auto (autoImage u).1 (autoImage u).2 s.now, autoPending := false }
        else { s.store with autoPending := true }
      let early := s.eval.early || decide (p ≠ s.op.policy ∨ f ≠ s.op.frost)
      ∃ t, exec (.setSystem 0xFE policy frost) s = .next t ∧
        t.timeless =
          (answered { u with store := saved, eval := { s.eval with early := early } } (.setSystem 0xFE policy frost) .ok
            [byte s.op.request.code, byte p.code, flagByte f]).timeless) ∧
  (∀ (s : State) (new : OpRequest), Calm s → s.port.service = none → s.op.state = .on ∨ s.op.state = .off →
      let changes := decide (new ≠ s.op.request)
      let stops := changes && decide (new = .off)
      let running := decide (s.seq.state = .running) || decide (s.seq.state = .stopWait)
      (s.seq.state.defrosting = false →
        ∃ t, exec (.setSystem (byte new.code) 0xFE 0xFE) s = .next t ∧ t.op.request = new ∧
          t.op.state = (if changes then (if new = .on then .on else .off) else s.op.state) ∧
          t.op.policy = s.op.policy ∧ t.op.frost = s.op.frost ∧ t.eval.early = (s.eval.early || changes) ∧
          t.seq.release = (if stops then s.seq.release.map (fun r => { r with c := 0 }) else s.seq.release) ∧
          t.seq.state = (if stops && running then .stopWait else s.seq.state) ∧
          t.seq.stopSent = ((stops && running) || s.seq.stopSent) ∧
          ({ t with port := s.port, op := s.op, seq := s.seq, eval := s.eval, store := s.store } : State).timeless =
            s.timeless) ∧
      (∀ (p : Policy) (f : Bool), changes = true → (p = .heat → s.eval.hpCapable = true) →
        let u := { s with op := { s.op with request := new, policy := p, frost := f } }
        ∃ t, exec (.setSystem (byte new.code) (byte p.code) (flagByte f)) s = .next t ∧ t.op.request = new ∧
          t.op.policy = p ∧ t.op.frost = f ∧
          t.store =
            if s.store.writer = .idle then
              { s.store with writer := .auto (autoImage u).1 (autoImage u).2 s.now, autoPending := false }
            else { s.store with autoPending := true })) ∧
  ∀ s : State,
    (∀ i, s.store.image = some i → s.store.defaulted = false →
      autoImage s = ({ i with request := s.op.request, policy := s.op.policy }, false)) ∧
      (s.store.image = none ∨ s.store.defaulted = true →
        ∃ i, autoImage s = (i, true) ∧ i.settings = s.cfg ∧ i.request = s.op.request ∧ i.policy = s.op.policy ∧
          i.frost = s.op.frost ∧ i.mask = s.port.mask ∧
          ∀ z : ZoneId, i.zones.get z =
            ⟨decide (stateOf s z ≠ .unused) && !(s.zst.get z).unconf, s.zcfg.get z, s.setp.get z⟩)

/-- A SET_ZONE request keeps the cool setpoint at least 1.0 °C above the heat setpoint -/
def Obligations.SetpointsKeepTheirGap : Prop :=
  ∀ (old : Setpoints) (unconf : Bool) (coolW heatW dryW : Word) (park : Byte), SetpointsGood old →
    let new := (setZoneResult old unconf coolW heatW dryW park).1
    let cool := max 160 (min 320 coolW.toInt)
    let heat := max 100 (min 300 heatW.toInt)
    (coolW ≠ 0x7FFE → heatW = 0x7FFE → new.cool = cool ∧ new.heat = min old.heat (cool - 10)) ∧
    (coolW = 0x7FFE → heatW ≠ 0x7FFE → new.heat = heat ∧ new.cool = max old.cool (heat + 10)) ∧
    (coolW ≠ 0x7FFE → heatW ≠ 0x7FFE → new.cool = cool ∧ new.heat = min heat (cool - 10)) ∧
    (coolW = 0x7FFE → heatW = 0x7FFE → new.cool = old.cool ∧ new.heat = old.heat) ∧
    new.heat + 10 ≤ new.cool ∧ 160 ≤ new.cool ∧ new.cool ≤ 320 ∧ 100 ≤ new.heat ∧ new.heat ≤ 300

/-- SET_ZONE writes the setpoint fields, requests an early pass, and answers ADJUSTED exactly where a value was
changed -/
def Obligations.SetZoneWritesSetpoints : Prop :=
  ∀ (s : State) (z : ZoneId) (coolW heatW dryW : Word) (park : Byte), Calm s → PortIdle s → Awake s →
    SetpointsGood (s.setp.get z) →
    let old := s.setp.get z
    let unconf := (s.zst.get z).unconf
    let new := (setZoneResult old unconf coolW heatW dryW park).1
    let dryAsked : Option Nat := if dryW = 0x7FFE then old.dry else if dryW = 0x7FFF then none else some dryW.toNat
    let parkAsked : Bool := if park = 0xFE then old.park else decide (park ≠ 0)
    let asAsked : Prop :=
      new.cool = (if coolW = 0x7FFE then old.cool else coolW.toInt) ∧
        new.heat = (if heatW = 0x7FFE then old.heat else heatW.toInt) ∧ new.dry = dryAsked ∧ new.park = parkAsked
    new.dry =
        (if dryW = 0x7FFE then old.dry else if dryW = 0x7FFF then none else some (max 400 (min 700 dryW.toNat))) ∧
      new.park = (if park = 0xFE then old.park else decide (park ≠ 0) && !unconf) ∧
      ∃ t status, exec (.setZone (byte z.val) coolW heatW dryW park) s = .next t ∧
        (asAsked → status = .ok) ∧ (¬asAsked → status = .adjusted) ∧
        t.timeless =
          (answered { s with setp := s.setp.set z new, eval := { s.eval with early := true } }
            (.setZone (byte z.val) coolW heatW dryW park) status
            ([byte z.val] ++ tempField new.cool ++ tempField new.heat ++ optRh new.dry ++ [flagByte new.park])).timeless

/-- CONFIG_SYSTEM is accepted exactly where every value is in its range, takes effect, puts the goal in force anew (log
14) and resets Qhi, and is answered -/
def Obligations.ConfigSystemChecksAndWrites : Prop :=
  (∀ (old c : Settings) (f : SettingFields) (table : Option (List PointFields)),
    configSystemResult old f table = some c ↔
      (c.qrated = (if f.qrated = 0x7FFE then old.qrated else f.qrated.toNat) ∧
        c.qmax = (if f.qmax = 0x7FFE then old.qmax else f.qmax.toNat) ∧
        c.qsysMin = (if f.qsysMin = 0x7FFE then old.qsysMin else f.qsysMin.toNat) ∧
        c.minHold = (if f.minHold = 0xFE then old.minHold else f.minHold.toNat) ∧
        c.releaseTime = (if f.releaseTime = 0xFE then old.releaseTime else f.releaseTime.toNat) ∧
        c.restTime = (if f.restTime = 0xFE then old.restTime else f.restTime.toNat) ∧
        c.maxWait = (if f.maxWait = 0xFE then old.maxWait else f.maxWait.toNat) ∧
        c.pressureCap = (if f.pressureCap = 0xFE then old.pressureCap else f.pressureCap.toNat) ∧
        (f.restorePolicy = 0xFE ∧ c.restorePolicy = old.restorePolicy ∨ f.restorePolicy = 0 ∧ c.restorePolicy = .resume ∨
          f.restorePolicy = 1 ∧ c.restorePolicy = .stayOff) ∧
        c.ambientGate =
          (if f.ambientGate = 0x7FFE then old.ambientGate
          else if f.ambientGate = 0x7FFD then none else some f.ambientGate.toInt) ∧
        c.supplyLow = (if f.supplyLow = 0xFE then old.supplyLow else f.supplyLow.toNat) ∧
        c.breakLength = (if f.breakLength = 0xFE then old.breakLength else f.breakLength.toNat) ∧
        c.buttonHold = (if f.buttonHold = 0xFE then old.buttonHold else f.buttonHold.toNat) ∧
        c.table =
          (match table with
          | none => old.table
          | some t => t.map fun p => ⟨p.airflow.toNat, p.speed.toNat, p.rpm.toNat⟩)) ∧
      (300 ≤ c.qrated ∧ c.qrated ≤ 2000 ∧ c.qrated ≤ c.qmax ∧ c.qmax ≤ 2500 ∧ 100 ≤ c.qsysMin ∧ c.qsysMin ≤ c.qmax ∧
        10 ≤ c.minHold ∧ c.minHold ≤ 60 ∧ 2 ≤ c.releaseTime ∧ c.releaseTime ≤ 15 ∧ 3 ≤ c.restTime ∧ c.restTime ≤ 15 ∧
        20 ≤ c.maxWait ∧ c.maxWait ≤ 120 ∧ 50 ≤ c.pressureCap ∧ c.pressureCap ≤ 250 ∧
        (∀ g, c.ambientGate = some g → -100 ≤ g ∧ g ≤ 150) ∧ c.supplyLow ∈ [190, 198, 205, 212] ∧
        11 ≤ c.breakLength ∧ c.breakLength ≤ 14 ∧ 3 ≤ c.buttonHold ∧ c.buttonHold ≤ 10 ∧ c.table.length = 6 ∧
        (∀ p ∈ c.table, 50 ≤ p.airflow ∧ p.airflow ≤ 2500 ∧ 10 ≤ p.speed ∧ p.speed ≤ 100 ∧ 100 ≤ p.rpm ∧ p.rpm ≤ 3000) ∧
        ∀ (n : Nat) (a b : BlowerPoint), c.table[n]? = some a → c.table[n + 1]? = some b →
          a.airflow < b.airflow ∧ a.speed ≤ b.speed ∧ a.rpm ≤ b.rpm)) ∧
  ∀ (s : State) (f : SettingFields) (table : Option (List PointFields)) (c : Settings), Calm s → PortIdle s → Awake s →
    configSystemResult s.cfg f table = some c →
    let bounds := decide (s.cfg.qmax ≠ c.qmax ∨ s.cfg.qsysMin ≠ c.qsysMin)
    let times := bounds || decide (s.cfg.pressureCap ≠ c.pressureCap)
    let b := { s.blower with
      qhi := if bounds then c.qmax else s.blower.qhi, capped := !bounds && s.blower.capped }
    let sameLow := decide (c.supplyLow = s.cfg.supplyLow)
    ∃ t, exec (.configSystem f table) s = .next t ∧ t.cfg = c ∧ t.eval = { s.eval with early := true } ∧
      (if tableOfGoal c.table s.blower.goal = (s.blower.speedGoal, s.blower.expected) then
        { t.blower with aboveFrom := s.blower.aboveFrom, belowFrom := s.blower.belowFrom } = b
      else GoalPut s.now c.table s.blower.goal { b with state := if b.state = .run then .ramp else b.state } t.blower) ∧
      (AboveCap t → t.blower.aboveFrom = some (if times then s.now else s.blower.aboveFrom.getD s.now)) ∧
      (¬AboveCap t → t.blower.aboveFrom = none) ∧
      (BelowRelief t → t.blower.belowFrom = some (if times then s.now else s.blower.belowFrom.getD s.now)) ∧
      (¬BelowRelief t → t.blower.belowFrom = none) ∧
      t.prot.lowFrom = (if sameLow then s.prot.lowFrom else none) ∧
      t.prot.highFrom = (if sameLow then s.prot.highFrom else none) ∧
      t.port = (answered s (.configSystem f table) .ok (settingsBody c)).port ∧
      ({ t with cfg := s.cfg, eval := s.eval, blower := s.blower, port := s.port
                prot := { t.prot with lowFrom := s.prot.lowFrom, highFrom := s.prot.highFrom } } : State).timeless =
        s.timeless

/-- An accepted configure writes the zone's values; a new zone becomes ACTIVE and is homed, a new sensor address
restarts sensing -/
def Obligations.ConfigureWritesZone : Prop :=
  ∀ (s : State) (z : ZoneId) (da ra : Word) (rank a : Byte) (c : ZoneConfig), Calm s → Awake s → s.port.service = none →
    zoneConfigOf da ra rank a = some c → addressTaken s z c.address = false →
    let was := stateOf s z
    let restarts := decide (was = .unused) || decide (c.address ≠ (s.zcfg.get z).address)
    let sensor : SensorRec :=
      if restarts then
        ⟨if c.address = none then .noSensor else .waiting, none, none, s.sens.returnAir, 0, c.address.map fun _ => s.now⟩
      else sensorOf s z
    let polls := s.sens.poll.map fun p => if restarts && decide (p.zone = z) then { p with discarded := true } else p
    let homes := decide (was = .unused)
    let starts := homes && s.drive.slotFree
    let faults := starts && s.inp.windingOpen.get z
    (was = .unused → (damperOf s z).motion = .idle ∧ s.drive.slotOf z = none ∧
      (s.blower.goal = 0 ∨ ∃ x : ZoneId, x ≠ z ∧ passes (damperOf s x).position = true)) →
    ∃ t, exec (.configZoneConfigure (byte z.val) da ra rank a) s = .next t ∧
      t.zcfg = s.zcfg.set z c ∧
      t.zst = s.zst.set z ⟨if faults then .fault else if was = .unused then .active else was, false⟩ ∧
      t.sens = { s.sens with zone := s.sens.zone.set z sensor, poll := polls } ∧ t.eval = { s.eval with early := true } ∧
      t.drive.queue = (if homes && !starts then [⟨z, .home⟩] else []) ∧
      t.drive.slotOf z = (if starts && !faults then some ⟨z, .home, 0, s.now, false⟩ else s.drive.slotOf z) ∧
      damperOf t z =
        (if faults then { damperOf s z with motion := .fault, position := none, followOn := .nothing }
        else if starts then { damperOf s z with motion := .homing, position := none }
        else if homes then { damperOf s z with motion := .queued } else damperOf s z) ∧
      (homes = true → z ∉ t.drive.passedOver) ∧
      (∀ x : ZoneId, x ≠ z ∨ homes = false → (x ∈ t.drive.passedOver ↔ x ∈ s.drive.passedOver)) ∧
      (∀ x : ZoneId, x ≠ z → damperOf t x = damperOf s x ∧ t.drive.slotOf x = s.drive.slotOf x) ∧
      ({ t with zcfg := s.zcfg, zst := s.zst, sens := s.sens, eval := s.eval, drive := s.drive
                port := s.port } : State).timeless = s.timeless

/-- Unconfigure marks an ACTIVE or PARKED zone, releases a FAULT zone, discards its poll in progress (log 71), and changes
nothing for a zone already on its way -/
def Obligations.UnconfigureReleasesZone : Prop :=
  ∀ (s : State) (z : ZoneId), Calm s → Awake s → s.port.service = none →
    let st := s.zst.get z
    let polls := s.sens.poll.map fun p => if p.zone = z then { p with discarded := true } else p
    ∃ t, exec (.configZoneUnconfigure (byte z.val)) s = .next t ∧
      (st.state = .unused ∨ st.unconf = true ∧ st.state ≠ .fault →
        ({ t with port := s.port } : State).timeless = s.timeless) ∧
      ((st.state = .active ∨ st.state = .parked) ∧ st.unconf = false →
        ({ t with port := s.port } : State).timeless =
          ({ s with zst := s.zst.set z ⟨st.state, true⟩, setp := s.setp.set z { s.setp.get z with park := false }
                    sens := { s.sens with poll := polls }, eval := { s.eval with early := true } } : State).timeless) ∧
      (st.state = .fault →
        t.zst = s.zst.set z ⟨.unused, false⟩ ∧
          t.sens = { s.sens with zone := s.sens.zone.set z SensorRec.zero, poll := polls } ∧
          t.work = s.work.set z ZoneWork.zero ∧ t.eval = { s.eval with early := true } ∧ t.drive.queue = [] ∧
          ((damperOf s z).motion = .fault →
            damperOf t z = ⟨(damperOf s z).position, .idle, .nothing, 0⟩ ∧ z ∈ t.drive.passedOver) ∧
          (∀ x : ZoneId, x ≠ z →
            damperOf t x = damperOf s x ∧ (x ∈ t.drive.passedOver ↔ x ∈ s.drive.passedOver)) ∧
          ({ t with zst := s.zst, sens := s.sens, work := s.work, eval := s.eval, drive := s.drive
                    port := s.port } : State).timeless = s.timeless)

/-- CLEAR_ZONE_FAULT homes the damper of a FAULT zone; CLEAR_LOCKOUT empties the histories, and the sequencer leaves
LOCKOUT -/
def Obligations.ClearsAct : Prop :=
  (∀ (s : State) (z : ZoneId), Calm s → s.port.service = none →
      let open_ := s.inp.windingOpen.get z
      let faults := s.drive.slotFree && open_
      (stateOf s z ≠ .fault →
        ∃ t, exec (.clearZoneFault (byte z.val)) s = .next t ∧
          ({ t with port := s.port } : State).timeless =
            ({ s with eval := { s.eval with early := true } } : State).timeless) ∧
      (stateOf s z = .fault → (damperOf s z).motion = .fault → (damperOf s z).position = none → s.drive.slotOf z = none →
        (damperOf s z).followOn = .nothing → (s.zst.get z).unconf = false → AirSafe s →
        ∃ t, exec (.clearZoneFault (byte z.val)) s = .next t ∧
          t.zst = s.zst.set z { s.zst.get z with state := if faults then .fault else .active } ∧
          t.eval = { s.eval with early := true } ∧ t.work = s.work.set z { s.work.get z with i := 0 } ∧
          damperOf t z =
            { damperOf s z with
              stalls := 0, motion := if faults then .fault else if s.drive.slotFree then .homing else .queued } ∧
          t.drive.queue = (if s.drive.slotFree then [] else [⟨z, .home⟩]) ∧
          t.drive.slotOf z = (if s.drive.slotFree && !faults then some ⟨z, .home, 0, s.now, false⟩ else none) ∧
          (∀ x : ZoneId, x ≠ z → damperOf t x = damperOf s x ∧ t.drive.slotOf x = s.drive.slotOf x) ∧
          ({ t with zst := s.zst, eval := s.eval, work := s.work, drive := s.drive, port := s.port } : State).timeless =
            s.timeless)) ∧
  ∀ s : State, s.port.service = none →
      ∃ t, exec .clearLockout s = .next t ∧ t.prot.hist = Histories.empty ∧ t.prot.lockout = false ∧
        (Calm s → s.prot.lockout = false →
          ({ t with port := s.port, prot := { t.prot with hist := s.prot.hist } } : State).timeless =
            ({ s with eval := { s.eval with early := true } } : State).timeless) ∧
        (Calm s → s.prot.lockout = true → s.seq.state = .lockout →
          (s.prot.stops ≠ [] → t.seq.state = .tripped) ∧
          (s.prot.stops = [] → wanted s = 0 → t.seq.state = .stopped) ∧
          (s.prot.stops = [] → wanted s ≠ 0 → startHeld s = true → t.seq.state = .waitStart) ∧
          t.eval.early = true ∧
          (s.prot.stops ≠ [] ∨ wanted s = 0 ∨ startHeld s = true →
            ({ t with seq := s.seq, prot := s.prot, eval := s.eval, port := s.port } : State).timeless = s.timeless))

/-- SET_REPORTS, OUTDOOR_DIAG (the data of a read: log 20), SAVE_CONFIG and RESTART act and reply, at once or as store
writes end -/
def Obligations.SmallRequestsAndStoreWrites : Prop :=
  (∀ s : State, PortIdle s →
      (∀ mask : Word, mask.toNat < 1024 →
        exec (.setReports mask) s =
          .next (answered { s with port := { s.port with mask := mask } } (.setReports mask) .ok [])) ∧
      (∀ (read : Bool) (kind length : Byte) (data : List Byte), 0xE0 ≤ kind.toNat → kind.toNat ≤ 0xEF → length.toNat ≤ 8 →
        data.length = length.toNat → s.link.diag = none →
        exec (.outdoorDiag (flagByte read) kind length data) s =
          .next (answered
            { s with link :=
              { s.link with diag := some ⟨read, kind, length.toNat, if read then [] else data, s.now, false, false⟩ } }
            (.outdoorDiag (flagByte read) kind length data) .ok [])) ∧
      exec .saveConfig s =
        .next { s with
          port := { s.port with
            service := some ⟨.saveConfig, if s.store.writer = .idle then .saving else .saveWaiting⟩ }
          store :=
            if s.store.writer = .idle then { s.store with writer := .full (imageInForce s) s.now, autoPending := false }
            else s.store } ∧
      exec .restart s =
        .next
          (if s.store.writer = .idle ∧ s.store.autoPending = false then
            let t := answered s .restart .ok []
            { t with port := { t.port with service := some ⟨.restart, .restarting⟩ } }
          else { s with port := { s.port with service := some ⟨.restart, .restartWaiting⟩ } })) ∧
  ∀ (s : State) (i : Image) (whole : Bool) (t0 : Nat), s.port.tx = none → s.port.reply = none → s.port.reports = [] →
      let stored := fun w : Bool =>
        { s with store :=
            { s.store with image := some i, writer := .idle, defaulted := if w then false else s.store.defaulted } }
      (s.store.writer = .full i t0 → s.port.service = some ⟨.saveConfig, .saving⟩ → s.store.autoPending = false →
        exec .fullWriteEnd s = .next (answered (stored true) .saveConfig .ok [])) ∧
      (s.store.writer = .auto i whole t0 → s.port.service = none → s.store.autoPending = false →
        exec .autoSaveEnd s = .next (stored whole)) ∧
      (s.store.writer = .auto i whole t0 → s.port.service = none → s.store.autoPending = true →
        let u := stored whole
        exec .autoSaveEnd s =
          .next { u with store :=
            { u.store with writer := .auto (autoImage u).1 (autoImage u).2 s.now, autoPending := false } }) ∧
      (s.store.writer = .auto i whole t0 → s.port.service = some ⟨.saveConfig, .saveWaiting⟩ →
        exec .autoSaveEnd s =
          .next { s with
            port := { s.port with service := some ⟨.saveConfig, .saving⟩ }
            store := { (stored whole).store with writer := .full (imageInForce s) s.now, autoPending := false } }) ∧
      (s.store.writer = .auto i whole t0 → s.port.service = some ⟨.restart, .restartWaiting⟩ → s.store.autoPending = false →
        exec .autoSaveEnd s =
          .next (let u := answered (stored whole) .restart .ok []
            { u with port := { u.port with service := some ⟨.restart, .restarting⟩ } }))

/-- HOST_FRAME_SENT frees the transmitter; after a reply the service ends, the waiting request enters, or RESTART
takes effect -/
def Obligations.HostFrameSentFreesTransmitter : Prop :=
  ∀ (s : State) (f : TxFrame) (r : Request), Calm s → s.port.tx = some f → f.endsAt ≤ s.now → s.port.reports = [] →
    s.port.reply = none →
    ∃ t, exec .hostFrameSent s = .next t ∧
      (f.isReply = false → t.timeless = ({ s with port := { s.port with tx := none } } : State).timeless) ∧
      (f.isReply = true → s.port.service = some ⟨r, .replying⟩ → s.port.waiting = none →
        t.timeless = ({ s with port := { s.port with tx := none, service := none } } : State).timeless) ∧
      (f.isReply = true → s.port.service = some ⟨r, .restarting⟩ →
        t.timeless = ({ s with port := { s.port with tx := none, restartDue := true } } : State).timeless) ∧
      (∀ (c : Instr) (next : Request), f.isReply = true → s.port.service = some ⟨r, .replying⟩ →
        s.port.waiting = some next → requestOfCommand c = some next →
        ∃ u, exec c { s with port := { s.port with tx := none, service := none, waiting := none } } = .next u ∧
          t.timeless = u.timeless)

/-- A free transmitter sends a report after a reply, else the reply, else a report; eight reports wait, a further one
is dropped -/
def Obligations.TransmitterAndReportQueue : Prop :=
  (∀ (p : Port) (now : Nat) (f : TxFrame) (r : Report) (rest : List Report) (kind : Byte) (payload : List Byte),
      let frameOf := fun (reply : Bool) (bytes : List Byte) =>
        some (⟨bytes, reply, now + hostFrameMs bytes.length⟩ : TxFrame)
      (p.tx = some f → p.pump now = p) ∧
      (p.tx = none → p.reply = none → p.reports = [] → p.pump now = p) ∧
      (p.tx = none → p.reply = some (kind :: payload) → (p.reports = [] ∨ p.lastSent ≠ .reply) →
        p.pump now = { p with reply := none, lastSent := .reply, tx := frameOf true (hostFrame kind payload) }) ∧
      (p.tx = none → p.reports = r :: rest → (p.lastSent = .reply ∨ p.reply = none) →
        p.pump now =
          { p with
            reports := rest, dropped := false, lastSent := .report
            tx := frameOf false (hostFrame r.kind ((if p.dropped then 2 else 0) :: r.items)) })) ∧
  ∀ (s : State) (r : Report),
    let selected := s.port.mask.getLsbD r.index || decide (r.index = 8)
    let t := raise r s
    (selected = false → t = s) ∧
    (selected = true → s.port.reports.length < 8 →
      t = { s with port := ({ s.port with reports := s.port.reports ++ [r] } : Port).pump s.now }) ∧
    (selected = true → 8 ≤ s.port.reports.length → t = { s with port := { s.port with dropped := true } }) ∧
    (s.port.reports.length ≤ 8 → t.port.reports.length ≤ 8) ∧
    ({ t with port := s.port } : State) = s

/-! ### Zone sensing -/

/-- SWEEP_SLOT_START polls the slot's configured zone with a sensor, and a return-air conversion renews effective
temperatures -/
def Obligations.SweepSlotsAndReturnAir : Prop :=
  ∀ s : State,
    (s.sens.nextSlotAt ≤ s.now →
      let z := s.sens.nextSlot
      let ms := if z = 0 then (if s.op.state = .resting then 7500 else 1250) else s.sens.slotMs
      exec .sweepSlotStart s =
        .next { s with sens :=
          { s.sens with
            nextSlot := z + 1, nextSlotAt := s.sens.nextSlotAt + ms, slotMs := ms
            poll :=
              if stateOf s z = .unused then none
              else (s.zcfg.get z).address.map fun a => ⟨z, a, 1, s.now, false⟩ } }) ∧
    ∀ reading : Int,
      let air := if -200 ≤ reading ∧ reading ≤ 600 then some reading else none
      ∃ t, exec (.returnAirConversion reading) s = .next t ∧ t.sens.returnAir = air ∧
        (∀ z : ZoneId,
          let r := sensorOf s z
          sensorOf t z =
            (if stateOf s z = .unused then r
            else { r with eff := if r.state = .fresh ∨ r.state = .stale then r.temp else air })) ∧
        ({ t with sens := { t.sens with zone := s.sens.zone, returnAir := s.sens.returnAir } } : State) = s

/-- A failed poll attempt is repeated once; the second failure counts, the third in a row makes FRESH STALE (window
start: log 4) -/
def Obligations.SensorAttemptFails : Prop :=
  ∀ (s : State) (p : Poll) (c : Instr) (lines : BusFilter), Calm s → s.sens.poll = some p →
    (c = .sensorNoAcknowledge ∧ lines = s.sens.lines ∨
      c = .sensorWindowClose ∧ lines = s.sens.lines ∧ p.startedAt + 15 ≤ s.now ∨
      ∃ first more samples ack reply, c = .sensorReply first more ∧ samples = first ++ more ∧
        lines = (s.sens.lines.bits samples).1 ∧
        bytesOfBits (s.sens.lines.bits samples).2 = ack :: reply ∧ s.now ≤ p.startedAt + 15 ∧
        (ack ≠ byte p.address + 0x80 ∨ 6 ≤ reply.length ∧ sensorReading p.address (reply.take 6) = none)) →
    let r := sensorOf s p.zone
    let new := { r with
      failures := min 3 (r.failures + 1), state := if r.state = .fresh ∧ 2 ≤ r.failures then .stale else r.state }
    let early := s.eval.early || decide (r.state = .fresh ∧ 2 ≤ r.failures)
    ∃ t, exec c s = .next t ∧
      ({ t with port := s.port } : State).timeless =
        (if p.attempt = 1 then
          { s with sens := { s.sens with lines := lines, poll := some { p with attempt := 2, startedAt := s.now } } }
        else if p.discarded = true then { s with sens := { s.sens with lines := lines, poll := none } }
        else
          { s with sens := { s.sens with lines := lines, poll := none, zone := s.sens.zone.set p.zone new },
                   eval := { s.eval with early := early } } : State).timeless

/-- Replies are read through a filter of each line; a good one makes its zone FRESH, an age of 180 s LOST (window start: log
4; bits: log 42) -/
def Obligations.SensorRepliesAndAge : Prop :=
  (∀ (f : LineFilter) (level : Bool),
      (f.last = level → (f.sample level).accepted = level) ∧ (f.last ≠ level → (f.sample level).accepted = f.accepted) ∧
        (f.sample level).last = level) ∧
  (∀ (f : BusFilter) (samples : List (List BusSample)) (noisy : List (List BusSample × Bool × Bool × Bool)) (bytes : List Byte),
      (f.bits samples).1 =
          ⟨(samples.flatten.map BusSample.line).foldl LineFilter.sample f.line,
            (samples.flatten.map BusSample.other).foldl LineFilter.sample f.other⟩ ∧
        (f.bits (noisy.map fun x => x.1 ++ [⟨x.2.1, x.2.2.1⟩, ⟨x.2.1, x.2.2.2⟩])).2 = noisy.map (fun x => x.2.1) ∧
        bytesOfBits (bytes.flatMap fun b => (List.range 8).map fun k => b.getMsbD k) = bytes) ∧
  (∀ (s : State) (p : Poll) (first more samples : List (List BusSample)) (reply : List Byte) (temp : Int) (rh : Option Nat),
    Calm s → samples = first ++ more → s.sens.poll = some p → s.now ≤ p.startedAt + 15 →
    bytesOfBits (s.sens.lines.bits samples).2 = (byte p.address + 0x80) :: reply →
    let lines := (s.sens.lines.bits samples).1
    (reply.length < 6 →
      ∃ t, exec (.sensorReply first more) s = .next t ∧
        t.timeless = ({ s with sens := { s.sens with lines := lines } } : State).timeless) ∧
    (6 ≤ reply.length → sensorReading p.address (reply.take 6) = some (temp, rh) →
      let new : SensorRec := ⟨.fresh, some temp, rh, some temp, 0, some s.now⟩
      let early := s.eval.early || decide ((sensorOf s p.zone).state ≠ .fresh)
      ∃ t, exec (.sensorReply first more) s = .next t ∧
        ({ t with port := s.port } : State).timeless =
          (if p.discarded = true then { s with sens := { s.sens with lines := lines, poll := none } }
          else
            { s with sens := { s.sens with lines := lines, poll := none, zone := s.sens.zone.set p.zone new },
                     eval := { s.eval with early := early } } : State).timeless)) ∧
  ∀ (s : State) (z : ZoneId) (since : Nat), Calm s → (sensorOf s z).ageFrom = some since → since + 180000 ≤ s.now →
    let r := sensorOf s z
    ∃ t, exec (.sensorAgeExpiry z) s = .next t ∧
      ({ t with port := s.port } : State).timeless =
        ({ s with
          sens := { s.sens with
            zone := s.sens.zone.set z { r with state := .lost, rh := none, eff := s.sens.returnAir, ageFrom := none } }
          eval := { s.eval with early := s.eval.early || decide (r.state ≠ .lost) } } : State).timeless

/-! ### Evaluation passes, calls and the mode -/

/-- EVALUATION_TIMER_EXPIRY and EARLY_PASS_SPACING_END run a pass with its calls, mode and wake; REST_END asks for one
-/
def Obligations.PassesFormCallsAndMode : Prop :=
  (∀ (s : State) (c : Instr), s.op.state ≠ .startup →
      (c = .evaluationTimerExpiry ∧ (∃ t0, s.eval.timerFrom = some t0 ∧ t0 + 30000 ≤ s.now) ∨
        c = .earlyPassSpacingEnd ∧
          (s.eval.lastPass = none ∨ s.eval.early = true ∧ ∃ t0, s.eval.lastPass = some t0 ∧ t0 + 5000 ≤ s.now)) →
      let a := s.arb.decideMode (sideView { s with work := Eight.ofFn (stepOne s) })
      ∃ t, exec c s = .next t ∧ t.eval.timerFrom = some s.now ∧ t.eval.lastPass = some s.now ∧
        (∀ z : ZoneId,
          (t.work.get z).call = (stepOne s z).call ∧ (t.work.get z).suspended = (stepOne s z).suspended ∧
            (t.work.get z).d = (stepOne s z).d ∧ (t.work.get z).i = (stepOne s z).i ∧
            (t.work.get z).l = (stepOne s z).l) ∧
        t.arb.mode = a.mode ∧ t.arb.served = a.served ∧ t.zcfg = s.zcfg ∧ t.setp = s.setp ∧ t.cfg = s.cfg ∧
        t.prot.hist = s.prot.hist ∧ t.prot.lockout = s.prot.lockout ∧ t.prot.limit = s.prot.limit ∧
        (s.op.state = .resting → s.op.testPhase = .idle → (∀ t0, s.link.lowAt = some t0 → t0 + 2 ≤ s.now) →
          ((∃ z : ZoneId, (stepOne s z).call ≠ .satisfied) →
            t.op.state = (if s.op.request = .on then .on else .off) ∧ t.sens.nextSlot = 0 ∧ t.sens.nextSlotAt = s.now ∧
              t.sens.slotMs = 1250 ∧ (s.link.state = .slow → t.link.state = .active)) ∧
          ((∀ z : ZoneId, (stepOne s z).call = .satisfied) → t.op.state = .resting))) ∧
  ∀ (s : State) (start length : Nat), Calm s → s.arb.mode = .rest → s.arb.restEnded = false →
    s.arb.restStart = some start → s.arb.restLength = some length → start + length * 60000 ≤ s.now →
    ∃ t, exec .restEnd s = .next t ∧
      t.timeless =
        ({ s with arb := { s.arb with restEnded := true }, eval := { s.eval with early := true } } : State).timeless

/-- COOL, HEAT, FROST and DRY calls begin, hold and end at their bounds with D, I and L from the readings; other zones
are SATISFIED -/
def Obligations.CallsAndDemand : Prop :=
  (∀ (s : State) (z : ZoneId),
      let st := s.zst.get z
      let w := s.work.get z
      (st.state = .active → st.unconf = false →
        stepOne s z =
          activeWork ⟨s.op.request, s.op.policy, s.op.frost, s.eval.hpCapable⟩ (s.setp.get z) (sensorOf s z) w) ∧
        (st.state ≠ .active ∨ st.unconf = true →
          stepOne s z = { w with call := .satisfied, suspended := false, d := 0, i := 0, l := 0 })) ∧
  (∀ (c : CallSetting) (p : Setpoints) (r : SensorRec) (w : ZoneWork), p.heat + 10 ≤ p.cool →
      let new := activeWork c p r w
      let cools := c.request = .on ∧ (c.policy = .auto ∨ c.policy = .cool)
      let heats := c.request = .on ∧ (c.policy = .auto ∨ c.policy = .heat) ∧ c.hpCapable = true
      let frosts := c.request = .off ∧ c.frost = true ∧ c.hpCapable = true
      let demand := fun (held : Bool) (e : Int) =>
        let i := max 0 (min 50 ((if held then (w.i : Int) else 0) + e.tdiv 5))
        (new.i : Int) = i ∧ (new.d : Int) = max 10 (min 100 ((e * 5).tdiv 2 + i)) ∧ new.l = 0 ∧ new.suspended = false
      (r.eff = none → new.call = .satisfied ∧ new.d = 0 ∧ new.i = 0 ∧ new.l = 0) ∧
      ∀ t : Int, r.eff = some t →
        (new.call = .cool ↔ cools ∧ (3 ≤ t - p.cool ∨ w.call = .cool ∧ -2 < t - p.cool)) ∧
        (new.call = .heat ↔ heats ∧ (3 ≤ p.heat - t ∨ w.call = .heat ∧ -2 < p.heat - t)) ∧
        (new.call = .cool → demand (decide (w.call = .cool)) (t - p.cool)) ∧
        (new.call = .heat → demand (decide (w.call = .heat)) (p.heat - t)) ∧
        (new.call = .frost ↔
          frosts ∧ (r.state = .fresh ∨ r.state = .stale) ∧
            ∃ own, r.temp = some own ∧ (own < 50 ∨ w.call = .frost ∧ own < 80)) ∧
        (new.call = .frost → new.d = 100 ∧ new.i = 0 ∧ new.l = 0) ∧
        (new.call ≠ .cool → new.call ≠ .heat → new.call ≠ .frost → new = dryOrSatisfied c p r w)) ∧
  ∀ (c : CallSetting) (p : Setpoints) (r : SensorRec) (w : ZoneWork) (t : Int) (rh target : Nat),
      let new := dryOrSatisfied c p r w
      let may := c.request = .on ∧ (c.policy = .auto ∨ c.policy = .cool ∨ c.policy = .dry)
      let reads := (r.state = .fresh ∨ r.state = .stale) ∧ r.temp = some t ∧ r.rh = some rh ∧ p.dry = some target
      (new.call = .dry ∨ new.call = .satisfied ∧ new.d = 0 ∧ new.i = 0 ∧ new.l = 0 ∧ new.suspended = false) ∧
      (¬may ∨ r.rh = none ∨ p.dry = none ∨ (r.state ≠ .fresh ∧ r.state ≠ .stale) → new.call = .satisfied) ∧
      (may → reads →
        (w.call = .dry → (new.call = .dry ↔ target < rh)) ∧
        (w.call ≠ .dry → (new.call = .dry ↔ target + 30 ≤ rh ∧ p.heat + 20 ≤ t)) ∧
        (new.call = .dry → w.call ≠ .dry → new.suspended = false) ∧
        (new.call = .dry → w.call = .dry → w.suspended = false → (new.suspended = true ↔ t ≤ p.heat + 10)) ∧
        (new.call = .dry → w.call = .dry → w.suspended = true → (new.suspended = true ↔ t < p.heat + 20)) ∧
        (new.call = .dry → new.i = 0 ∧
          (new.suspended = true → new.l = 0 ∧ new.d = 0) ∧
          (new.suspended = false → new.l = min (rh - target) 100 ∧ new.d = max 10 (min 100 (rh - target)))))

/-- A pass renews aggregates, relief withdrawn, band side, waiting times, park states and the idle time -/
def Obligations.PassRenewsRecords : Prop :=
  (∀ (side : Side) (da : Nat) (w : ZoneWork),
      weight side da w =
        if side = .cooling then
          (if w.call = .cool then da * w.d else if w.call = .dry ∧ w.suspended = false then da * w.l else 0)
        else if w.call = .heat ∨ w.call = .frost then da * w.d else 0) ∧
  (∀ s : State,
      let v := sideView s
      v.now = s.now ∧ (∀ side, v.w side = (Eight.ofFn fun z => weight side (s.zcfg.get z).da (s.work.get z)).sum) ∧
        v.blocked = s.prot.floatHeld ∧ (v.anyCool = true ↔ ∃ z : ZoneId, (s.work.get z).call = .cool) ∧
        (v.anyDry = true ↔ ∃ z : ZoneId, (s.work.get z).call = .dry ∧ (s.work.get z).suspended = false) ∧
        v.request = s.op.request ∧ v.policy = s.op.policy ∧ v.hpCapable = s.eval.hpCapable ∧
        (v.inTest = true ↔ s.op.state = .test) ∧
        (v.atRest = true ↔
          s.seq.state = .stopped ∨ s.seq.state = .waitStart ∨ s.seq.state = .tripped ∨ s.seq.state = .lockout) ∧
        v.minHold = s.cfg.minHold ∧ v.releaseTime = s.cfg.releaseTime ∧ v.restTime = s.cfg.restTime ∧
        v.maxWait = s.cfg.maxWait) ∧
  ∀ (s : State) (c : Instr), PassTaken s c →
    let formed := { s with work := Eight.ofFn (stepOne s) }
    let v := sideView formed
    let a := s.arb.decideMode v
    let side : Option Side :=
      match s.arb.mode with
      | .cool => some .cooling
      | .dry => some .cooling
      | .heat => some .heating
      | .rest => s.arb.restTarget
      | _ => s.arb.lastServed
    let waits := fun x : Side => a.mode ≠ .test ∧ a.served ≠ some x
    let adds := fun (x : Side) (z : ZoneId) => 0 < weight x (s.zcfg.get z).da (stepOne s z)
    ∃ t, exec c s = .next t ∧ t.app.bandSide = side ∧
      (∀ z : ZoneId,
        (t.work.get z).withdrawn = stepTwo formed side z ∧
          (t.work.get z).waiting =
            (if stateOf s z = .active ∧ (waits .cooling ∧ adds .cooling z ∨ waits .heating ∧ adds .heating z) then
              some ((s.work.get z).waiting.getD s.now)
            else none) ∧
          stateOf t z = parkedBy (s.setp.get z).park (stateOf s z)) ∧
      t.arb.waitCool = (if waits .cooling ∧ 0 < v.wCool then some (s.arb.waitCool.getD s.now) else none) ∧
      t.arb.waitHeat = (if waits .heating ∧ 0 < v.wHeat then some (s.arb.waitHeat.getD s.now) else none) ∧
      (s.op.state ≠ .resting → s.op.notice = false →
        t.op.idleFrom =
          if (s.op.state = .off ∨ s.op.state = .on) ∧ a.mode = .idle then some (s.op.idleFrom.getD s.now) else none)

/-- The plan of a pass is discarded where it equals the plan held, incoming or applied, else numbered and handed on -/
def Obligations.PassHandsPlanOn : Prop :=
  ∀ (s : State) (c : Instr), PassTaken s c → s.drive.queue = [] → AirSafe s →
    (∀ t0, s.link.lowAt = some t0 → t0 + 2 ≤ s.now) → s.arb.deferral = true ∨ s.co.held = none →
    let p := planOfPass s
    let reference :=
      match s.co.held, s.co.incoming with
      | some held, _ => held
      | none, some incoming => incoming
      | none, none => s.co.applied
    let n := if s.app.number = 65535 then 1 else s.app.number + 1
    let q := { p with number := n }
    let stays := fun t : State =>
      t.co.held = s.co.held ∧
        (t.co.incoming = s.co.incoming ∧ t.co.applied = s.co.applied ∨
          s.co.incoming = some t.co.applied ∧ t.co.incoming = none)
    ∃ t, exec c s = .next t ∧
      ({ p with number := 0 } = { reference with number := 0 } → t.app.number = s.app.number ∧ stays t) ∧
      ({ p with number := 0 } ≠ { reference with number := 0 } →
        t.app.number = n ∧
          (s.arb.deferral = true → t.co.held = some q ∧ stays { t with co := { t.co with held := s.co.held } }) ∧
          (s.arb.deferral = false →
            t.co.held = none ∧ (t.co.incoming = some q ∨ t.co.incoming = none ∧ t.co.applied = q)))

/-- Relief is withdrawn and given back at the bounds of the band in force, judged afresh at a new side, and withdrawn in
cooling under a suspended DRY call (log 36) -/
def Obligations.ReliefWithdrawn : Prop :=
  ∀ (s : State) (z : ZoneId) (t : Int),
    let st := s.zst.get z
    let p := s.setp.get z
    let was := (s.work.get z).withdrawn
    let own := (sensorOf s z).state = .fresh ∨ (sensorOf s z).state = .stale
    let eligible := st.state = .active ∧ st.unconf = false ∧ 0 < (s.zcfg.get z).ra ∧ own
    let dried := (s.work.get z).call = .dry ∧ (s.work.get z).suspended = true
    let new := fun side : Option Side => stepTwo s side z = true
    ¬new none ∧ (¬eligible → ∀ side, ¬new side) ∧
    (eligible → (sensorOf s z).temp = some t →
      (s.app.bandSide = some .cooling →
        (new (some .cooling) ↔ t ≤ p.heat + 10 ∨ dried ∨ was = true ∧ t < p.heat + 20) ∧
          (new (some .heating) ↔ p.cool - 10 ≤ t)) ∧
      (s.app.bandSide = some .heating →
        (new (some .heating) ↔ p.cool - 10 ≤ t ∨ was = true ∧ p.cool - 20 < t) ∧
          (new (some .cooling) ↔ t ≤ p.heat + 10 ∨ dried)) ∧
      (s.app.bandSide = none →
        (new (some .cooling) ↔ t ≤ p.heat + 10 ∨ dried) ∧ (new (some .heating) ↔ p.cool - 10 ≤ t)))

/-- The arbiter decides the mode by the first case that applies, keeps or leaves the side served, and starts a side
through REST -/
def Obligations.ModeIsDecidedInOrder : Prop :=
  ∀ (a : Arbiter) (v : SideView) (side : Side),
    let b := a.decideMode v
    let other := side.other
    let ordinary := a.deferral = false ∧ v.inTest = false ∧ (a.mode = .rest → a.restOver v.now = true) ∧
      ¬(v.request = .on ∧ v.policy = .fan)
    let serves := ordinary ∧ a.served = some side
    let waits := fun (since : Option Nat) (min : Nat) => ∀ t0, since = some t0 → v.now < t0 + min * 60000
    let waited := fun (since : Option Nat) (min : Nat) => ∃ t0, since = some t0 ∧ t0 + min * 60000 ≤ v.now
    let outlasted := waited (a.waitOf other) v.maxWait
    let restTo := fun x : Side => b.mode = .rest ∧ b.restTarget = some x ∧ b.served = none ∧ b.sideStart = none ∧
      b.noCallers = none ∧ b.restLength = some v.restTime ∧ b.restStart = if v.atRest then some v.now else none
    let starts := fun x : Side => b.served = some x ∧ b.sideStart = some v.now ∧ b.lastServed = some x ∧
      b.noCallers = none ∧ (x = .heating → b.mode = .heat) ∧
      (x = .cooling → b.mode = if v.anyCool || !v.anyDry then .cool else .dry)
    let kept := b.served = some side ∧ b.sideStart = a.sideStart ∧ b.lastServed = a.lastServed ∧
      (side = .heating → b.mode = .heat) ∧ (side = .cooling → v.anyCool = true → b.mode = .cool) ∧
      (side = .cooling → v.anyCool = false → b.mode = if v.anyDry then .dry else a.mode)
    (a.deferral = true → b.mode = a.mode ∧ b.served = a.served) ∧
    (a.deferral = false → v.inTest = true → b.mode = .test ∧ b.served = none) ∧
    (a.deferral = false → v.inTest = false → a.mode = .rest → a.restOver v.now = false → b = a) ∧
    (a.deferral = false → v.inTest = false → (a.mode = .rest → a.restOver v.now = true) → v.request = .on →
      v.policy = .fan → b.mode = .fan ∧ b.served = none) ∧
    (serves → v.isBlocked side = true ∨
        v.w side = 0 ∧ (v.request = .off ∨ v.forms side = false ∨ waited a.noCallers v.releaseTime) →
      (v.isBlocked other = false → 0 < v.w other ∨ 0 < v.w side ∧ outlasted → restTo other) ∧
        (v.isBlocked other = true ∨ v.w other = 0 ∧ (v.w side = 0 ∨ ¬outlasted) →
          b.mode = .idle ∧ b.served = none ∧ b.sideStart = none ∧ b.noCallers = none)) ∧
    (serves → v.isBlocked side = false → v.w side = 0 → v.request = .on → v.forms side = true → 0 < v.releaseTime →
      waits a.noCallers v.releaseTime → kept ∧ b.noCallers = some (a.noCallers.getD v.now)) ∧
    (serves → 0 < v.w side → v.isBlocked other = false →
      waited a.sideStart v.minHold ∧ v.w side < v.w other ∨ outlasted → restTo other) ∧
    (serves → v.isBlocked side = false → 0 < v.w side →
      v.isBlocked other = true ∨
        (v.w other ≤ v.w side ∨ waits a.sideStart v.minHold) ∧ waits (a.waitOf other) v.maxWait →
      kept ∧ b.noCallers = none) ∧
    (ordinary → a.served = none → v.w .cooling = 0 ∨ v.blocked = true → v.w .heating = 0 →
      b.mode = .idle ∧ b.served = none) ∧
    (ordinary → a.served = none → 0 < v.w side → v.isBlocked side = false →
      v.w other < v.w side ∨ v.isBlocked other = true ∨
        v.w other = v.w side ∧ (a.lastServed = some other ∨ a.lastServed = none ∧ side = .cooling) →
      (a.mode ≠ .rest → a.lastServed = some other → restTo side) ∧
        (a.mode = .rest ∨ a.lastServed ≠ some other → starts side))

/-! ### Plans -/

/-- In every plan the airflows sum to the blower target within Qhi, and no zone exceeds its design airflow -/
def Obligations.PlanAirflowsAddUp : Prop :=
  ∀ v : PlanView, PlanViewGood v →
    let p := buildPlan v
    p.q = (Eight.ofFn fun z => (p.zones.get z).air).sum ∧ p.q ≤ v.qhi ∧
      (∀ z : ZoneId, (p.zones.get z).air ≤ (v.zones.get z).da) ∧
      (∀ z : ZoneId, (p.zones.get z).role = .excluded → (p.zones.get z).air = 0) ∧
      (∀ z : ZoneId, (v.zones.get z).active = false → (p.zones.get z).role = .excluded) ∧
      v.a2Sum ≤ v.qhi ∧
      (v.members = [] → p.q = 0 ∧ ∀ z : ZoneId, (p.zones.get z).air = 0) ∧
      (v.members ≠ [] → v.a2Sum ≤ p.q ∧ (v.a2Sum < p.q → p.q ≤ v.qsysMin * v.f / 100))

/-- An opening is ceil(200 A / DA) within 20..200 where there is air, and 0 where there is none -/
def Obligations.PlanOpeningsFollowAirflow : Prop :=
  ∀ v : PlanView, PlanViewGood v →
    let p := buildPlan v
    (∀ z : ZoneId,
      let air := (p.zones.get z).air
      let da := (v.zones.get z).da
      let n := (p.zones.get z).opening
      (air = 0 → n = 0) ∧
        (0 < air → 20 ≤ n ∧ n ≤ 200 ∧ air * 200 ≤ n * da ∧ (20 < n → (n - 1) * da < air * 200)) ∧
        (0 < air → air * 10 ≤ da → n = 20)) ∧
    (0 < p.q → ∃ z : ZoneId, 0 < (p.zones.get z).air ∧ 20 ≤ (p.zones.get z).opening)

/-- A plan's capacity is 0 or 20..100, by Table 3.3 from C0 and Cair -/
def Obligations.PlanCapacityIsZeroOrEnough : Prop :=
  ∀ v : PlanView, PlanViewGood v →
    let p := buildPlan v
    let cair := 125 * p.q / (v.qrated * v.f / 100)
    let c0 := (100 * v.a2Sum + v.qrated * v.f / 100 - 1) / (v.qrated * v.f / 100)
    (p.c = 0 ∨ 20 ≤ p.c ∧ p.c ≤ 100) ∧ (v.members = [] → p.c = 0) ∧
    (v.mode = .cool ∨ v.mode = .dry ∨ v.mode = .heat → v.members ≠ [] →
      1 ≤ c0 ∧ (v.qhi < v.rawSum → 93 ≤ v.a2Sum) ∧ (v.rawSum ≤ v.qhi → 20 ≤ v.a2Sum) ∧
        (20 ≤ c0 → 20 ≤ cair → p.c = min (min c0 100) cair) ∧ (c0 < 20 → 20 ≤ cair → p.c = 20) ∧
        (cair < 20 → p.c = 0))

/-- The coil target is the smallest Td - 6.0 °C of the calling zones that dry, within 4.0..14.0 °C, and absent without
one -/
def Obligations.CoilTargetFollowsDriestRoom : Prop :=
  ∀ v : PlanView, (∀ z : ZoneId, (v.zones.get z).rh ≤ 1000) →
    let p := buildPlan v
    let dries := fun z : ZoneId =>
      (v.mode = .cool ∨ v.mode = .dry) ∧ v.k z = true ∧ (v.zones.get z).call = .dry ∧ (v.zones.get z).suspended = false
    let raw := fun z : ZoneId =>
      (v.zones.get z).temp - (1000 - max ((v.zones.get z).rh : Int) 500) / 5 - 60
    ((∃ c, p.coilTarget = some c) ↔ ∃ z, dries z) ∧
      ∀ c, p.coilTarget = some c →
        40 ≤ c ∧ c ≤ 140 ∧ (∃ z, dries z ∧ c = max 40 (min 140 (raw z))) ∧
          ∀ z, dries z → c ≤ max 40 (min 140 (raw z))

/-! ### Dampers and the changeover -/

/-- DAMPER_STEP moves a MOVE one step and counts a step of a HOME; DAMPER_STALL ends a MOVE: two stalls home, the
third faults -/
def Obligations.DamperStepsAndStalls : Prop :=
  (∀ (s : State) (d : ZoneId) (slot : Slot), s.drive.slotOf d = some slot → slot.lastStep + 20 ≤ s.now →
      let x := damperOf s d
      let pos : Option Nat :=
        match slot.what with
        | .move u => x.position.map fun p => if p < u then p + 1 else p - 1
        | .home => x.position
      (match slot.what with
        | .move u => x.position ≠ none ∧ x.position ≠ some u
        | .home => slot.steps < 220) →
      (s.blower.goal = 0 ∨ passes pos = true ∨ ∃ y : ZoneId, y ≠ d ∧ passes (damperOf s y).position = true) →
      ∃ t, exec (.damperStep d) s = .next t ∧ damperOf t d = { x with position := pos } ∧
        t.drive.slotOf d = some { slot with steps := slot.steps + 1, lastStep := slot.lastStep + 20 } ∧
        (∀ y : ZoneId, y ≠ d → damperOf t y = damperOf s y ∧ t.drive.slotOf y = s.drive.slotOf y) ∧
        t.drive.queue = s.drive.queue ∧ t.drive.resetHomes = s.drive.resetHomes ∧
        t.drive.passedOver = s.drive.passedOver ∧ ({ t with drive := s.drive } : State) = s) ∧
  ∀ (s : State) (d : ZoneId) (slot : Slot) (u : Nat), Calm s → s.drive.slotOf d = some slot → slot.what = .move u →
      (s.blower.goal = 0 ∨ ∃ y : ZoneId, y ≠ d ∧ passes (damperOf s y).position = true) →
      let x := damperOf s d
      let st := (s.zst.get d).state
      let counts := decide (st = .active) || decide (st = .parked)
      let faults := counts && (decide (2 ≤ x.stalls) || s.inp.windingOpen.get d)
      let leaves := faults && (s.zst.get d).unconf
      ∃ t, exec (.damperStall d) s = .next t ∧
        damperOf t d =
          (if leaves then ⟨none, .idle, .nothing, 0⟩
          else if faults then ⟨none, .fault, .nothing, min 3 (x.stalls + 1)⟩
          else if counts then ⟨none, .homing, .nothing, x.stalls + 1⟩ else ⟨none, .idle, .nothing, x.stalls⟩) ∧
        t.drive.slotOf d = (if counts && !faults then some ⟨d, .home, 0, s.now, false⟩ else none) ∧
        t.zst = (if faults then s.zst.set d ⟨if leaves then .unused else .fault, false⟩ else s.zst) ∧
        (leaves = false → t.sens = s.sens ∧ t.work = s.work) ∧
        (leaves = true →
          t.sens = { s.sens with
            zone := s.sens.zone.set d SensorRec.zero
            poll := s.sens.poll.map fun p => if p.zone = d then { p with discarded := true } else p } ∧
          t.work = s.work.set d ZoneWork.zero ∧ d ∈ t.drive.passedOver) ∧
        (∀ y : ZoneId, y ≠ d → (y ∈ t.drive.passedOver ↔ y ∈ s.drive.passedOver)) ∧
        t.eval = { s.eval with early := s.eval.early || faults } ∧ t.drive.queue = [] ∧
        t.drive.resetHomes =
          (if faults then s.drive.resetHomes.filter (fun z => decide (z ≠ d)) else s.drive.resetHomes) ∧
        (∀ y : ZoneId, y ≠ d → damperOf t y = damperOf s y ∧ t.drive.slotOf y = s.drive.slotOf y) ∧
        ({ t with drive := s.drive, zst := s.zst, sens := s.sens, work := s.work, eval := s.eval
                  port := s.port } : State).timeless = s.timeless

/-- MOVE_COMPLETE and HOME_COMPLETE free the slot; a follow-on or repair move starts at once, or faults; the last reset
HOME ends STARTUP -/
def Obligations.DamperMotionsComplete : Prop :=
  (∀ (s : State) (d : ZoneId) (slot : Slot) (home : Bool), Calm s → AirSafe s → s.drive.slotOf d = some slot →
    (home = false → ∃ u, slot.what = .move u ∧ (damperOf s d).position = some u) →
    (home = true → slot.what = .home ∧ 220 ≤ slot.steps) → (damperOf s d).followOn ≠ .home →
    let pos := if home then 0 else (damperOf s d).position.getD 0
    let plan := s.co.applied.zones.get d
    let next : Option Nat :=
      if (damperOf s d).followOn ≠ .nothing ∧ (damperOf s d).followOn ≠ .target pos then
        (match (damperOf s d).followOn with | .target u => some u | _ => none)
      else if (plan.role = .calling ∨ plan.role = .relief ∨ plan.role = .closed) ∧ stateOf s d = .active ∧
          plan.opening ≠ pos then some plan.opening
      else none
    let faults := next.isSome && s.inp.windingOpen.get d
    (faults = true → s.zst.get d = ⟨.active, false⟩ ∧
      (s.blower.goal = 0 ∨ ∃ y : ZoneId, y ≠ d ∧ passes (damperOf s y).position = true)) →
    ∃ t, exec (if home then .homeComplete d else .moveComplete d) s = .next t ∧
      damperOf t d =
        ⟨if faults then none else some pos, if faults then .fault else if next = none then .idle else .moving, .nothing,
          if home then (damperOf s d).stalls else 0⟩ ∧
      t.drive.slotOf d =
        (if faults then none else next.map (fun u => ⟨d, .move u, 0, s.now, decide (pos < u)⟩)) ∧
      t.drive.queue = [] ∧ t.drive.passedOver = s.drive.passedOver ∧
      t.drive.resetHomes =
        (if home || faults then s.drive.resetHomes.filter (fun z => decide (z ≠ d)) else s.drive.resetHomes) ∧
      t.zst = (if faults then s.zst.set d ⟨.fault, false⟩ else s.zst) ∧
      t.eval = { s.eval with early := s.eval.early || faults } ∧ (faults = false → t.port = s.port) ∧
      (∀ y : ZoneId, y ≠ d → damperOf t y = damperOf s y ∧ t.drive.slotOf y = s.drive.slotOf y) ∧
      ({ t with drive := s.drive, zst := s.zst, eval := s.eval, port := s.port } : State).timeless = s.timeless) ∧
  ∀ (s : State) (d : ZoneId) (slot : Slot), s.op.state = .startup → s.drive.slotOf d = some slot → slot.what = .home →
    220 ≤ slot.steps → (damperOf s d).followOn = .nothing → (∀ z ∈ s.drive.resetHomes, z = d) → s.drive.queue = [] →
    s.todo = Todo.clear → s.co.phase = .applied → s.co.incoming = none → s.co.held = none → s.op.testPhase = .idle →
    s.eval.lastPass = none → s.seq.state = .stopped → wakeRoundDue s = false →
    (s.op.latched = .test → s.now < s.seq.minOffFrom + 180000) →
    let o := s.op
    let request : OpRequest :=
      match o.latched with
      | .nothing => o.request
      | .toggle => if o.request = .on then .off else .on
      | .test => .off
    ∃ t, exec (.homeComplete d) s = .next t ∧ t.op.request = request ∧
      t.op.state = (if request = .on then .on else .off) ∧ t.op.latched = .nothing ∧
      t.op.testPhase = (if o.latched = .test then .preparing else .idle) ∧
      (request ≠ o.request → t.store.autoPending = true ∨ t.store.writer ≠ .idle) ∧
      t.eval.timerFrom = some s.now ∧ t.eval.lastPass = some s.now ∧ t.drive.resetHomes = []

/-- A move request is taken by Table 6.2 for the damper of an ACTIVE zone, and not at all for another zone -/
def Obligations.MoveRequestsAreTaken : Prop :=
  ∀ (s : State) (d : ZoneId) (n u : Nat),
    let t := moveRequest d n s
    let x := damperOf s d
    let follow : FollowOn := if n = 0 then .nothing else .target n
    (stateOf s d ≠ .active → t = s) ∧
    ({ t with drive := s.drive } : State) = s ∧ t.drive.slot1 = s.drive.slot1 ∧ t.drive.slot2 = s.drive.slot2 ∧
    t.drive.resetHomes = s.drive.resetHomes ∧ t.drive.passedOver = s.drive.passedOver ∧
    (∀ y : ZoneId, y ≠ d → damperOf t y = damperOf s y ∧ t.drive.entryOf y = s.drive.entryOf y) ∧
    (stateOf s d = .active →
      (x.motion = .idle → x.position = some n → t = s) ∧
      (x.motion = .idle → (∃ p, x.position = some p ∧ p ≠ n) →
        t.drive.queue = s.drive.queue ++ [⟨d, .move n⟩] ∧ damperOf t d = { x with motion := .queued }) ∧
      (x.motion = .idle → x.position = none →
        t.drive.queue = s.drive.queue ++ [⟨d, .home⟩] ∧
          damperOf t d = { x with motion := .queued, followOn := follow }) ∧
      (x.motion = .queued → s.drive.entryOf d = some ⟨d, .move u⟩ → x.position ≠ some n →
        t.drive.entryOf d = some ⟨d, .move n⟩ ∧ damperOf t d = x ∧
          t.drive.queue.map QueueEntry.damper = s.drive.queue.map QueueEntry.damper) ∧
      (x.motion = .queued → s.drive.entryOf d = some ⟨d, .move u⟩ → x.position = some n →
        t.drive.entryOf d = none ∧ damperOf t d = { x with motion := .idle }) ∧
      (x.motion = .queued → s.drive.entryOf d = some ⟨d, .home⟩ →
        t.drive.queue = s.drive.queue ∧ damperOf t d = { x with followOn := follow }) ∧
      (x.motion = .moving → (∃ slot, s.drive.slotOf d = some slot ∧ slot.what = .move u) →
        t.drive.queue = s.drive.queue ∧ damperOf t d = { x with followOn := if n = u then .nothing else .target n }) ∧
      (x.motion = .homing → t.drive.queue = s.drive.queue ∧ damperOf t d = { x with followOn := follow }) ∧
      (x.motion = .fault → t = s))

/-- OPEN ends in the blower's goal, BLOWER in the release of capacity, CLOSE in the plan applied; the guard takes the
goal away -/
def Obligations.ChangeoverPhasesEnd : Prop :=
  ∀ (s : State) (p : Plan),
    let released := some (⟨p.mode, p.c, p.coilTarget⟩ : Release)
    (s.arb.deferral = true → handOn p s = { s with co := { s.co with held := some p } }) ∧
    (s.arb.deferral = false → s.co.phase = .applied →
      let t := handOn p s
      t.co.incoming = some p ∧ t.co.phase = .opening ∧ t.co.reapply = false ∧ t.co.applied = s.co.applied ∧
        (p.c ≤ commanded s → t.co.released = true ∧ t.seq.release = released) ∧
        (commanded s < p.c → t.co.released = false ∧ t.seq = s.seq)) ∧
    (s.co.incoming = some p → s.co.phase = .opening →
      let done := ∀ z : ZoneId, 0 < (p.zones.get z).opening →
        (damperOf s z).motion = .fault ∨ z ∈ s.drive.passedOver ∨
          (∃ n, (damperOf s z).position = some n ∧ (p.zones.get z).opening ≤ n) ∧
            ¬∃ slot u, s.drive.slotOf z = some slot ∧ slot.what = .move u ∧ slot.opens = true ∧
              u ≤ (p.zones.get z).opening
      let t := phaseStep s
      (¬done → t.co = s.co ∧ t.blower = s.blower) ∧
        (done → p.q ≠ 0 → s.drive.airPath = false → t.co = s.co ∧ t.blower = s.blower ∧ t.eval.early = true) ∧
        (done → p.q = 0 ∨ s.drive.airPath = true →
          t.co = { s.co with phase := .blower } ∧
            t.blower = s.blower.give s.now s.cfg.table (compressorRunning s) p.q)) ∧
    (s.co.phase = .blower → s.blower.state ≠ .hold → ∀ cold : Bool, (addHold cold s).todo.holdReport = true) ∧
    (s.co.incoming = some p → s.co.phase = .blower → { s.todo with holdReport := false } = Todo.clear →
      s.co.held = none ∨ s.arb.deferral = true → s.op.testPhase ≠ .opening →
      s.drive.queue = [] ∨ s.drive.slot1 ≠ none ∧ s.drive.slot2 ≠ none →
      let done := s.blower.given = 0 ∨ s.blower.state = .hold ∨ s.blower.state = .run ∨ s.todo.holdReport = true
      (done → microStep s = some (endBlower p s)) ∧
        (¬done → ∀ t, microStep s = some t → t.co = s.co)) ∧
    (let t := endBlower p s;
      t.co.phase = .closing ∧ t.co.released = true ∧ t.todo.holdReport = false ∧ t.seq.release = (if s.co.released then s.seq.release else released)) ∧
    (s.co.incoming = some p → s.co.phase = .closing →
      let done := ∀ z : ZoneId,
        (p.zones.get z).role = .calling ∨ (p.zones.get z).role = .relief ∨ (p.zones.get z).role = .closed →
        (damperOf s z).motion = .fault ∨ z ∈ s.drive.passedOver ∨
          (damperOf s z).position = some (p.zones.get z).opening ∧ (damperOf s z).motion = .idle
      let t := phaseStep s
      (¬done → t.co = s.co) ∧
        (done →
          t.co = { s.co with applied := p, incoming := none, phase := .applied, released := false, reapply := false } ∧
            ∀ z : ZoneId, (s.zst.get z).unconf = true → (p.zones.get z).role = .closed → stateOf t z = .unused)) ∧
    (s.blower.goal ≠ 0 → s.drive.airPath = false →
      let t := airGuard s
      t.blower.goal = 0 ∧ t.blower.given = 0 ∧ t.blower.carried = none ∧ t.blower.demand = 0 ∧
        t.blower.retryFrom = none ∧ t.blower.runOnUntil = none ∧
        t.blower.state = (if s.blower.coldBlow || s.blower.defrostHold then .hold else .off) ∧ t.eval.early = true ∧
        t.todo.restart = true)

/-- A newer plan, a damper FAULT, the guard and the end of a defrost begin OPEN again; the damper that faulted is passed
over -/
def Obligations.ChangeoverIsSuperseded : Prop :=
  ∀ (s : State) (p : Plan),
    let begins := fun (t : State) (q : Plan) (mark : Bool) =>
      t.co.incoming = some q ∧ t.co.phase = .opening ∧ t.co.reapply = mark ∧ t.co.applied = s.co.applied ∧
        (q.c ≤ commanded s → t.co.released = true ∧ t.seq.release = some ⟨q.mode, q.c, q.coilTarget⟩) ∧
        (commanded s < q.c → t.co.released = false ∧ t.seq = s.seq)
    (s.co.phase ≠ .applied →
      let t := takePlan p s
      begins t p false ∧ t.co.held = s.co.held ∧ t.drive.slot1 = s.drive.slot1 ∧ t.drive.slot2 = s.drive.slot2 ∧
        ∀ d : ZoneId,
          let x := damperOf s d
          let o := (p.zones.get d).opening
          let role := (p.zones.get d).role
          let cleared : FollowOn := if x.followOn = .home then .home else .nothing
          stateOf s d = .active → s.op.testPhase = .idle → role = .calling ∨ role = .relief →
          (∀ n u, x.motion = .queued → s.drive.slotOf d = none → s.drive.entryOf d = some ⟨d, .move u⟩ →
            x.position = some n →
            (n < o → t.drive.entryOf d = some ⟨d, .move o⟩ ∧ damperOf t d = x) ∧
              (o ≤ n → t.drive.entryOf d = none ∧ damperOf t d = { x with motion := .idle })) ∧
            (∀ slot u, x.motion = .moving → s.drive.slotOf d = some slot → slot.what = .move u →
              s.drive.entryOf d = none →
              damperOf t d = { x with followOn := if u < o then .target o else cleared }) ∧
            (∀ slot, x.motion = .homing → s.drive.slotOf d = some slot → slot.what = .home →
              s.drive.entryOf d = none →
              damperOf t d = { x with followOn := cleared }) ∧
            (∀ n, x.motion = .idle → s.drive.slotOf d = none → s.drive.entryOf d = none → x.position = some n →
              (n < o → t.drive.entryOf d = some ⟨d, .move o⟩ ∧ damperOf t d = { x with motion := .queued }) ∧
                (o ≤ n → t.drive.entryOf d = none ∧ damperOf t d = x))) ∧
    (∀ d : ZoneId,
      let t := faultDamper d s
      let leaves := (stateOf s d = .active ∨ stateOf s d = .parked) ∧ (s.zst.get d).unconf = true
      (¬leaves → (damperOf t d).motion = .fault) ∧
        (leaves → stateOf t d = .unused ∧ damperOf t d = ⟨none, .idle, .nothing, 0⟩ ∧ d ∈ t.drive.passedOver) ∧
        t.todo.faulted = s.todo.faulted ++ [d]) ∧
    (∀ (d : ZoneId) (rest : List ZoneId), s.todo.faulted = d :: rest →
      microStep s = some (abandonFor d { s with todo := { s.todo with faulted := rest } })) ∧
    (∀ d : ZoneId,
      (s.co.incoming = some p → s.co.phase ≠ .applied → s.co.reapply = false → (p.zones.get d).role ≠ .excluded →
        begins (abandonFor d s) s.co.applied true ∧ (abandonFor d s).eval.early = true) ∧
        (s.co.incoming = none ∨ s.co.phase = .applied ∨ s.co.reapply = true ∨
            s.co.incoming = some p ∧ (p.zones.get d).role = .excluded → abandonFor d s = s)) ∧
    (s.todo.faulted = [] → s.todo.restart = true →
      microStep s = some (restartChangeover { s with todo := { s.todo with restart := false } })) ∧
    (s.co.incoming = some p → begins (restartChangeover s) p s.co.reapply) ∧
    (s.co.incoming = none → begins (restartChangeover s) s.co.applied true) ∧
    (s.co.held = some p → s.arb.deferral = false →
      begins (takeHeld s) p false ∧ (takeHeld s).co.held = none ∧
        (s.todo.faulted = [] → s.todo.restart = false → microStep s = some (takeHeld s)))

/-! ### The blower and the duct pressure -/

/-- A goal given acts by the blower's state by R110's table, its times as log 14 reads them; a goal without an air path is
taken as 0; a hold reason holds -/
def Obligations.BlowerTakesGoals : Prop :=
  (∀ (now q : Nat) (table : List BlowerPoint) (running : Bool) (b : Blower),
      let c := b.give now table running q
      let given := { b with given := q }
      let stays := b.state = .hold ∨ q = 0 ∧ (b.state = .off ∨ b.state = .runOn)
      (stays → c = given) ∧ (b.state = .off ∨ b.state = .runOn → q ≠ 0 → RampsTo now table q given c) ∧
        (b.state = .ramp ∨ b.state = .run →
          (q ≠ 0 → q = b.goal → c = { given with carried := none }) ∧
            (q ≠ 0 → q ≠ b.goal → RampsTo now table q given c) ∧
            (q = 0 → running = true → c = { given with carried := some b.goal }) ∧
            (q = 0 → running = false → TurnsOff now table given c))) ∧
  (∀ (s : State) (q : Nat),
      let give := fun (q : Nat) => { s with blower := s.blower.give s.now s.cfg.table (compressorRunning s) q }
      (q = 0 ∨ s.drive.airPath = true → offerGoal q s = give q) ∧
        (q ≠ 0 → s.drive.airPath = false →
          offerGoal q s =
            { give 0 with
              eval := { s.eval with early := true }, todo := { s.todo with restart := true } })) ∧
  ∀ (now : Nat) (table : List BlowerPoint) (cold : Bool) (b : Blower),
    let more := { b with coldBlow := b.coldBlow || cold, defrostHold := b.defrostHold || !cold }
    let less := { b with coldBlow := b.coldBlow && !cold, defrostHold := b.defrostHold && cold }
    let last := b.state = .hold ∧ less.coldBlow = false ∧ less.defrostHold = false
    (b.state = .hold → b.addHold now table cold = more) ∧
      (b.state ≠ .hold → Holds now table more (b.addHold now table cold)) ∧
      (¬last → b.removeHold now table cold = less) ∧
      (last → b.given = 0 → TurnsOff now table less (b.removeHold now table cold)) ∧
      (last → b.given ≠ 0 → RampsTo now table b.given less (b.removeHold now table cold))

/-- The blower ramps one point every 250 ms, settles after 3 s in the band, unsettles after 3 s out of it, and retries
after 60 s -/
def Obligations.BlowerRampsAndSettles : Prop :=
  ∀ s : State,
    let b := s.blower
    let silent := decide (b.lastPulse + 1000 ≤ s.now)
    (b.demand ≠ b.speedGoal → b.retryFrom = none → b.rampFrom + 250 ≤ s.now →
      let d := if b.demand < b.speedGoal then b.demand + 1 else b.demand - 1
      exec .blowerRampTick s =
        .next { s with blower :=
          { b with
            demand := d, rampFrom := b.rampFrom + 250, zeroFrom := if d = 0 then some s.now else none
            goalSince := if d = b.speedGoal then some s.now else none
            settleFrom := if d = b.speedGoal ∧ b.state = .ramp then some s.now else b.settleFrom } }) ∧
    (∀ g, Calm s → b.state = .ramp → b.retryFrom = none → b.goalSince = some g → b.inBand = true → silent = false →
      g + 3000 ≤ s.now → b.bandFrom + 3000 ≤ s.now →
      ∃ t, exec .blowerSettled s = .next t ∧
        t.timeless = ({ s with blower := { b with state := .run, settleFrom := none } } : State).timeless) ∧
    (Calm s → b.state = .run →
      (b.inBand = false ∧ b.bandFrom + 3000 ≤ s.now ∨ b.inBand = true ∧ b.lastPulse + 4000 ≤ s.now) →
      ∃ t, exec .blowerUnsettled s = .next t ∧
        t.timeless = ({ s with blower := { b with state := .ramp, settleFrom := some s.now } } : State).timeless) ∧
    (∀ t0, Calm s → b.retryFrom = some t0 → t0 + 60000 ≤ s.now →
      ∃ t, exec .retryPauseEnd s = .next t ∧
        t.timeless = ({ s with blower := { b with retryFrom := none, rampFrom := s.now } } : State).timeless) ∧
    (∀ (table : List BlowerPoint) (q : Nat),
      let c := b.rampTo s.now table q
      RampsTo s.now table q b c ∧
        (b.retryFrom = none → b.demand = b.speedGoal →
          c.settleFrom = if c.speedGoal = b.speedGoal then some (b.settleFrom.getD s.now) else none)) ∧
    ∀ rpm : Nat,
      ∃ t, exec (.tachometerPulse rpm) s = .next t ∧ t.blower.measured = rpm ∧ t.blower.lastPulse = s.now ∧
        (t.blower.inBand = true ↔ 10 * rpm ≤ 11 * b.expected ∧ 9 * b.expected ≤ 10 * rpm) ∧
        (silent = false → t.blower.bandFrom = if t.blower.inBand = b.inBand then b.bandFrom else s.now) ∧
        ({ t with blower := { t.blower with
          measured := b.measured, lastPulse := b.lastPulse, inBand := b.inBand, bandFrom := b.bandFrom } } : State) = s

/-- A stop report begins the run-on, or OFF, which the run-on ends in; COLD_BLOW ends after 120 s; a blower at rest
lets the grant out -/
def Obligations.BlowerRunsOnHoldsAndRests : Prop :=
  (∀ (b : Blower) (now : Nat) (table : List BlowerPoint) (m : Option Mode),
      let c := b.stopReported now table m
      let blows := b.state = .ramp ∨ b.state = .run
      (¬blows ∨ b.carried = none → c = b) ∧
        ∀ q, blows → b.carried = some q →
          (∀ ms, (m = some .cool ∨ m = some .test) ∧ ms = 60000 ∨ m = some .heat ∧ ms = 90000 →
            GoalPut now table (q / 2) { unpaused now b with state := .runOn, runOnUntil := some (now + ms) } c) ∧
          (m = none ∨ m = some .dry → TurnsOff now table b c)) ∧
  ∀ s : State, Calm s →
    let b := s.blower
    (∀ u, b.state = .runOn → b.runOnUntil = some u → u ≤ s.now →
      ∃ t, exec .runOnExpiry s = .next t ∧ TurnsOff s.now s.cfg.table b t.blower ∧
        ({ t with blower := b } : State).timeless = s.timeless) ∧
    (∀ t0, b.coldBlow = true → s.seq.runStart = some t0 → t0 + 120000 ≤ s.now →
      s.drive.airPath = true ∨ b.given = 0 ∧ b.goal = 0 →
      let leaves := b.state = .hold ∧ b.defrostHold = false
      let less := { b with coldBlow := false }
      ∃ t, exec .coldBlowTimeout s = .next t ∧
        (¬leaves → { t.blower with aboveFrom := b.aboveFrom, belowFrom := b.belowFrom } = less) ∧
        (leaves → b.given = 0 → TurnsOff s.now s.cfg.table less t.blower) ∧
        (leaves → b.given ≠ 0 → RampsTo s.now s.cfg.table b.given less t.blower) ∧
        ({ t with blower := b } : State).timeless = s.timeless) ∧
    (∀ z0, s.seq.state = .defrostPrep → s.seq.grantSent = false → b.state = .hold → b.defrostHold = true →
      b.demand = 0 → b.zeroFrom = some z0 → (b.lastPulse + 1000 ≤ s.now ∨ z0 + 30000 ≤ s.now) →
      ∃ t, exec .blowerAtRest s = .next t ∧
        ({ t with port := s.port } : State).timeless =
          ({ s with seq := { s.seq with grantSent := true, defrostFrom := some s.now } } : State).timeless)

/-- Qhi steps down by a tenth of Qmax after 10 s above the cap in RUN, and up after 10 min below the relief level -/
def Obligations.PressureCapSteps : Prop :=
  ∀ s : State,
    let b := s.blower
    let tenth := s.cfg.qmax / 10
    (∀ reading : Int,
      let p : Option Nat := if 0 ≤ reading ∧ reading ≤ 500 then some reading.toNat else none
      let above := b.state = .run ∧ ∃ n, p = some n ∧ s.cfg.pressureCap < n
      let belowRelief := ∃ n, p = some n ∧ 10 * n < 8 * s.cfg.pressureCap
      ∃ t, exec (.ductPressureConversion reading) s = .next t ∧ t.blower.pressure = p ∧
        (above → t.blower.aboveFrom = some (b.aboveFrom.getD s.now)) ∧ (¬above → t.blower.aboveFrom = none) ∧
        (belowRelief → t.blower.belowFrom = some (b.belowFrom.getD s.now)) ∧
        (¬belowRelief → t.blower.belowFrom = none) ∧
        ({ t with blower := { t.blower with
          pressure := b.pressure, aboveFrom := b.aboveFrom, belowFrom := b.belowFrom } } : State) = s) ∧
    (∀ t0, Calm s → b.aboveFrom = some t0 → t0 + 10000 ≤ s.now →
      let steps := decide (s.cfg.qsysMin < b.qhi)
      ∃ t, exec .aboveCapTimeExpiry s = .next t ∧ (t.blower.aboveFrom = none ∨ t.blower.aboveFrom = some s.now) ∧
        t.timeless =
          ({ s with
            blower := { b with
              qhi := if steps then max (b.qhi - tenth) s.cfg.qsysMin else b.qhi, capped := b.capped || steps }
            eval := { s.eval with early := s.eval.early || steps } } : State).timeless) ∧
    (∀ t0, Calm s → b.belowFrom = some t0 → t0 + 600000 ≤ s.now → b.qhi < s.cfg.qmax →
      let q := min (b.qhi + tenth) s.cfg.qmax
      ∃ t, exec .belowReliefTimeExpiry s = .next t ∧ (t.blower.belowFrom = none ∨ t.blower.belowFrom = some s.now) ∧
        t.timeless =
          ({ s with
            blower := { b with qhi := q, capped := b.capped && decide (q ≠ s.cfg.qmax) }
            eval := { s.eval with early := true } } : State).timeless)

/-! ### The outdoor link -/

/-- Each round begins with its CAP, its request frame follows 50 ms later, and SLOW's diagnostic at 150 ms; a wake
begins a round -/
def Obligations.LinkFramesBegin : Prop :=
  ∀ s : State, (∀ t0, s.link.lowAt = some t0 → t0 + 2 ≤ s.now) →
    let k := s.link
    let frame := fun (kind : FrameKind) (bytes : List Byte) =>
      (⟨kind, bytes, s.now, s.now + linkFrameMs s.cfg.breakLength bytes.length, []⟩ : LinkFrame)
    let diagFrame := fun d : Diagnostic =>
      if d.isRead then frame .diagRead [d.kind, byte d.length] else frame .diagCommand (commandFrame d.kind d.data)
    let round := fun (request : FrameKind) (slowDiag : Bool) =>
      ({ s with link :=
        { k with
          frame := some (frame .cap (commandFrame 0x31 (capData s)))
          round := some ⟨s.now, request, false, slowDiag⟩
          nextRound := s.now + (if k.state = .slow then 10000 else 1000)
          wakeRound := false
          diag := k.diag.map fun d =>
            { d with chosen := slowDiag || decide (request = .diagRead ∨ request = .diagCommand) } } } : State)
    let overridden := k.state = .start ∨ k.state = .lost
    (∃ request slowDiag, (k.nextRound ≤ s.now → exec .roundTick s = .next (round request slowDiag)) ∧
      (k.wakeRound = true → k.frame = none → k.windowEnd ≤ s.now →
        exec .wakeRoundStart s = .next (round request slowDiag)) ∧
      (slowDiag = true ↔ k.state = .slow ∧ ∃ d, k.diag = some d ∧ d.begun = false) ∧
      (k.state = .start → request = .info) ∧ (k.state = .lost ∨ k.state = .slow → request = .stat) ∧
      (k.state = .active ∨ k.state = .degraded →
        (∀ d t, k.diag = some d → d.begun = false → k.lastGood = some t → s.now < t + 2000 →
          request = if d.isRead then .diagRead else .diagCommand) ∧
        ((∀ d, k.diag = some d → d.begun = true) ∨ (∀ t, k.lastGood = some t → t + 2000 ≤ s.now) → request = .stat))) ∧
    (∀ r, k.round = some r → r.requestBegun = false → r.tick + 50 ≤ s.now → k.frame = none →
      let started := some { r with requestBegun := true }
      let plain := fun f =>
        exec .linkRequestFrameStart s = .next { s with link := { k with round := started, frame := some f } }
      (r.request = .info → plain (frame .info [0x54, 3])) ∧ (r.request = .stat → plain (frame .stat [0x52, 10])) ∧
      (r.request = .diagRead ∨ r.request = .diagCommand →
        (∀ d, k.diag = some d → d.begun = false → d.chosen = true →
          exec .linkRequestFrameStart s =
            .next { s with link :=
              { k with round := started, diag := some { d with begun := true }, frame := some (diagFrame d) } }) ∧
        ((∀ d, k.diag = some d → d.begun = true ∨ d.chosen = false) → plain (frame .stat [0x52, 10])))) ∧
    (∀ r, k.round = some r → r.slowDiag = true → r.tick + 150 ≤ s.now → k.frame = none →
      let taken := some { r with slowDiag := false }
      (∀ d, k.diag = some d → d.begun = false → d.chosen = true →
        exec .linkDiagFrameStart s =
          .next { s with link :=
            { k with round := taken, diag := some { d with begun := true }, frame := some (diagFrame d) } }) ∧
        ((∀ d, k.diag = some d → d.begun = true ∨ d.chosen = false) →
          exec .linkDiagFrameStart s = .next { s with link := { k with round := taken } })) ∧
    (capData s).length = 7 ∧ (capData s).drop 4 =
      optTemp s.prot.coil ++
        [byte ((if s.seq.grantSent then 1 else 0) + (if s.op.notice ∨ s.op.state = .resting then 2 else 0) +
          if s.prot.lockout then 4 else 0)] ∧
    (overridden → (capData s).take 4 = [0, 0, 0x7F, 0xFF]) ∧
    (¬overridden → (capData s).take 2 = [byte (capModeCode (capModeOf s)), byte (commanded s)] ∧
      (capData s).extract 2 4 =
        if ∃ i, k.info = some i ∧ 2 ≤ i.level then optTemp (s.seq.release.bind Release.coilTarget) else [0x7F, 0xFF]) ∧
    (LimitGood s → commanded s = 0 ∨ 20 ≤ commanded s ∧ commanded s ≤ 100)

/-- A frame that fails, collides or goes unanswered is counted, its exchange or diagnostic fails, and a silent link is
LOST -/
def Obligations.LinkExchangesFail : Prop :=
  (∀ (s : State) (f : LinkFrame), s.link.frame = some f → f.sentBy ≤ s.now → ReadsBack s f →
      let sent := { s with link := { s.link with frame := none, collisions := 0 } }
      (f.kind = .cap → exec .linkCommandFrameSent s = .next sent) ∧
      (∀ d, f.kind = .diagCommand → s.link.diag = some d →
        exec .linkCommandFrameSent s =
          .next { sent with
            link := { sent.link with diag := none }
            port := s.port.raise s.now (.diagResult d.kind .sent none []) })) ∧
  (∀ (s : State) (d : Diagnostic), s.link.diag = some d → d.begun = false → d.enteredAt + 10000 ≤ s.now →
      exec .diagTimeout s =
        .next { s with
          link := { s.link with diag := none }
          port := s.port.raise s.now (.diagResult d.kind .noResponse (some .notSent) []) }) ∧
  (∀ (s : State) (f : LinkFrame), s.link.frame = some f → s.now < f.sentBy ∨ s.link.lowAt = none →
      ReadsBack s f → exec .linkCollision s = .next s) ∧
  (∀ (s : State) (f : LinkFrame), s.link.frame = some f → ¬ReadsBack s f →
      exec .linkCommandFrameSent s = .next s ∧
        ∀ bytes samples,
          exec (.statResponse bytes) s = .next s ∧ exec (.infoResponse bytes) s = .next s ∧
            exec (.diagReadResponse bytes) s = .next s ∧ exec (.linkByteError samples) s = .next s) ∧
  (∀ (s : State) (c : Instr) (f : LinkFrame) (kind : FailureKind) (k : Link), Calm s → s.link.frame = some f →
      s.link.wakeRound = false → FailingExchange s c f kind k →
      k.collisions < 5 ∨ s.link.state = .start ∨ s.link.state = .lost →
      ∃ t, exec c s = .next t ∧ t.link = failedLink k f.kind kind ∧
        t.eval = { s.eval with early := s.eval.early || decide (t.link.state ≠ s.link.state) } ∧
        (∀ d, f.kind = .diagRead ∨ f.kind = .diagCommand → s.link.diag = some d →
          t.port = s.port.raise s.now (.diagResult d.kind .noResponse (some kind) [])) ∧
        (f.kind = .cap ∨ f.kind = .info → t.port = s.port) ∧
        ({ t with link := s.link, eval := s.eval, port := s.port } : State).timeless = s.timeless) ∧
  (∀ (s : State) (t0 : Nat), s.link.frame = none → s.link.lowAt = some t0 → s.now < t0 + 2 →
      (s.link.nextRound ≤ s.now → exec .linkCollision s = exec .roundTick s) ∧
        (Calm s → s.now < s.link.nextRound → s.link.round = none →
          ∃ t, exec .linkCollision s = .next t ∧ t.timeless = s.timeless)) ∧
  (∀ (s : State) (t0 : Nat), Calm s → s.link.frame = none → s.link.lowAt = some t0 → s.now < t0 + 2 →
      s.link.collisions < 4 →
      (s.link.nextRound ≤ s.now →
        ∃ t u, exec .roundTick s = .next t ∧
          exec .roundTick { s with link := { s.link with lowAt := none } } = .next u ∧
          t.link = { u.link with frame := none, collisions := s.link.collisions + 1, lowAt := some t0 } ∧
          ({ t with link := s.link } : State).timeless = s.timeless) ∧
        (∀ r, s.link.round = some r → r.requestBegun = false → r.tick + 50 ≤ s.now → s.link.wakeRound = false →
          r.request = .stat ∨ r.request = .info →
          ∃ t, exec .linkRequestFrameStart s = .next t ∧
            t.link =
              failedLink
                { s.link with round := some { r with requestBegun := true }, collisions := s.link.collisions + 1 }
                r.request .collision ∧
            t.eval.early = (s.eval.early || decide (t.link.state ≠ s.link.state)) ∧
            ({ t with link := s.link, eval := s.eval, port := s.port } : State).timeless = s.timeless)) ∧
  ∀ (s : State) (c : Instr) (k : Link), Calm s → s.blower.coldBlow = false → s.link.wakeRound = false →
    (s.link.state = .active ∨ s.link.state = .degraded ∨ s.link.state = .slow) →
    ((∃ t0, c = .statAgeLimit ∧ s.link.statAgeFrom = some t0 ∧
        t0 + (if s.link.state = .slow then 30000 else 10000) ≤ s.now ∧ k = s.link) ∨
      (∃ f n b, c = .linkCollision ∧ s.link.frame = some f ∧ f.kind = .cap ∧ f.bytes[n]? = some b ∧ ByteEnds s f n ∧
        readBits s.link.readBack ≠ sentBits b ∧ 4 ≤ s.link.collisions ∧
        k = { s.link with frame := none, collisions := 5 })) →
    s.seq.state ≠ .defrostRecovery → (s.seq.state.defrosting = true → ∀ x, s.prot.coil = some x → x < 300) →
    ∃ t, exec c s = .next t ∧
      t.link =
        { k with
          state := .lost, statAgeFrom := none, statFailures := 0
          nextRound :=
            match s.link.state, s.link.round with
            | .slow, some r => max s.now (r.tick + 1000)
            | _, _ => s.link.nextRound } ∧
      t.eval.early = true ∧ t.seq.minOffFrom = s.now ∧
      (s.op.state = .resting → t.op.state = (if s.op.request = .on then .on else .off)) ∧
      (s.op.state ≠ .resting →
        ({ t with link := s.link, eval := s.eval, arb := s.arb, blower := s.blower, seq := s.seq
                  port := s.port } : State).timeless = s.timeless) ∧
      t.seq.state =
        (if s.seq.state = .running ∨ s.seq.state = .stopWait then (if wanted s = 0 then .stopped else .waitStart)
        else if s.seq.state.defrosting then .defrostRecovery else s.seq.state) ∧
      (s.seq.state = .running ∨ s.seq.state = .stopWait → t.seq.runStart = none) ∧
      (s.seq.state.defrosting = true →
        t.seq.takenStopped = true ∧ t.seq.recoveryFrom = some s.now ∧ t.seq.grantSent = false) ∧
      t.prot.limit = s.prot.limit ∧ t.prot.hist = s.prot.hist ∧ t.prot.stops = s.prot.stops ∧ t.drive = s.drive ∧
      t.co = s.co ∧ t.zst = s.zst

/-- A good STAT or INFO is recorded and moves the link state, READY in NOTICE enters RESTING, a diagnostic read's data
go to the host -/
def Obligations.LinkGoodResponses : Prop :=
  ∀ (s : State) (f : LinkFrame) (bytes data : List Byte), s.link.frame = some f → WindowOpen s f → s.link.wakeRound = false →
    let all := f.arrived ++ bytes
    let low := if bytes = [] then s.link.lowAt else some s.now
    let k := { s.link with frame := none, collisions := 0, windowEnd := f.sentBy + 40, lowAt := low }
    let waits := ({ s with link := { s.link with frame := some { f with arrived := all }, lowAt := low } } : State)
    (f.kind = .stat → all.length < 11 → exec (.statResponse bytes) s = .next waits) ∧
    (f.kind = .info → all.length < 4 → exec (.infoResponse bytes) s = .next waits) ∧
    (∀ d, f.kind = .diagRead → s.link.diag = some d → all.length < d.length + 1 →
      exec (.diagReadResponse bytes) s = .next waits) ∧
    (∀ r : StatRecord, f.kind = .stat → goodData 0x52 10 all = some data → statOf data = some r → Settled s →
      s.op.state ≠ .resting → (s.op.notice = false ∨ r.standdownReady = false) →
      ∃ t, exec (.statResponse bytes) s = .next t ∧
        t.link =
          { k with
            lastStatus := some r, lastGood := some s.now, statFailures := 0
            statAgeFrom :=
              if s.link.state = .active ∨ s.link.state = .degraded ∨ s.link.state = .slow then some s.now else none
            state :=
              match s.link.state with
              | .degraded => .active
              | .lost => .start
              | other => other } ∧
        t.zcfg = s.zcfg ∧ t.setp = s.setp ∧ t.cfg = s.cfg ∧ t.store = s.store ∧ t.op.request = s.op.request ∧
        t.prot.limit = s.prot.limit) ∧
    (∀ (r : StatRecord) (round : Round), f.kind = .stat → goodData 0x52 10 all = some data → statOf data = some r →
      Calm s → s.op.notice = true → r.standdownReady = true → s.op.state = .off ∨ s.op.state = .on →
      s.arb.mode = .idle → s.arb.deferral = false →
      s.link.state = .active → s.link.round = some round → s.seq.state = .stopped → s.prot.stops = [] →
      (s.cfg.ambientGate = none ∨ ∃ g x, s.cfg.ambientGate = some g ∧ r.ambient = some x ∧ g ≤ x) →
      ∃ t, exec (.statResponse bytes) s = .next t ∧
        (r.trip = none →
          t.op.state = .resting ∧ t.op.notice = false ∧ t.op.noticeFrom = none ∧
            t.link.state = .slow ∧ t.link.statAgeFrom = some s.now ∧ t.link.nextRound = round.tick + 10000 ∧
            t.eval.early = true ∧
            ({ t with link := s.link, op := s.op, eval := s.eval, port := s.port } : State).timeless = s.timeless) ∧
        (∀ x, r.trip = some x → s.link.lastStatus.bind StatRecord.trip ≠ some x →
          t.op.state = s.op.state ∧ t.op.notice = false ∧ t.link.state = .active)) ∧
    (∀ r : StatRecord, f.kind = .stat → goodData 0x52 10 all = some data → statOf data = some r → Calm s →
      s.op.state = .resting → s.op.notice = false → s.seq.state = .stopped → s.prot.stops = [] → r.trip = none →
      let below := ∃ g, s.cfg.ambientGate = some g ∧ ∀ x, r.ambient = some x → x < g
      ∃ t, exec (.statResponse bytes) s = .next t ∧ t.link.lastStatus = some r ∧ t.link.lastGood = some s.now ∧
        t.link.statFailures = 0 ∧
        (below →
          t.op.state = (if s.op.request = .on then .on else .off) ∧ t.eval.early = true ∧ t.sens.nextSlot = 0 ∧
            t.sens.nextSlotAt = s.now ∧ t.sens.slotMs = 1250 ∧ t.sens.poll = none ∧
            (s.link.state = .slow → t.link.state = .active) ∧ (s.link.state = .lost → t.link.state = .start)) ∧
        (¬below →
          t.link.state =
              (if s.link.state = .lost then .start else if s.link.state = .degraded then .active else s.link.state) ∧
            (s.link.state = .slow → t.link.statAgeFrom = some s.now) ∧
            t.eval.early = (s.eval.early || decide (t.link.state ≠ s.link.state)) ∧
            ({ t with link := s.link, eval := s.eval, port := s.port } : State).timeless = s.timeless)) ∧
    (∀ i : InfoRecord, f.kind = .info → goodData 0x54 3 all = some data → infoOf data = some i → Calm s →
      let begins := decide (s.link.state = .start)
      ∃ t, exec (.infoResponse bytes) s = .next t ∧
        t.link =
          { k with
            info := some i, state := if begins then .active else k.state
            statAgeFrom := if begins then some s.now else k.statAgeFrom
            statFailures := if begins then 0 else k.statFailures } ∧
        t.eval =
          { s.eval with early := s.eval.early || begins, hpCapable := s.eval.hpCapable && i.heatPump } ∧
        ({ t with link := s.link, eval := s.eval, port := s.port } : State).timeless = s.timeless) ∧
    (∀ d : Diagnostic, f.kind = .diagRead → s.link.diag = some d → goodData d.kind d.length all = some data →
      exec (.diagReadResponse bytes) s =
        .next { s with
          link := { k with diag := none }, port := s.port.raise s.now (.diagResult d.kind .data none data) })

/-! ### The compressor sequencer -/

/-- A good STAT confirms a start, reports a stop or moves a defrost; a release starts and stops; timers start, stop and
end; OFF and the like mark a defrost -/
def Obligations.SequencerMoves : Prop :=
  (∀ (s : State) (f : LinkFrame) (bytes data : List Byte) (r : StatRecord), Calm s → s.link.frame = some f →
      f.kind = .stat → WindowOpen s f → s.link.wakeRound = false →
      goodData 0x52 10 (f.arrived ++ bytes) = some data →
      statOf data = some r → s.op.state ≠ .resting → s.op.notice = false → r.trip = none → s.prot.stops = [] →
      (s.blower.coldBlow = true ∨ s.seq.state.defrosting = true → HoldEndsSafely s) →
      let q := s.seq
      let warm := ∃ x, s.prot.coil = some x ∧ 300 ≤ x
      let ended := fun t : State => t.arb.deferral = false ∧ t.blower.defrostHold = false ∧ t.eval.early = true
      let heating := q.release.map Release.mode = some .heat
      let stops := r.compressor = .stopped ∧ q.takenStopped = false
      ∃ t, exec (.statResponse bytes) s = .next t ∧
        (r.compressor = .running → q.runStart = none →
          q.state = .running ∨ q.state = .stopWait ∨ q.state.defrosting = true ∧ q.takenStopped = false →
          t.seq.runStart = some s.now) ∧
        (q.state = .running → r.compressor ≠ .stopped ∨ q.runStart = none → r.defrostReq = false ∨ ¬heating →
          t.seq.state = .running ∧ (r.compressor ≠ .running ∨ q.runStart ≠ none → t.seq.runStart = q.runStart) ∧
            startFailTime t = startFailTime s ∧
            t.seq.startFailFrom =
              if q.runStart = none ∧ r.compressor ≠ .running ∧ r.holdoff = false then some (q.startFailFrom.getD s.now)
              else none) ∧
        (q.state = .running ∧ q.runStart ≠ none ∨ q.state = .stopWait → r.compressor = .stopped →
          t.seq.runStart = none ∧ t.seq.minOffFrom = s.now ∧
            t.seq.state = (if wanted s = 0 then .stopped else .waitStart) ∧
            (s.arb.mode = .rest → s.arb.restStart = none → t.arb.restStart = some s.now)) ∧
        (q.state = .running → r.compressor ≠ .stopped → r.defrostReq = true → heating →
          t.seq.state = .defrostPrep ∧ t.arb.deferral = true ∧ t.blower.defrostHold = true ∧ t.blower.state = .hold) ∧
        (q.state = .defrostPrep → q.grantSent = true → ¬stops → r.defrostActive = true →
          t.seq.state = .defrostActive ∧ t.seq.defrostFrom = some s.now) ∧
        (q.state = .defrostPrep ∨ q.state = .defrostActive → ¬stops → r.defrostReq = false →
          r.defrostActive = false →
          t.seq.grantSent = false ∧
            (¬warm → t.seq.state = .defrostRecovery ∧ t.seq.recoveryFrom = some s.now ∧
              t.seq.takenStopped = q.takenStopped) ∧
            (warm → q.takenStopped = false →
              ended t ∧ (t.seq.state = .stopWait → t.seq.stopSent = true) ∧
                t.seq.state = if q.stopMark = false ∧ wanted s ≠ 0 then .running else .stopWait)) ∧
        (q.state.defrosting = true → stops →
          t.seq.runStart = none ∧ t.seq.minOffFrom = s.now ∧
            (q.state = .defrostRecovery ∨ ¬warm → t.seq.state = .defrostRecovery ∧ t.seq.takenStopped = true) ∧
            (q.state ≠ .defrostRecovery → ¬warm → t.seq.recoveryFrom = some s.now) ∧
            (q.state ≠ .defrostRecovery → warm →
              ended t ∧
                t.seq.state =
                  if s.prot.lockout then .lockout else if wanted s = 0 then .stopped else .waitStart)) ∧
        (q.state = .stopped ∨ q.state = .tripped ∨ q.state = .lockout →
          t.seq.state = q.state ∧ t.seq.runStart = q.runStart ∧ t.seq.minOffFrom = q.minOffFrom) ∧
        ({ t with link := s.link, seq := q, eval := s.eval, arb := s.arb, blower := s.blower
                  port := s.port } : State).timeless = s.timeless) ∧
  (∀ s : State, s.seq.minOffFrom + 180000 ≤ s.now → s.seq.minOffDone = false →
      (Calm s → ∃ t, exec .minimumOffExpiry s = .next t ∧
        t.timeless = ({ s with seq := { s.seq with minOffDone := true } } : State).timeless) ∧
      (∀ r, Settled s → s.drive.queue = [] → s.seq.state = .waitStart → wanted s ≠ 0 → s.prot.supplyLow = false →
        s.prot.coilFault = false → s.link.state = .active ∨ s.link.state = .degraded → s.link.lastStatus = some r →
        r.holdoff = false →
        ∃ t, exec .minimumOffExpiry s = .next t ∧ t.seq.state = .running ∧ t.seq.runStart = none ∧
          t.seq.startFailMs = 0 ∧ t.seq.startFailFrom = some s.now ∧ commanded t = wanted s ∧
          (s.seq.release.map Release.mode = some .heat → t.blower.coldBlow = true ∧ t.blower.state = .hold) ∧
          (s.seq.release.map Release.mode ≠ some .heat → ({ t with seq := s.seq } : State).timeless = s.timeless) ∧
          ({ t with seq := s.seq, blower := s.blower } : State).timeless = s.timeless)) ∧
  (∀ (s : State) (t0 : Nat), Calm s → s.seq.state = .stopWait → s.seq.stopSent = false → s.seq.runStart = some t0 →
      t0 + 300000 ≤ s.now →
      ∃ t, exec .minimumRunEnd s = .next t ∧
        t.timeless = ({ s with seq := { s.seq with stopSent := true } } : State).timeless) ∧
  (∀ (s : State) (c : Instr), Calm s → ImmediateStop s c → s.seq.state.defrosting = true →
      (s.seq.state = .defrostPrep → ∀ x, s.prot.coil = some x → x < 300) →
      let q := s.seq
      let left := decide (q.state = .defrostPrep)
      ∃ t, exec c s = .next t ∧ t.seq.stopMark = true ∧
        t.seq.state = (if left then .defrostRecovery else q.state) ∧
        t.seq.recoveryFrom = (if left then some s.now else q.recoveryFrom) ∧
        t.seq.grantSent = (!left && q.grantSent) ∧ t.seq.defrostFrom = (if left then none else q.defrostFrom) ∧
        t.seq.takenStopped = q.takenStopped ∧ t.seq.runStart = q.runStart ∧ t.seq.minOffFrom = q.minOffFrom ∧
        commanded t = 0 ∧ t.prot.hist = s.prot.hist ∧ t.prot.stops = s.prot.stops ∧
        ({ t with seq := q, op := s.op, eval := s.eval, store := s.store, prot := s.prot
                  port := s.port } : State).timeless = s.timeless) ∧
  (∀ (s : State) (t0 : Nat), Calm s → s.seq.state = .defrostRecovery → s.seq.recoveryFrom = some t0 →
    t0 + 180000 ≤ s.now → HoldEndsSafely s →
    let starts := s.seq.takenStopped = true ∧ s.prot.lockout = false ∧ s.prot.stops = [] ∧ wanted s ≠ 0 ∧ StartFree s
    ∃ t, exec .recoveryTimeExpiry s = .next t ∧ t.arb.deferral = false ∧ t.blower.defrostHold = false ∧
      t.eval.early = true ∧ (starts → t.seq.state = .running ∧ t.seq.runStart = none) ∧
      (¬starts →
        t.seq.runStart = s.seq.runStart ∧
          t.seq.state =
            (if s.seq.takenStopped = false then (if s.seq.stopMark = false ∧ wanted s ≠ 0 then .running else .stopWait)
            else if s.prot.lockout then .lockout
            else if s.prot.stops ≠ [] then .tripped
            else if wanted s = 0 then .stopped else .waitStart)) ∧
      (t.seq.state = .stopWait → t.seq.stopSent = true) ∧
      ({ t with seq := s.seq, arb := s.arb, eval := s.eval, blower := s.blower, port := s.port } : State).timeless =
        s.timeless) ∧
  (∀ (s : State) (r : Release),
    let q := s.seq
    let t := seqRelease r s
    let want := wantedOf (some r) s.prot.limit
    t.seq.release = some r ∧ t.seq.stopping = (if r.c = 0 then q.stopping else some r.mode) ∧
      t.seq.runStart = q.runStart ∧ t.seq.minOffFrom = q.minOffFrom ∧ ({ t with seq := q } : State) = s ∧
      (q.state = .running →
        (r.mode ≠ .rest → want ≠ 0 → t.seq.state = .running) ∧
          (r.mode = .rest ∨ want = 0 →
            t.seq.state = .stopWait ∧
              (t.seq.stopSent = false ↔
                r.mode ≠ .rest ∧ r.c = 0 ∧ ∃ a, q.runStart = some a ∧ s.now < a + 300000))) ∧
      (q.state = .stopWait → q.stopSent = false →
        (r.mode ≠ .rest → want ≠ 0 → t.seq.state = .running) ∧
          (r.mode = .rest ∨ want = 0 → t.seq.state = .stopWait ∧ (t.seq.stopSent = true ↔ r.mode = .rest))) ∧
      (q.state = .stopWait → q.stopSent = true → t.seq.state = .stopWait ∧ t.seq.stopSent = true) ∧
      (q.state = .stopped ∨ q.state = .waitStart → t.seq.state = if want = 0 then .stopped else .waitStart) ∧
      (q.state.defrosting = true ∨ q.state = .tripped ∨ q.state = .lockout → t.seq.state = q.state)) ∧
  ∀ (s : State) (c : Instr), PassTaken s c → s.drive.queue = [] → AirSafe s → s.co.phase = .applied →
    s.co.incoming = none → s.co.held = none → s.arb.deferral = false → s.prot.floatHeld = false →
    s.seq.state = .running → (∀ t0, s.link.lowAt = some t0 → t0 + 2 ≤ s.now) →
    let p := planOfPass s
    p.c = 0 → { p with number := 0 } ≠ { s.co.applied with number := 0 } →
    ∃ t, exec c s = .next t ∧ t.seq.state = .stopWait ∧
      (t.seq.stopSent = false ↔ p.mode ≠ .rest ∧ ∃ a, s.seq.runStart = some a ∧ s.now < a + 300000) ∧
      t.seq.release = some ⟨p.mode, 0, p.coilTarget⟩ ∧ t.seq.stopping = s.seq.stopping ∧
      t.seq.runStart = s.seq.runStart ∧ t.seq.minOffFrom = s.seq.minOffFrom

/-! ### Protection -/

/-- Coil and supply conversions are judged for faults, the watches' times, trips that end, the end of COLD_BLOW and of
recovery; mains and inputs start their times -/
def Obligations.ProtectionReadings : Prop :=
  ∀ (s : State) (raw : Int) (closed : Bool),
    let p := s.prot
    let mode := s.seq.release.map Release.mode
    let running := compressorRunning s
    let limits := fun t : State =>
      let limiting := t.prot.freezeLim = true ∨ t.prot.supplyLim = true
      t.prot.stepFrom = (if limiting then p.stepFrom else none) ∧
        t.prot.recoverFrom = if limiting then none else some (p.recoverFrom.getD s.now)
    let leaves := fun (k : TripKind) (q : Protection) =>
      let left := p.stops.filter fun x => decide (x ≠ k)
      ({ s with
        prot := { q with stops := left }
        seq :=
          if s.seq.state = .tripped ∧ k ∈ p.stops ∧ left = [] then
            { s.seq with state := if wanted s = 0 then .stopped else .waitStart }
          else s.seq } : State)
    (Calm s →
      (running = true → mode = some .cool ∨ mode = some .dry ∨ mode = some .test → -30 ≤ raw ∨ raw < -300) →
      let reading := if -300 ≤ raw ∧ raw ≤ 800 then some raw else none
      let bad := if reading = none then min 3 (p.coilBad + 1) else 0
      let good := if reading = none then 0 else min 10 (p.coilGood + 1)
      let fault := if p.coilFault then decide (good < 10) else decide (bad = 3)
      let q := { p with coil := reading, coilBad := bad, coilGood := good, coilFault := fault }
      let thaws := 50 ≤ raw ∧ reading ≠ none ∨ fault = true ∧ p.coilFault = false
      let cold := FreezeWatched s ∧ reading ≠ none ∧ raw < 0
      let base := if thaws then leaves .coilFreeze q else ({ s with prot := q } : State)
      let b := s.blower
      let warms := b.coldBlow = true ∧ reading ≠ none ∧ 280 ≤ raw
      let recovers := s.seq.state = .defrostRecovery ∧ reading ≠ none ∧ 300 ≤ raw
      let less := { b with
        coldBlow := b.coldBlow && !decide warms, defrostHold := b.defrostHold && !decide recovers }
      let leavesHold := (warms ∨ recovers) ∧ b.state = .hold ∧ less.coldBlow = false ∧ less.defrostHold = false
      let freed := s.seq.state = .tripped ∧ thaws ∧ TripKind.coilFreeze ∈ p.stops ∧ base.prot.stops = [] ∨
        recovers ∧ s.seq.takenStopped = true ∧ p.lockout = false ∧ base.prot.stops = []
      let starts := freed ∧ wanted s ≠ 0 ∧ StartFree { s with prot := q }
      (warms ∨ recovers → HoldEndsSafely s) →
      ∃ t, exec (.indoorCoilConversion raw) s = .next t ∧
        (starts → t.seq.state = .running ∧ t.seq.runStart = none ∧ t.prot.coil = reading ∧ t.prot.stops = []) ∧
        (¬starts →
          (cold → t.prot.belowZeroFrom = some (p.belowZeroFrom.getD s.now)) ∧
            (¬ cold → t.prot.belowZeroFrom = none) ∧
            (t.prot.freezeLim = true ↔ p.freezeLim = true ∧ cold) ∧
            (t.prot.supplyLim = true ↔ p.supplyLim = true ∧ SupplyWatched s) ∧
            (SupplyWatched s → t.prot.above60From = p.above60From) ∧
            (¬ SupplyWatched s → t.prot.above60From = none) ∧ limits t ∧
            (¬leavesHold → { t.blower with aboveFrom := b.aboveFrom, belowFrom := b.belowFrom } = less) ∧
            (leavesHold → b.given = 0 → TurnsOff s.now s.cfg.table less t.blower) ∧
            (leavesHold → b.given ≠ 0 → RampsTo s.now s.cfg.table b.given less t.blower) ∧
            (¬recovers → ({ t with blower := b, port := s.port } : State).timeless = base.timeless) ∧
            (recovers →
              t.seq.state =
                  (if s.seq.takenStopped = false then
                    (if s.seq.stopMark = false ∧ wanted s ≠ 0 then .running else .stopWait)
                  else if p.lockout then .lockout
                  else if base.prot.stops ≠ [] then .tripped
                  else if wanted s = 0 then .stopped else .waitStart) ∧
                (t.seq.state = .stopWait → t.seq.stopSent = true) ∧ t.seq.runStart = s.seq.runStart ∧
                t.seq.minOffFrom = s.seq.minOffFrom ∧ t.arb = { s.arb with deferral := false } ∧
                t.eval = { s.eval with early := true } ∧
                ({ t with seq := s.seq, arb := s.arb, eval := s.eval, blower := b, port := s.port } : State).timeless =
                  ({ base with seq := s.seq } : State).timeless))) ∧
    (Calm s → (running = true → mode = some .heat → raw ≤ 700 ∨ 900 < raw) →
      let reading := if -200 ≤ raw ∧ raw ≤ 900 then some raw else none
      let gone := if reading = none then some (p.supplyGoneFrom.getD s.now) else none
      let q := { p with supply := reading, supplyGoneFrom := gone }
      let hot := SupplyWatched s ∧ reading ≠ none ∧ 600 < raw
      let cools := reading ≠ none ∧ raw ≤ 500
      let base := if cools then leaves .supplyHot q else ({ s with prot := q } : State)
      let starts := s.seq.state = .tripped ∧ cools ∧ TripKind.supplyHot ∈ p.stops ∧ base.prot.stops = [] ∧
        wanted s ≠ 0 ∧ StartFree s
      ∃ t, exec (.supplyAirConversion raw) s = .next t ∧
        (starts → t.seq.state = .running ∧ t.seq.runStart = none ∧ t.prot.supply = reading ∧ t.prot.stops = []) ∧
        (¬starts →
          (hot → t.prot.above60From = some (p.above60From.getD s.now)) ∧
            (¬ hot → t.prot.above60From = none) ∧
            (t.prot.supplyLim = true ↔ p.supplyLim = true ∧ hot) ∧
            (t.prot.freezeLim = true ↔ p.freezeLim = true ∧ FreezeWatched s) ∧
            (FreezeWatched s → t.prot.belowZeroFrom = p.belowZeroFrom) ∧
            (¬ FreezeWatched s → t.prot.belowZeroFrom = none) ∧ limits t ∧
            ({ t with port := s.port } : State).timeless = base.timeless)) ∧
    exec (.mainsConversion raw) s =
      .next { s with prot :=
        { p with
          lowFrom := if raw < s.cfg.supplyLow then some (p.lowFrom.getD s.now) else none
          highFrom := if (s.cfg.supplyLow : Int) + 8 ≤ raw then some (p.highFrom.getD s.now) else none } } ∧
    exec (.floatInputChange closed) s =
      .next (if closed = s.inp.floatClosed then s
        else { s with inp := { s.inp with floatClosed := closed, floatSince := s.now } }) ∧
    exec (.buttonInputChange closed) s =
      .next (if closed = s.inp.buttonClosed then s
        else { s with inp := { s.inp with buttonClosed := closed, buttonSince := s.now } })

/-- The limit steps by 10, a trip whose time is over leaves the set of stopping trips, SUPPLY_LOW stops the compressor at
once, and a release that ends a watch restarts its time -/
def Obligations.ProtectionTimers : Prop :=
  (∀ s : State, Calm s →
    let p := s.prot
    let stopped := fun q : Sequencer =>
      if q.state = .running ∨ q.state = .stopWait then { q with state := .stopWait, stopSent := true } else q
    (∀ (c : Instr) (t0 : Nat), t0 + 60000 ≤ s.now →
      (c = .freezeTimeExpiry ∧ p.belowZeroFrom = some t0 ∧ p.freezeLim = false ∨
        c = .above60TimeExpiry ∧ p.above60From = some t0 ∧ p.supplyLim = false ∨
        c = .limitStepTime ∧ p.stepFrom = some t0 ∧ (p.freezeLim = true ∨ p.supplyLim = true)) →
      LimitGood s → p.limit ≠ 10 ∨ c ≠ .freezeTimeExpiry ∧ p.freezeLim = false → s.seq.state.defrosting = false →
      (s.seq.state = .stopped → wantedOf s.seq.release (p.limit - 10) = 0) →
      let freezes := FreezeWatched s ∧ (p.freezeLim = true ∨ c = .freezeTimeExpiry)
      let heats := SupplyWatched s ∧ (p.supplyLim = true ∨ c = .above60TimeExpiry)
      ∃ t, exec c s = .next t ∧ (t.prot.freezeLim = true ↔ freezes) ∧ (t.prot.supplyLim = true ↔ heats) ∧
        (freezes ∨ heats → t.prot.stepFrom = some s.now ∧ t.prot.recoverFrom = none) ∧
        (¬freezes → ¬heats →
          t.prot.stepFrom = none ∧
            t.prot.recoverFrom = some (if c = .limitStepTime then p.recoverFrom.getD s.now else s.now)) ∧
        t.timeless =
          ({ s with
            prot := { p with limit := p.limit - 10 }
            seq := if 0 < p.limit ∧ p.limit ≤ 20 then stopped s.seq else s.seq } : State).timeless) ∧
    (∀ t0, p.recoverFrom = some t0 → t0 + 120000 ≤ s.now → p.freezeLim = false → p.supplyLim = false → p.limit ≤ 100 →
      10 ≤ p.limit ∨ s.seq.state.defrosting = false ∧ s.seq.state ≠ .running ∧ s.seq.state ≠ .stopWait →
      let raised := min 100 (p.limit + 10)
      let wants := s.seq.state = .stopped ∧ wantedOf s.seq.release raised ≠ 0
      let starts := wants ∧ p.limit < 100 ∧ StartFree s
      ∃ t, exec .limitRecoveryTime s = .next t ∧ t.prot.recoverFrom = some s.now ∧ t.prot.limit = raised ∧
        (starts → t.seq.state = .running ∧ t.seq.runStart = none) ∧
        (¬starts →
          t.timeless =
            ({ s with
              prot := { p with limit := raised }
              seq := if wants ∧ p.limit < 100 then { s.seq with state := .waitStart } else s.seq } :
                State).timeless)) ∧
    (∀ (c : Instr) (k : TripKind) (q : Protection) (t0 : Nat),
      (c = .tripHoldExpiry .startFail ∧ k = .startFail ∧ p.startFailHold = some t0 ∧ t0 + 180000 ≤ s.now ∧
          q = { p with startFailHold := none } ∨
        c = .tripHoldExpiry .defrostLong ∧ k = .defrostLong ∧ p.defrostLongHold = some t0 ∧ t0 + 180000 ≤ s.now ∧
          q = { p with defrostLongHold := none } ∨
        c = .supplyUnavailableExpiry ∧ k = .supplyHot ∧ p.supplyGoneFrom = some t0 ∧ t0 + 60000 ≤ s.now ∧
          TripKind.supplyHot ∈ p.stops ∧ q = p ∨
        c = .floatCleared ∧ k = .float ∧ p.floatHeld = true ∧ s.inp.floatClosed = false ∧ s.inp.floatSince = t0 ∧
          t0 + 60000 ≤ s.now ∧ q = { p with floatHeld := false }) →
      let left := p.stops.filter fun x => decide (x ≠ k)
      let freed := s.seq.state = .tripped ∧ k ∈ p.stops ∧ left = []
      let starts := freed ∧ wanted s ≠ 0 ∧ StartFree s
      ∃ t, exec c s = .next t ∧ (starts → t.seq.state = .running ∧ t.seq.runStart = none ∧ t.prot.stops = []) ∧
        (¬starts →
          ({ t with port := s.port } : State).timeless =
            ({ s with
              prot := { q with stops := left }
              seq := if freed then { s.seq with state := if wanted s = 0 then .stopped else .waitStart } else s.seq
              eval := { s.eval with early := s.eval.early || decide (k = .float) } } : State).timeless)) ∧
    (∀ t0, p.supplyLow = false → p.lowFrom = some t0 → t0 + 2000 ≤ s.now → s.seq.state.defrosting = false →
      ∃ t, exec .supplyLowHeld s = .next t ∧
        ({ t with port := s.port } : State).timeless =
          ({ s with prot := { p with supplyLow := true }, seq := stopped s.seq } : State).timeless) ∧
    (∀ t0, p.supplyLow = true → p.highFrom = some t0 → t0 + 10000 ≤ s.now →
      ∃ t, exec .supplyLowCleared s = .next t ∧
        ({ t with port := s.port } : State).timeless = ({ s with prot := { p with supplyLow := false } } : State).timeless)) ∧
  ∀ (s : State) (x : Plan),
    let p := s.prot
    let u := seqRelease ⟨x.mode, x.c, x.coilTarget⟩ s
    let t := releasePlan x s
    (FreezeWatched u → t.prot.belowZeroFrom = p.belowZeroFrom ∧ t.prot.freezeLim = p.freezeLim) ∧
    (¬FreezeWatched u → t.prot.belowZeroFrom = none ∧ t.prot.freezeLim = false) ∧
    (SupplyWatched u → t.prot.above60From = p.above60From ∧ t.prot.supplyLim = p.supplyLim) ∧
    (¬SupplyWatched u → t.prot.above60From = none ∧ t.prot.supplyLim = false)

/-- A counted trip is recorded, the third of a kind within 60 min sets LOCKOUT; a stopping trip, an outdoor code too,
stops -/
def Obligations.CountedTrips : Prop :=
  (∀ (s : State) (c : Instr) (kind : TripKind), TripsBy s c kind →
    let clock := s.now / 1000
    let recent := (s.prot.hist.get kind).filter fun e => decide (clock ≤ e + 3600)
    let history := (if 3 ≤ recent.length then recent.tail else recent) ++ [clock]
    ∃ t, exec c s = .next t ∧ t.prot.hist.get kind = history ∧
      (∀ other, other ≠ kind → t.prot.hist.get other = s.prot.hist.get other) ∧
      (t.prot.lockout = true ↔ s.prot.lockout = true ∨ 3 ≤ history.length) ∧
      (kind = .startFail → t.prot.startFailHold = some s.now) ∧ (kind = .defrostLong → t.prot.defrostLongHold = some s.now) ∧
      (kind = .float → t.prot.floatHeld = true) ∧
      t.prot.limit = (if c = .limitStepTime ∨ c = .freezeTimeExpiry then 0 else s.prot.limit) ∧
      (c = .freezeTimeExpiry →
        t.prot.recoverFrom = if t.prot.freezeLim = true ∨ t.prot.supplyLim = true then none else some s.now) ∧
      (Calm s → (s.blower.coldBlow = true ∨ s.seq.state.defrosting = true → HoldEndsSafely s) →
        let stopping := decide (kind ≠ .blower) && (decide (kind ≠ .float) || coolsCoil (s.seq.release.map Release.mode))
        let locks := decide (s.prot.lockout = false) && decide (3 ≤ history.length)
        t.eval.early = true ∧ (∀ k, k ∈ t.prot.stops ↔ k ∈ s.prot.stops ∨ stopping = true ∧ k = kind) ∧
        (kind = .blower → locks = false →
          t.blower.demand = 0 ∧ t.blower.retryFrom = some s.now ∧ t.blower.state = .ramp) ∧
        (locks = true ∨ stopping = true ∧ kind ∉ s.prot.stops →
          t.seq.minOffFrom = s.now ∧
            (s.seq.state.defrosting = false →
              t.seq.state = if locks = true ∨ s.seq.state = .lockout then .lockout else .tripped) ∧
            (s.seq.state = .running ∨ s.seq.state = .stopWait → t.seq.runStart = none) ∧
            (s.seq.state = .defrostPrep ∨ s.seq.state = .defrostActive → (∀ x, s.prot.coil = some x → x < 300) →
              t.seq.state = .defrostRecovery ∧ t.seq.takenStopped = true)) ∧
        (locks = false ∧ stopping = false →
          t.seq.state = s.seq.state ∧ t.seq.runStart = s.seq.runStart ∧ t.seq.minOffFrom = s.seq.minOffFrom) ∧
        ({ t with seq := s.seq, prot := s.prot, arb := s.arb, eval := s.eval, blower := s.blower
                  port := s.port } : State).timeless = s.timeless)) ∧
  ∀ (s : State) (f : LinkFrame) (bytes data : List Byte) (r : StatRecord), Calm s → s.link.frame = some f →
    f.kind = .stat → WindowOpen s f → s.link.wakeRound = false →
    goodData 0x52 10 (f.arrived ++ bytes) = some data → statOf data = some r → s.op.state ≠ .resting →
    (s.blower.coldBlow = true ∨ s.seq.state.defrosting = true → HoldEndsSafely s) →
    let outdoor := [TripKind.highPressure, .lowPressure, .dischargeHot, .driveFault, .overcurrent]
    let inside := s.prot.stops.filter fun x => decide (x ∉ outdoor)
    let same := r.trip = s.link.lastStatus.bind StatRecord.trip
    let clock := s.now / 1000
    ∃ t, exec (.statResponse bytes) s = .next t ∧
      (∀ x, r.trip = some x → ¬same →
        let recent := (s.prot.hist.get x).filter fun e => decide (clock ≤ e + 3600)
        let history := (if 3 ≤ recent.length then recent.tail else recent) ++ [clock]
        t.prot.hist.get x = history ∧ (∀ other, other ≠ x → t.prot.hist.get other = s.prot.hist.get other) ∧
          (t.prot.lockout = true ↔ s.prot.lockout = true ∨ 3 ≤ history.length) ∧
          (∀ k, k ∈ t.prot.stops ↔ k = x ∨ k ∈ inside) ∧ t.eval.early = true ∧
          (x ∉ s.prot.stops →
            t.seq.minOffFrom = s.now ∧
              (s.seq.state.defrosting = false → r.compressor ≠ .stopped → r.defrostReq = false →
                t.seq.state =
                  if t.prot.lockout = true ∧ s.prot.lockout = false ∨ s.seq.state = .lockout then .lockout
                  else .tripped))) ∧
      (r.trip ≠ none → same →
        t.prot.stops = s.prot.stops ∧ t.prot.hist = s.prot.hist ∧ t.prot.lockout = s.prot.lockout) ∧
      (r.trip = none →
        t.prot.stops = inside ∧ t.prot.hist = s.prot.hist ∧ t.prot.lockout = s.prot.lockout ∧
          (s.seq.state = .tripped → s.prot.stops ≠ [] → inside = [] →
            let starts := wanted s ≠ 0 ∧ StartFree { s with link := { s.link with lastStatus := some r } }
            (starts → t.seq.state = .running ∧ t.seq.runStart = none) ∧
              (¬starts → t.seq.state = if wanted s = 0 then .stopped else .waitStart))) ∧
      t.prot.limit = s.prot.limit ∧ t.zst = s.zst ∧ t.drive = s.drive ∧ t.co = s.co ∧ t.cfg = s.cfg

/-! ### The operating states -/

/-- Stand-down is offered and withdrawn, and the button starts, toggles, tests and ends a test; TEST ends after 20 min
-/
def Obligations.OperatingRows : Prop :=
  ∀ s : State,
    let o := s.op
    let now := s.now
    let follow : OpRequest → OpState := fun r => if r = .on then .on else .off
    let opened := fun (closed : Bool) =>
      s.inp.buttonClosed = closed ∧ o.accepted = !closed ∧ s.inp.buttonSince + 50 ≤ now
    let cut := fun q : Sequencer =>
      let q : Sequencer := { q with release := q.release.map fun r => { r with c := 0 } }
      if q.state = .running ∨ q.state = .stopWait then ({ q with state := .stopWait, stopSent := true } : Sequencer) else q
    let plain := o.state = .off ∨ o.state = .on
    (∀ t0, Calm s → o.idleFrom = some t0 → t0 + 1800000 ≤ now → o.idleDone = false → o.notice = false → plain →
      s.arb.mode = .idle → s.seq.state = .stopped → s.link.state = .active → s.arb.deferral = false →
      (s.cfg.ambientGate = none ∨
        ∃ g r a, s.cfg.ambientGate = some g ∧ s.link.lastStatus = some r ∧ r.ambient = some a ∧ g ≤ a) →
      ∃ t, exec .idleTimeReached s = .next t ∧ t.op.notice = true ∧ t.op.noticeFrom = some now ∧
        t.timeless = s.timeless) ∧
    (∀ t0, Calm s → o.notice = true → o.noticeFrom = some t0 → t0 + 60000 ≤ now →
      ∃ t, exec .noticeTimeExpiry s = .next t ∧ t.op.notice = false ∧ t.op.noticeFrom = none ∧
        t.op.idleFrom = (if plain ∧ s.arb.mode = .idle then some now else none) ∧ t.timeless = s.timeless) ∧
    (Calm s → opened true →
      (plain → ∃ t, exec .buttonPress s = .next t ∧
        ({ t with port := s.port } : State).timeless =
          ({ s with op := { o with accepted := true, button := .pressed, pressFrom := some now } } : State).timeless) ∧
      (o.state = .test → s.seq.state.defrosting = false →
        ∃ t, exec .buttonPress s = .next t ∧
          ({ t with port := s.port } : State).timeless =
            ({ s with
              op :=
                { o with
                  state := follow o.request, testFrom := none, accepted := true, button := .ignored, pressFrom := none }
              seq := cut s.seq
              eval := { s.eval with early := true } } : State).timeless)) ∧
    (Calm s → opened false → plain ∨ o.button ≠ .pressed →
      let toggles := decide (o.button = .pressed)
      let asks := if o.request = .on then OpRequest.off else .on
      s.seq.state.defrosting = false →
      ∃ t, exec .buttonRelease s = .next t ∧ (toggles = true → t.store.autoPending = true ∨ t.store.writer ≠ .idle) ∧
        ({ t with port := s.port, store := s.store } : State).timeless =
          ({ s with
            op :=
              { o with
                accepted := false, button := .released, pressFrom := none
                request := if toggles then asks else o.request
                state := if toggles then follow asks else o.state }
            seq := if toggles = true ∧ asks = .off then cut s.seq else s.seq
            eval := { s.eval with early := s.eval.early || toggles } } : State).timeless) ∧
    (∀ t0, Calm s → o.button = .pressed → o.pressFrom = some t0 → t0 + s.cfg.buttonHold * 1000 ≤ now →
      (o.request = .on ↔ o.state = .on) → plain → s.seq.state.defrosting = false →
      now < s.seq.minOffFrom + 180000 ∨ s.seq.state = .running ∨ s.seq.state = .stopWait →
      let changes := decide (o.request = .on)
      ∃ t, exec .buttonHoldTime s = .next t ∧
        ({ t with port := s.port, store := s.store } : State).timeless =
          ({ s with
            op :=
              { o with
                button := .held, pressFrom := none, request := .off, state := .off, testPhase := .preparing
                opened := [], testDampers := [] }
            seq := if changes then cut s.seq else s.seq
            eval := { s.eval with early := s.eval.early || changes } } : State).timeless) ∧
    (∀ t0, Calm s → o.state = .test → o.testFrom = some t0 → t0 + 1200000 ≤ now → s.seq.state.defrosting = false →
      ∃ t, exec .testTimeExpiry s = .next t ∧
        ({ t with port := s.port } : State).timeless =
          ({ s with
            op := { o with state := follow o.request, testFrom := none }
            seq := cut s.seq
            eval := { s.eval with early := true } } : State).timeless) ∧
    (o.state = .startup → s.drive.resetHomes ≠ [] → s.drive.queue = [] → s.todo = Todo.clear → s.co.phase = .applied →
      s.co.held = none → o.testPhase = .idle → o.button = .pressed →
      (opened false → ∃ t, exec .buttonRelease s = .next t ∧ t.op.latched = .toggle ∧ t.op.button = .released ∧
        t.op.request = o.request) ∧
      (∀ t0, o.pressFrom = some t0 → t0 + s.cfg.buttonHold * 1000 ≤ now →
        ∃ t, exec .buttonHoldTime s = .next t ∧ t.op.latched = .test ∧ t.op.button = .held ∧ t.op.request = o.request))

/-- A press ends PREPARING and OPENING, and a SET_SYSTEM of the request ends them and TEST, with the state at the
request -/
def Obligations.ServiceIsEnded : Prop :=
  ∀ s : State, Calm { s with op := { s.op with testPhase := .idle } } → s.seq.state.defrosting = false →
    let o := s.op
    let cut := fun q : Sequencer =>
      let q : Sequencer := { q with release := q.release.map fun r => { r with c := 0 } }
      if q.state = .running ∨ q.state = .stopWait then ({ q with state := .stopWait, stopSent := true } : Sequencer) else q
    let prepares := o.testPhase ≠ .idle ∧ (o.state = .off ∨ o.state = .on)
    (prepares → s.inp.buttonClosed = true → o.accepted = false → s.inp.buttonSince + 50 ≤ s.now →
      ∃ t, exec .buttonPress s = .next t ∧
        ({ t with port := s.port } : State).timeless =
          ({ s with op :=
            { o with
              testPhase := .idle, testDampers := [], opened := [], accepted := true, button := .ignored
              pressFrom := none } } : State).timeless) ∧
    (∀ new : OpRequest, s.port.service = none → prepares ∨ o.state = .test ∧ o.testPhase = .idle →
      let changes := decide (new ≠ o.request)
      let tested := decide (o.state = .test)
      let follows : OpState := if new = .on then .on else .off
      ∃ t, exec (.setSystem (byte new.code) 0xFE 0xFE) s = .next t ∧
        (changes = true → t.store.autoPending = true ∨ t.store.writer ≠ .idle) ∧ (changes = false → t.store = s.store) ∧
        ({ t with port := s.port, store := s.store } : State).timeless =
          ({ s with
            op :=
              { o with
                request := new, testPhase := .idle
                testDampers := if tested then o.testDampers else []
                opened := if tested then o.opened else []
                testFrom := if tested then none else o.testFrom
                state := if tested || changes then follows else o.state }
            seq := if tested || changes && decide (new = .off) then cut s.seq else s.seq
            eval := { s.eval with early := s.eval.early || changes || tested } } : State).timeless)

/-- Host writes, a press and a long press wake RESTING (log 24); PREPARING ends in OPENING, which opens every ACTIVE
damper before TEST -/
def Obligations.RestingWakesAndTestOpens : Prop :=
  ∀ s : State,
    let o := s.op
    let now := s.now
    let follow : OpRequest → OpState := fun r => if r = .on then .on else .off
    let rests := Calm s ∧ o.state = .resting ∧ s.seq.state = .stopped ∧ ∀ t0, s.link.lowAt = some t0 → t0 + 2 ≤ now
    let wakes := fun (t : State) (r : OpRequest) =>
      t.op.request = r ∧ t.op.state = follow r ∧ t.eval.early = true ∧
        t.sens.nextSlot = 0 ∧ t.sens.nextSlotAt = now ∧ t.sens.slotMs = 1250 ∧ t.sens.poll = none ∧
        (s.link.state = .slow → t.link.state = .active) ∧ (s.link.state = .lost → t.link.state = .lost)
    let quietDrive := s.todo = Todo.clear ∧ s.co.phase = .applied ∧ s.co.incoming = none ∧ s.co.held = none ∧
      s.drive.queue = [] ∧ (∃ p, s.eval.lastPass = some p ∧ now < p + 5000) ∧ wakeRoundDue s = false ∧
      AirSafe s ∧ ∀ z : ZoneId, s.inp.windingOpen.get z = false
    let pressedLong := o.button = .pressed ∧ ∃ t0, o.pressFrom = some t0 ∧ t0 + s.cfg.buttonHold * 1000 ≤ now
    let prepared := fun c : Instr =>
      c = .minimumOffExpiry ∧ o.testPhase = .preparing ∧ o.state = .off ∧ s.seq.minOffDone = false ∨
        c = .buttonHoldTime ∧ o.testPhase = .idle ∧ pressedLong ∧
          (o.state = .resting ∧ (∀ t0, s.link.lowAt = some t0 → t0 + 2 ≤ now) ∨
            o.state = .off ∧ o.request = .off ∨ o.state = .on ∧ o.request = .on)
    (∀ r : OpRequest, rests → s.port.service = none → r ≠ o.request →
      ∃ t, exec (.setSystem (byte r.code) 0xFE 0xFE) s = .next t ∧ wakes t r) ∧
    (∀ c : Instr, rests → s.port.service = none → WakingWrite s c →
      ∃ t, exec c s = .next t ∧ (o.request = .on → wakes t .on) ∧
        (o.request = .off → t.op.state = .resting ∧ t.eval.early = true)) ∧
    (rests → s.inp.buttonClosed = true → o.accepted = false → s.inp.buttonSince + 50 ≤ now →
      ∃ t, exec .buttonPress s = .next t ∧ wakes t o.request ∧ t.op.button = .pressed ∧ t.op.pressFrom = some now) ∧
    (rests → pressedLong → now < s.seq.minOffFrom + 180000 →
      ∃ t, exec .buttonHoldTime s = .next t ∧ wakes t .off ∧ t.op.button = .held ∧ t.op.testPhase = .preparing) ∧
    (∀ c : Instr, quietDrive → prepared c →
      s.seq.state = .stopped ∨ s.seq.state = .tripped ∨ s.seq.state = .lockout → s.seq.minOffFrom + 180000 ≤ now →
      let tested := fun z : ZoneId => stateOf s z = .active ∧ (s.zst.get z).unconf = false
      (∀ z : ZoneId, tested z →
        (damperOf s z).motion = .idle ∧ (damperOf s z).position ≠ none ∧ s.drive.slotOf z = none) →
      ∃ t, exec c s = .next t ∧ t.op.request = (if c = .buttonHoldTime then .off else o.request) ∧
        (o.state = .resting →
          t.sens.nextSlot = 0 ∧ t.sens.nextSlotAt = now ∧ t.sens.slotMs = 1250 ∧
            (s.link.state = .slow → t.link.state = .active)) ∧
        ((∀ z : ZoneId, tested z → (damperOf s z).position = some 200) →
          t.op.state = .test ∧ t.op.testPhase = .idle ∧ t.op.testFrom = some now ∧ t.eval.early = true) ∧
        ((∃ z : ZoneId, tested z ∧ (damperOf s z).position ≠ some 200) →
          t.op.state = .off ∧ t.op.testPhase = .opening ∧
            ∀ z : ZoneId,
              (z ∈ t.op.testDampers ↔ tested z) ∧ (z ∈ t.op.opened ↔ tested z ∧ (damperOf s z).position = some 200) ∧
                (tested z → (damperOf s z).position ≠ some 200 →
                  t.drive.entryOf z = some ⟨z, .move 200⟩ ∨
                    ∃ slot, t.drive.slotOf z = some slot ∧ slot.what = .move 200))) ∧
    (∀ (d : ZoneId) (slot : Slot), quietDrive → o.state = .off → o.testPhase = .opening → d ∈ o.testDampers →
      (∀ z ∈ o.testDampers, stateOf s z = .active) → s.drive.slotOf d = some slot → (damperOf s d).followOn = .nothing →
      (slot.what = .move 200 → (damperOf s d).position = some 200 →
        ∃ t, exec (.moveComplete d) s = .next t ∧
          ((∀ z ∈ o.testDampers, z = d ∨ z ∈ o.opened) →
            t.op.state = .test ∧ t.op.testPhase = .idle ∧ t.op.testFrom = some now ∧ t.eval.early = true) ∧
          ((∃ z ∈ o.testDampers, z ≠ d ∧ z ∉ o.opened) →
            t.op.testPhase = .opening ∧ ∀ z : ZoneId, z ∈ t.op.opened ↔ z ∈ o.opened ∨ z = d)) ∧
      (slot.what = .home → 220 ≤ slot.steps → d ∉ o.opened →
        ∃ t, exec (.homeComplete d) s = .next t ∧ t.op.testPhase = .opening ∧ t.op.opened = o.opened ∧
          t.drive.slotOf d = some ⟨d, .move 200, 0, now, true⟩))
end

