-- ==== Sys2Proof/Laws/Eight.lean ====
section
/-! SUPPORT. Reading and writing one of eight values. -/

namespace Sys2Proof.Machine

variable {α : Type}

@[simp] theorem Eight.get_set_same (e : Eight α) (i : ZoneId) (x : α) : (e.set i x).get i = x := by
  fin_cases i <;> rfl

@[simp] theorem Eight.get_set_ne (e : Eight α) {i j : ZoneId} (x : α) (h : j ≠ i) : (e.set i x).get j = e.get j := by
  fin_cases i <;> fin_cases j <;> first | rfl | exact absurd rfl h

theorem Eight.get_set (e : Eight α) (i j : ZoneId) (x : α) : (e.set i x).get j = if j = i then x else e.get j := by
  by_cases h : j = i
  · subst h; simp
  · simp [h]

theorem Eight.get_modify (e : Eight α) (i j : ZoneId) (f : α → α) :
    (e.modify i f).get j = if j = i then f (e.get i) else e.get j := by
  simp [Eight.modify, Eight.get_set]

@[simp] theorem Eight.get_modify_same (e : Eight α) (i : ZoneId) (f : α → α) : (e.modify i f).get i = f (e.get i) := by
  simp [Eight.modify]

@[simp] theorem Eight.get_modify_ne (e : Eight α) {i j : ZoneId} (f : α → α) (h : j ≠ i) :
    (e.modify i f).get j = e.get j := by simp [Eight.modify, h]

@[simp] theorem Eight.get_ofFn (f : ZoneId → α) (i : ZoneId) : (Eight.ofFn f).get i = f i := by fin_cases i <;> rfl

@[simp] theorem Eight.get_all (x : α) (i : ZoneId) : (Eight.all x).get i = x := by fin_cases i <;> rfl

/-- Two octets with equal values are equal. -/
theorem Eight.ext_get {e f : Eight α} (h : ∀ i, e.get i = f.get i) : e = f := by
  obtain ⟨a0, a1, a2, a3, a4, a5, a6, a7⟩ := e
  obtain ⟨b0, b1, b2, b3, b4, b5, b6, b7⟩ := f
  have h0 := h 0; have h1 := h 1; have h2 := h 2; have h3 := h 3
  have h4 := h 4; have h5 := h 5; have h6 := h 6; have h7 := h 7
  simp only [Eight.mk.injEq]
  exact ⟨h0, h1, h2, h3, h4, h5, h6, h7⟩

@[simp] theorem Eight.set_get_self (e : Eight α) (i : ZoneId) : e.set i (e.get i) = e := by
  apply Eight.ext_get; intro j; rw [Eight.get_set]; split
  · subst_vars; rfl
  · rfl

/-- Every zone is in the list of zones. -/
@[simp] theorem mem_allZones (z : ZoneId) : z ∈ allZones := by fin_cases z <;> decide

theorem Eight.mem_toList {e : Eight α} {x : α} : x ∈ e.toList ↔ ∃ i, e.get i = x := by
  constructor
  · intro h
    simp only [Eight.toList, List.mem_cons, List.not_mem_nil, or_false] at h
    rcases h with h | h | h | h | h | h | h | h
    · exact ⟨0, h.symm⟩
    · exact ⟨1, h.symm⟩
    · exact ⟨2, h.symm⟩
    · exact ⟨3, h.symm⟩
    · exact ⟨4, h.symm⟩
    · exact ⟨5, h.symm⟩
    · exact ⟨6, h.symm⟩
    · exact ⟨7, h.symm⟩
  · rintro ⟨i, rfl⟩
    fin_cases i <;> simp [Eight.toList, Eight.get]

end Sys2Proof.Machine
end

