-- ==== Sys2Proof/Laws/Frame.lean ====
section
/-! SUPPORT. What the operations that a command's end can call leave alone: `kept` gathers those fields, and one lemma for each
operation says that it keeps them. -/

namespace Sys2Proof.Machine

/-- Fields of the blower that its goals, holds and guard leave alone. -/
structure BlowerKept where
  qhi : Nat
  capped : Bool
  pressure : Option Nat
  measured : Nat
  lastPulse : Nat

/-- The fields of the blower that are kept. -/
def Blower.kept (b : Blower) : BlowerKept := ⟨b.qhi, b.capped, b.pressure, b.measured, b.lastPulse⟩

/-- A diagnostic without the mark that the round in progress carries it, which each round sets or clears. -/
def Diagnostic.unchosen (d : Diagnostic) : Diagnostic := { d with chosen := false }

/-- Fields that the consequences of a command leave alone. -/
structure Kept where
  now : Nat
  inp : Inputs
  zcfg : Eight ZoneConfig
  setp : Eight Setpoints
  cfg : Settings
  store : Store
  pending : List Instr
  returnAir : Option Int
  hpCapable : Bool
  info : Option InfoRecord
  lastStatus : Option StatRecord
  lastGood : Option Nat
  lastFailure : Option FailureKind
  diag : Option Diagnostic
  request : OpRequest
  latched : Latched
  policy : Policy
  frost : Bool
  button : ButtonState
  pressFrom : Option Nat
  accepted : Bool
  restartCause : RestartCause
  receiver : Receiver
  service : Option Service
  waiting : Option Request
  overrun : Bool
  mask : Word
  restartDue : Bool
  hist : Histories
  lockout : Bool
  floatHeld : Bool
  supplyLow : Bool
  lowFrom : Option Nat
  highFrom : Option Nat
  coil : Option Int
  coilBad : Nat
  coilGood : Nat
  coilFault : Bool
  supply : Option Int
  supplyGoneFrom : Option Nat
  limit : Nat
  startFailHold : Option Nat
  defrostLongHold : Option Nat
  blower : BlowerKept

/-- The fields kept. -/
def kept (s : State) : Kept :=
  { now := s.now, inp := s.inp, zcfg := s.zcfg, setp := s.setp, cfg := s.cfg, store := s.store, pending := s.pending
    returnAir := s.sens.returnAir, hpCapable := s.eval.hpCapable, info := s.link.info, lastStatus := s.link.lastStatus
    lastGood := s.link.lastGood, lastFailure := s.link.lastFailure, diag := s.link.diag.map Diagnostic.unchosen
    request := s.op.request, latched := s.op.latched, policy := s.op.policy, frost := s.op.frost, button := s.op.button
    pressFrom := s.op.pressFrom, accepted := s.op.accepted, restartCause := s.op.restartCause
    receiver := s.port.receiver, service := s.port.service, waiting := s.port.waiting, overrun := s.port.overrun
    mask := s.port.mask, restartDue := s.port.restartDue, hist := s.prot.hist, lockout := s.prot.lockout
    floatHeld := s.prot.floatHeld, supplyLow := s.prot.supplyLow, lowFrom := s.prot.lowFrom, highFrom := s.prot.highFrom
    coil := s.prot.coil, coilBad := s.prot.coilBad, coilGood := s.prot.coilGood, coilFault := s.prot.coilFault
    supply := s.prot.supply, supplyGoneFrom := s.prot.supplyGoneFrom, limit := s.prot.limit
    startFailHold := s.prot.startFailHold, defrostLongHold := s.prot.defrostLongHold, blower := s.blower.kept }

/-- The kept fields of a state written out. -/
theorem kept_mk (now : Nat) (inp : Inputs) (zcfg : Eight ZoneConfig) (zst : Eight ZoneStatus) (setp : Eight Setpoints)
    (sens : Sensing) (work : Eight ZoneWork) (eval : Evaluator) (arb : Arbiter) (app : Apportion) (co : Changeover)
    (drive : Drive) (blower : Blower) (link : Link) (seq : Sequencer) (prot : Protection) (op : Operating) (port : Port)
    (store : Store) (cfg : Settings) (todo : Todo) (pending : List Instr) :
    kept ⟨now, inp, zcfg, zst, setp, sens, work, eval, arb, app, co, drive, blower, link, seq, prot, op, port, store,
      cfg, todo, pending⟩ =
    ⟨now, inp, zcfg, setp, cfg, store, pending, sens.returnAir, eval.hpCapable, link.info, link.lastStatus, link.lastGood,
      link.lastFailure, link.diag.map Diagnostic.unchosen, op.request, op.latched, op.policy, op.frost, op.button, op.pressFrom,
      op.accepted, op.restartCause, port.receiver, port.service, port.waiting, port.overrun, port.mask, port.restartDue,
      prot.hist, prot.lockout, prot.floatHeld, prot.supplyLow, prot.lowFrom, prot.highFrom, prot.coil, prot.coilBad,
      prot.coilGood, prot.coilFault, prot.supply, prot.supplyGoneFrom, prot.limit, prot.startFailHold,
      prot.defrostLongHold, blower.kept⟩ := rfl

/-- The kept fields gathered again. -/
theorem kept_eta (s : State) :
    (⟨s.now, s.inp, s.zcfg, s.setp, s.cfg, s.store, s.pending, s.sens.returnAir, s.eval.hpCapable, s.link.info,
      s.link.lastStatus, s.link.lastGood, s.link.lastFailure, s.link.diag.map Diagnostic.unchosen, s.op.request, s.op.latched,
      s.op.policy, s.op.frost, s.op.button, s.op.pressFrom, s.op.accepted, s.op.restartCause, s.port.receiver,
      s.port.service, s.port.waiting, s.port.overrun, s.port.mask, s.port.restartDue, s.prot.hist, s.prot.lockout,
      s.prot.floatHeld, s.prot.supplyLow, s.prot.lowFrom, s.prot.highFrom, s.prot.coil, s.prot.coilBad, s.prot.coilGood,
      s.prot.coilFault, s.prot.supply, s.prot.supplyGoneFrom, s.prot.limit, s.prot.startFailHold, s.prot.defrostLongHold,
      s.blower.kept⟩ : Kept) = kept s := rfl

/-- `kept` goes into the branches of a choice. -/
theorem kept_ite (c : Prop) [Decidable c] (a b : State) : kept (if c then a else b) = if c then kept a else kept b := by
  split <;> rfl

/-! ### The blower -/

theorem Blower.kept_setDemand (now demand : Nat) (b : Blower) : (b.setDemand now demand).kept = b.kept := rfl
theorem Blower.kept_setGoal (now : Nat) (t : List BlowerPoint) (q : Nat) (b : Blower) :
    (b.setGoal now t q).kept = b.kept := rfl
theorem Blower.kept_leavePause (now : Nat) (b : Blower) : (b.leavePause now).kept = b.kept := by
  unfold Blower.leavePause; split <;> rfl
theorem Blower.kept_turnOff (now : Nat) (t : List BlowerPoint) (b : Blower) : (b.turnOff now t).kept = b.kept :=
  b.kept_leavePause now
theorem Blower.kept_rampTo (now : Nat) (t : List BlowerPoint) (g : Nat) (b : Blower) :
    (b.rampTo now t g).kept = b.kept := rfl
theorem Blower.kept_enterHold (now : Nat) (t : List BlowerPoint) (b : Blower) : (b.enterHold now t).kept = b.kept :=
  b.kept_leavePause now
theorem Blower.kept_guard (now : Nat) (t : List BlowerPoint) (b : Blower) : (b.guard now t).kept = b.kept :=
  b.kept_leavePause now

theorem Blower.kept_give (now : Nat) (t : List BlowerPoint) (r : Bool) (g : Nat) (b : Blower) :
    (b.give now t r g).kept = b.kept := by
  unfold Blower.give; dsimp only; split <;> (repeat' split) <;> first | rfl | exact Blower.kept_turnOff now t _

theorem Blower.kept_addHold (now : Nat) (t : List BlowerPoint) (c : Bool) (b : Blower) :
    (b.addHold now t c).kept = b.kept := by
  unfold Blower.addHold; cases c <;> dsimp only <;> (repeat' split) <;> first | rfl | exact Blower.kept_enterHold now t _

theorem Blower.kept_removeHold (now : Nat) (t : List BlowerPoint) (c : Bool) (b : Blower) :
    (b.removeHold now t c).kept = b.kept := by
  unfold Blower.removeHold; cases c <;> dsimp only <;> (repeat' split) <;> first | rfl | exact Blower.kept_turnOff now t _

theorem Blower.kept_stopReported (now : Nat) (t : List BlowerPoint) (m : Option Mode) (b : Blower) :
    (b.stopReported now t m).kept = b.kept := by
  unfold Blower.stopReported
  (repeat' split) <;> first | rfl | exact Blower.kept_turnOff now t _

theorem Blower.kept_syncPressure (now cap : Nat) (b : Blower) : (b.syncPressure now cap).kept = b.kept := rfl

/-! ### The port, zones and sensing -/

theorem Port.pump_kept (p : Port) (now : Nat) :
    (p.pump now).receiver = p.receiver ∧ (p.pump now).service = p.service ∧ (p.pump now).waiting = p.waiting ∧
      (p.pump now).overrun = p.overrun ∧ (p.pump now).mask = p.mask ∧ (p.pump now).restartDue = p.restartDue := by
  unfold Port.pump Port.sendReport Port.sendReply Port.send
  (repeat' split) <;> exact ⟨rfl, rfl, rfl, rfl, rfl, rfl⟩

theorem kept_raise (r : Report) (s : State) : kept (raise r s) = kept s := by
  have h := fun p : Port => Port.pump_kept p s.now
  simp only [raise, Port.raise, kept_mk]
  repeat' split
  · obtain ⟨h1, h2, h3, h4, h5, h6⟩ := h { s.port with reports := s.port.reports ++ [r] }
    simp only [h1, h2, h3, h4, h5, h6, kept_eta]
  · rfl
  · rfl

theorem kept_requestPass (s : State) : kept (requestPass s) = kept s := rfl

theorem kept_setZoneState (z : ZoneId) (n : ZoneState) (s : State) : kept (setZoneState z n s) = kept s := by
  simp only [setZoneState, kept_raise, kept_mk, kept_eta]

theorem kept_putSensor (z : ZoneId) (r : SensorRec) (s : State) : kept (putSensor z r s) = kept s := rfl

theorem kept_changeSensor (z : ZoneId) (r : SensorRec) (s : State) : kept (changeSensor z r s) = kept s := by
  simp only [changeSensor, kept_ite, kept_putSensor, kept_raise, kept_requestPass, ite_self]

theorem kept_discardPoll (z : ZoneId) (s : State) : kept (discardPoll z s) = kept s := by
  unfold discardPoll; (repeat' split) <;> rfl

theorem kept_restartSensing (z : ZoneId) (a : Option Nat) (s : State) : kept (restartSensing z a s) = kept s := by
  simp only [restartSensing, kept_changeSensor, kept_discardPoll]

theorem kept_stopSensing (z : ZoneId) (s : State) : kept (stopSensing z s) = kept s := by
  simp only [stopSensing, kept_changeSensor, kept_discardPoll]

theorem kept_restartSweep (s : State) : kept (restartSweep s) = kept s := rfl

/-! ### Dampers and the air path -/

theorem kept_moveRequest (d : ZoneId) (t : Nat) (s : State) : kept (moveRequest d t s) = kept s := by
  unfold moveRequest; split <;> rfl

theorem kept_homeRequest (d : ZoneId) (s : State) : kept (homeRequest d s) = kept s := rfl

theorem kept_releaseZone (z : ZoneId) (s : State) : kept (releaseZone z s) = kept s := by
  simp only [releaseZone, kept_mk, kept_eta, kept_stopSensing, kept_requestPass, kept_setZoneState]

theorem kept_faultDamper (d : ZoneId) (s : State) : kept (faultDamper d s) = kept s := by
  unfold faultDamper
  dsimp only
  split <;>
    simp only [kept_ite, kept_releaseZone, kept_requestPass, kept_setZoneState, kept_mk, kept_eta, ite_self]

theorem kept_tellRestart (s : State) : kept (tellRestart s) = kept s := rfl
theorem kept_tellPhase (s : State) : kept (tellPhase s) = kept s := rfl

theorem kept_blowerGuard (s : State) : kept (blowerGuard s) = kept s := by
  simp only [blowerGuard, kept_tellRestart, kept_requestPass, kept_mk, Blower.kept_guard, kept_eta]

theorem kept_airGuard (s : State) : kept (airGuard s) = kept s := by
  simp only [airGuard, kept_ite, kept_blowerGuard, ite_self]

theorem kept_giveBlower (g : Nat) (s : State) : kept (giveBlower g s) = kept s := by
  simp only [giveBlower, kept_mk, Blower.kept_give, kept_eta]

theorem kept_offerGoal (g : Nat) (s : State) : kept (offerGoal g s) = kept s := by
  simp only [offerGoal, kept_ite, kept_giveBlower, kept_tellRestart, kept_requestPass, ite_self]

theorem kept_addHold (c : Bool) (s : State) : kept (addHold c s) = kept s := by
  simp only [addHold, kept_mk, Blower.kept_addHold, kept_eta]

theorem kept_removeHold (c : Bool) (s : State) : kept (removeHold c s) = kept s := by
  simp only [removeHold, kept_airGuard, kept_mk, Blower.kept_removeHold, kept_eta]

theorem kept_grantOne (s : State) : kept (grantOne s) = kept s := by
  unfold grantOne
  dsimp only
  split <;> simp only [kept_ite, kept_airGuard, kept_faultDamper, kept_mk, kept_eta, ite_self]

end Sys2Proof.Machine
end

