-- ==== Sys2Proof/Laws/FrameSequencer.lean ====
section
/-! SUPPORT. The sequencer, the Protection Monitor, the Plan Changeover Controller and a pass keep the fields of `kept`. -/

namespace Sys2Proof.Machine

/-! ### The sequencer -/

theorem kept_seqTo (q : SeqState) (s : State) : kept (seqTo q s) = kept s := rfl
theorem kept_restartMinOff (s : State) : kept (restartMinOff s) = kept s := rfl
theorem kept_seqRest (q : SeqState) (s : State) : kept (seqRest q s) = kept s := rfl
theorem kept_stopWait (b : Bool) (s : State) : kept (stopWait b s) = kept s := rfl

theorem kept_restStartPoint (s : State) : kept (restStartPoint s) = kept s := by
  simp only [restStartPoint, kept_ite, kept_mk, kept_eta, ite_self]

theorem kept_stopReport (s : State) : kept (stopReport s) = kept s := by
  simp only [stopReport, kept_ite, kept_removeHold, kept_mk, Blower.kept_stopReported, kept_eta, kept_restStartPoint,
    kept_restartMinOff, ite_self]

theorem kept_endRecovery (c : DefrostCause) (s : State) : kept (endRecovery c s) = kept s := by
  simp only [endRecovery, kept_raise, kept_removeHold, kept_requestPass, kept_mk, kept_eta, kept_ite, kept_stopWait,
    kept_seqRest, ite_self]

theorem kept_enterRecovery (c : DefrostCause) (s : State) : kept (enterRecovery c s) = kept s := by
  simp only [enterRecovery, kept_ite, kept_endRecovery, kept_raise, kept_mk, kept_eta, ite_self]

theorem kept_grantDefrost (s : State) : kept (grantDefrost s) = kept s := by
  simp only [grantDefrost, kept_raise, kept_mk, kept_eta]

theorem kept_enterPrep (s : State) : kept (enterPrep s) = kept s := by
  simp only [enterPrep, kept_ite, kept_grantDefrost, kept_raise, kept_mk, kept_eta, kept_addHold, ite_self]

theorem kept_takeStopped (s : State) : kept (takeStopped s) = kept s := by
  simp only [takeStopped, kept_ite, kept_mk, kept_eta, kept_stopReport, ite_self]

theorem kept_interruptDefrost (c : DefrostCause) (s : State) : kept (interruptDefrost c s) = kept s := by
  simp only [interruptDefrost, kept_ite, kept_enterRecovery, kept_takeStopped, ite_self]

theorem kept_markStop (s : State) : kept (markStop s) = kept s := by
  simp only [markStop, kept_ite, kept_enterRecovery, kept_mk, kept_eta, ite_self]

theorem kept_immediateStop (s : State) : kept (immediateStop s) = kept s := by
  unfold immediateStop; split <;> simp only [kept_stopWait, kept_markStop]

theorem kept_followWanted (s : State) : kept (followWanted s) = kept s := by
  unfold followWanted; split <;> simp only [kept_seqTo]

theorem kept_releaseOff (s : State) : kept (releaseOff s) = kept s := by
  simp only [releaseOff, kept_followWanted, kept_immediateStop, kept_mk, kept_eta]

theorem kept_limitChanged (s : State) : kept (limitChanged s) = kept s := by
  simp only [limitChanged, kept_followWanted, kept_ite, kept_immediateStop, ite_self]

theorem kept_seqRelease (r : Release) (s : State) : kept (seqRelease r s) = kept s := by
  unfold seqRelease
  dsimp only
  split <;>
    simp only [kept_ite, kept_stopWait, kept_seqTo, kept_followWanted, kept_mk, kept_eta, ite_self]

theorem kept_startCompressor (s : State) : kept (startCompressor s) = kept s := by
  simp only [startCompressor, kept_ite, kept_addHold, kept_mk, kept_eta, ite_self]

theorem kept_syncStartFail (s : State) : kept (syncStartFail s) = kept s := by
  simp only [syncStartFail, kept_ite, kept_mk, kept_eta, ite_self]

theorem kept_stoppingTrip (s : State) : kept (stoppingTrip s) = kept s := by
  unfold stoppingTrip
  dsimp only
  split <;> simp only [kept_seqRest, kept_stopReport, kept_interruptDefrost, kept_restartMinOff]

theorem kept_lockoutSet (s : State) : kept (lockoutSet s) = kept s := by
  unfold lockoutSet
  dsimp only
  split <;> simp only [kept_seqRest, kept_stopReport, kept_interruptDefrost, kept_restartMinOff]

theorem kept_noStoppingTrip (s : State) : kept (noStoppingTrip s) = kept s := by
  simp only [noStoppingTrip, kept_ite, kept_seqTo, ite_self]

theorem kept_lockoutEnds (s : State) : kept (lockoutEnds s) = kept s := by
  simp only [lockoutEnds, kept_ite, kept_seqTo, ite_self]

theorem kept_seqLinkLost (s : State) : kept (seqLinkLost s) = kept s := by
  unfold seqLinkLost
  dsimp only
  split <;> simp only [kept_seqRest, kept_stopReport, kept_interruptDefrost, kept_restartMinOff]

theorem kept_statStops (s : State) : kept (statStops s) = kept s := by
  simp only [statStops, kept_seqRest, kept_stopReport]

theorem kept_statRunning (r : StatRecord) (s : State) : kept (statRunning r s) = kept s := by
  simp only [statRunning, kept_ite, kept_statStops, kept_enterPrep, ite_self]

theorem kept_statDefrost (r : StatRecord) (s : State) : kept (statDefrost r s) = kept s := by
  unfold statDefrost; split <;> simp only [kept_ite, kept_raise, kept_enterRecovery, kept_mk, kept_eta, ite_self]

theorem kept_confirmStart (r : StatRecord) (s : State) : kept (confirmStart r s) = kept s := by
  simp only [confirmStart, kept_ite, kept_mk, kept_eta, ite_self]

theorem kept_seqStat (r : StatRecord) (s : State) : kept (seqStat r s) = kept s := by
  unfold seqStat
  dsimp only
  split <;>
    simp only [kept_ite, kept_statRunning, kept_statStops, kept_interruptDefrost, kept_statDefrost, kept_confirmStart,
      ite_self]

/-! ### The Protection Monitor -/

theorem kept_leaveStops (k : TripKind) (s : State) : kept (leaveStops k s) = kept s := by
  simp only [leaveStops, kept_ite, kept_noStoppingTrip, kept_raise, kept_mk, kept_eta, ite_self]

theorem kept_joinStops (k : TripKind) (s : State) : kept (joinStops k s) = kept s := by
  simp only [joinStops, kept_ite, kept_stoppingTrip, kept_mk, kept_eta, ite_self]

theorem kept_judgeFloat (s : State) : kept (judgeFloat s) = kept s := by
  simp only [judgeFloat, kept_ite, kept_joinStops, kept_leaveStops, ite_self]

theorem kept_endWatches (s : State) : kept (endWatches s) = kept s := by
  simp only [endWatches, kept_mk, kept_eta]

theorem kept_syncWatches (s : State) : kept (syncWatches s) = kept s := by
  simp only [syncWatches, kept_mk, kept_eta, kept_endWatches]

/-! ### The Plan Changeover Controller -/

theorem kept_foldl {α : Type} (f : State → α → State) (h : ∀ s a, kept (f s a) = kept s) (l : List α) (s : State) :
    kept (l.foldl f s) = kept s := by
  induction l generalizing s with
  | nil => rfl
  | cons a l ih => rw [List.foldl_cons, ih, h]

theorem kept_requestFor (p : Plan) (z : ZoneId) (s : State) : kept (requestFor p z s) = kept s := by
  simp only [requestFor, kept_ite, kept_moveRequest, ite_self]

theorem kept_requestOpenings (p : Plan) (s : State) : kept (requestOpenings p s) = kept s :=
  kept_foldl _ (fun s z => by simp only [kept_ite, kept_requestFor, ite_self]) _ s

theorem kept_requestClosings (p : Plan) (s : State) : kept (requestClosings p s) = kept s :=
  kept_foldl _ (fun s z => by simp only [kept_ite, kept_requestFor, ite_self]) _ s

theorem kept_releasePlan (p : Plan) (s : State) : kept (releasePlan p s) = kept s := by
  simp only [releasePlan, kept_judgeFloat, kept_endWatches, kept_seqRelease, kept_mk, kept_eta]

theorem kept_capacityStep (p : Plan) (s : State) : kept (capacityStep p s) = kept s := by
  simp only [capacityStep, kept_ite, kept_releasePlan, kept_mk, kept_eta, ite_self]

theorem kept_openPhase (p : Plan) (s : State) : kept (openPhase p s) = kept s := by
  simp only [openPhase, kept_tellPhase, kept_capacityStep, kept_requestOpenings, kept_mk, kept_eta]

theorem kept_adjustEntry (p : Plan) (d : ZoneId) (s : State) : kept (adjustEntry p d s) = kept s := by
  unfold adjustEntry; (repeat' split) <;> simp only [kept_ite, kept_mk, kept_eta, ite_self]

theorem kept_clearInMotion (d : ZoneId) (s : State) : kept (clearInMotion d s) = kept s := by
  unfold clearInMotion; (repeat' split) <;> rfl

theorem kept_removeIntent (p : Plan) (s : State) : kept (removeIntent p s) = kept s :=
  kept_foldl _ (fun s d => by simp only [kept_ite, kept_clearInMotion, kept_adjustEntry, ite_self]) _ s

theorem kept_supersede (p : Plan) (b : Bool) (s : State) : kept (supersede p b s) = kept s := by
  simp only [supersede, kept_openPhase, kept_mk, kept_eta, kept_removeIntent]

theorem kept_takePlan (p : Plan) (s : State) : kept (takePlan p s) = kept s := by
  simp only [takePlan, kept_ite, kept_openPhase, kept_supersede, kept_mk, kept_eta, ite_self]

theorem kept_handOn (p : Plan) (s : State) : kept (handOn p s) = kept s := by
  simp only [handOn, kept_ite, kept_takePlan, kept_mk, kept_eta, ite_self]

theorem kept_takeHeld (s : State) : kept (takeHeld s) = kept s := by
  unfold takeHeld; split <;> simp only [kept_takePlan, kept_mk, kept_eta]

theorem kept_abandonFor (d : ZoneId) (s : State) : kept (abandonFor d s) = kept s := by
  unfold abandonFor; split <;> simp only [kept_ite, kept_supersede, kept_requestPass, ite_self]

theorem kept_restartChangeover (s : State) : kept (restartChangeover s) = kept s := by
  unfold restartChangeover; split <;> simp only [kept_openPhase, kept_supersede]

theorem kept_endOpen (p : Plan) (s : State) : kept (endOpen p s) = kept s := by
  simp only [endOpen, kept_ite, kept_requestPass, kept_offerGoal, kept_mk, kept_eta, ite_self]

theorem kept_endBlower (p : Plan) (s : State) : kept (endBlower p s) = kept s := by
  simp only [endBlower, kept_tellPhase, kept_requestClosings, kept_ite, kept_releasePlan, kept_mk, kept_eta, ite_self]

theorem kept_finishUnconfigure (p : Plan) (s : State) : kept (finishUnconfigure p s) = kept s :=
  kept_foldl _ (fun s z => by simp only [kept_ite, kept_releaseZone, ite_self]) _ s

theorem kept_endClose (p : Plan) (s : State) : kept (endClose p s) = kept s := by
  simp only [endClose, kept_finishUnconfigure, kept_raise, kept_mk, kept_eta]

theorem kept_repair (d : ZoneId) (s : State) : kept (repair d s) = kept s := by
  unfold repair; split <;> simp only [kept_ite, kept_moveRequest, ite_self]

/-! ### The link, as the consequences reach it -/

theorem kept_linkTo (n : LinkState) (c : LinkCause) (s : State) : kept (linkTo n c s) = kept s := by
  simp only [linkTo, kept_requestPass, kept_raise, kept_mk, kept_eta]

theorem kept_wakeLink (s : State) : kept (wakeLink s) = kept s := by
  simp only [wakeLink, kept_ite, kept_mk, kept_eta, kept_linkTo, ite_self]

theorem kept_slowLink (s : State) : kept (slowLink s) = kept s := by
  unfold slowLink; split
  · dsimp only; rw [kept_linkTo]; simp only [kept_mk, kept_eta]
  · rfl

/-! ### Operating states -/

theorem kept_leaveResting (s : State) : kept (leaveResting s) = kept s := by
  simp only [leaveResting, kept_restartSweep, kept_wakeLink]

theorem kept_changeOp (n : OpState) (c : StateCause) (s : State) : kept (changeOp n c s) = kept s := by
  simp only [changeOp, kept_ite, kept_leaveResting, kept_requestPass, kept_raise, kept_mk, kept_eta, ite_self]

theorem kept_restartIdle (s : State) : kept (restartIdle s) = kept s := rfl

theorem kept_withdrawNotice (s : State) : kept (withdrawNotice s) = kept s := rfl

theorem kept_wake (s : State) : kept (wake s) = kept s := by
  simp only [wake, kept_restartIdle, kept_changeOp]

theorem kept_wakeEvent (s : State) : kept (wakeEvent s) = kept s := by
  simp only [wakeEvent, kept_ite, kept_wake, kept_withdrawNotice, ite_self]

theorem kept_wakeIfOn (s : State) : kept (wakeIfOn s) = kept s := by
  simp only [wakeIfOn, kept_ite, kept_wakeEvent, ite_self]

theorem kept_markOpened (d : ZoneId) (s : State) : kept (markOpened d s) = kept s := by
  simp only [markOpened, kept_ite, kept_mk, kept_eta, ite_self]

theorem kept_openForTest (d : ZoneId) (s : State) : kept (openForTest d s) = kept s := by
  simp only [openForTest, kept_ite, kept_markOpened, kept_moveRequest, ite_self]

theorem kept_beginOpening (s : State) : kept (beginOpening s) = kept s := by
  unfold beginOpening
  dsimp only
  rw [kept_foldl _ (fun s d => kept_openForTest d s)]
  rfl

theorem kept_enterTest (s : State) : kept (enterTest s) = kept s := by
  simp only [enterTest, kept_changeOp, kept_mk, kept_eta]

theorem kept_testCompletion (d : ZoneId) (s : State) : kept (testCompletion d s) = kept s := by
  simp only [testCompletion, kept_ite, kept_markOpened, kept_moveRequest, ite_self]

theorem kept_standDown (s : State) : kept (standDown s) = kept s := by
  simp only [standDown, kept_ite, kept_withdrawNotice, kept_mk, kept_eta, ite_self]

theorem kept_enterResting (s : State) : kept (enterResting s) = kept s := by
  simp only [enterResting, kept_slowLink, kept_changeOp, kept_mk, kept_eta]

theorem kept_opStat (r : StatRecord) (s : State) : kept (opStat r s) = kept s := by
  simp only [opStat, kept_ite, kept_wakeEvent, kept_enterResting, ite_self]

/-! ### Frames begun or abandoned as a wake's round falls due -/

theorem kept_loseLink (c : LinkCause) (s : State) : kept (loseLink c s) = kept s := by
  simp only [loseLink, kept_linkTo, kept_mk, kept_eta]

theorem kept_linkLost (c : LinkCause) (s : State) : kept (linkLost c s) = kept s := by
  simp only [linkLost, kept_wakeEvent, kept_seqLinkLost, kept_loseLink]

theorem kept_abandonCap (s : State) : kept (abandonFrame .cap s) = kept s := by
  unfold abandonFrame exchangeFailed
  dsimp only
  split <;> simp only [kept_linkLost, kept_mk, kept_eta]

theorem kept_beginCap (b : List Byte) (s : State) : kept (beginFrame .cap b s) = kept s := by
  simp only [beginFrame, kept_ite, kept_abandonCap, kept_mk, kept_eta, ite_self]

theorem kept_planRound (s : State) : kept (planRound s) = kept s := by
  have h : ∀ c : Bool, (s.link.diag.map fun d => { d with chosen := c }).map Diagnostic.unchosen =
      s.link.diag.map Diagnostic.unchosen := fun c => by cases s.link.diag <;> rfl
  simp only [planRound, kept_mk, h, kept_eta]

theorem kept_beginRound (s : State) : kept (beginRound s) = kept s := by
  simp only [beginRound, kept_beginCap, kept_planRound]

/-! ### A pass -/

theorem kept_formCalls (s : State) : kept (formCalls s) = kept s := rfl
theorem kept_judgeRelief (s : State) : kept (judgeRelief s) = kept s := rfl
theorem kept_beginPass (s : State) : kept (beginPass s) = kept s := rfl

theorem kept_chooseMode (s : State) : kept (chooseMode s) = kept s := by
  simp only [chooseMode, kept_ite, kept_raise, kept_mk, kept_eta, ite_self]

theorem kept_applyParks (s : State) : kept (applyParks s) = kept s :=
  kept_foldl _ (fun s z => by simp only [kept_ite, kept_setZoneState, ite_self]) _ s

theorem kept_finishPlan (p : Plan) (s : State) : kept (finishPlan p s) = kept s := by
  simp only [finishPlan, kept_ite, kept_finishUnconfigure, kept_handOn, kept_mk, kept_eta, ite_self]

theorem kept_passCalls (s : State) : kept (passCalls s) = kept s := by
  simp only [passCalls, kept_ite, kept_wakeEvent, kept_formCalls, ite_self]

theorem kept_passPlan (s : State) : kept (passPlan s) = kept s := by
  simp only [passPlan, kept_finishPlan, kept_applyParks]

theorem kept_runPass (s : State) : kept (runPass s) = kept s := by
  simp only [runPass, kept_passPlan, kept_chooseMode, kept_judgeRelief, kept_passCalls, kept_beginPass]

theorem kept_phaseStep (s : State) : kept (phaseStep s) = kept s := by
  unfold phaseStep
  dsimp only
  (repeat' split) <;> simp only [kept_endOpen, kept_endClose, kept_mk, kept_eta]

theorem kept_sync (s : State) : kept (sync s) = kept s := by
  simp only [sync, kept_standDown, kept_syncStartFail, kept_syncWatches, kept_mk, Blower.kept_syncPressure, kept_eta]

end Sys2Proof.Machine
end

