-- ==== Sys2Proof/Laws/Settle.lean ====
section
/-! SUPPORT. The end of a command: what its consequences can be, what they keep, and the states where there are none. -/

namespace Sys2Proof.Machine

/-- The kept fields without those that the end of STARTUP can change: the request, the latched action and the writer. -/
def Kept.core (k : Kept) : Kept :=
  { k with store := { k.store with writer := .idle, autoPending := false }, request := .off, latched := .nothing }

theorem core_congr {s t : State} (h : kept t = kept s) : (kept t).core = (kept s).core := by rw [h]

theorem core_startAutoSave (s : State) : (kept (startAutoSave s)).core = (kept s).core := by
  unfold startAutoSave; split <;> rfl

theorem core_autoSave (s : State) : (kept (autoSave s)).core = (kept s).core := by
  unfold autoSave; rw [core_startAutoSave]; rfl

theorem core_writeRequest (n : OpRequest) (c : StateCause) (s : State) :
    (kept (writeRequest n c s)).core = (kept s).core := by
  have h0 : (kept (requestPass (autoSave { s with op := { s.op with request := n } }))).core = (kept s).core := by
    rw [core_congr (kept_requestPass _), core_autoSave]; rfl
  unfold writeRequest
  dsimp only
  split
  · rfl
  · split <;> split <;>
      simp only [kept_changeOp, kept_wake, kept_releaseOff, h0]

theorem core_beginPreparation (s : State) : (kept (beginPreparation s)).core = (kept s).core := by
  unfold beginPreparation
  dsimp only
  rw [← core_writeRequest .off .button s]
  simp only [kept_mk, kept_eta]
  split <;> simp only [kept_wake]

theorem core_applyLatched (s : State) : (kept (applyLatched s)).core = (kept s).core := by
  unfold applyLatched
  dsimp only
  split
  · rfl
  · unfold reportButton; rw [kept_raise, core_writeRequest]; rfl
  · unfold reportButton; rw [kept_raise, core_beginPreparation]; rfl

theorem core_endStartup (s : State) : (kept (endStartup s)).core = (kept s).core := by
  unfold endStartup; rw [kept_changeOp, core_applyLatched]

/-- With no action latched, the end of STARTUP keeps the fields of `kept`. -/
theorem kept_endStartup {s : State} (h : s.op.latched = .nothing) : kept (endStartup s) = kept s := by
  have h2 : kept ({ s with op := { s.op with latched := .nothing } } : State) = kept s := by
    simp only [kept_mk]; rw [← h, kept_eta]
  unfold endStartup applyLatched
  rw [h]
  dsimp only
  rw [kept_changeOp, h2]

/-- A consequence is the end of STARTUP, or it keeps the fields of `kept`. -/
theorem microStep_cases {s t : State} (h : microStep s = some t) : t = endStartup s ∨ kept t = kept s := by
  unfold microStep at h
  split at h
  · obtain rfl := Option.some.inj h; exact .inr (by rw [kept_abandonFor]; rfl)
  split at h
  · obtain rfl := Option.some.inj h; exact .inr (by rw [kept_restartChangeover]; rfl)
  split at h
  · obtain rfl := Option.some.inj h; exact .inr (kept_takeHeld s)
  split at h
  · obtain rfl := Option.some.inj h; exact .inr (kept_markOpened _ s)
  split at h
  · obtain rfl := Option.some.inj h; exact .inr (kept_grantOne s)
  split at h
  · obtain rfl := Option.some.inj h; exact .inr (kept_phaseStep s)
  split at h
  · rw [Option.map_eq_some_iff] at h
    obtain ⟨p, -, rfl⟩ := h
    exact .inr (kept_endBlower p s)
  split at h
  · obtain rfl := Option.some.inj h; exact .inr (kept_beginRound s)
  split at h
  · obtain rfl := Option.some.inj h; exact .inr (kept_startCompressor s)
  split at h
  · obtain rfl := Option.some.inj h; exact .inl rfl
  split at h
  · obtain rfl := Option.some.inj h; exact .inr (kept_beginOpening s)
  split at h
  · obtain rfl := Option.some.inj h; exact .inr (kept_enterTest s)
  · exact absurd h (by simp)

/-- A property that every consequence keeps is kept by all of them together. -/
theorem settle_keeps {P : State → Prop} (h : ∀ s t, microStep s = some t → P s → P t) (n : Nat) (s : State) (hs : P s) :
    P (settle n s) := by
  induction n generalizing s with
  | zero => exact hs
  | succ n ih =>
    unfold settle
    split
    · exact ih _ (h _ _ ‹_› hs)
    · exact hs

/-- A property that every consequence, a pass and the renewal of the times keep holds at the end of a command. -/
theorem finish_keeps {P : State → Prop} (hm : ∀ s t, microStep s = some t → P s → P t) (hp : ∀ s, P s → P (runPass s))
    (hy : ∀ s, P s → P (sync s)) (s : State) (hs : P s) : P (finish s) := by
  unfold finish passStep
  apply hy
  split
  · exact settle_keeps hm _ _ (hp _ (settle_keeps hm _ _ hs))
  · exact settle_keeps hm _ _ hs

/-- A property of the kept fields that the end of STARTUP keeps holds at the end of a command. -/
theorem finish_keeps_kept {P : State → Prop} (hk : ∀ s t, kept t = kept s → P s → P t)
    (he : ∀ s, P s → P (endStartup s)) (s : State) (hs : P s) : P (finish s) := by
  refine finish_keeps (fun s t h hs => ?_) (fun s hs => hk _ _ (kept_runPass s) hs) (fun s hs => hk _ _ (kept_sync s) hs)
    s hs
  rcases microStep_cases h with rfl | h
  · exact he _ hs
  · exact hk _ _ h hs

/-- The end of a command keeps the core fields. -/
theorem core_finish (s : State) : (kept (finish s)).core = (kept s).core :=
  finish_keeps_kept (P := fun t => (kept t).core = (kept s).core) (fun _ _ h ht => by rw [h, ht])
    (fun _ ht => by rw [core_endStartup, ht]) s rfl

/-- With no action latched, the end of a command keeps the fields of `kept`. -/
theorem kept_finish {s : State} (h : s.op.latched = .nothing) : kept (finish s) = kept s := by
  have key := finish_keeps_kept (P := fun t => kept t = kept s) (fun _ _ h ht => by rw [h, ht])
    (fun t ht => by
      have hl : t.op.latched = .nothing := by have := congrArg Kept.latched ht; exact this.trans h
      rw [kept_endStartup hl, ht]) s rfl
  exact key

/-! ### States with no consequence -/

/-- With nothing to work off, a command ends with its times renewed. -/
theorem settle_of_none {s : State} (h : microStep s = none) (n : Nat) : settle n s = s := by
  cases n with
  | zero => rfl
  | succ n => unfold settle; rw [h]

theorem finish_of_none {s : State} (h : microStep s = none) (hp : passDue s = false) : finish s = sync s := by
  unfold finish passStep
  rw [settle_of_none h, hp]
  rfl

end Sys2Proof.Machine
end

