-- ==== Sys2Proof/Laws/Calm.lean ====
section
/-! SUPPORT. In a calm state a command ends with its own effect, and only the times that run while a condition holds are renewed. -/

namespace Sys2Proof.Machine

theorem microStep_calm {s : State} (h : Calm s) : microStep s = none := by
  obtain ⟨⟨ht, hp, -, hh, ho, hx, hr, -⟩, hq, hw⟩ := h
  have h1 : leftActive s = [] := by simp [leftActive, hx]
  have h2 : canGrant s = false := by simp [canGrant, hq]
  have h3 : startDue s = false := by simp [startDue, hw]
  have h4 : startupDone s = false := by simp [startupDone, ho]
  have h5 : preparingDone s = false := by simp [preparingDone, hx]
  have h6 : openingDone s = false := by simp [openingDone, hx]
  simp [microStep, ht, Todo.clear, hh, hr, h1, h2, h3, h4, h5, h6, hp]

theorem passDue_calm {s : State} (h : Calm s) : passDue s = false := by
  obtain ⟨⟨-, -, -, -, -, -, -, p, hp, hn⟩, -, -⟩ := h
  have : ¬ (p + 5000 ≤ s.now) := by omega
  simp [passDue, hp, this]

theorem finish_calm {s : State} (h : Calm s) : finish s = sync s := finish_of_none (microStep_calm h) (passDue_calm h)

theorem timeless_syncWatches (s : State) : (syncWatches s).timeless = s.timeless := rfl

theorem timeless_syncStartFail (s : State) : (syncStartFail s).timeless = s.timeless := by
  unfold syncStartFail; split <;> rfl

theorem timeless_standDown (s : State) : (standDown s).timeless = s.timeless := by
  unfold standDown; dsimp only; (repeat' split) <;> rfl

theorem timeless_sync (s : State) : (sync s).timeless = s.timeless := by
  unfold sync; dsimp only
  rw [timeless_standDown, timeless_syncStartFail, timeless_syncWatches]
  rfl

/-- What a command that ends in a calm state answers, but for the times. -/
theorem timeless_finish_calm {s : State} (h : Calm s) : (finish s).timeless = s.timeless := by
  rw [finish_calm h, timeless_sync]

end Sys2Proof.Machine
end

