-- ==== Sys2Proof/Laws/Sync.lean ====
section
/-! SUPPORT. What the renewal of the times at the end of a command changes, field by field, and the states where a command ends with
nothing else. -/

namespace Sys2Proof.Machine

/-- The stand-down check changes only the idle time and the notice. -/
theorem standDown_eq (s : State) : ∃ o, standDown s = { s with op := o } ∧
    o = { s.op with idleFrom := o.idleFrom, idleDone := o.idleDone, notice := o.notice, noticeFrom := o.noticeFrom } := by
  unfold standDown; dsimp only; (repeat' split) <;> exact ⟨_, rfl, rfl⟩

/-- The renewal of the start-fail time changes only that time. -/
theorem syncStartFail_eq (s : State) : ∃ q, syncStartFail s = { s with seq := q } ∧
    q = { s.seq with startFailMs := q.startFailMs, startFailFrom := q.startFailFrom } := by
  unfold syncStartFail; dsimp only; (repeat' split) <;> exact ⟨_, rfl, rfl⟩

/-- The end of the watches changes only their times and limiting marks, each kept where its watch applies and cleared elsewhere. -/
theorem endWatches_eq (s : State) : endWatches s = { s with prot :=
    { s.prot with
      belowZeroFrom := if freezeWatch s then s.prot.belowZeroFrom else none
      above60From := if supplyWatch s then s.prot.above60From else none
      freezeLim := s.prot.freezeLim && freezeWatch s
      supplyLim := s.prot.supplyLim && supplyWatch s } } := rfl

/-- All that the renewal of the times changes. -/
theorem sync_eq (s : State) : ∃ b q p o, sync s = { s with blower := b, seq := q, prot := p, op := o } ∧
    b = { s.blower with aboveFrom := b.aboveFrom, belowFrom := b.belowFrom } ∧
    q = { s.seq with startFailMs := q.startFailMs, startFailFrom := q.startFailFrom } ∧
    p = { s.prot with
      belowZeroFrom := p.belowZeroFrom, above60From := p.above60From, freezeLim := p.freezeLim, supplyLim := p.supplyLim
      stepFrom := p.stepFrom, recoverFrom := p.recoverFrom } ∧
    o = { s.op with idleFrom := o.idleFrom, idleDone := o.idleDone, notice := o.notice, noticeFrom := o.noticeFrom } := by
  refine ⟨(sync s).blower, (sync s).seq, (sync s).prot, (sync s).op, ?_⟩
  unfold sync; dsimp only
  generalize hs : ({ s with blower := s.blower.syncPressure s.now s.cfg.pressureCap } : State) = s1
  obtain ⟨q, hq, hq'⟩ := syncStartFail_eq (syncWatches s1)
  obtain ⟨o, ho, ho'⟩ := standDown_eq (syncStartFail (syncWatches s1))
  rw [ho, hq] at *
  subst hs
  exact ⟨rfl, rfl, hq', rfl, ho'⟩

/-- The blower after the renewal of the times. -/
theorem sync_blower (s : State) :
    ∃ a b, (sync s).blower = { s.blower with aboveFrom := a, belowFrom := b } := by
  obtain ⟨_, _, _, _, h, h', -⟩ := sync_eq s; rw [h]; exact ⟨_, _, h'⟩

/-- The sequencer after the renewal of the times. -/
theorem sync_seq (s : State) : ∃ m f, (sync s).seq = { s.seq with startFailMs := m, startFailFrom := f } := by
  obtain ⟨_, _, _, _, h, -, h', -⟩ := sync_eq s; rw [h]; exact ⟨_, _, h'⟩

/-- The Protection Monitor after the renewal of the times. -/
theorem sync_prot (s : State) : ∃ a b c d e f, (sync s).prot =
    { s.prot with belowZeroFrom := a, above60From := b, freezeLim := c, supplyLim := d, stepFrom := e, recoverFrom := f } := by
  obtain ⟨_, _, _, _, h, -, -, h', -⟩ := sync_eq s; rw [h]; exact ⟨_, _, _, _, _, _, h'⟩

/-- The Operating State Controller after the renewal of the times. -/
theorem sync_op (s : State) :
    ∃ a b c d, (sync s).op = { s.op with idleFrom := a, idleDone := b, notice := c, noticeFrom := d } := by
  obtain ⟨_, _, _, _, h, -, -, -, h'⟩ := sync_eq s; rw [h]; exact ⟨_, _, _, _, h'⟩

/-! ### Field by field -/

@[simp] theorem sync_now (s : State) : (sync s).now = s.now := by obtain ⟨_, _, _, _, h, -⟩ := sync_eq s; rw [h]
@[simp] theorem sync_inp (s : State) : (sync s).inp = s.inp := by obtain ⟨_, _, _, _, h, -⟩ := sync_eq s; rw [h]
@[simp] theorem sync_zcfg (s : State) : (sync s).zcfg = s.zcfg := by obtain ⟨_, _, _, _, h, -⟩ := sync_eq s; rw [h]
@[simp] theorem sync_zst (s : State) : (sync s).zst = s.zst := by obtain ⟨_, _, _, _, h, -⟩ := sync_eq s; rw [h]
@[simp] theorem sync_setp (s : State) : (sync s).setp = s.setp := by obtain ⟨_, _, _, _, h, -⟩ := sync_eq s; rw [h]
@[simp] theorem sync_sens (s : State) : (sync s).sens = s.sens := by obtain ⟨_, _, _, _, h, -⟩ := sync_eq s; rw [h]
@[simp] theorem sync_work (s : State) : (sync s).work = s.work := by obtain ⟨_, _, _, _, h, -⟩ := sync_eq s; rw [h]
@[simp] theorem sync_eval (s : State) : (sync s).eval = s.eval := by obtain ⟨_, _, _, _, h, -⟩ := sync_eq s; rw [h]
@[simp] theorem sync_arb (s : State) : (sync s).arb = s.arb := by obtain ⟨_, _, _, _, h, -⟩ := sync_eq s; rw [h]
@[simp] theorem sync_app (s : State) : (sync s).app = s.app := by obtain ⟨_, _, _, _, h, -⟩ := sync_eq s; rw [h]
@[simp] theorem sync_co (s : State) : (sync s).co = s.co := by obtain ⟨_, _, _, _, h, -⟩ := sync_eq s; rw [h]
@[simp] theorem sync_drive (s : State) : (sync s).drive = s.drive := by obtain ⟨_, _, _, _, h, -⟩ := sync_eq s; rw [h]
@[simp] theorem sync_link (s : State) : (sync s).link = s.link := by obtain ⟨_, _, _, _, h, -⟩ := sync_eq s; rw [h]
@[simp] theorem sync_port (s : State) : (sync s).port = s.port := by obtain ⟨_, _, _, _, h, -⟩ := sync_eq s; rw [h]
@[simp] theorem sync_store (s : State) : (sync s).store = s.store := by obtain ⟨_, _, _, _, h, -⟩ := sync_eq s; rw [h]
@[simp] theorem sync_cfg (s : State) : (sync s).cfg = s.cfg := by obtain ⟨_, _, _, _, h, -⟩ := sync_eq s; rw [h]
@[simp] theorem sync_todo (s : State) : (sync s).todo = s.todo := by obtain ⟨_, _, _, _, h, -⟩ := sync_eq s; rw [h]
@[simp] theorem sync_pending (s : State) : (sync s).pending = s.pending := by obtain ⟨_, _, _, _, h, -⟩ := sync_eq s; rw [h]
@[simp] theorem sync_blower_state (s : State) : (sync s).blower.state = s.blower.state := by obtain ⟨_, _, h⟩ := sync_blower s; rw [h]
@[simp] theorem sync_blower_given (s : State) : (sync s).blower.given = s.blower.given := by obtain ⟨_, _, h⟩ := sync_blower s; rw [h]
@[simp] theorem sync_blower_carried (s : State) : (sync s).blower.carried = s.blower.carried := by obtain ⟨_, _, h⟩ := sync_blower s; rw [h]
@[simp] theorem sync_blower_coldBlow (s : State) : (sync s).blower.coldBlow = s.blower.coldBlow := by obtain ⟨_, _, h⟩ := sync_blower s; rw [h]
@[simp] theorem sync_blower_defrostHold (s : State) : (sync s).blower.defrostHold = s.blower.defrostHold := by obtain ⟨_, _, h⟩ := sync_blower s; rw [h]
@[simp] theorem sync_blower_goal (s : State) : (sync s).blower.goal = s.blower.goal := by obtain ⟨_, _, h⟩ := sync_blower s; rw [h]
@[simp] theorem sync_blower_speedGoal (s : State) : (sync s).blower.speedGoal = s.blower.speedGoal := by obtain ⟨_, _, h⟩ := sync_blower s; rw [h]
@[simp] theorem sync_blower_demand (s : State) : (sync s).blower.demand = s.blower.demand := by obtain ⟨_, _, h⟩ := sync_blower s; rw [h]
@[simp] theorem sync_blower_expected (s : State) : (sync s).blower.expected = s.blower.expected := by obtain ⟨_, _, h⟩ := sync_blower s; rw [h]
@[simp] theorem sync_blower_retryFrom (s : State) : (sync s).blower.retryFrom = s.blower.retryFrom := by obtain ⟨_, _, h⟩ := sync_blower s; rw [h]
@[simp] theorem sync_blower_runOnUntil (s : State) : (sync s).blower.runOnUntil = s.blower.runOnUntil := by obtain ⟨_, _, h⟩ := sync_blower s; rw [h]
@[simp] theorem sync_blower_qhi (s : State) : (sync s).blower.qhi = s.blower.qhi := by obtain ⟨_, _, h⟩ := sync_blower s; rw [h]
@[simp] theorem sync_blower_capped (s : State) : (sync s).blower.capped = s.blower.capped := by obtain ⟨_, _, h⟩ := sync_blower s; rw [h]
@[simp] theorem sync_blower_pressure (s : State) : (sync s).blower.pressure = s.blower.pressure := by obtain ⟨_, _, h⟩ := sync_blower s; rw [h]
@[simp] theorem sync_blower_rampFrom (s : State) : (sync s).blower.rampFrom = s.blower.rampFrom := by obtain ⟨_, _, h⟩ := sync_blower s; rw [h]
@[simp] theorem sync_blower_goalSince (s : State) : (sync s).blower.goalSince = s.blower.goalSince := by obtain ⟨_, _, h⟩ := sync_blower s; rw [h]
@[simp] theorem sync_blower_settleFrom (s : State) : (sync s).blower.settleFrom = s.blower.settleFrom := by obtain ⟨_, _, h⟩ := sync_blower s; rw [h]
@[simp] theorem sync_blower_zeroFrom (s : State) : (sync s).blower.zeroFrom = s.blower.zeroFrom := by obtain ⟨_, _, h⟩ := sync_blower s; rw [h]
@[simp] theorem sync_blower_measured (s : State) : (sync s).blower.measured = s.blower.measured := by obtain ⟨_, _, h⟩ := sync_blower s; rw [h]
@[simp] theorem sync_blower_lastPulse (s : State) : (sync s).blower.lastPulse = s.blower.lastPulse := by obtain ⟨_, _, h⟩ := sync_blower s; rw [h]
@[simp] theorem sync_blower_inBand (s : State) : (sync s).blower.inBand = s.blower.inBand := by obtain ⟨_, _, h⟩ := sync_blower s; rw [h]
@[simp] theorem sync_blower_bandFrom (s : State) : (sync s).blower.bandFrom = s.blower.bandFrom := by obtain ⟨_, _, h⟩ := sync_blower s; rw [h]
@[simp] theorem sync_seq_state (s : State) : (sync s).seq.state = s.seq.state := by obtain ⟨_, _, h⟩ := sync_seq s; rw [h]
@[simp] theorem sync_seq_release (s : State) : (sync s).seq.release = s.seq.release := by obtain ⟨_, _, h⟩ := sync_seq s; rw [h]
@[simp] theorem sync_seq_stopping (s : State) : (sync s).seq.stopping = s.seq.stopping := by obtain ⟨_, _, h⟩ := sync_seq s; rw [h]
@[simp] theorem sync_seq_minOffFrom (s : State) : (sync s).seq.minOffFrom = s.seq.minOffFrom := by obtain ⟨_, _, h⟩ := sync_seq s; rw [h]
@[simp] theorem sync_seq_minOffDone (s : State) : (sync s).seq.minOffDone = s.seq.minOffDone := by obtain ⟨_, _, h⟩ := sync_seq s; rw [h]
@[simp] theorem sync_seq_runStart (s : State) : (sync s).seq.runStart = s.seq.runStart := by obtain ⟨_, _, h⟩ := sync_seq s; rw [h]
@[simp] theorem sync_seq_stopSent (s : State) : (sync s).seq.stopSent = s.seq.stopSent := by obtain ⟨_, _, h⟩ := sync_seq s; rw [h]
@[simp] theorem sync_seq_takenStopped (s : State) : (sync s).seq.takenStopped = s.seq.takenStopped := by obtain ⟨_, _, h⟩ := sync_seq s; rw [h]
@[simp] theorem sync_seq_stopMark (s : State) : (sync s).seq.stopMark = s.seq.stopMark := by obtain ⟨_, _, h⟩ := sync_seq s; rw [h]
@[simp] theorem sync_seq_grantSent (s : State) : (sync s).seq.grantSent = s.seq.grantSent := by obtain ⟨_, _, h⟩ := sync_seq s; rw [h]
@[simp] theorem sync_seq_defrostFrom (s : State) : (sync s).seq.defrostFrom = s.seq.defrostFrom := by obtain ⟨_, _, h⟩ := sync_seq s; rw [h]
@[simp] theorem sync_seq_recoveryFrom (s : State) : (sync s).seq.recoveryFrom = s.seq.recoveryFrom := by obtain ⟨_, _, h⟩ := sync_seq s; rw [h]
@[simp] theorem sync_prot_floatHeld (s : State) : (sync s).prot.floatHeld = s.prot.floatHeld := by obtain ⟨_, _, _, _, _, _, h⟩ := sync_prot s; rw [h]
@[simp] theorem sync_prot_stops (s : State) : (sync s).prot.stops = s.prot.stops := by obtain ⟨_, _, _, _, _, _, h⟩ := sync_prot s; rw [h]
@[simp] theorem sync_prot_startFailHold (s : State) : (sync s).prot.startFailHold = s.prot.startFailHold := by obtain ⟨_, _, _, _, _, _, h⟩ := sync_prot s; rw [h]
@[simp] theorem sync_prot_defrostLongHold (s : State) : (sync s).prot.defrostLongHold = s.prot.defrostLongHold := by obtain ⟨_, _, _, _, _, _, h⟩ := sync_prot s; rw [h]
@[simp] theorem sync_prot_supplyLow (s : State) : (sync s).prot.supplyLow = s.prot.supplyLow := by obtain ⟨_, _, _, _, _, _, h⟩ := sync_prot s; rw [h]
@[simp] theorem sync_prot_lowFrom (s : State) : (sync s).prot.lowFrom = s.prot.lowFrom := by obtain ⟨_, _, _, _, _, _, h⟩ := sync_prot s; rw [h]
@[simp] theorem sync_prot_highFrom (s : State) : (sync s).prot.highFrom = s.prot.highFrom := by obtain ⟨_, _, _, _, _, _, h⟩ := sync_prot s; rw [h]
@[simp] theorem sync_prot_coil (s : State) : (sync s).prot.coil = s.prot.coil := by obtain ⟨_, _, _, _, _, _, h⟩ := sync_prot s; rw [h]
@[simp] theorem sync_prot_coilBad (s : State) : (sync s).prot.coilBad = s.prot.coilBad := by obtain ⟨_, _, _, _, _, _, h⟩ := sync_prot s; rw [h]
@[simp] theorem sync_prot_coilGood (s : State) : (sync s).prot.coilGood = s.prot.coilGood := by obtain ⟨_, _, _, _, _, _, h⟩ := sync_prot s; rw [h]
@[simp] theorem sync_prot_coilFault (s : State) : (sync s).prot.coilFault = s.prot.coilFault := by obtain ⟨_, _, _, _, _, _, h⟩ := sync_prot s; rw [h]
@[simp] theorem sync_prot_supply (s : State) : (sync s).prot.supply = s.prot.supply := by obtain ⟨_, _, _, _, _, _, h⟩ := sync_prot s; rw [h]
@[simp] theorem sync_prot_supplyGoneFrom (s : State) : (sync s).prot.supplyGoneFrom = s.prot.supplyGoneFrom := by obtain ⟨_, _, _, _, _, _, h⟩ := sync_prot s; rw [h]
@[simp] theorem sync_prot_limit (s : State) : (sync s).prot.limit = s.prot.limit := by obtain ⟨_, _, _, _, _, _, h⟩ := sync_prot s; rw [h]
@[simp] theorem sync_prot_hist (s : State) : (sync s).prot.hist = s.prot.hist := by obtain ⟨_, _, _, _, _, _, h⟩ := sync_prot s; rw [h]
@[simp] theorem sync_prot_lockout (s : State) : (sync s).prot.lockout = s.prot.lockout := by obtain ⟨_, _, _, _, _, _, h⟩ := sync_prot s; rw [h]
@[simp] theorem sync_op_state (s : State) : (sync s).op.state = s.op.state := by obtain ⟨_, _, _, _, h⟩ := sync_op s; rw [h]
@[simp] theorem sync_op_request (s : State) : (sync s).op.request = s.op.request := by obtain ⟨_, _, _, _, h⟩ := sync_op s; rw [h]
@[simp] theorem sync_op_policy (s : State) : (sync s).op.policy = s.op.policy := by obtain ⟨_, _, _, _, h⟩ := sync_op s; rw [h]
@[simp] theorem sync_op_frost (s : State) : (sync s).op.frost = s.op.frost := by obtain ⟨_, _, _, _, h⟩ := sync_op s; rw [h]
@[simp] theorem sync_op_testPhase (s : State) : (sync s).op.testPhase = s.op.testPhase := by obtain ⟨_, _, _, _, h⟩ := sync_op s; rw [h]
@[simp] theorem sync_op_testDampers (s : State) : (sync s).op.testDampers = s.op.testDampers := by obtain ⟨_, _, _, _, h⟩ := sync_op s; rw [h]
@[simp] theorem sync_op_opened (s : State) : (sync s).op.opened = s.op.opened := by obtain ⟨_, _, _, _, h⟩ := sync_op s; rw [h]
@[simp] theorem sync_op_testFrom (s : State) : (sync s).op.testFrom = s.op.testFrom := by obtain ⟨_, _, _, _, h⟩ := sync_op s; rw [h]
@[simp] theorem sync_op_button (s : State) : (sync s).op.button = s.op.button := by obtain ⟨_, _, _, _, h⟩ := sync_op s; rw [h]
@[simp] theorem sync_op_pressFrom (s : State) : (sync s).op.pressFrom = s.op.pressFrom := by obtain ⟨_, _, _, _, h⟩ := sync_op s; rw [h]
@[simp] theorem sync_op_accepted (s : State) : (sync s).op.accepted = s.op.accepted := by obtain ⟨_, _, _, _, h⟩ := sync_op s; rw [h]
@[simp] theorem sync_op_latched (s : State) : (sync s).op.latched = s.op.latched := by obtain ⟨_, _, _, _, h⟩ := sync_op s; rw [h]
@[simp] theorem sync_op_restartCause (s : State) : (sync s).op.restartCause = s.op.restartCause := by obtain ⟨_, _, _, _, h⟩ := sync_op s; rw [h]

/-! ### States without a consequence -/

/-- With no changeover, test or STARTUP, no waiting move and no start due, a command ends with its times renewed. -/
theorem finish_quiet {s : State} (h : Settled s) (hq : s.drive.queue = []) (hw : startDue s = false) :
    finish s = sync s := by
  obtain ⟨ht, hp, -, hh, ho, hx, hr, p, hl, hn⟩ := h
  apply finish_of_none
  · have h1 : leftActive s = [] := by simp [leftActive, hx]
    have h2 : canGrant s = false := by simp [canGrant, hq]
    have h4 : startupDone s = false := by simp [startupDone, ho]
    have h5 : preparingDone s = false := by simp [preparingDone, hx]
    have h6 : openingDone s = false := by simp [openingDone, hx]
    simp [microStep, ht, Todo.clear, hh, hr, h1, h2, hw, h4, h5, h6, hp]
  · have : ¬ (p + 5000 ≤ s.now) := by omega
    simp [passDue, hl, this]

end Sys2Proof.Machine
end

