-- ==== Sys2Proof/Laws/Ops.lean ====
section
/-! SUPPORT. What the shared operations can do: the transmitter, replies and requests, trips, and the report of a compressor stop. -/

namespace Sys2Proof.Machine

/-! ### The transmitter (12 R172) -/

/-- A transmitter that is sending takes nothing. -/
theorem Port.pump_busy {p : Port} (now : Nat) (h : p.tx.isSome) : p.pump now = p := by simp [Port.pump, h]

/-- A free transmitter with nothing to send stays free. -/
theorem Port.pump_nothing {p : Port} (now : Nat) (h : p.reply = none) (hr : p.reports = []) : p.pump now = p := by
  unfold Port.pump; split
  · rfl
  · simp [h, hr, Port.sendReport]

/-- Without a waiting report a free transmitter takes the reply that is ready. -/
theorem Port.pump_reply {p : Port} (now : Nat) (kind : Byte) (payload : List Byte) (h : p.tx = none) (hr : p.reports = [])
    (hk : p.reply = some (kind :: payload)) :
    p.pump now = { p with reply := none }.send now true (hostFrame kind payload) := by
  simp [Port.pump, h, hr, hk, Port.sendReply]

/-- All that a raised report can change. -/
theorem raise_eq (r : Report) (s : State) : ∃ reports dropped tx reply last, raise r s =
    { s with port :=
        { s.port with reports := reports, dropped := dropped, tx := tx, reply := reply, lastSent := last } } := by
  have hp : ∀ p : Port, ∃ reports dropped tx reply last, p.pump s.now =
      { p with reports := reports, dropped := dropped, tx := tx, reply := reply, lastSent := last } := by
    intro p
    have hs : ∀ p : Port, ∃ reports dropped tx reply last, p.sendReport s.now =
        { p with reports := reports, dropped := dropped, tx := tx, reply := reply, lastSent := last } := by
      intro p; unfold Port.sendReport; split <;> exact ⟨_, _, _, _, _, rfl⟩
    unfold Port.pump
    split
    · exact ⟨_, _, _, _, _, rfl⟩
    split
    · exact hs p
    split
    · unfold Port.sendReply; split <;> exact ⟨_, _, _, _, _, rfl⟩
    · exact hs p
  unfold raise Port.raise
  split
  · split
    · obtain ⟨a, b, c, d, e, h⟩ := hp { s.port with reports := s.port.reports ++ [r] }
      rw [h]; exact ⟨_, _, _, _, _, rfl⟩
    · exact ⟨_, _, _, _, _, rfl⟩
  · exact ⟨_, _, _, _, _, rfl⟩

/-- A report the mask does not select leaves no trace (12 R176). -/
theorem raise_masked {r : Report} {s : State} (h : maskSelects s.port.mask r = false) : raise r s = s := by
  simp [raise, Port.raise, h]

/-! ### The link (08 R122 to R124, R132) -/

/-- On a quiet line a frame begins, and nothing else changes. -/
theorem beginFrame_quiet {s : State} (h : lineQuiet s = true) (k : FrameKind) (b : List Byte) : beginFrame k b s =
    { s with link :=
        { s.link with frame := some ⟨k, b, s.now, s.now + linkFrameMs s.cfg.breakLength b.length, []⟩ } } := by
  simp [beginFrame, h]

/-- On a line that has been low the frame is abandoned. -/
theorem beginFrame_low {s : State} (h : lineQuiet s = false) (k : FrameKind) (b : List Byte) :
    beginFrame k b s = abandonFrame k s := by simp [beginFrame, h]

/-- No wake's round is due where none has been asked for. -/
theorem wakeRoundDue_none {s : State} (h : s.link.wakeRound = false) : wakeRoundDue s = false := by simp [wakeRoundDue, h]

/-- The low line is noted but for the time in which the part drives it itself. -/
theorem heardLow_eq (k : Link) (now : Nat) :
    k.heardLow now = { k with lowAt := if k.driven now then k.lowAt else some now } := by
  unfold Link.heardLow; split <;> rfl

/-- Bytes that arrive are kept with the frame, and the line was low with them. -/
theorem takeBytes_link (f : LinkFrame) (bytes : List Byte) (s : State) : (takeBytes f bytes s).link =
    { s.link with
      frame := some { f with arrived := f.arrived ++ bytes }
      lowAt := if bytes = [] ∨ s.link.driven s.now = true then s.link.lowAt else some s.now } := by
  unfold takeBytes noteLow
  rw [heardLow_eq]
  by_cases h : bytes = [] <;> simp [h]

/-- A byte read back as it was sent does not differ. -/
theorem differsAt_sent {bytes : List Byte} {n : Nat} {b : Byte} {samples : BitVec 33} (h : bytes[n]? = some b)
    (hs : readBits samples = sentBits b) : differsAt bytes n samples = false := by simp [differsAt, h, hs]

/-! ### The host receiver (12 R170) -/

/-- The receiver takes one list of bytes and then another as it takes both in one. -/
theorem Receiver.run_append (now : Nat) (r : Receiver) (a b : List HostByte) :
    r.run now (a ++ b) = (((r.run now a).1.run now b).1, (r.run now a).2 ++ ((r.run now a).1.run now b).2) := by
  induction a generalizing r with
  | nil => rfl
  | cons x a ih =>
    simp only [List.cons_append, Receiver.run, ih]
    split <;> simp

/-- A hunting receiver discards every byte that is no good H'A5. -/
theorem Receiver.run_junk (now : Nat) (junk : List HostByte) (h : ∀ b ∈ junk, b.value ≠ 0xA5 ∨ b.stop = false) :
    Receiver.hunting.run now junk = (.hunting, []) := by
  induction junk with
  | nil => rfl
  | cons b rest ih =>
    have hb : huntByte now b = .hunting := by
      rcases h b (by simp) with h | h
      · have : ¬ b.value = 165#8 := h
        simp [huntByte, this]
      · simp [huntByte, h]
    simp [Receiver.run, Receiver.byte, hb, ih fun x hx => h x (by simp [hx])]

/-! ### The line filters (01 R12) -/

/-- Each line goes through its own filter: all that the samples of a bit do. -/
theorem BusFilter.through_eq (f : BusFilter) (samples : List BusSample) :
    f.through samples =
      ⟨(samples.map BusSample.line).foldl LineFilter.sample f.line, (samples.map BusSample.other).foldl LineFilter.sample f.other⟩ := by
  induction samples generalizing f with
  | nil => rfl
  | cons x rest ih => exact ih (f.sample x)

/-- Two samples of a line that agree set its accepted level, whatever came before. -/
theorem LineFilter.sample_agree (f : LineFilter) (b : Bool) : (f.sample b).sample b = ⟨b, b⟩ := by simp [LineFilter.sample]

/-- A single sample between samples of the accepted level is not seen. -/
theorem LineFilter.sample_spike (b : Bool) : ((⟨b, b⟩ : LineFilter).sample (!b)).sample b = ⟨b, b⟩ := by cases b <;> rfl

/-- Bits of two agreeing samples each are read as they are, whatever the other line does. -/
theorem BusFilter.bits_agree (f : BusFilter) (bits : List (Bool × Bool × Bool)) :
    (f.bits (bits.map fun b => [⟨b.1, b.2.1⟩, ⟨b.1, b.2.2⟩])).2 = bits.map Prod.fst := by
  induction bits generalizing f with
  | nil => rfl
  | cons b rest ih => simp [BusFilter.bits, BusFilter.through, BusFilter.sample, LineFilter.sample_agree, ih]

/-! ### Requests (12 R171) -/

/-- A host command offers its request, and some of them end as every command that changes the blocks does. -/
theorem exec_request {c : Instr} {r : Request} (s : State) (h : requestOfCommand c = some r) :
    exec c s = .next (finish (offer r s)) ∨ exec c s = .next (offer r s) := by
  cases c
  case unknownKind k =>
    have hk : (if within k.toNat 1 15 then none else some (Request.unknownKind k)) = some r := h
    right
    show Host.Outcome.next (if within k.toNat 1 15 then s else offer (.unknownKind k) s) = _
    split at hk
    · cases hk
    · rename_i hh; rw [if_neg hh]; cases hk; rfl
  all_goals first
    | exact Option.noConfusion rfl (heq_of_eq h)
    | (replace h := Option.some.inj h; subst h; first | exact .inr rfl | exact .inl rfl)

/-- The reply of a request taken by an idle port is under way at once. -/
theorem handReply_idle {s : State} (h : PortIdle s) (r : Request) (st : Status) (body : List Byte) :
    handReply r.kind st body (toStage r .replying s) = answered s r st body := by
  obtain ⟨-, h2, h3, h4⟩ := h
  unfold handReply Port.handReply toStage answered
  have hf : ∀ b, flagsByte b false = flagByte b := by decide
  simp [Port.pump, Port.sendReply, Port.send, h2, h4, hf, replyKind]
  exact h3.symm

/-- A port with no request in service takes an offered request. -/
theorem offer_free {s : State} (h : s.port.service = none) (r : Request) :
    offer r s = perform r (toStage r .replying s) := by
  unfold offer; simp [h, takeRequest]

/-- A zone's byte reads as the zone. -/
@[simp] theorem zoneOf_byte (z : ZoneId) : zoneOf (byte z.val) = some z := by revert z; decide

/-- A byte above 7 names no zone. -/
theorem zoneOf_none {z : Byte} (h : 7 < z.toNat) : zoneOf z = none := by unfold zoneOf; rw [dif_neg]; omega

/-! ### Trips (10 R158) -/

/-- The histories after one is replaced. -/
theorem hist_get_set (h : Histories) (k j : TripKind) (l : List Nat) :
    (h.set k l).get j = if j = k then l else h.get j := by
  cases k <;> cases j <;> rfl

/-- The history and LOCKOUT after a recorded trip. -/
theorem recordTrip_hist (k : TripKind) (stopping : Bool) (s : State) :
    (recordTrip k stopping s).prot.hist = s.prot.hist.set k (recordTime (s.prot.hist.get k) (clockSeconds s)) ∧
      (recordTrip k stopping s).prot.lockout =
        (s.prot.lockout || decide (3 ≤ (recordTime (s.prot.hist.get k) (clockSeconds s)).length)) := by
  have hk : ∀ {t u : State}, kept t = kept u → t.prot.hist = u.prot.hist ∧ t.prot.lockout = u.prot.lockout :=
    fun h => ⟨congrArg Kept.hist h, congrArg Kept.lockout h⟩
  unfold recordTrip
  dsimp only
  constructor
  · (repeat' split) <;>
      simp only [(hk (kept_lockoutSet _)).1, (hk (kept_joinStops _ _)).1, (hk (kept_raise _ _)).1,
        (hk (kept_requestPass _)).1]
  · (repeat' split) <;>
      simp only [(hk (kept_lockoutSet _)).2, (hk (kept_joinStops _ _)).2, (hk (kept_raise _ _)).2,
        (hk (kept_requestPass _)).2] <;>
      cases s.prot.lockout <;> simp_all

/-! ### The report of a compressor stop (09 R143) -/

/-- All that the end of a retry pause changes. -/
theorem Blower.leavePause_eq (b : Blower) (now : Nat) :
    ∃ r, b.leavePause now = { b with retryFrom := none, rampFrom := r } := by
  unfold Blower.leavePause
  split
  · exact ⟨now, rfl⟩
  · have h : b.retryFrom = none := by simp_all
    exact ⟨b.rampFrom, by rw [← h]⟩

/-- A stop that releases no cold-blow hold leaves the hold clear. -/
theorem Blower.stopReported_coldBlow {b : Blower} (h : b.coldBlow = false) (now : Nat) (t : List BlowerPoint)
    (m : Option Mode) : (b.stopReported now t m).coldBlow = false := by
  obtain ⟨r, hr⟩ := b.leavePause_eq now
  unfold Blower.stopReported Blower.turnOff
  rw [hr]
  (repeat' split) <;> exact h

/-- All that the report of a compressor stop changes where no cold-blow hold is set. -/
theorem stopReport_eq {s : State} (h : s.blower.coldBlow = false) : stopReport s =
    { s with
      arb := if s.arb.mode = .rest ∧ s.arb.restStart = none then { s.arb with restStart := some s.now } else s.arb
      blower := s.blower.stopReported s.now s.cfg.table s.seq.stopping
      seq := { s.seq with runStart := none, minOffFrom := s.now, minOffDone := false } } := by
  have hb := Blower.stopReported_coldBlow h s.now s.cfg.table s.seq.stopping
  unfold stopReport restStartPoint restartMinOff
  dsimp only
  split <;> simp [hb]

end Sys2Proof.Machine
end

