-- ==== Sys2Proof/Laws/State.lean ====
section
/-! SUPPORT. For each plain update of State, what each field is after it. -/

namespace Sys2Proof.Machine

variable (s : State)

/-! ### raise -/

@[simp] theorem raise_now (r : Report) : (raise r s).now = s.now := rfl
@[simp] theorem raise_inp (r : Report) : (raise r s).inp = s.inp := rfl
@[simp] theorem raise_zcfg (r : Report) : (raise r s).zcfg = s.zcfg := rfl
@[simp] theorem raise_zst (r : Report) : (raise r s).zst = s.zst := rfl
@[simp] theorem raise_setp (r : Report) : (raise r s).setp = s.setp := rfl
@[simp] theorem raise_sens (r : Report) : (raise r s).sens = s.sens := rfl
@[simp] theorem raise_work (r : Report) : (raise r s).work = s.work := rfl
@[simp] theorem raise_eval (r : Report) : (raise r s).eval = s.eval := rfl
@[simp] theorem raise_arb (r : Report) : (raise r s).arb = s.arb := rfl
@[simp] theorem raise_app (r : Report) : (raise r s).app = s.app := rfl
@[simp] theorem raise_co (r : Report) : (raise r s).co = s.co := rfl
@[simp] theorem raise_drive (r : Report) : (raise r s).drive = s.drive := rfl
@[simp] theorem raise_blower (r : Report) : (raise r s).blower = s.blower := rfl
@[simp] theorem raise_link (r : Report) : (raise r s).link = s.link := rfl
@[simp] theorem raise_seq (r : Report) : (raise r s).seq = s.seq := rfl
@[simp] theorem raise_prot (r : Report) : (raise r s).prot = s.prot := rfl
@[simp] theorem raise_op (r : Report) : (raise r s).op = s.op := rfl
@[simp] theorem raise_port (r : Report) : (raise r s).port = s.port.raise s.now r := rfl
@[simp] theorem raise_store (r : Report) : (raise r s).store = s.store := rfl
@[simp] theorem raise_cfg (r : Report) : (raise r s).cfg = s.cfg := rfl
@[simp] theorem raise_todo (r : Report) : (raise r s).todo = s.todo := rfl
@[simp] theorem raise_pending (r : Report) : (raise r s).pending = s.pending := rfl

/-! ### handReply -/

@[simp] theorem handReply_now (k : Byte) (st : Status) (b : List Byte) : (handReply k st b s).now = s.now := rfl
@[simp] theorem handReply_inp (k : Byte) (st : Status) (b : List Byte) : (handReply k st b s).inp = s.inp := rfl
@[simp] theorem handReply_zcfg (k : Byte) (st : Status) (b : List Byte) : (handReply k st b s).zcfg = s.zcfg := rfl
@[simp] theorem handReply_zst (k : Byte) (st : Status) (b : List Byte) : (handReply k st b s).zst = s.zst := rfl
@[simp] theorem handReply_setp (k : Byte) (st : Status) (b : List Byte) : (handReply k st b s).setp = s.setp := rfl
@[simp] theorem handReply_sens (k : Byte) (st : Status) (b : List Byte) : (handReply k st b s).sens = s.sens := rfl
@[simp] theorem handReply_work (k : Byte) (st : Status) (b : List Byte) : (handReply k st b s).work = s.work := rfl
@[simp] theorem handReply_eval (k : Byte) (st : Status) (b : List Byte) : (handReply k st b s).eval = s.eval := rfl
@[simp] theorem handReply_arb (k : Byte) (st : Status) (b : List Byte) : (handReply k st b s).arb = s.arb := rfl
@[simp] theorem handReply_app (k : Byte) (st : Status) (b : List Byte) : (handReply k st b s).app = s.app := rfl
@[simp] theorem handReply_co (k : Byte) (st : Status) (b : List Byte) : (handReply k st b s).co = s.co := rfl
@[simp] theorem handReply_drive (k : Byte) (st : Status) (b : List Byte) : (handReply k st b s).drive = s.drive := rfl
@[simp] theorem handReply_blower (k : Byte) (st : Status) (b : List Byte) : (handReply k st b s).blower = s.blower := rfl
@[simp] theorem handReply_link (k : Byte) (st : Status) (b : List Byte) : (handReply k st b s).link = s.link := rfl
@[simp] theorem handReply_seq (k : Byte) (st : Status) (b : List Byte) : (handReply k st b s).seq = s.seq := rfl
@[simp] theorem handReply_prot (k : Byte) (st : Status) (b : List Byte) : (handReply k st b s).prot = s.prot := rfl
@[simp] theorem handReply_op (k : Byte) (st : Status) (b : List Byte) : (handReply k st b s).op = s.op := rfl
@[simp] theorem handReply_port (k : Byte) (st : Status) (b : List Byte) :
    (handReply k st b s).port = s.port.handReply s.now k st b := rfl
@[simp] theorem handReply_store (k : Byte) (st : Status) (b : List Byte) : (handReply k st b s).store = s.store := rfl
@[simp] theorem handReply_cfg (k : Byte) (st : Status) (b : List Byte) : (handReply k st b s).cfg = s.cfg := rfl
@[simp] theorem handReply_todo (k : Byte) (st : Status) (b : List Byte) : (handReply k st b s).todo = s.todo := rfl
@[simp] theorem handReply_pending (k : Byte) (st : Status) (b : List Byte) : (handReply k st b s).pending = s.pending := rfl

/-! ### requestPass -/

@[simp] theorem requestPass_now : (requestPass s).now = s.now := rfl
@[simp] theorem requestPass_inp : (requestPass s).inp = s.inp := rfl
@[simp] theorem requestPass_zcfg : (requestPass s).zcfg = s.zcfg := rfl
@[simp] theorem requestPass_zst : (requestPass s).zst = s.zst := rfl
@[simp] theorem requestPass_setp : (requestPass s).setp = s.setp := rfl
@[simp] theorem requestPass_sens : (requestPass s).sens = s.sens := rfl
@[simp] theorem requestPass_work : (requestPass s).work = s.work := rfl
@[simp] theorem requestPass_eval : (requestPass s).eval = { s.eval with early := true } := rfl
@[simp] theorem requestPass_arb : (requestPass s).arb = s.arb := rfl
@[simp] theorem requestPass_app : (requestPass s).app = s.app := rfl
@[simp] theorem requestPass_co : (requestPass s).co = s.co := rfl
@[simp] theorem requestPass_drive : (requestPass s).drive = s.drive := rfl
@[simp] theorem requestPass_blower : (requestPass s).blower = s.blower := rfl
@[simp] theorem requestPass_link : (requestPass s).link = s.link := rfl
@[simp] theorem requestPass_seq : (requestPass s).seq = s.seq := rfl
@[simp] theorem requestPass_prot : (requestPass s).prot = s.prot := rfl
@[simp] theorem requestPass_op : (requestPass s).op = s.op := rfl
@[simp] theorem requestPass_port : (requestPass s).port = s.port := rfl
@[simp] theorem requestPass_store : (requestPass s).store = s.store := rfl
@[simp] theorem requestPass_cfg : (requestPass s).cfg = s.cfg := rfl
@[simp] theorem requestPass_todo : (requestPass s).todo = s.todo := rfl
@[simp] theorem requestPass_pending : (requestPass s).pending = s.pending := rfl

/-! ### setZoneState -/

@[simp] theorem setZoneState_now (z : ZoneId) (n : ZoneState) : (setZoneState z n s).now = s.now := rfl
@[simp] theorem setZoneState_inp (z : ZoneId) (n : ZoneState) : (setZoneState z n s).inp = s.inp := rfl
@[simp] theorem setZoneState_zcfg (z : ZoneId) (n : ZoneState) : (setZoneState z n s).zcfg = s.zcfg := rfl
@[simp] theorem setZoneState_zst (z : ZoneId) (n : ZoneState) :
    (setZoneState z n s).zst = s.zst.modify z fun x => { x with state := n } := rfl
@[simp] theorem setZoneState_setp (z : ZoneId) (n : ZoneState) : (setZoneState z n s).setp = s.setp := rfl
@[simp] theorem setZoneState_sens (z : ZoneId) (n : ZoneState) : (setZoneState z n s).sens = s.sens := rfl
@[simp] theorem setZoneState_work (z : ZoneId) (n : ZoneState) : (setZoneState z n s).work = s.work := rfl
@[simp] theorem setZoneState_eval (z : ZoneId) (n : ZoneState) : (setZoneState z n s).eval = s.eval := rfl
@[simp] theorem setZoneState_arb (z : ZoneId) (n : ZoneState) : (setZoneState z n s).arb = s.arb := rfl
@[simp] theorem setZoneState_app (z : ZoneId) (n : ZoneState) : (setZoneState z n s).app = s.app := rfl
@[simp] theorem setZoneState_co (z : ZoneId) (n : ZoneState) : (setZoneState z n s).co = s.co := rfl
@[simp] theorem setZoneState_drive (z : ZoneId) (n : ZoneState) : (setZoneState z n s).drive = s.drive := rfl
@[simp] theorem setZoneState_blower (z : ZoneId) (n : ZoneState) : (setZoneState z n s).blower = s.blower := rfl
@[simp] theorem setZoneState_link (z : ZoneId) (n : ZoneState) : (setZoneState z n s).link = s.link := rfl
@[simp] theorem setZoneState_seq (z : ZoneId) (n : ZoneState) : (setZoneState z n s).seq = s.seq := rfl
@[simp] theorem setZoneState_prot (z : ZoneId) (n : ZoneState) : (setZoneState z n s).prot = s.prot := rfl
@[simp] theorem setZoneState_op (z : ZoneId) (n : ZoneState) : (setZoneState z n s).op = s.op := rfl
@[simp] theorem setZoneState_port (z : ZoneId) (n : ZoneState) :
    (setZoneState z n s).port = s.port.raise s.now (.zoneState z n) := rfl
@[simp] theorem setZoneState_store (z : ZoneId) (n : ZoneState) : (setZoneState z n s).store = s.store := rfl
@[simp] theorem setZoneState_cfg (z : ZoneId) (n : ZoneState) : (setZoneState z n s).cfg = s.cfg := rfl
@[simp] theorem setZoneState_todo (z : ZoneId) (n : ZoneState) : (setZoneState z n s).todo = s.todo := rfl
@[simp] theorem setZoneState_pending (z : ZoneId) (n : ZoneState) : (setZoneState z n s).pending = s.pending := rfl

/-! ### startFullWrite -/

@[simp] theorem startFullWrite_now : (startFullWrite s).now = s.now := rfl
@[simp] theorem startFullWrite_inp : (startFullWrite s).inp = s.inp := rfl
@[simp] theorem startFullWrite_zcfg : (startFullWrite s).zcfg = s.zcfg := rfl
@[simp] theorem startFullWrite_zst : (startFullWrite s).zst = s.zst := rfl
@[simp] theorem startFullWrite_setp : (startFullWrite s).setp = s.setp := rfl
@[simp] theorem startFullWrite_sens : (startFullWrite s).sens = s.sens := rfl
@[simp] theorem startFullWrite_work : (startFullWrite s).work = s.work := rfl
@[simp] theorem startFullWrite_eval : (startFullWrite s).eval = s.eval := rfl
@[simp] theorem startFullWrite_arb : (startFullWrite s).arb = s.arb := rfl
@[simp] theorem startFullWrite_app : (startFullWrite s).app = s.app := rfl
@[simp] theorem startFullWrite_co : (startFullWrite s).co = s.co := rfl
@[simp] theorem startFullWrite_drive : (startFullWrite s).drive = s.drive := rfl
@[simp] theorem startFullWrite_blower : (startFullWrite s).blower = s.blower := rfl
@[simp] theorem startFullWrite_link : (startFullWrite s).link = s.link := rfl
@[simp] theorem startFullWrite_seq : (startFullWrite s).seq = s.seq := rfl
@[simp] theorem startFullWrite_prot : (startFullWrite s).prot = s.prot := rfl
@[simp] theorem startFullWrite_op : (startFullWrite s).op = s.op := rfl
@[simp] theorem startFullWrite_port : (startFullWrite s).port = s.port := rfl
@[simp] theorem startFullWrite_store :
    (startFullWrite s).store = { s.store with writer := .full (imageInForce s) s.now, autoPending := false } := rfl
@[simp] theorem startFullWrite_cfg : (startFullWrite s).cfg = s.cfg := rfl
@[simp] theorem startFullWrite_todo : (startFullWrite s).todo = s.todo := rfl
@[simp] theorem startFullWrite_pending : (startFullWrite s).pending = s.pending := rfl

/-! ### putSensor -/

@[simp] theorem putSensor_now (z : ZoneId) (r : SensorRec) : (putSensor z r s).now = s.now := rfl
@[simp] theorem putSensor_inp (z : ZoneId) (r : SensorRec) : (putSensor z r s).inp = s.inp := rfl
@[simp] theorem putSensor_zcfg (z : ZoneId) (r : SensorRec) : (putSensor z r s).zcfg = s.zcfg := rfl
@[simp] theorem putSensor_zst (z : ZoneId) (r : SensorRec) : (putSensor z r s).zst = s.zst := rfl
@[simp] theorem putSensor_setp (z : ZoneId) (r : SensorRec) : (putSensor z r s).setp = s.setp := rfl
@[simp] theorem putSensor_sens (z : ZoneId) (r : SensorRec) :
    (putSensor z r s).sens = { s.sens with zone := s.sens.zone.set z r } := rfl
@[simp] theorem putSensor_work (z : ZoneId) (r : SensorRec) : (putSensor z r s).work = s.work := rfl
@[simp] theorem putSensor_eval (z : ZoneId) (r : SensorRec) : (putSensor z r s).eval = s.eval := rfl
@[simp] theorem putSensor_arb (z : ZoneId) (r : SensorRec) : (putSensor z r s).arb = s.arb := rfl
@[simp] theorem putSensor_app (z : ZoneId) (r : SensorRec) : (putSensor z r s).app = s.app := rfl
@[simp] theorem putSensor_co (z : ZoneId) (r : SensorRec) : (putSensor z r s).co = s.co := rfl
@[simp] theorem putSensor_drive (z : ZoneId) (r : SensorRec) : (putSensor z r s).drive = s.drive := rfl
@[simp] theorem putSensor_blower (z : ZoneId) (r : SensorRec) : (putSensor z r s).blower = s.blower := rfl
@[simp] theorem putSensor_link (z : ZoneId) (r : SensorRec) : (putSensor z r s).link = s.link := rfl
@[simp] theorem putSensor_seq (z : ZoneId) (r : SensorRec) : (putSensor z r s).seq = s.seq := rfl
@[simp] theorem putSensor_prot (z : ZoneId) (r : SensorRec) : (putSensor z r s).prot = s.prot := rfl
@[simp] theorem putSensor_op (z : ZoneId) (r : SensorRec) : (putSensor z r s).op = s.op := rfl
@[simp] theorem putSensor_port (z : ZoneId) (r : SensorRec) : (putSensor z r s).port = s.port := rfl
@[simp] theorem putSensor_store (z : ZoneId) (r : SensorRec) : (putSensor z r s).store = s.store := rfl
@[simp] theorem putSensor_cfg (z : ZoneId) (r : SensorRec) : (putSensor z r s).cfg = s.cfg := rfl
@[simp] theorem putSensor_todo (z : ZoneId) (r : SensorRec) : (putSensor z r s).todo = s.todo := rfl
@[simp] theorem putSensor_pending (z : ZoneId) (r : SensorRec) : (putSensor z r s).pending = s.pending := rfl

/-! ### homeRequest -/

@[simp] theorem homeRequest_now (d : ZoneId) : (homeRequest d s).now = s.now := rfl
@[simp] theorem homeRequest_inp (d : ZoneId) : (homeRequest d s).inp = s.inp := rfl
@[simp] theorem homeRequest_zcfg (d : ZoneId) : (homeRequest d s).zcfg = s.zcfg := rfl
@[simp] theorem homeRequest_zst (d : ZoneId) : (homeRequest d s).zst = s.zst := rfl
@[simp] theorem homeRequest_setp (d : ZoneId) : (homeRequest d s).setp = s.setp := rfl
@[simp] theorem homeRequest_sens (d : ZoneId) : (homeRequest d s).sens = s.sens := rfl
@[simp] theorem homeRequest_work (d : ZoneId) : (homeRequest d s).work = s.work := rfl
@[simp] theorem homeRequest_eval (d : ZoneId) : (homeRequest d s).eval = s.eval := rfl
@[simp] theorem homeRequest_arb (d : ZoneId) : (homeRequest d s).arb = s.arb := rfl
@[simp] theorem homeRequest_app (d : ZoneId) : (homeRequest d s).app = s.app := rfl
@[simp] theorem homeRequest_co (d : ZoneId) : (homeRequest d s).co = s.co := rfl
@[simp] theorem homeRequest_drive (d : ZoneId) : (homeRequest d s).drive = s.drive.requestHome d := rfl
@[simp] theorem homeRequest_blower (d : ZoneId) : (homeRequest d s).blower = s.blower := rfl
@[simp] theorem homeRequest_link (d : ZoneId) : (homeRequest d s).link = s.link := rfl
@[simp] theorem homeRequest_seq (d : ZoneId) : (homeRequest d s).seq = s.seq := rfl
@[simp] theorem homeRequest_prot (d : ZoneId) : (homeRequest d s).prot = s.prot := rfl
@[simp] theorem homeRequest_op (d : ZoneId) : (homeRequest d s).op = s.op := rfl
@[simp] theorem homeRequest_port (d : ZoneId) : (homeRequest d s).port = s.port := rfl
@[simp] theorem homeRequest_store (d : ZoneId) : (homeRequest d s).store = s.store := rfl
@[simp] theorem homeRequest_cfg (d : ZoneId) : (homeRequest d s).cfg = s.cfg := rfl
@[simp] theorem homeRequest_todo (d : ZoneId) : (homeRequest d s).todo = s.todo := rfl
@[simp] theorem homeRequest_pending (d : ZoneId) : (homeRequest d s).pending = s.pending := rfl

/-! ### tellRestart -/

@[simp] theorem tellRestart_now : (tellRestart s).now = s.now := rfl
@[simp] theorem tellRestart_inp : (tellRestart s).inp = s.inp := rfl
@[simp] theorem tellRestart_zcfg : (tellRestart s).zcfg = s.zcfg := rfl
@[simp] theorem tellRestart_zst : (tellRestart s).zst = s.zst := rfl
@[simp] theorem tellRestart_setp : (tellRestart s).setp = s.setp := rfl
@[simp] theorem tellRestart_sens : (tellRestart s).sens = s.sens := rfl
@[simp] theorem tellRestart_work : (tellRestart s).work = s.work := rfl
@[simp] theorem tellRestart_eval : (tellRestart s).eval = s.eval := rfl
@[simp] theorem tellRestart_arb : (tellRestart s).arb = s.arb := rfl
@[simp] theorem tellRestart_app : (tellRestart s).app = s.app := rfl
@[simp] theorem tellRestart_co : (tellRestart s).co = s.co := rfl
@[simp] theorem tellRestart_drive : (tellRestart s).drive = s.drive := rfl
@[simp] theorem tellRestart_blower : (tellRestart s).blower = s.blower := rfl
@[simp] theorem tellRestart_link : (tellRestart s).link = s.link := rfl
@[simp] theorem tellRestart_seq : (tellRestart s).seq = s.seq := rfl
@[simp] theorem tellRestart_prot : (tellRestart s).prot = s.prot := rfl
@[simp] theorem tellRestart_op : (tellRestart s).op = s.op := rfl
@[simp] theorem tellRestart_port : (tellRestart s).port = s.port := rfl
@[simp] theorem tellRestart_store : (tellRestart s).store = s.store := rfl
@[simp] theorem tellRestart_cfg : (tellRestart s).cfg = s.cfg := rfl
@[simp] theorem tellRestart_todo : (tellRestart s).todo = { s.todo with restart := true } := rfl
@[simp] theorem tellRestart_pending : (tellRestart s).pending = s.pending := rfl

/-! ### tellPhase -/

@[simp] theorem tellPhase_now : (tellPhase s).now = s.now := rfl
@[simp] theorem tellPhase_inp : (tellPhase s).inp = s.inp := rfl
@[simp] theorem tellPhase_zcfg : (tellPhase s).zcfg = s.zcfg := rfl
@[simp] theorem tellPhase_zst : (tellPhase s).zst = s.zst := rfl
@[simp] theorem tellPhase_setp : (tellPhase s).setp = s.setp := rfl
@[simp] theorem tellPhase_sens : (tellPhase s).sens = s.sens := rfl
@[simp] theorem tellPhase_work : (tellPhase s).work = s.work := rfl
@[simp] theorem tellPhase_eval : (tellPhase s).eval = s.eval := rfl
@[simp] theorem tellPhase_arb : (tellPhase s).arb = s.arb := rfl
@[simp] theorem tellPhase_app : (tellPhase s).app = s.app := rfl
@[simp] theorem tellPhase_co : (tellPhase s).co = s.co := rfl
@[simp] theorem tellPhase_drive : (tellPhase s).drive = s.drive := rfl
@[simp] theorem tellPhase_blower : (tellPhase s).blower = s.blower := rfl
@[simp] theorem tellPhase_link : (tellPhase s).link = s.link := rfl
@[simp] theorem tellPhase_seq : (tellPhase s).seq = s.seq := rfl
@[simp] theorem tellPhase_prot : (tellPhase s).prot = s.prot := rfl
@[simp] theorem tellPhase_op : (tellPhase s).op = s.op := rfl
@[simp] theorem tellPhase_port : (tellPhase s).port = s.port := rfl
@[simp] theorem tellPhase_store : (tellPhase s).store = s.store := rfl
@[simp] theorem tellPhase_cfg : (tellPhase s).cfg = s.cfg := rfl
@[simp] theorem tellPhase_todo : (tellPhase s).todo = { s.todo with phaseCheck := true } := rfl
@[simp] theorem tellPhase_pending : (tellPhase s).pending = s.pending := rfl

/-! ### blowerGuard -/

@[simp] theorem blowerGuard_now : (blowerGuard s).now = s.now := rfl
@[simp] theorem blowerGuard_inp : (blowerGuard s).inp = s.inp := rfl
@[simp] theorem blowerGuard_zcfg : (blowerGuard s).zcfg = s.zcfg := rfl
@[simp] theorem blowerGuard_zst : (blowerGuard s).zst = s.zst := rfl
@[simp] theorem blowerGuard_setp : (blowerGuard s).setp = s.setp := rfl
@[simp] theorem blowerGuard_sens : (blowerGuard s).sens = s.sens := rfl
@[simp] theorem blowerGuard_work : (blowerGuard s).work = s.work := rfl
@[simp] theorem blowerGuard_eval : (blowerGuard s).eval = { s.eval with early := true } := rfl
@[simp] theorem blowerGuard_arb : (blowerGuard s).arb = s.arb := rfl
@[simp] theorem blowerGuard_app : (blowerGuard s).app = s.app := rfl
@[simp] theorem blowerGuard_co : (blowerGuard s).co = s.co := rfl
@[simp] theorem blowerGuard_drive : (blowerGuard s).drive = s.drive := rfl
@[simp] theorem blowerGuard_blower : (blowerGuard s).blower = s.blower.guard s.now s.cfg.table := rfl
@[simp] theorem blowerGuard_link : (blowerGuard s).link = s.link := rfl
@[simp] theorem blowerGuard_seq : (blowerGuard s).seq = s.seq := rfl
@[simp] theorem blowerGuard_prot : (blowerGuard s).prot = s.prot := rfl
@[simp] theorem blowerGuard_op : (blowerGuard s).op = s.op := rfl
@[simp] theorem blowerGuard_port : (blowerGuard s).port = s.port := rfl
@[simp] theorem blowerGuard_store : (blowerGuard s).store = s.store := rfl
@[simp] theorem blowerGuard_cfg : (blowerGuard s).cfg = s.cfg := rfl
@[simp] theorem blowerGuard_todo : (blowerGuard s).todo = { s.todo with restart := true } := rfl
@[simp] theorem blowerGuard_pending : (blowerGuard s).pending = s.pending := rfl

/-! ### giveBlower -/

@[simp] theorem giveBlower_now (g : Nat) : (giveBlower g s).now = s.now := rfl
@[simp] theorem giveBlower_inp (g : Nat) : (giveBlower g s).inp = s.inp := rfl
@[simp] theorem giveBlower_zcfg (g : Nat) : (giveBlower g s).zcfg = s.zcfg := rfl
@[simp] theorem giveBlower_zst (g : Nat) : (giveBlower g s).zst = s.zst := rfl
@[simp] theorem giveBlower_setp (g : Nat) : (giveBlower g s).setp = s.setp := rfl
@[simp] theorem giveBlower_sens (g : Nat) : (giveBlower g s).sens = s.sens := rfl
@[simp] theorem giveBlower_work (g : Nat) : (giveBlower g s).work = s.work := rfl
@[simp] theorem giveBlower_eval (g : Nat) : (giveBlower g s).eval = s.eval := rfl
@[simp] theorem giveBlower_arb (g : Nat) : (giveBlower g s).arb = s.arb := rfl
@[simp] theorem giveBlower_app (g : Nat) : (giveBlower g s).app = s.app := rfl
@[simp] theorem giveBlower_co (g : Nat) : (giveBlower g s).co = s.co := rfl
@[simp] theorem giveBlower_drive (g : Nat) : (giveBlower g s).drive = s.drive := rfl
@[simp] theorem giveBlower_blower (g : Nat) :
    (giveBlower g s).blower = s.blower.give s.now s.cfg.table (compressorRunning s) g := rfl
@[simp] theorem giveBlower_link (g : Nat) : (giveBlower g s).link = s.link := rfl
@[simp] theorem giveBlower_seq (g : Nat) : (giveBlower g s).seq = s.seq := rfl
@[simp] theorem giveBlower_prot (g : Nat) : (giveBlower g s).prot = s.prot := rfl
@[simp] theorem giveBlower_op (g : Nat) : (giveBlower g s).op = s.op := rfl
@[simp] theorem giveBlower_port (g : Nat) : (giveBlower g s).port = s.port := rfl
@[simp] theorem giveBlower_store (g : Nat) : (giveBlower g s).store = s.store := rfl
@[simp] theorem giveBlower_cfg (g : Nat) : (giveBlower g s).cfg = s.cfg := rfl
@[simp] theorem giveBlower_todo (g : Nat) : (giveBlower g s).todo = s.todo := rfl
@[simp] theorem giveBlower_pending (g : Nat) : (giveBlower g s).pending = s.pending := rfl

/-! ### addHold -/

@[simp] theorem addHold_now (c : Bool) : (addHold c s).now = s.now := rfl
@[simp] theorem addHold_inp (c : Bool) : (addHold c s).inp = s.inp := rfl
@[simp] theorem addHold_zcfg (c : Bool) : (addHold c s).zcfg = s.zcfg := rfl
@[simp] theorem addHold_zst (c : Bool) : (addHold c s).zst = s.zst := rfl
@[simp] theorem addHold_setp (c : Bool) : (addHold c s).setp = s.setp := rfl
@[simp] theorem addHold_sens (c : Bool) : (addHold c s).sens = s.sens := rfl
@[simp] theorem addHold_work (c : Bool) : (addHold c s).work = s.work := rfl
@[simp] theorem addHold_eval (c : Bool) : (addHold c s).eval = s.eval := rfl
@[simp] theorem addHold_arb (c : Bool) : (addHold c s).arb = s.arb := rfl
@[simp] theorem addHold_app (c : Bool) : (addHold c s).app = s.app := rfl
@[simp] theorem addHold_co (c : Bool) : (addHold c s).co = s.co := rfl
@[simp] theorem addHold_drive (c : Bool) : (addHold c s).drive = s.drive := rfl
@[simp] theorem addHold_blower (c : Bool) : (addHold c s).blower = s.blower.addHold s.now s.cfg.table c := rfl
@[simp] theorem addHold_link (c : Bool) : (addHold c s).link = s.link := rfl
@[simp] theorem addHold_seq (c : Bool) : (addHold c s).seq = s.seq := rfl
@[simp] theorem addHold_prot (c : Bool) : (addHold c s).prot = s.prot := rfl
@[simp] theorem addHold_op (c : Bool) : (addHold c s).op = s.op := rfl
@[simp] theorem addHold_port (c : Bool) : (addHold c s).port = s.port := rfl
@[simp] theorem addHold_store (c : Bool) : (addHold c s).store = s.store := rfl
@[simp] theorem addHold_cfg (c : Bool) : (addHold c s).cfg = s.cfg := rfl
@[simp] theorem addHold_todo (c : Bool) : (addHold c s).todo =
    if s.co.phase = .blower ∧ s.blower.state ≠ .hold then { s.todo with holdReport := true } else s.todo := rfl
@[simp] theorem addHold_pending (c : Bool) : (addHold c s).pending = s.pending := rfl

/-! ### seqTo -/

@[simp] theorem seqTo_now (q : SeqState) : (seqTo q s).now = s.now := rfl
@[simp] theorem seqTo_inp (q : SeqState) : (seqTo q s).inp = s.inp := rfl
@[simp] theorem seqTo_zcfg (q : SeqState) : (seqTo q s).zcfg = s.zcfg := rfl
@[simp] theorem seqTo_zst (q : SeqState) : (seqTo q s).zst = s.zst := rfl
@[simp] theorem seqTo_setp (q : SeqState) : (seqTo q s).setp = s.setp := rfl
@[simp] theorem seqTo_sens (q : SeqState) : (seqTo q s).sens = s.sens := rfl
@[simp] theorem seqTo_work (q : SeqState) : (seqTo q s).work = s.work := rfl
@[simp] theorem seqTo_eval (q : SeqState) : (seqTo q s).eval = s.eval := rfl
@[simp] theorem seqTo_arb (q : SeqState) : (seqTo q s).arb = s.arb := rfl
@[simp] theorem seqTo_app (q : SeqState) : (seqTo q s).app = s.app := rfl
@[simp] theorem seqTo_co (q : SeqState) : (seqTo q s).co = s.co := rfl
@[simp] theorem seqTo_drive (q : SeqState) : (seqTo q s).drive = s.drive := rfl
@[simp] theorem seqTo_blower (q : SeqState) : (seqTo q s).blower = s.blower := rfl
@[simp] theorem seqTo_link (q : SeqState) : (seqTo q s).link = s.link := rfl
@[simp] theorem seqTo_seq (q : SeqState) : (seqTo q s).seq = { s.seq with state := q } := rfl
@[simp] theorem seqTo_prot (q : SeqState) : (seqTo q s).prot = s.prot := rfl
@[simp] theorem seqTo_op (q : SeqState) : (seqTo q s).op = s.op := rfl
@[simp] theorem seqTo_port (q : SeqState) : (seqTo q s).port = s.port := rfl
@[simp] theorem seqTo_store (q : SeqState) : (seqTo q s).store = s.store := rfl
@[simp] theorem seqTo_cfg (q : SeqState) : (seqTo q s).cfg = s.cfg := rfl
@[simp] theorem seqTo_todo (q : SeqState) : (seqTo q s).todo = s.todo := rfl
@[simp] theorem seqTo_pending (q : SeqState) : (seqTo q s).pending = s.pending := rfl

/-! ### restartMinOff -/

@[simp] theorem restartMinOff_now : (restartMinOff s).now = s.now := rfl
@[simp] theorem restartMinOff_inp : (restartMinOff s).inp = s.inp := rfl
@[simp] theorem restartMinOff_zcfg : (restartMinOff s).zcfg = s.zcfg := rfl
@[simp] theorem restartMinOff_zst : (restartMinOff s).zst = s.zst := rfl
@[simp] theorem restartMinOff_setp : (restartMinOff s).setp = s.setp := rfl
@[simp] theorem restartMinOff_sens : (restartMinOff s).sens = s.sens := rfl
@[simp] theorem restartMinOff_work : (restartMinOff s).work = s.work := rfl
@[simp] theorem restartMinOff_eval : (restartMinOff s).eval = s.eval := rfl
@[simp] theorem restartMinOff_arb : (restartMinOff s).arb = s.arb := rfl
@[simp] theorem restartMinOff_app : (restartMinOff s).app = s.app := rfl
@[simp] theorem restartMinOff_co : (restartMinOff s).co = s.co := rfl
@[simp] theorem restartMinOff_drive : (restartMinOff s).drive = s.drive := rfl
@[simp] theorem restartMinOff_blower : (restartMinOff s).blower = s.blower := rfl
@[simp] theorem restartMinOff_link : (restartMinOff s).link = s.link := rfl
@[simp] theorem restartMinOff_seq : (restartMinOff s).seq = { s.seq with minOffFrom := s.now, minOffDone := false } := rfl
@[simp] theorem restartMinOff_prot : (restartMinOff s).prot = s.prot := rfl
@[simp] theorem restartMinOff_op : (restartMinOff s).op = s.op := rfl
@[simp] theorem restartMinOff_port : (restartMinOff s).port = s.port := rfl
@[simp] theorem restartMinOff_store : (restartMinOff s).store = s.store := rfl
@[simp] theorem restartMinOff_cfg : (restartMinOff s).cfg = s.cfg := rfl
@[simp] theorem restartMinOff_todo : (restartMinOff s).todo = s.todo := rfl
@[simp] theorem restartMinOff_pending : (restartMinOff s).pending = s.pending := rfl

/-! ### seqRest -/

@[simp] theorem seqRest_now (q : SeqState) : (seqRest q s).now = s.now := rfl
@[simp] theorem seqRest_inp (q : SeqState) : (seqRest q s).inp = s.inp := rfl
@[simp] theorem seqRest_zcfg (q : SeqState) : (seqRest q s).zcfg = s.zcfg := rfl
@[simp] theorem seqRest_zst (q : SeqState) : (seqRest q s).zst = s.zst := rfl
@[simp] theorem seqRest_setp (q : SeqState) : (seqRest q s).setp = s.setp := rfl
@[simp] theorem seqRest_sens (q : SeqState) : (seqRest q s).sens = s.sens := rfl
@[simp] theorem seqRest_work (q : SeqState) : (seqRest q s).work = s.work := rfl
@[simp] theorem seqRest_eval (q : SeqState) : (seqRest q s).eval = s.eval := rfl
@[simp] theorem seqRest_arb (q : SeqState) : (seqRest q s).arb = s.arb := rfl
@[simp] theorem seqRest_app (q : SeqState) : (seqRest q s).app = s.app := rfl
@[simp] theorem seqRest_co (q : SeqState) : (seqRest q s).co = s.co := rfl
@[simp] theorem seqRest_drive (q : SeqState) : (seqRest q s).drive = s.drive := rfl
@[simp] theorem seqRest_blower (q : SeqState) : (seqRest q s).blower = s.blower := rfl
@[simp] theorem seqRest_link (q : SeqState) : (seqRest q s).link = s.link := rfl
@[simp] theorem seqRest_seq (q : SeqState) : (seqRest q s).seq =
      { s.seq with state := q, stopSent := false, takenStopped := false, stopMark := false, grantSent := false
                   defrostFrom := none, recoveryFrom := none, startFailFrom := none } := rfl
@[simp] theorem seqRest_prot (q : SeqState) : (seqRest q s).prot = s.prot := rfl
@[simp] theorem seqRest_op (q : SeqState) : (seqRest q s).op = s.op := rfl
@[simp] theorem seqRest_port (q : SeqState) : (seqRest q s).port = s.port := rfl
@[simp] theorem seqRest_store (q : SeqState) : (seqRest q s).store = s.store := rfl
@[simp] theorem seqRest_cfg (q : SeqState) : (seqRest q s).cfg = s.cfg := rfl
@[simp] theorem seqRest_todo (q : SeqState) : (seqRest q s).todo = s.todo := rfl
@[simp] theorem seqRest_pending (q : SeqState) : (seqRest q s).pending = s.pending := rfl

/-! ### stopWait -/

@[simp] theorem stopWait_now (b : Bool) : (stopWait b s).now = s.now := rfl
@[simp] theorem stopWait_inp (b : Bool) : (stopWait b s).inp = s.inp := rfl
@[simp] theorem stopWait_zcfg (b : Bool) : (stopWait b s).zcfg = s.zcfg := rfl
@[simp] theorem stopWait_zst (b : Bool) : (stopWait b s).zst = s.zst := rfl
@[simp] theorem stopWait_setp (b : Bool) : (stopWait b s).setp = s.setp := rfl
@[simp] theorem stopWait_sens (b : Bool) : (stopWait b s).sens = s.sens := rfl
@[simp] theorem stopWait_work (b : Bool) : (stopWait b s).work = s.work := rfl
@[simp] theorem stopWait_eval (b : Bool) : (stopWait b s).eval = s.eval := rfl
@[simp] theorem stopWait_arb (b : Bool) : (stopWait b s).arb = s.arb := rfl
@[simp] theorem stopWait_app (b : Bool) : (stopWait b s).app = s.app := rfl
@[simp] theorem stopWait_co (b : Bool) : (stopWait b s).co = s.co := rfl
@[simp] theorem stopWait_drive (b : Bool) : (stopWait b s).drive = s.drive := rfl
@[simp] theorem stopWait_blower (b : Bool) : (stopWait b s).blower = s.blower := rfl
@[simp] theorem stopWait_link (b : Bool) : (stopWait b s).link = s.link := rfl
@[simp] theorem stopWait_seq (b : Bool) :
    (stopWait b s).seq = { s.seq with state := .stopWait, stopSent := b, startFailFrom := none } := rfl
@[simp] theorem stopWait_prot (b : Bool) : (stopWait b s).prot = s.prot := rfl
@[simp] theorem stopWait_op (b : Bool) : (stopWait b s).op = s.op := rfl
@[simp] theorem stopWait_port (b : Bool) : (stopWait b s).port = s.port := rfl
@[simp] theorem stopWait_store (b : Bool) : (stopWait b s).store = s.store := rfl
@[simp] theorem stopWait_cfg (b : Bool) : (stopWait b s).cfg = s.cfg := rfl
@[simp] theorem stopWait_todo (b : Bool) : (stopWait b s).todo = s.todo := rfl
@[simp] theorem stopWait_pending (b : Bool) : (stopWait b s).pending = s.pending := rfl

/-! ### noteLow -/

@[simp] theorem noteLow_now : (noteLow s).now = s.now := rfl
@[simp] theorem noteLow_inp : (noteLow s).inp = s.inp := rfl
@[simp] theorem noteLow_zcfg : (noteLow s).zcfg = s.zcfg := rfl
@[simp] theorem noteLow_zst : (noteLow s).zst = s.zst := rfl
@[simp] theorem noteLow_setp : (noteLow s).setp = s.setp := rfl
@[simp] theorem noteLow_sens : (noteLow s).sens = s.sens := rfl
@[simp] theorem noteLow_work : (noteLow s).work = s.work := rfl
@[simp] theorem noteLow_eval : (noteLow s).eval = s.eval := rfl
@[simp] theorem noteLow_arb : (noteLow s).arb = s.arb := rfl
@[simp] theorem noteLow_app : (noteLow s).app = s.app := rfl
@[simp] theorem noteLow_co : (noteLow s).co = s.co := rfl
@[simp] theorem noteLow_drive : (noteLow s).drive = s.drive := rfl
@[simp] theorem noteLow_blower : (noteLow s).blower = s.blower := rfl
@[simp] theorem noteLow_link : (noteLow s).link = s.link.heardLow s.now := rfl
@[simp] theorem noteLow_seq : (noteLow s).seq = s.seq := rfl
@[simp] theorem noteLow_prot : (noteLow s).prot = s.prot := rfl
@[simp] theorem noteLow_op : (noteLow s).op = s.op := rfl
@[simp] theorem noteLow_port : (noteLow s).port = s.port := rfl
@[simp] theorem noteLow_store : (noteLow s).store = s.store := rfl
@[simp] theorem noteLow_cfg : (noteLow s).cfg = s.cfg := rfl
@[simp] theorem noteLow_todo : (noteLow s).todo = s.todo := rfl
@[simp] theorem noteLow_pending : (noteLow s).pending = s.pending := rfl

/-! ### planRound -/

@[simp] theorem planRound_now : (planRound s).now = s.now := rfl
@[simp] theorem planRound_inp : (planRound s).inp = s.inp := rfl
@[simp] theorem planRound_zcfg : (planRound s).zcfg = s.zcfg := rfl
@[simp] theorem planRound_zst : (planRound s).zst = s.zst := rfl
@[simp] theorem planRound_setp : (planRound s).setp = s.setp := rfl
@[simp] theorem planRound_sens : (planRound s).sens = s.sens := rfl
@[simp] theorem planRound_work : (planRound s).work = s.work := rfl
@[simp] theorem planRound_eval : (planRound s).eval = s.eval := rfl
@[simp] theorem planRound_arb : (planRound s).arb = s.arb := rfl
@[simp] theorem planRound_app : (planRound s).app = s.app := rfl
@[simp] theorem planRound_co : (planRound s).co = s.co := rfl
@[simp] theorem planRound_drive : (planRound s).drive = s.drive := rfl
@[simp] theorem planRound_blower : (planRound s).blower = s.blower := rfl
@[simp] theorem planRound_link : (planRound s).link =
    let request := requestOfRound s.now s.link
    let slow := decide (s.link.state = .slow) && (waitingDiag s.link).isSome
    { s.link with
      round := some ⟨s.now, request, false, slow⟩, nextRound := s.now + roundMs s.link.state, wakeRound := false
      diag := s.link.diag.map fun d =>
        { d with chosen := slow || decide (request = .diagCommand) || decide (request = .diagRead) } } := rfl
@[simp] theorem planRound_seq : (planRound s).seq = s.seq := rfl
@[simp] theorem planRound_prot : (planRound s).prot = s.prot := rfl
@[simp] theorem planRound_op : (planRound s).op = s.op := rfl
@[simp] theorem planRound_port : (planRound s).port = s.port := rfl
@[simp] theorem planRound_store : (planRound s).store = s.store := rfl
@[simp] theorem planRound_cfg : (planRound s).cfg = s.cfg := rfl
@[simp] theorem planRound_todo : (planRound s).todo = s.todo := rfl
@[simp] theorem planRound_pending : (planRound s).pending = s.pending := rfl

/-! ### putReceiver -/

@[simp] theorem putReceiver_now (r : Receiver) : (putReceiver r s).now = s.now := rfl
@[simp] theorem putReceiver_inp (r : Receiver) : (putReceiver r s).inp = s.inp := rfl
@[simp] theorem putReceiver_zcfg (r : Receiver) : (putReceiver r s).zcfg = s.zcfg := rfl
@[simp] theorem putReceiver_zst (r : Receiver) : (putReceiver r s).zst = s.zst := rfl
@[simp] theorem putReceiver_setp (r : Receiver) : (putReceiver r s).setp = s.setp := rfl
@[simp] theorem putReceiver_sens (r : Receiver) : (putReceiver r s).sens = s.sens := rfl
@[simp] theorem putReceiver_work (r : Receiver) : (putReceiver r s).work = s.work := rfl
@[simp] theorem putReceiver_eval (r : Receiver) : (putReceiver r s).eval = s.eval := rfl
@[simp] theorem putReceiver_arb (r : Receiver) : (putReceiver r s).arb = s.arb := rfl
@[simp] theorem putReceiver_app (r : Receiver) : (putReceiver r s).app = s.app := rfl
@[simp] theorem putReceiver_co (r : Receiver) : (putReceiver r s).co = s.co := rfl
@[simp] theorem putReceiver_drive (r : Receiver) : (putReceiver r s).drive = s.drive := rfl
@[simp] theorem putReceiver_blower (r : Receiver) : (putReceiver r s).blower = s.blower := rfl
@[simp] theorem putReceiver_link (r : Receiver) : (putReceiver r s).link = s.link := rfl
@[simp] theorem putReceiver_seq (r : Receiver) : (putReceiver r s).seq = s.seq := rfl
@[simp] theorem putReceiver_prot (r : Receiver) : (putReceiver r s).prot = s.prot := rfl
@[simp] theorem putReceiver_op (r : Receiver) : (putReceiver r s).op = s.op := rfl
@[simp] theorem putReceiver_port (r : Receiver) : (putReceiver r s).port = { s.port with receiver := r } := rfl
@[simp] theorem putReceiver_store (r : Receiver) : (putReceiver r s).store = s.store := rfl
@[simp] theorem putReceiver_cfg (r : Receiver) : (putReceiver r s).cfg = s.cfg := rfl
@[simp] theorem putReceiver_todo (r : Receiver) : (putReceiver r s).todo = s.todo := rfl
@[simp] theorem putReceiver_pending (r : Receiver) : (putReceiver r s).pending = s.pending := rfl

/-! ### endFrame -/

@[simp] theorem endFrame_now : (endFrame s).now = s.now := rfl
@[simp] theorem endFrame_inp : (endFrame s).inp = s.inp := rfl
@[simp] theorem endFrame_zcfg : (endFrame s).zcfg = s.zcfg := rfl
@[simp] theorem endFrame_zst : (endFrame s).zst = s.zst := rfl
@[simp] theorem endFrame_setp : (endFrame s).setp = s.setp := rfl
@[simp] theorem endFrame_sens : (endFrame s).sens = s.sens := rfl
@[simp] theorem endFrame_work : (endFrame s).work = s.work := rfl
@[simp] theorem endFrame_eval : (endFrame s).eval = s.eval := rfl
@[simp] theorem endFrame_arb : (endFrame s).arb = s.arb := rfl
@[simp] theorem endFrame_app : (endFrame s).app = s.app := rfl
@[simp] theorem endFrame_co : (endFrame s).co = s.co := rfl
@[simp] theorem endFrame_drive : (endFrame s).drive = s.drive := rfl
@[simp] theorem endFrame_blower : (endFrame s).blower = s.blower := rfl
@[simp] theorem endFrame_link : (endFrame s).link =
    { s.link with frame := none, collisions := 0, windowEnd := s.link.closing } := rfl
@[simp] theorem endFrame_seq : (endFrame s).seq = s.seq := rfl
@[simp] theorem endFrame_prot : (endFrame s).prot = s.prot := rfl
@[simp] theorem endFrame_op : (endFrame s).op = s.op := rfl
@[simp] theorem endFrame_port : (endFrame s).port = s.port := rfl
@[simp] theorem endFrame_store : (endFrame s).store = s.store := rfl
@[simp] theorem endFrame_cfg : (endFrame s).cfg = s.cfg := rfl
@[simp] theorem endFrame_todo : (endFrame s).todo = s.todo := rfl
@[simp] theorem endFrame_pending : (endFrame s).pending = s.pending := rfl

/-! ### noteFailure -/

@[simp] theorem noteFailure_now (k : FailureKind) : (noteFailure k s).now = s.now := rfl
@[simp] theorem noteFailure_inp (k : FailureKind) : (noteFailure k s).inp = s.inp := rfl
@[simp] theorem noteFailure_zcfg (k : FailureKind) : (noteFailure k s).zcfg = s.zcfg := rfl
@[simp] theorem noteFailure_zst (k : FailureKind) : (noteFailure k s).zst = s.zst := rfl
@[simp] theorem noteFailure_setp (k : FailureKind) : (noteFailure k s).setp = s.setp := rfl
@[simp] theorem noteFailure_sens (k : FailureKind) : (noteFailure k s).sens = s.sens := rfl
@[simp] theorem noteFailure_work (k : FailureKind) : (noteFailure k s).work = s.work := rfl
@[simp] theorem noteFailure_eval (k : FailureKind) : (noteFailure k s).eval = s.eval := rfl
@[simp] theorem noteFailure_arb (k : FailureKind) : (noteFailure k s).arb = s.arb := rfl
@[simp] theorem noteFailure_app (k : FailureKind) : (noteFailure k s).app = s.app := rfl
@[simp] theorem noteFailure_co (k : FailureKind) : (noteFailure k s).co = s.co := rfl
@[simp] theorem noteFailure_drive (k : FailureKind) : (noteFailure k s).drive = s.drive := rfl
@[simp] theorem noteFailure_blower (k : FailureKind) : (noteFailure k s).blower = s.blower := rfl
@[simp] theorem noteFailure_link (k : FailureKind) : (noteFailure k s).link = { s.link with lastFailure := some k } := rfl
@[simp] theorem noteFailure_seq (k : FailureKind) : (noteFailure k s).seq = s.seq := rfl
@[simp] theorem noteFailure_prot (k : FailureKind) : (noteFailure k s).prot = s.prot := rfl
@[simp] theorem noteFailure_op (k : FailureKind) : (noteFailure k s).op = s.op := rfl
@[simp] theorem noteFailure_port (k : FailureKind) : (noteFailure k s).port = s.port := rfl
@[simp] theorem noteFailure_store (k : FailureKind) : (noteFailure k s).store = s.store := rfl
@[simp] theorem noteFailure_cfg (k : FailureKind) : (noteFailure k s).cfg = s.cfg := rfl
@[simp] theorem noteFailure_todo (k : FailureKind) : (noteFailure k s).todo = s.todo := rfl
@[simp] theorem noteFailure_pending (k : FailureKind) : (noteFailure k s).pending = s.pending := rfl

/-! ### endPreparation -/

@[simp] theorem endPreparation_now : (endPreparation s).now = s.now := rfl
@[simp] theorem endPreparation_inp : (endPreparation s).inp = s.inp := rfl
@[simp] theorem endPreparation_zcfg : (endPreparation s).zcfg = s.zcfg := rfl
@[simp] theorem endPreparation_zst : (endPreparation s).zst = s.zst := rfl
@[simp] theorem endPreparation_setp : (endPreparation s).setp = s.setp := rfl
@[simp] theorem endPreparation_sens : (endPreparation s).sens = s.sens := rfl
@[simp] theorem endPreparation_work : (endPreparation s).work = s.work := rfl
@[simp] theorem endPreparation_eval : (endPreparation s).eval = s.eval := rfl
@[simp] theorem endPreparation_arb : (endPreparation s).arb = s.arb := rfl
@[simp] theorem endPreparation_app : (endPreparation s).app = s.app := rfl
@[simp] theorem endPreparation_co : (endPreparation s).co = s.co := rfl
@[simp] theorem endPreparation_drive : (endPreparation s).drive = s.drive := rfl
@[simp] theorem endPreparation_blower : (endPreparation s).blower = s.blower := rfl
@[simp] theorem endPreparation_link : (endPreparation s).link = s.link := rfl
@[simp] theorem endPreparation_seq : (endPreparation s).seq = s.seq := rfl
@[simp] theorem endPreparation_prot : (endPreparation s).prot = s.prot := rfl
@[simp] theorem endPreparation_op :
    (endPreparation s).op = { s.op with testPhase := .idle, opened := [], testDampers := [] } := rfl
@[simp] theorem endPreparation_port : (endPreparation s).port = s.port := rfl
@[simp] theorem endPreparation_store : (endPreparation s).store = s.store := rfl
@[simp] theorem endPreparation_cfg : (endPreparation s).cfg = s.cfg := rfl
@[simp] theorem endPreparation_todo : (endPreparation s).todo = s.todo := rfl
@[simp] theorem endPreparation_pending : (endPreparation s).pending = s.pending := rfl

/-! ### beginPass -/

@[simp] theorem beginPass_now : (beginPass s).now = s.now := rfl
@[simp] theorem beginPass_inp : (beginPass s).inp = s.inp := rfl
@[simp] theorem beginPass_zcfg : (beginPass s).zcfg = s.zcfg := rfl
@[simp] theorem beginPass_zst : (beginPass s).zst = s.zst := rfl
@[simp] theorem beginPass_setp : (beginPass s).setp = s.setp := rfl
@[simp] theorem beginPass_sens : (beginPass s).sens = s.sens := rfl
@[simp] theorem beginPass_work : (beginPass s).work = s.work := rfl
@[simp] theorem beginPass_eval :
    (beginPass s).eval = { s.eval with timerFrom := some s.now, early := false, lastPass := some s.now } := rfl
@[simp] theorem beginPass_arb : (beginPass s).arb = s.arb := rfl
@[simp] theorem beginPass_app : (beginPass s).app = s.app := rfl
@[simp] theorem beginPass_co : (beginPass s).co = s.co := rfl
@[simp] theorem beginPass_drive : (beginPass s).drive = s.drive := rfl
@[simp] theorem beginPass_blower : (beginPass s).blower = s.blower := rfl
@[simp] theorem beginPass_link : (beginPass s).link = s.link := rfl
@[simp] theorem beginPass_seq : (beginPass s).seq = s.seq := rfl
@[simp] theorem beginPass_prot : (beginPass s).prot = s.prot := rfl
@[simp] theorem beginPass_op : (beginPass s).op = s.op := rfl
@[simp] theorem beginPass_port : (beginPass s).port = s.port := rfl
@[simp] theorem beginPass_store : (beginPass s).store = s.store := rfl
@[simp] theorem beginPass_cfg : (beginPass s).cfg = s.cfg := rfl
@[simp] theorem beginPass_todo : (beginPass s).todo = s.todo := rfl
@[simp] theorem beginPass_pending : (beginPass s).pending = s.pending := rfl

/-! ### mainsConverted -/

@[simp] theorem mainsConverted_now (v : Int) : (mainsConverted v s).now = s.now := rfl
@[simp] theorem mainsConverted_inp (v : Int) : (mainsConverted v s).inp = s.inp := rfl
@[simp] theorem mainsConverted_zcfg (v : Int) : (mainsConverted v s).zcfg = s.zcfg := rfl
@[simp] theorem mainsConverted_zst (v : Int) : (mainsConverted v s).zst = s.zst := rfl
@[simp] theorem mainsConverted_setp (v : Int) : (mainsConverted v s).setp = s.setp := rfl
@[simp] theorem mainsConverted_sens (v : Int) : (mainsConverted v s).sens = s.sens := rfl
@[simp] theorem mainsConverted_work (v : Int) : (mainsConverted v s).work = s.work := rfl
@[simp] theorem mainsConverted_eval (v : Int) : (mainsConverted v s).eval = s.eval := rfl
@[simp] theorem mainsConverted_arb (v : Int) : (mainsConverted v s).arb = s.arb := rfl
@[simp] theorem mainsConverted_app (v : Int) : (mainsConverted v s).app = s.app := rfl
@[simp] theorem mainsConverted_co (v : Int) : (mainsConverted v s).co = s.co := rfl
@[simp] theorem mainsConverted_drive (v : Int) : (mainsConverted v s).drive = s.drive := rfl
@[simp] theorem mainsConverted_blower (v : Int) : (mainsConverted v s).blower = s.blower := rfl
@[simp] theorem mainsConverted_link (v : Int) : (mainsConverted v s).link = s.link := rfl
@[simp] theorem mainsConverted_seq (v : Int) : (mainsConverted v s).seq = s.seq := rfl
@[simp] theorem mainsConverted_prot (v : Int) : (mainsConverted v s).prot =
      { s.prot with
        lowFrom := runWhile (decide (v < s.cfg.supplyLow)) s.now s.prot.lowFrom
        highFrom := runWhile (decide ((s.cfg.supplyLow : Int) + 8 ≤ v)) s.now s.prot.highFrom } := rfl
@[simp] theorem mainsConverted_op (v : Int) : (mainsConverted v s).op = s.op := rfl
@[simp] theorem mainsConverted_port (v : Int) : (mainsConverted v s).port = s.port := rfl
@[simp] theorem mainsConverted_store (v : Int) : (mainsConverted v s).store = s.store := rfl
@[simp] theorem mainsConverted_cfg (v : Int) : (mainsConverted v s).cfg = s.cfg := rfl
@[simp] theorem mainsConverted_todo (v : Int) : (mainsConverted v s).todo = s.todo := rfl
@[simp] theorem mainsConverted_pending (v : Int) : (mainsConverted v s).pending = s.pending := rfl

end Sys2Proof.Machine
end

