-- ==== Sys2Proof/Tests/Slice0.lean ====
section
/-! SUPPORT. Tests: the well-formedness checks, worked cases of the spec, and for every statement with hypotheses states that meet
them. -/

namespace Sys2Proof.Tests

open Sys2Proof Sys2Proof.Machine

/-! ### Well-formedness, each check with a term it refuses -/

theorem test_reply_of_49_bits_refused : wellFormed (.sensorReply [] (List.replicate 49 [⟨true, true⟩])) = false := by decide
theorem test_acknowledge_of_9_bits_refused : wellFormed (.sensorReply (List.replicate 9 [⟨true, true⟩]) []) = false := by decide
theorem test_bit_without_samples_refused : wellFormed (.sensorReply [[⟨true, true⟩, ⟨true, true⟩], []] []) = false := by decide
theorem test_whole_reply_accepted :
    wellFormed (.sensorReply (List.replicate 8 [⟨false, true⟩]) (List.replicate 48 [⟨false, true⟩])) = true := by decide
theorem test_known_kind_refused : wellFormed (.unknownKind 0x0F) = false := by decide
theorem test_table_of_five_refused :
    wellFormed (.configSystem ⟨0, 0, 0, 0, 0, 0, 0, 0, 0, 0, 0, 0, 0⟩ (some (List.replicate 5 ⟨0, 0, 0⟩))) = false := by decide
theorem test_data_of_61_bytes_refused : wellFormed (.outdoorDiag 0 0xE0 8 (List.replicate 61 0)) = false := by decide
theorem test_no_word_spells_a_command : decodeTableWord 8 0x01 = none := by decide

/-! ### States to test on -/

/-- The time of the test states. -/
def t0 : Nat := 10000000

/-- A state at rest in OFF with nothing due, every damper closed and a pass just made. -/
def rest : State :=
  { State.reset with
    now := t0
    eval := { State.reset.eval with lastPass := some t0 }
    op := { State.reset.op with state := .off }
    drive := { State.reset.drive with
      dampers := Eight.all ⟨some 0, .idle, .nothing, 0⟩, slot1 := none, resetHomes := [] }
    sens := { State.reset.sens with nextSlotAt := t0 + 1 }
    link := { State.reset.link with nextRound := t0 + 1 }
    seq := { State.reset.seq with minOffFrom := t0 - 179999, minOffDone := false }
    prot := { State.reset.prot with recoverFrom := none } }

/-- A good STAT record of a running compressor. -/
def statRunning : StatRecord := ⟨.running, 50, some 150, none, none, false, false, false, false, none⟩

/-- The same of a stopped compressor that is ready for stand-down. -/
def statReady : StatRecord := ⟨.stopped, 0, some 50, none, none, false, false, false, true, none⟩

/-- The data bytes of a response, then the check byte that makes its sum 0. -/
def responseOf (kind : Byte) (data : List Byte) : List Byte :=
  data ++ [checkByte (kind :: byte data.length :: data)]

/-- The state at rest with the compressor running in a mode, and the link ACTIVE. -/
def runs (mode : Mode) : State :=
  { rest with
    seq := { rest.seq with state := .running, release := some ⟨mode, 50, none⟩, runStart := some (t0 - 300000) }
    link := { rest.link with state := .active, lastStatus := some statRunning, lastGood := some t0 } }

/-- The state at rest with the sequencer in a state. -/
def seqIn (q : SeqState) (s : State) : State := { s with seq := { s.seq with state := q } }

/-- A state with a frame in progress whose last byte ends now. -/
def sends (kind : FrameKind) (s : State) : State :=
  { s with link := { s.link with frame := some ⟨kind, [], t0 - 20, t0, []⟩ } }

/-- Bytes on the host line without gaps, each with its stop bit high. -/
def onLine (l : List Byte) : List HostByte := l.map fun b => ⟨b, 0, true⟩

/-- Bytes on the sensor bus, the most significant bit first, with two samples in each bit; the other line is low. -/
def onSensorLine (l : List Byte) : List (List BusSample) :=
  l.flatMap fun b => (List.range 8).map fun k => [⟨b.getMsbD k, false⟩, ⟨b.getMsbD k, false⟩]

/-- What a command leaves, looked at. -/
def sees (c : Instr) (s : State) (look : State → Bool) : Bool :=
  match exec c s with
  | .next t => look t
  | _ => false


/-! ### Worked cases of the spec -/

/-- A zone of worked cases A to C (03 Table 3.4) that calls nothing. -/
def caseZone (da ra rank : Nat) : ZoneView := ⟨true, false, da, ra, rank, .satisfied, false, 0, false, 0, 0⟩

/-- A zone of the worked cases with a call and its D. -/
def caseCall (da : Nat) (call : Call) (d : Nat) : ZoneView :=
  { caseZone da 0 1 with call := call, d := d, temp := 230, rh := 680 }

/-- A zone that is PARKED or UNUSED. -/
def caseOut : ZoneView := { caseZone 80 0 1 with active := false }

/-- The airflows and openings of a plan, with Q and C. -/
def planNumbers (p : Plan) : List (Nat × Nat) × Nat × Nat := (p.zones.toList.map fun z => (z.air, z.opening), p.q, p.c)

/-- The view of worked case A. -/
def caseA : PlanView :=
  { mode := .cool, qrated := 900, qsysMin := 500, qhi := 1100, capped := false
    zones := ⟨caseCall 300 .cool 80, caseZone 200 0 1, caseCall 150 .cool 40, caseZone 120 90 1, caseZone 100 80 2,
      caseOut, caseOut, caseOut⟩ }

/-- The view of worked case B. -/
def caseB : PlanView :=
  { mode := .dry, qrated := 900, qsysMin := 500, qhi := 1100, capped := false
    zones := ⟨caseZone 300 0 1, caseZone 200 0 1, caseCall 150 .dry 100, caseZone 120 90 1, caseZone 100 80 2,
      caseOut, caseOut, caseOut⟩ }

/-- The view of worked case C. -/
def caseC : PlanView :=
  { mode := .heat, qrated := 900, qsysMin := 500, qhi := 770, capped := true
    zones := ⟨caseCall 300 .heat 100, caseCall 200 .heat 100, caseCall 150 .heat 100, caseCall 120 .heat 70,
      caseCall 100 .heat 60, caseOut, caseOut, caseOut⟩ }

/-- 03 Table 3.5. -/
theorem test_worked_case_A : planNumbers (buildPlan caseA) =
    ([(300, 200), (0, 0), (150, 200), (50, 84), (0, 0), (0, 0), (0, 0), (0, 0)], 500, 34) := by decide

/-- 03 Table 3.6 and the coil target of section 5. -/
theorem test_worked_case_B :
    let p := buildPlan caseB
    planNumbers p = ([(0, 0), (0, 0), (150, 200), (90, 150), (80, 160), (0, 0), (0, 0), (0, 0)], 320, 20) ∧
      p.factor = 70 ∧ p.coilTarget = some 106 ∧ p.starved = true := by decide

/-- 03 worked case C: heating under a pressure cap. -/
theorem test_worked_case_C : planNumbers (buildPlan caseC) =
    ([(290, 194), (193, 193), (145, 194), (81, 135), (58, 116), (0, 0), (0, 0), (0, 0)], 767, 86) := by decide

/-- The call setting of the worked cases. -/
def autoOn : CallSetting := ⟨.on, .auto, false, true⟩

/-- A FRESH sensor. -/
def freshAt (t : Int) (rh : Option Nat) : SensorRec := ⟨.fresh, some t, rh, some t, 0, some 0⟩

/-- 02 Table 2.3: D over the seven passes of a cooling call. -/
theorem test_cooling_call_over_seven_passes :
    (([242, 256, 256, 252, 245, 239, 238] : List Int).foldl
      (fun (x : ZoneWork × List Nat) t =>
        let w := activeWork autoOn Setpoints.factory (freshAt t none) x.1
        (w, x.2 ++ [w.d])) (ZoneWork.zero, [])).2 = [0, 43, 46, 38, 21, 10, 0] := by decide

/-- 05 section 5.6: L and the suspension of zone 1 over five passes of a DRY call. -/
theorem test_dry_call_over_five_passes :
    (([(226, 470), (210, 450), (215, 440), (220, 440), (221, 400)] : List (Int × Nat)).foldl
      (fun (x : ZoneWork × List (Nat × Bool)) r =>
        let w := activeWork autoOn ⟨240, 200, some 400, false⟩ (freshAt r.1 (some r.2)) x.1
        (w, x.2 ++ [(w.l, w.suspended)])) (ZoneWork.zero, [])).2 =
      [(70, false), (0, true), (0, true), (40, false), (0, false)] := by decide

/-- 07 R109 and section 7.7: speed goals and expected speeds of the default table. -/
theorem test_blower_table :
    tableOfGoal Settings.factory.table 500 = (39, 650) ∧ tableOfGoal Settings.factory.table 794 = (59, 914) ∧
      tableOfGoal Settings.factory.table 767 = (57, 890) ∧ tableOfGoal Settings.factory.table 1300 = (90, 1280) := by decide

/-- 06 Table 6.4: the queue and the follow-on of damper 5 after five requests while both slots are held. -/
theorem test_requests_while_slots_are_held :
    let at_ := fun p m => (⟨some p, m, .nothing, 0⟩ : Damper)
    let v : Drive :=
      { dampers := ⟨at_ 0 .idle, at_ 0 .idle, at_ 200 .idle, at_ 84 .idle, at_ 0 .idle, at_ 10 .moving, at_ 140 .moving, at_ 0 .idle⟩
        queue := [], slot1 := some ⟨5, .move 150, 10, 0, true⟩, slot2 := some ⟨6, .move 0, 10, 0, false⟩, resetHomes := [], passedOver := [] }
    let v1 := ((v.requestMove 3 150).requestMove 2 0).requestMove 3 0
    let v2 := v1.requestMove 5 60
    v1.queue = [⟨3, .move 0⟩, ⟨2, .move 0⟩] ∧ (v2.dampers.get 5).followOn = .target 60 ∧
      ((v2.requestMove 5 150).dampers.get 5).followOn = .nothing := by decide

/-! ### Commands, each on a small state -/

/-- GET_INFO as a frame: LENGTH 1, KIND 1, CHECK H'FE; the reply has LENGTH 12 and KIND H'81 (12 R170, 13 R183). -/
theorem test_get_info_frame : sees (.hostFrameReceived (onLine [0xA5, 0x01, 0x01, 0xFE])) rest (fun t =>
    t.port.tx.map (fun f => (f.bytes.take 5, byteSum (f.bytes.drop 1))) == some ([0xA5, 0x0C, 0x81, 0x00, 0x00], 0)) = true := by
  decide

/-- A frame whose sum is 1 is not taken. -/
theorem test_bad_sum_not_taken : sees (.hostFrameReceived (onLine [0xA5, 0x01, 0x01, 0xFF])) rest (fun t => t.port.tx.isNone) = true := by
  decide

/-- A sensor at address 5 answers 24.6 °C and 55.0 % (13 R185): H'00F6, H'0226, status 0; the seven bytes sum to 0. -/
theorem test_sensor_reading : sensorReading 5 [0x00, 0xF6, 0x02, 0x26, 0x00, 0xDD] = some (246, some 550) := by decide

/-- The same with SENSOR_ERROR fails. -/
theorem test_sensor_error : sensorReading 5 [0x00, 0xF6, 0x02, 0x26, 0x01, 0xDC] = none := by decide

/-- A level that a single sample does not change is not accepted; two agreeing samples change it, on each line (01 R12). -/
theorem test_line_filters :
    BusFilter.high.bits
        [[⟨false, true⟩, ⟨true, false⟩], [⟨true, true⟩, ⟨false, true⟩], [⟨false, false⟩], [⟨true, false⟩, ⟨false, true⟩]] =
      (⟨⟨false, false⟩, ⟨false, true⟩⟩, [true, true, false, false]) := by decide

/-- The bytes of a reply read from the line, most significant bit first. -/
theorem test_reply_bytes : bytesOfBits (BusFilter.high.bits (onSensorLine [0x85, 0x00, 0xF6])).2 = [0x85, 0x00, 0xF6] := by
  decide

/-- H'31 is sent as start 0, bits 1 0 0 0 1 1 0 0, parity 1, stop 1 (08 R122). -/
theorem test_bits_of_a_sent_byte :
    sentBits 0x31 = [false, true, false, false, false, true, true, false, false, true, true] := by decide

/-- A heat setpoint of 26.0 °C lifts a cool setpoint of 24.0 °C to 27.0 °C (01 R8). -/
theorem test_set_zone_keeps_the_gap : sees (.setZone 0 0x7FFE 260 0x7FFE 0xFE) rest (fun t =>
    decide ((t.setp.get 0).heat = 260 ∧ (t.setp.get 0).cool = 270)) = true := by decide

/-- A run-on after a stop in COOL: floor(500 / 2) = 250 L/s, 23 % and 425 rpm, for 60 s (07 section 7.9.1). -/
theorem test_run_on :
    let b : Blower :=
      { rest.blower with state := .run, carried := some 500, goal := 500, speedGoal := 39, demand := 39, expected := 650 }
    let u := b.stopReported t0 Settings.factory.table (some .cool)
    (u.state, u.goal, u.speedGoal, u.expected, u.runOnUntil) = (.runOn, 250, 23, 425, some (t0 + 60000)) := by decide

/-- A third stall faults the damper and its zone (06 R103). -/
theorem test_third_stall : sees (.damperStall 0)
    { rest with drive := { rest.drive with
        dampers := rest.drive.dampers.set 0 ⟨some 20, .moving, .nothing, 2⟩, slot1 := some ⟨0, .move 200, 20, t0, true⟩ } }
    (fun t => decide (stateOf t 0 = .fault ∧ (damperOf t 0).motion = .fault ∧ t.drive.slot1 = none)) = true := by decide

/-- A third trip within the hour locks the sequencer out (10 R158). -/
theorem test_third_trip_locks_out :
    sees .floatHeld
      { runs .cool with
        inp := { rest.inp with floatClosed := true, floatSince := t0 - 2000 }
        prot := { rest.prot with hist := rest.prot.hist.set .float [6400, 8000] } }
      (fun t => decide (t.prot.lockout = true ∧ t.prot.hist.get .float = [6400, 8000, 10000] ∧ t.seq.state = .lockout)) =
    true := by decide

/-- An entry older than 60 min does not count. -/
theorem test_old_trip_does_not_count :
    sees .floatHeld
      { runs .cool with
        inp := { rest.inp with floatClosed := true, floatSince := t0 - 2000 }
        prot := { rest.prot with hist := rest.prot.hist.set .float [6399, 8000] } }
      (fun t => decide (t.prot.lockout = false ∧ t.prot.hist.get .float = [8000, 10000] ∧ t.seq.state = .tripped)) =
    true := by decide

/-- A STAT with DEFROST_REQ in HEAT enters DEFROST_PREP and holds the blower (09 section 9.7). -/
theorem test_defrost_begins :
    sees (.statResponse (responseOf 0x52 (statBytes { statRunning with defrostReq := true }))) (sends .stat (runs .heat))
      (fun t => decide (t.seq.state = .defrostPrep ∧ t.arb.deferral = true ∧ t.blower.state = .hold)) = true := by decide

/-- Three failed STATs take ACTIVE to DEGRADED (08 Table 8.6). -/
theorem test_third_failure_degrades :
    sees (.responseWindowClose 0)
      (let s := sends .stat (runs .cool)
       { s with link := { s.link with frame := some ⟨.stat, [], t0 - 60, t0 - 40, []⟩, statFailures := 2 } })
      (fun t => decide (t.link.state = .degraded ∧ t.link.statFailures = 3 ∧ t.link.lastFailure = some .noResponse)) =
    true := by decide

/-! ### States that meet the hypotheses of the statements -/

/-- A check that a state is calm. -/
def calmly (s : State) : Bool :=
  decide (s.todo = Todo.clear ∧ s.co.phase = .applied ∧ s.co.incoming = none ∧ s.co.held = none ∧ s.op.state ≠ .startup ∧
    s.op.testPhase = .idle ∧ wakeRoundDue s = false ∧ s.drive.queue = [] ∧ s.seq.state ≠ .waitStart) &&
    (match s.eval.lastPass with | some p => decide (s.now < p + 5000) | none => false)

theorem calm_of {s : State} (h : calmly s = true) : Calm s := by
  unfold calmly at h
  simp only [Bool.and_eq_true, decide_eq_true_eq] at h
  obtain ⟨⟨h1, h2, h3, h4, h5, h6, h0, h7, h8⟩, h9⟩ := h
  refine ⟨⟨h1, h2, h3, h4, h5, h6, h0, ?_⟩, h7, h8⟩
  split at h9
  · exact ⟨_, ‹_›, of_decide_eq_true h9⟩
  · cases h9

/-- A check that nothing but the sequencer's state keeps the compressor from a start. -/
def freely (s : State) : Bool :=
  decide (s.seq.minOffFrom + 180000 ≤ s.now ∧ s.prot.supplyLow = false ∧ s.prot.coilFault = false ∧
    (s.link.state = .active ∨ s.link.state = .degraded) ∧ s.link.lastStatus.map StatRecord.holdoff = some false)

theorem startFree_of {s : State} (h : freely s = true) : StartFree s := by
  obtain ⟨h1, h2, h3, h4, h5⟩ := of_decide_eq_true h
  obtain ⟨r, hr, hh⟩ := Option.map_eq_some_iff.1 h5
  exact ⟨h1, h2, h3, h4, r, hr, hh⟩

/-- A state whose minimum-off time is over. -/
def offLong (s : State) : State := { s with seq := { s.seq with minOffFrom := t0 - 180000 } }

/-- A check that a state's air path is safe. -/
def airily (s : State) : Bool :=
  (decide (s.blower.goal = 0) || s.drive.airPath) &&
    (decide (s.blower.state ≠ .ramp ∧ s.blower.state ≠ .run) || decide (s.blower.carried.getD 0 = 0) ||
      decide (s.blower.goal ≠ 0)) &&
    ((s.drive.slot1.toList ++ s.drive.slot2.toList).all fun x =>
      decide (x.what ≠ .home) || (s.drive.dampers.get x.damper).position.isNone)

theorem airSafe_of {s : State} (h : airily s = true) : AirSafe s := by
  unfold airily at h
  simp only [Bool.and_eq_true, Bool.or_eq_true, decide_eq_true_eq, List.all_eq_true, List.mem_append,
    Option.mem_toList] at h
  obtain ⟨⟨h1, h2⟩, h3⟩ := h
  refine ⟨fun hg => h1.resolve_left hg, fun hb q hq hz => ?_, fun x hx hw => ?_⟩
  · rcases h2 with (h2 | h2) | h2
    · rcases hb with hb | hb
      · exact absurd hb h2.1
      · exact absurd hb h2.2
    · rw [hq] at h2; exact absurd h2 hz
    · exact h2
  · rcases h3 x (by tauto) with h | h
    · exact absurd hw h
    · exact Option.isNone_iff_eq_none.mp h

theorem setpointsGood_factory : SetpointsGood Setpoints.factory := by
  refine ⟨by decide, by decide, by decide, by decide, by decide, fun t ht => by cases ht⟩

theorem zoneConfigGood_factory : ZoneConfigGood ZoneConfig.factory := by
  refine ⟨by decide, by decide, by decide, by decide, by decide, fun t ht => by cases ht⟩

theorem limitGood_of {s : State} (h : (decide (s.prot.limit ≤ 100) && decide (s.prot.limit % 10 = 0)) = true) :
    LimitGood s := by simpa [LimitGood] using h

theorem configurationGood_of {s : State} (h1 : s.cfg = Settings.factory) (h2 : s.zcfg = Eight.all ZoneConfig.factory)
    (h3 : s.setp = Eight.all Setpoints.factory) (h4 : s.store = ⟨none, .idle, false, true⟩) : ConfigurationGood s := by
  refine ⟨by rw [h1]; decide, fun z => ?_, fun i hi => ?_, fun i hi => ?_⟩
  · rw [h2, h3]; simp only [Eight.get_all]; exact ⟨zoneConfigGood_factory, setpointsGood_factory⟩
  · rw [h4] at hi; cases hi
  · rw [h4] at hi; cases hi

/-- A check that the bytes of a frame that end now have been read back as sent. -/
def backs (s : State) (f : LinkFrame) : Bool :=
  f.bytes.zipIdx.all fun x => !decide (ByteEnds s f x.2) || decide (readBits s.link.readBack = sentBits x.1)

theorem readsBack_of {s : State} {f : LinkFrame} (h : backs s f = true) : ReadsBack s f := by
  intro n b hb he
  unfold backs at h
  have hx := List.all_eq_true.mp h (b, n) (List.mem_zipIdx_iff_getElem?.mpr hb)
  simpa [he] using hx

/-- A check that the response window of a frame is open. -/
def opened (s : State) (f : LinkFrame) : Bool := decide (f.sentBy ≤ s.now ∧ s.now ≤ f.sentBy + 40) && backs s f

theorem windowOpen_of {s : State} {f : LinkFrame} (h : opened s f = true) : WindowOpen s f := by
  simp only [opened, Bool.and_eq_true, decide_eq_true_eq] at h
  exact ⟨h.1.1, readsBack_of h.2, h.1.2⟩

/-! #### The step, the resets and the invariants -/

theorem witness_StepRunsFrontCommand :
    ({ rest with pending := [.getInfo, .getQueue] } : State).pending = .getInfo :: [.getQueue] := rfl

theorem witness_EmptyQueueLetsTimePass :
    (State.reset.pending = [] ∧ dueEvents State.reset ≠ []) ∧ rest.pending = [] ∧ dueEvents rest = [] := by decide

theorem witness_EveryCommandAnswers : Instr.hostRestart ≠ .powerOnReset := by decide

theorem witness_ResetsReload :
    ({ rest with port := { rest.port with restartDue := true } } : State).port.restartDue = true ∧
      rest.port.restartDue = false := by decide

/-- The state at rest with one command in the queue. -/
def queued (c : Instr) : State := { rest with pending := [c] }

theorem witness_ConfigurationStaysGood : ConfigurationGood (queued .getInfo) ∧ ∃ t, step (queued .getInfo) = .next t :=
  ⟨configurationGood_of rfl rfl rfl rfl, _, rfl⟩

/-- A state under LOCKOUT, with three entries in one history. -/
def lockedOut : State :=
  { queued .getInfo with
    prot := { rest.prot with lockout := true, limit := 0, hist := rest.prot.hist.set .float [6400, 8000, 10000] } }

theorem witness_TripRecordStaysGood :
    HistoriesGood lockedOut ∧ LimitGood lockedOut ∧ ∃ t, step lockedOut = .next t := by
  refine ⟨fun k => ?_, limitGood_of (by decide), _, rfl⟩
  cases k <;> decide

/-- A state whose blower runs over one damper at 20 steps, and another damper homes. -/
def blows : State :=
  { queued .getInfo with
    drive := { rest.drive with
      dampers := { Eight.all ⟨none, .idle, .nothing, 0⟩ with z0 := ⟨some 20, .idle, .nothing, 0⟩, z1 := ⟨none, .homing, .nothing, 0⟩ }
      slot1 := some ⟨1, .home, 10, t0, false⟩ }
    blower := { rest.blower with
      state := .run, given := 500, carried := some 400, goal := 400, speedGoal := 32, demand := 32, expected := 560 } }

theorem witness_AirPathStaysSafe : AirSafe blows ∧ blows.blower.goal ≠ 0 ∧ ∃ t, step blows = .next t :=
  ⟨airSafe_of (by decide), by decide, _, rfl⟩

/-- NOTICE offered in OFF while the blower runs above the cap. -/
def timed : State :=
  { queued .getInfo with
    blower := { rest.blower with state := .run, pressure := some 126, aboveFrom := some t0 }
    link := { rest.link with state := .active, lastStatus := some statReady }
    prot := { rest.prot with recoverFrom := some (t0 - 1) }
    op := { rest.op with idleFrom := some (t0 - 1800000), idleDone := true, notice := true, noticeFrom := some t0 } }

/-- A compressor that is not confirmed under the freeze watch, with the limiting mark set. -/
def watched : State :=
  { runs .cool with
    pending := [.getInfo]
    seq := { (runs .cool).seq with runStart := none, startFailFrom := some t0 }
    prot := { rest.prot with belowZeroFrom := some (t0 - 60000), freezeLim := true, stepFrom := some t0, limit := 90 }
    op := { rest.op with idleFrom := some t0 } }

theorem witness_TimesStayInStep :
    (TimesInStep timed ∧ ∃ t, step timed = .next t) ∧ TimesInStep watched ∧ ∃ t, step watched = .next t := by
  refine ⟨⟨⟨⟨fun _ => ⟨rfl, 126, rfl, by decide⟩, fun _ => by decide⟩,
      ⟨fun h => absurd rfl h, fun ⟨n, hn, hl⟩ => by cases hn; exact absurd hl (by decide)⟩,
      ⟨fun h => absurd rfl h, fun h => absurd h.1 (by decide)⟩,
      fun h => absurd h (by decide), fun h => absurd h (by decide), by decide, by decide,
      ⟨fun _ => ⟨.inl rfl, rfl⟩, fun _ => by decide⟩, fun _ => ⟨.inl rfl, rfl⟩, by decide,
      fun _ => ⟨⟨.inl rfl, rfl⟩, rfl, rfl, rfl, fun g hg => ⟨statReady, 50, rfl, rfl, by cases hg; decide⟩⟩⟩, _, rfl⟩,
    ⟨⟨fun h => absurd rfl h, fun h => absurd h.1 (by decide)⟩,
      ⟨fun h => absurd rfl h, fun ⟨n, hn, _⟩ => by cases hn⟩,
      ⟨fun _ => ⟨rfl, rfl, statRunning, rfl, rfl⟩, fun _ => by decide⟩, fun _ => ⟨rfl, _, rfl, .inl rfl⟩,
      fun h => absurd h (by decide), by decide, by decide, ⟨fun _ => ⟨.inl rfl, rfl⟩, fun _ => by decide⟩,
      fun h => absurd h (by decide), by decide, fun h => absurd h (by decide)⟩, _, rfl⟩

/-- A check that a target lies in 0..200. -/
def aims (w : Drift) : Bool := match w with | .move n => decide (n ≤ 200) | .home => true

/-- A check that a damper's entries and slots agree with its motion. -/
def moves (v : Drive) (d : ZoneId) : Bool :=
  let entries := (v.queue.filter fun e => decide (e.damper = d)).map QueueEntry.what
  let slots := ((v.slot1.toList ++ v.slot2.toList).filter fun x => decide (x.damper = d)).map Slot.what
  match (v.dampers.get d).motion with
  | .idle => decide (entries = [] ∧ slots = [])
  | .fault => decide (entries = [] ∧ slots = [])
  | .queued => decide (entries.length = 1 ∧ slots = [])
  | .moving => decide (entries = []) && (match slots with | [.move _] => true | _ => false)
  | .homing => decide (entries = [] ∧ slots = [.home])

/-- Dampers in every motion: 0 queued, 1 moving, 2 homing, 3 in FAULT with its zone, the others idle. -/
def driven : State :=
  { queued .getInfo with
    zst := rest.zst.set 3 ⟨.fault, false⟩
    drive := { rest.drive with
      dampers := { Eight.all ⟨some 200, .idle, .nothing, 0⟩ with
        z0 := ⟨some 0, .queued, .nothing, 0⟩, z1 := ⟨some 5, .moving, .target 200, 0⟩, z2 := ⟨none, .homing, .target 20, 1⟩
        z3 := ⟨none, .fault, .nothing, 3⟩ }
      queue := [⟨0, .move 200⟩], slot1 := some ⟨1, .move 0, 5, t0, false⟩, slot2 := some ⟨2, .home, 5, t0, false⟩ } }

theorem witness_DriveStaysInAgreement : DriveAgrees driven ∧ ∃ t, step driven = .next t := by
  have aimed : ∀ (w : Drift) (n : Nat), aims w = true → w = .move n → n ≤ 200 := by
    rintro _ n h rfl; exact of_decide_eq_true h
  refine ⟨⟨fun d n h => ?_, fun d n h => ?_, fun e n he h => ?_, fun x n hx h => ?_, fun d => ?_, by decide,
    fun p z h => ?_⟩, _, rfl⟩
  · have := (by decide : ∀ d : ZoneId, ((damperOf driven d).position.getD 0) ≤ 200) d
    rw [h] at this; exact this
  · have := (by decide : ∀ d : ZoneId,
      (match (damperOf driven d).followOn with | .target n => decide (n ≤ 200) | _ => true) = true) d
    rw [h] at this; exact of_decide_eq_true this
  · exact aimed _ n ((by decide : ∀ e ∈ driven.drive.queue, aims e.what = true) e he) h
  · refine aimed _ n ((by decide : ∀ x ∈ driven.drive.slot1.toList ++ driven.drive.slot2.toList, aims x.what = true) x ?_) h
    simpa [Option.mem_toList] using hx
  · have hm := (by decide : ∀ d : ZoneId, moves driven.drive d = true) d
    unfold moves at hm; unfold MotionAgrees
    revert hm
    cases (driven.drive.dampers.get d).motion <;> intro hm <;> simp only [Bool.and_eq_true, decide_eq_true_eq] at hm
    · exact hm
    · exact hm
    · refine ⟨hm.1, ?_⟩
      have h2 := hm.2
      split at h2
      · exact ⟨_, ‹_›⟩
      · cases h2
    · exact hm
    · exact hm
  · obtain rfl : p = Plan.empty := by
      rcases h with h | h | h
      · exact h
      · cases h
      · cases h
    revert z; decide

/-- A time that runs and is one tick short of an end. -/
def short (since : Option Nat) (ms : Nat) : Bool := match since with | some t => decide (t + ms = t0 + 1) | none => false

/-- A state whose timers all run and are a tick short of their time. -/
def soon : State :=
  { rest with
    inp := { rest.inp with floatClosed := true, floatSince := t0 - 1999, buttonClosed := true, buttonSince := t0 - 49 }
    eval := { rest.eval with timerFrom := some (t0 - 29999), early := true, lastPass := some (t0 - 4999) }
    sens := { rest.sens with
      poll := some ⟨2, 5, 1, t0 - 14, false⟩, zone := rest.sens.zone.set 0 ⟨.fresh, none, none, none, 0, some (t0 - 179999)⟩ }
    arb := { rest.arb with mode := .rest, restStart := some (t0 - 299999), restLength := some 5 }
    drive := { rest.drive with
      dampers := rest.drive.dampers.set 1 ⟨some 100, .moving, .nothing, 0⟩, slot1 := some ⟨1, .move 200, 5, t0 - 19, true⟩ }
    blower := { rest.blower with
      state := .ramp, speedGoal := 39, rampFrom := t0 - 249, inBand := true, goalSince := some (t0 - 2999)
      settleFrom := some (t0 - 29999), coldBlow := true, aboveFrom := some (t0 - 9999), belowFrom := some (t0 - 599999) }
    link := { rest.link with
      state := .active, statAgeFrom := some (t0 - 9999), round := some ⟨t0 - 49, .stat, false, true⟩, wakeRound := true
      windowEnd := t0 + 1, diag := some ⟨true, 0xE1, 4, [], t0 - 9999, false, true⟩ }
    seq := { rest.seq with state := .stopWait, runStart := some (t0 - 119999) }
    prot := { rest.prot with
      belowZeroFrom := some (t0 - 59999), above60From := some (t0 - 59999), supplyGoneFrom := some (t0 - 59999)
      freezeLim := true, stepFrom := some (t0 - 59999), recoverFrom := some (t0 - 119999)
      startFailHold := some (t0 - 179999), defrostLongHold := some (t0 - 179999), lowFrom := some (t0 - 1999) }
    op := { rest.op with
      idleFrom := some (t0 - 1799999), notice := true, noticeFrom := some (t0 - 59999), button := .pressed
      pressFrom := some (t0 - 4999) }
    port := { rest.port with receiver := .collecting [] (t0 - 20), tx := some ⟨[0xA5], true, t0 + 1⟩ } }

/-- The hypotheses are met by timers that run and are a tick short, and by the state at rest, whose timers do not run. -/
theorem witness_EventsNotDueDoNothing :
    (let s := soon
     ([decide (s.port.receiver = .collecting [] (t0 - 20)), short (s.port.tx.map TxFrame.endsAt) 0,
        short (s.sens.poll.map Poll.startedAt) 15, short (some s.sens.nextSlotAt) 0, short (sensorOf s 0).ageFrom 180000,
        short s.eval.timerFrom 30000, s.eval.early, short s.eval.lastPass 5000, decide (s.arb.mode = .rest),
        !s.arb.restEnded, short s.arb.restStart (s.arb.restLength.getD 0 * 60000),
        short ((s.drive.slotOf 1).map Slot.lastStep) 20, decide ((damperOf s 1).position ≠ some 200),
        decide (s.blower.demand ≠ s.blower.speedGoal), short (some s.blower.rampFrom) 250, short s.blower.goalSince 3000,
        short s.blower.settleFrom 30000, s.blower.coldBlow, short s.seq.runStart 120000, short s.blower.aboveFrom 10000,
        short s.blower.belowFrom 600000, short (some s.link.nextRound) 0, short (s.link.round.map Round.tick) 50,
        short s.link.statAgeFrom 10000, short (s.link.diag.map Diagnostic.enteredAt) 10000, s.link.wakeRound,
        short (some s.link.windowEnd) 0, short (some s.seq.minOffFrom) 180000, decide (s.seq.state = .stopWait),
        short s.prot.belowZeroFrom 60000, short s.prot.above60From 60000, short s.prot.supplyGoneFrom 60000,
        short s.prot.stepFrom 60000, short s.prot.recoverFrom 120000, short s.prot.startFailHold 180000,
        short s.prot.defrostLongHold 180000, short (some s.inp.floatSince) 2000, short s.prot.lowFrom 2000,
        short s.op.idleFrom 1800000, short s.op.noticeFrom 60000, short (some s.inp.buttonSince) 50,
        short s.op.pressFrom (s.cfg.buttonHold * 1000)] : List Bool).all id = true) ∧
    let s := rest
    s.port.tx = none ∧ s.store.writer = .idle ∧ s.sens.poll = none ∧ s.eval.timerFrom = none ∧ s.eval.early = false ∧
      s.arb.mode ≠ .rest ∧ (∀ d, s.drive.slotOf d = none) ∧ s.blower.demand = s.blower.speedGoal ∧ s.blower.state ≠ .run ∧
      s.blower.retryFrom = none ∧ s.blower.runOnUntil = none ∧ s.seq.state ≠ .defrostPrep ∧ s.link.frame = none ∧
      s.link.diag = none ∧ s.seq.state ≠ .running ∧ s.seq.state ≠ .defrostActive ∧ s.seq.state ≠ .defrostRecovery ∧
      s.prot.freezeLim = false ∧ s.prot.floatHeld = false ∧ s.prot.supplyLow = false ∧ s.op.button ≠ .pressed ∧
      s.op.state ≠ .test := by decide

/-! #### Frames and the port -/

/-- Settings that a request leaves unchanged. -/
def keepAll : SettingFields :=
  ⟨0x7FFE, 0x7FFE, 0x7FFE, 0xFE, 0xFE, 0xFE, 0xFE, 0xFE, 0xFE, 0x7FFE, 0xFE, 0xFE, 0xFE⟩

theorem witness_RequestFramesRoundTrip :
    let points := List.replicate 6 (⟨200, 20, 380⟩ : PointFields)
    let data := List.replicate 60 (7 : Byte)
    ((List.replicate 63 (0 : Byte)).length ≤ 63 ∧ receiveFrame [0x01, 0x01, 0xFE] = some (0x01, [])) ∧
      wellFormed (.configSystem keepAll (some points)) = true ∧
      requestOfCommand (.configSystem keepAll (some points)) = some (.configSystem keepAll (some points)) ∧
      wellFormed (.outdoorDiag 0 0xE0 8 data) = true ∧
      requestOfCommand (.outdoorDiag 0 0xE0 8 data) = some (.outdoorDiag 0 0xE0 8 data) ∧
      wellFormed (.unknownKind 0x10) = true ∧ requestOfCommand (.unknownKind 0x10) = some (.unknownKind 0x10) := by decide

theorem witness_LinkResponsesRoundTrip :
    (List.replicate 16 (0 : Byte)).length ≤ 16 ∧
      statOf [3, 100, 0xFF, 0x9C, 0x7F, 0xFF, 0x7F, 0xFF, 0xF8, 0] =
        some ⟨.stopping, 100, some (-100), none, none, false, false, false, true, none⟩ := by decide

/-- Bytes that a hunting receiver discards. -/
def junkBytes : List HostByte := [⟨0xA5, 0, false⟩, ⟨0x12, 30000, true⟩]

/-- The state at rest inside a frame, its last byte 20 ms ago or more. -/
def hearing (ago : Nat) : State := { rest with port := { rest.port with receiver := .collecting [] (t0 - ago) } }

theorem witness_HostFramesActAsTheirRows :
    ((List.replicate 63 (0 : Byte)).length ≤ 63 ∧
      onLine [0xA5, 0x01] ++ onLine [0x01, 0xFE] = (hostFrame 0x01 []).map fun b => (⟨b, 0, true⟩ : HostByte)) ∧
    ((∀ x ∈ junkBytes, x.value ≠ 0xA5 ∨ x.stop = false) ∧ rest.port.receiver = .hunting ∧ 64 < (0x41 : Byte).toNat ∧
      (0x40 : Byte).toNat ≤ 64 ∧ ([0x01, 0xFF] : List Byte).length = (0x01 : Byte).toNat + 1 ∧
      byteSum [0x01, 0x01, 0xFF] ≠ 0) ∧
    ((hearing 20).port.receiver = .collecting [] (t0 - 20) ∧ t0 - 21 + 20 < (hearing 21).now ∧
      (⟨0, 20000, false⟩ : HostByte).gap ≤ 20000 ∧ 20000 < (⟨0xA5, 20001, true⟩ : HostByte).gap) ∧
    Calm rest ∧ wellFormed .getInfo = true ∧ requestOfCommand .getInfo = some .getInfo ∧ PortIdle rest ∧
      1 ≤ (0x0F : Byte).toNat ∧ (0x0F : Byte).toNat ≤ 15 ∧ payloadOf 0x0F (List.replicate 63 0) = none :=
  ⟨⟨by decide, by decide⟩, by decide, by decide, calm_of (by decide), by decide, by decide, ⟨rfl, rfl, rfl, rfl⟩, by decide,
    by decide, by decide⟩

/-- The state at rest with a request in service, and one that waits or none. -/
def serving (waiting : Option Request) : State :=
  { rest with port := { rest.port with service := some ⟨.getQueue, .replying⟩, waiting := waiting } }

theorem witness_RequestsWaitOrAreDropped :
    (Calm (serving none) ∧ (serving none).port.service ≠ none ∧ (serving none).port.waiting = none) ∧
      Calm (serving (some .getInfo)) ∧ (serving (some .getInfo)).port.service ≠ none ∧
      requestOfCommand .restart = some .restart := by
  refine ⟨⟨calm_of (by decide), by decide, by decide⟩, calm_of (by decide), by decide, by decide⟩

/-- A state with an outdoor unit that is no heat pump, a zone 1 with sensor address 5 and a diagnostic in the slot. -/
def refusing : State :=
  { rest with
    eval := { rest.eval with hpCapable := false }
    zst := rest.zst.set 1 ⟨.parked, false⟩
    zcfg := rest.zcfg.set 1 ⟨600, 0, 1, some 5⟩
    link := { rest.link with diag := some ⟨true, 0xE0, 8, [], t0, false, false⟩ } }

theorem witness_RefusedRequestsAnswered :
    Calm refusing ∧ PortIdle refusing ∧
      RefusedAs refusing (.unknownKind 0) .unknownKind ∧ RefusedAs refusing (.unknownKind 0x10) .unknownKind ∧
      RefusedAs refusing (.getSystem (some 3)) .badValue ∧ RefusedAs refusing (.getPlan (some 3)) .badValue ∧
      RefusedAs refusing (.getZone 8) .badZone ∧ RefusedAs refusing (.setZone 8 0 0 0 0) .badZone ∧
      RefusedAs refusing (.configZoneConfigure 8 600 0 1 0) .badZone ∧
      RefusedAs refusing (.configZoneUnconfigure 8) .badZone ∧ RefusedAs refusing (.clearZoneFault 8) .badZone ∧
      RefusedAs refusing (.configZoneConfigure 7 601 0 1 0) .badValue ∧
      RefusedAs refusing (.configZoneConfigure 0 600 600 8 5) .addressInUse ∧
      RefusedAs refusing (.setSystem 0xFE 2 0xFE) .notSupported ∧ RefusedAs refusing (.setSystem 2 0xFE 0xFE) .badValue ∧
      RefusedAs refusing (.setReports 0x0400) .badValue ∧ RefusedAs refusing (.outdoorDiag 1 0xE0 9 []) .badValue ∧
      RefusedAs refusing (.outdoorDiag 1 0xEF 0 []) .busy ∧
      RefusedAs refusing (.outdoorDiag 0 0xEF 8 (List.replicate 8 0)) .busy ∧
      RefusedAs refusing (.outdoorDiag 1 0xEF 2 [0, 0]) .busy ∧
      RefusedAs refusing (.outdoorDiag 0 0xE0 8 (List.replicate 7 0)) .badLength ∧
      RefusedAs refusing (.outdoorDiag 1 0xE0 2 (List.replicate 5 0)) .badLength ∧
      RefusedAs refusing (.outdoorDiag 1 0xE0 4 []) .badLength ∧
      RefusedAs refusing (.configSystem { keepAll with qmax := 2501 } none) .badValue := by
  refine ⟨calm_of (by decide), ⟨rfl, rfl, rfl, rfl⟩, .kind _ (by decide), .kind _ (by decide), .page _ (by decide),
    .selector _ (by decide), .getZone _ (by decide), .setZone _ _ _ _ _ (by decide), .configureZone _ _ _ _ _ (by decide),
    .unconfigureZone _ (by decide), .clearFault _ (by decide), .configureValue _ _ _ _ _ (by decide) (by decide),
    .configureAddress _ _ _ _ _ 1 (by decide) (by decide) (by decide) (by decide) (by decide) (by decide) (by decide)
      (by decide) (by decide) (by decide) (by decide),
    .notSupported _ _ (by decide), .systemValue _ _ _ (by decide) (by decide), .mask _ (by decide),
    .diagValue _ _ _ _ (by decide),
    .diagBusy _ _ _ _ (by decide) (by decide) (by decide) (by decide) (by decide) (by decide),
    .diagBusy _ _ _ _ (by decide) (by decide) (by decide) (by decide) (by decide) (by decide),
    .diagBusy _ _ _ _ (by decide) (by decide) (by decide) (by decide) (by decide) (by decide),
    .diagLength _ _ _ _ (by decide) (by decide) (by decide) (by decide) (by decide),
    .diagLength _ _ _ _ (by decide) (by decide) (by decide) (by decide) (by decide),
    .diagLength _ _ _ _ (by decide) (by decide) (by decide) (by decide) (by decide), .configSystem _ _ (by decide)⟩

theorem witness_ReadsAnswered :
    PortIdle rest ∧ (none : Option Byte).getD 0 = 0 ∧ (some (1 : Byte)).getD 0 = 1 ∧ (some (2 : Byte)).getD 0 = 2 :=
  ⟨⟨rfl, rfl, rfl, rfl⟩, rfl, rfl, rfl⟩

theorem witness_ReadLayouts :
    let q : List QueueEntry := [⟨3, .move 200⟩, ⟨7, .home⟩]
    let s := { rest with
      drive := { rest.drive with queue := q }, link := { rest.link with lastStatus := some statRunning, info := some ⟨99, true, 15⟩ } }
    (s.link.info = some ⟨99, true, 15⟩ ∧ rest.link.info = none) ∧
      (s.drive.queue[0]? = some ⟨3, .move 200⟩ ∧ s.drive.queue[1]? = some ⟨7, .home⟩ ∧ s.drive.queue.length ≤ 2) ∧
      s.link.lastStatus = some statRunning ∧ rest.link.lastStatus = none := by decide

theorem witness_SetSystemWrites :
    (Calm rest ∧ PortIdle rest ∧ Awake rest ∧ policyOf 4 = some .fan ∧ frostOf 1 = some true ∧ policyOf 2 = some .heat ∧
      rest.eval.hpCapable = true) ∧
    (Calm (runs .heat) ∧ (runs .heat).port.service = none ∧ (runs .heat).op.state = .off ∧
      (runs .heat).seq.state.defrosting = false ∧ OpRequest.on ≠ (runs .heat).op.request ∧
      (Policy.heat = .heat → (runs .heat).eval.hpCapable = true)) ∧
    (({ rest with store := ⟨some Image.factory, .idle, false, false⟩ } : State).store.image = some Image.factory ∧
      ({ rest with store := ⟨some Image.factory, .idle, false, false⟩ } : State).store.defaulted = false ∧
      rest.store.image = none) :=
  ⟨⟨calm_of (by decide), ⟨rfl, rfl, rfl, rfl⟩, .inl (by decide), by decide, by decide, by decide, by decide⟩,
    ⟨calm_of (by decide), rfl, rfl, rfl, by decide, fun _ => rfl⟩, rfl, rfl, rfl⟩

theorem witness_SetpointsKeepTheirGap :
    SetpointsGood Setpoints.factory ∧ (0x7FFF : Word) ≠ 0x7FFE := ⟨setpointsGood_factory, by decide⟩

theorem witness_SetZoneWritesSetpoints :
    Calm rest ∧ PortIdle rest ∧ Awake rest ∧ SetpointsGood (rest.setp.get 7) :=
  ⟨calm_of (by decide), ⟨rfl, rfl, rfl, rfl⟩, .inl (by decide), setpointsGood_factory⟩

theorem witness_ConfigSystemChecksAndWrites :
    (∃ c, configSystemResult Settings.factory { keepAll with qsysMin := 1100, buttonHold := 10 } none = some c) ∧
      (Calm rest ∧ PortIdle rest ∧ Awake rest ∧
        ∃ c, configSystemResult rest.cfg { keepAll with qmax := 2500 } none = some c ∧
          tableOfGoal c.table rest.blower.goal = (rest.blower.speedGoal, rest.blower.expected)) ∧
      let s := { rest with blower := { rest.blower with state := .run, goal := 500, speedGoal := 39, expected := 650 } }
      let table : List PointFields :=
        [⟨200, 20, 380⟩, ⟨400, 20, 380⟩, ⟨600, 20, 380⟩, ⟨800, 20, 380⟩, ⟨1000, 20, 380⟩, ⟨1200, 20, 380⟩]
      Calm s ∧ PortIdle s ∧ Awake s ∧ ∃ c, configSystemResult s.cfg { keepAll with supplyLow := 212 } (some table) = some c ∧
        tableOfGoal c.table s.blower.goal ≠ (s.blower.speedGoal, s.blower.expected) :=
  ⟨⟨_, rfl⟩, ⟨calm_of (by decide), ⟨rfl, rfl, rfl, rfl⟩, .inl (by decide), _, rfl, by decide⟩, calm_of (by decide),
    ⟨rfl, rfl, rfl, rfl⟩, .inl (by decide), _, rfl, by decide⟩

/-- A state whose windings are all found open. -/
def openWindings (s : State) : State := { s with inp := { s.inp with windingOpen := Eight.all true } }

theorem witness_ConfigureWritesZone :
    Calm rest ∧ Awake rest ∧ rest.port.service = none ∧ zoneConfigOf 20 20 8 31 = some ⟨20, 20, 8, some 31⟩ ∧
      addressTaken rest 7 (some 31) = false ∧ stateOf rest 7 = .unused ∧ (damperOf rest 7).motion = .idle ∧
      rest.drive.slotOf 7 = none ∧ rest.inp.windingOpen.get 7 = false ∧ rest.blower.goal = 0 ∧ Calm (openWindings rest) ∧
      (openWindings rest).drive.slotFree = true ∧ (openWindings rest).inp.windingOpen.get 7 = true :=
  ⟨calm_of (by decide), .inl (by decide), rfl, by decide, by decide, rfl, rfl, by decide, rfl, rfl, calm_of (by decide),
    by decide, by decide⟩

/-- The state at rest with zone 3 in FAULT. -/
def faulted : State :=
  { rest with
    zst := rest.zst.set 3 ⟨.fault, false⟩
    drive := { rest.drive with dampers := rest.drive.dampers.set 3 ⟨none, .fault, .nothing, 3⟩ } }

/-- The state at rest with a poll of zone 2 at address 5. -/
def polls (attempt : Nat) (discarded : Bool) (startedAt : Nat) : State :=
  { rest with
    sens := { rest.sens with poll := some ⟨2, 5, attempt, startedAt, discarded⟩ }
    zcfg := rest.zcfg.set 2 ⟨600, 0, 1, some 5⟩
    zst := rest.zst.set 2 ⟨.active, false⟩ }

theorem witness_UnconfigureReleasesZone :
    (Calm rest ∧ Awake rest ∧ rest.port.service = none ∧ (rest.zst.get 7).state = .unused ∧
      (rest.zst.get 0).state = .active ∧ (rest.zst.get 0).unconf = false) ∧
    (Calm faulted ∧ Awake faulted ∧ faulted.port.service = none ∧ (faulted.zst.get 3).state = .fault ∧
      (damperOf faulted 3).motion = .fault) ∧
    let s := polls 1 false t0
    Calm s ∧ Awake s ∧ s.port.service = none ∧ (s.zst.get 2).state = .active ∧ (s.zst.get 2).unconf = false ∧
      s.sens.poll.map Poll.zone = some 2 := by
  refine ⟨⟨calm_of (by decide), .inl (by decide), rfl, rfl, rfl, rfl⟩,
    ⟨calm_of (by decide), .inl (by decide), rfl, rfl, rfl⟩, calm_of (by decide), .inl (by decide), rfl, rfl, rfl, rfl⟩

/-- The outcome of a poll in progress is discarded by an unconfigure request of its zone (01 R18). -/
theorem test_unconfigure_discards_poll :
    sees (.configZoneUnconfigure 2) (polls 1 false t0)
      (fun t => decide (t.sens.poll.map Poll.discarded = some true)) = true := by decide

/-- A state in LOCKOUT with a set of stopping trips, a wanted capacity and a start that is held. -/
def locked (stops : List TripKind) (c : Nat) : State :=
  { rest with
    prot := { rest.prot with lockout := true, stops := stops, hist := rest.prot.hist.set .float [9998, 9999, 10000] }
    seq := { rest.seq with state := .lockout, release := some ⟨.cool, c, none⟩ } }

/-- A fault cleared before any pass leaves the integral at 0 (01 R2). -/
theorem test_clear_fault_clears_integral :
    sees (.clearZoneFault 3)
      { faulted with work := faulted.work.set 3 { faulted.work.get 3 with call := .cool, d := 40, i := 30 } }
      (fun t => decide ((t.work.get 3).i = 0 ∧ (t.work.get 3).call = .cool)) = true := by decide

theorem witness_ClearsAct :
    ((Calm rest ∧ rest.port.service = none ∧ stateOf rest 0 ≠ .fault) ∧
    Calm faulted ∧ faulted.port.service = none ∧ stateOf faulted 3 = .fault ∧ (damperOf faulted 3).motion = .fault ∧
      (damperOf faulted 3).position = none ∧ faulted.drive.slotOf 3 = none ∧ (damperOf faulted 3).followOn = .nothing ∧
      (faulted.zst.get 3).unconf = false ∧ AirSafe faulted ∧ Calm (openWindings faulted) ∧ AirSafe (openWindings faulted) ∧
      (openWindings faulted).inp.windingOpen.get 3 = true) ∧
    (rest.port.service = none ∧ Calm rest ∧ rest.prot.lockout = false) ∧
    (Calm (locked [.float] 0) ∧ (locked [.float] 0).prot.lockout = true ∧ (locked [.float] 0).seq.state = .lockout ∧
      (locked [.float] 0).prot.stops ≠ []) ∧
    (Calm (locked [] 0) ∧ (locked [] 0).prot.stops = [] ∧ wanted (locked [] 0) = 0) ∧
    Calm (locked [] 20) ∧ (locked [] 20).prot.stops = [] ∧ wanted (locked [] 20) ≠ 0 ∧ startHeld (locked [] 20) = true :=
  ⟨⟨⟨calm_of (by decide), rfl, by decide⟩, calm_of (by decide), rfl, rfl, rfl, rfl, by decide, rfl, rfl, airSafe_of (by decide),
    calm_of (by decide), airSafe_of (by decide), by decide⟩,
    ⟨rfl, calm_of (by decide), rfl⟩, ⟨calm_of (by decide), rfl, rfl, by decide⟩, ⟨calm_of (by decide), rfl, by decide⟩,
    calm_of (by decide), rfl, by decide, by decide⟩

/-- The state at rest with a write under way, a request in service, and the auto-save mark. -/
def writing (w : Writer) (service : Option Service) (again : Bool) : State :=
  { rest with store := { rest.store with writer := w, autoPending := again }, port := { rest.port with service := service } }

theorem witness_SmallRequestsAndStoreWrites :
    (PortIdle rest ∧ (0x03FF : Word).toNat < 1024 ∧ 0xE0 ≤ (0xE0 : Byte).toNat ∧ (0xE0 : Byte).toNat ≤ 0xEF ∧
      (8 : Byte).toNat ≤ 8 ∧ (List.replicate 8 (0 : Byte)).length = (8 : Byte).toNat ∧ rest.link.diag = none) ∧
    let full := writing (.full Image.factory t0) (some ⟨.saveConfig, .saving⟩) false
    let auto := fun service again => writing (.auto Image.factory true t0) service again
    (full.port.tx = none ∧ full.port.reply = none ∧ full.port.reports = [] ∧ full.store.writer = .full Image.factory t0 ∧
      full.port.service = some ⟨.saveConfig, .saving⟩ ∧ full.store.autoPending = false) ∧
    ((auto none false).port.tx = none ∧ (auto none false).store.writer = .auto Image.factory true t0 ∧
      (auto none false).port.service = none ∧ (auto none false).store.autoPending = false) ∧
    (auto none true).store.autoPending = true ∧
    (auto (some ⟨.saveConfig, .saveWaiting⟩) true).port.service = some ⟨.saveConfig, .saveWaiting⟩ ∧
    (auto (some ⟨.restart, .restartWaiting⟩) false).port.service = some ⟨.restart, .restartWaiting⟩ :=
  ⟨⟨⟨rfl, rfl, rfl, rfl⟩, by decide, by decide, by decide, by decide, by decide, rfl⟩,
    ⟨rfl, rfl, rfl, rfl, rfl, rfl⟩, ⟨rfl, rfl, rfl, rfl⟩, rfl, rfl, rfl⟩

/-- The state at rest with a frame that has just been sent. -/
def sent (isReply : Bool) (service : Option Service) (waiting : Option Request) : State :=
  { rest with port :=
      { rest.port with tx := some ⟨[0xA5], isReply, t0⟩, service := service, waiting := waiting } }

theorem witness_HostFrameSentFreesTransmitter :
    let s := fun isReply stage waiting => sent isReply (some ⟨.restart, stage⟩) waiting
    (Calm (s false .replying none) ∧ (s false .replying none).port.tx = some ⟨[0xA5], false, t0⟩ ∧
      t0 ≤ (s false .replying none).now ∧ (s false .replying none).port.reports = [] ∧
      (s false .replying none).port.reply = none) ∧
    (Calm (s true .replying none) ∧ (s true .replying none).port.service = some ⟨.restart, .replying⟩ ∧
      (s true .replying none).port.waiting = none) ∧
    (Calm (s true .restarting none) ∧ (s true .restarting none).port.service = some ⟨.restart, .restarting⟩) ∧
    let next : Request := .setZone 7 260 200 0x7FFF 1
    Calm (s true .replying (some next)) ∧ (s true .replying (some next)).port.waiting = some next ∧
      requestOfCommand (.setZone 7 260 200 0x7FFF 1) = some next :=
  ⟨⟨calm_of (by decide), rfl, by decide, rfl, rfl⟩, ⟨calm_of (by decide), rfl, rfl⟩, ⟨calm_of (by decide), rfl⟩,
    calm_of (by decide), rfl, rfl⟩

/-- A report for the queue. -/
def oneReport : Report := .zoneState 0 .fault

theorem witness_TransmitterAndReportQueue :
    let p := rest.port
    let withReply := { p with reply := some [0x81, 0, 0] }
    let withReport := { p with reports := [oneReport] }
    (({ p with tx := some ⟨[0xA5], true, t0⟩ } : Port).tx = some ⟨[0xA5], true, t0⟩) ∧
      (p.tx = none ∧ p.reply = none ∧ p.reports = []) ∧
      (withReply.tx = none ∧ withReply.reply = some (0x81 :: [0, 0]) ∧ withReply.reports = []) ∧
      (withReport.tx = none ∧ withReport.reports = oneReport :: [] ∧ withReport.reply = none) ∧
      ((0x03F7 : Word).getLsbD oneReport.index || decide (oneReport.index = 8)) = false ∧
      ((0x0008 : Word).getLsbD oneReport.index || decide (oneReport.index = 8)) = true ∧
      (List.replicate 7 oneReport).length < 8 ∧ 8 ≤ (List.replicate 8 oneReport).length := by decide

/-! #### Sensing, evaluation and the mode -/

theorem witness_SweepSlotsAndReturnAir :
    let s := { rest with sens := { rest.sens with nextSlotAt := t0 } }
    s.sens.nextSlotAt ≤ s.now := by decide

theorem witness_SensorAttemptFails :
    (Calm (polls 1 false (t0 - 15)) ∧ (polls 1 false (t0 - 15)).sens.poll = some ⟨2, 5, 1, t0 - 15, false⟩ ∧
      t0 - 15 + 15 ≤ (polls 1 false (t0 - 15)).now) ∧
    (Calm (polls 2 true (t0 - 15)) ∧ (polls 2 true (t0 - 15)).sens.poll = some ⟨2, 5, 2, t0 - 15, true⟩) ∧
    Calm (polls 2 false (t0 - 15)) ∧ (polls 2 false (t0 - 15)).sens.poll = some ⟨2, 5, 2, t0 - 15, false⟩ ∧
      (polls 2 false (t0 - 15)).now ≤ t0 - 15 + 15 ∧ (0x84 : Byte) ≠ byte 5 + 0x80 ∧
      bytesOfBits ((polls 2 false (t0 - 15)).sens.lines.bits (onSensorLine [0x84])).2 = [0x84] ∧
      bytesOfBits ((polls 2 false (t0 - 15)).sens.lines.bits (onSensorLine [0x85, 0x00, 0xF6, 0x02, 0x26, 0x01, 0xDC])).2 =
        0x85 :: [0x00, 0xF6, 0x02, 0x26, 0x01, 0xDC] ∧
      6 ≤ ([0x00, 0xF6, 0x02, 0x26, 0x01, 0xDC] : List Byte).length ∧
      sensorReading 5 (([0x00, 0xF6, 0x02, 0x26, 0x01, 0xDC] : List Byte).take 6) = none :=
  ⟨⟨calm_of (by decide), rfl, by decide⟩, ⟨calm_of (by decide), rfl⟩, calm_of (by decide), rfl, by decide, by decide,
    by decide, by decide, by decide, by decide⟩

/-- The state at rest with the age of zone 2's sensor just run out. -/
def aged : State :=
  { rest with sens := { rest.sens with
      zone := rest.sens.zone.set 2 ⟨.stale, some 200, none, some 200, 3, some (t0 - 180000)⟩ } }

theorem witness_SensorRepliesAndAge :
    ((⟨true, false⟩ : LineFilter).last = false ∧ (⟨true, true⟩ : LineFilter).last ≠ false) ∧
    (Calm (polls 2 false (t0 - 15)) ∧ (polls 2 false (t0 - 15)).sens.poll = some ⟨2, 5, 2, t0 - 15, false⟩ ∧
      (polls 2 false (t0 - 15)).now ≤ t0 - 15 + 15 ∧
      bytesOfBits ((polls 2 false (t0 - 15)).sens.lines.bits (onSensorLine [0x85, 0, 0, 0, 0, 0])).2 =
        (byte 5 + 0x80) :: [0, 0, 0, 0, 0] ∧ ([0, 0, 0, 0, 0] : List Byte).length < 6 ∧
      bytesOfBits ((polls 2 false (t0 - 15)).sens.lines.bits (onSensorLine [0x85, 0x00, 0xF6, 0x02, 0x26, 0x00, 0xDD])).2 =
        (byte 5 + 0x80) :: [0x00, 0xF6, 0x02, 0x26, 0x00, 0xDD] ∧
      6 ≤ ([0x00, 0xF6, 0x02, 0x26, 0x00, 0xDD] : List Byte).length ∧
      sensorReading 5 (([0x00, 0xF6, 0x02, 0x26, 0x00, 0xDD] : List Byte).take 6) = some (246, some 550)) ∧
    Calm aged ∧ (sensorOf aged 2).ageFrom = some (t0 - 180000) ∧ t0 - 180000 + 180000 ≤ aged.now :=
  ⟨by decide, ⟨calm_of (by decide), rfl, by decide, by decide, by decide, by decide, by decide, by decide⟩,
    calm_of (by decide), rfl, by decide⟩

/-- The state at rest in REST whose time is just over. -/
def rested : State :=
  { rest with arb := { rest.arb with mode := .rest, restStart := some (t0 - 300000), restLength := some 5 } }

/-- A state in RESTING with request ON and a SLOW link, the timer due and zone 0 at a temperature. -/
def restingPass (temp : Int) : State :=
  { rest with
    op := { rest.op with state := .resting, request := .on }
    link := { rest.link with state := .slow, lowAt := some (t0 - 2) }
    eval := { rest.eval with timerFrom := some (t0 - 30000) }
    sens := { rest.sens with zone := rest.sens.zone.set 0 (freshAt temp none) } }

theorem witness_PassesFormCallsAndMode :
    ((restingPass 243).op.state = .resting ∧ (restingPass 243).op.testPhase = .idle ∧
      (restingPass 243).link.lowAt = some (t0 - 2) ∧ t0 - 2 + 2 ≤ (restingPass 243).now ∧
      (stepOne (restingPass 243) 0).call ≠ .satisfied ∧
      ∀ z : ZoneId, (stepOne (restingPass 242) z).call = .satisfied) ∧
    let timed := { rest with eval := { rest.eval with timerFrom := some (t0 - 30000) } }
    let early := { rest with eval := { rest.eval with early := true, lastPass := some (t0 - 5000) } }
    (timed.op.state ≠ .startup ∧ timed.eval.timerFrom = some (t0 - 30000) ∧ t0 - 30000 + 30000 ≤ timed.now) ∧
      (early.op.state ≠ .startup ∧ early.eval.early = true ∧ early.eval.lastPass = some (t0 - 5000) ∧
        t0 - 5000 + 5000 ≤ early.now) ∧
      Calm rested ∧ rested.arb.mode = .rest ∧ rested.arb.restEnded = false ∧
        rested.arb.restStart = some (t0 - 300000) ∧ rested.arb.restLength = some 5 ∧
        t0 - 300000 + 5 * 60000 ≤ rested.now :=
  ⟨by decide, ⟨by decide, rfl, by decide⟩, ⟨by decide, rfl, rfl, by decide⟩, calm_of (by decide), rfl, rfl, rfl, rfl, by decide⟩

/-- The state at rest with the timer due. -/
def dueTimer : State := { rest with eval := { rest.eval with timerFrom := some (t0 - 30000) } }

theorem passTaken_dueTimer : PassTaken dueTimer .evaluationTimerExpiry :=
  ⟨by decide, rfl, rfl, by decide, .inl ⟨rfl, t0 - 30000, rfl, by decide⟩⟩

theorem witness_PassRenewsRecords :
    PassTaken dueTimer .evaluationTimerExpiry ∧
      PassTaken { rest with eval := { rest.eval with lastPass := none } } .earlyPassSpacingEnd ∧
      PassTaken { rest with eval := { rest.eval with early := true, lastPass := some (t0 - 5000) } } .earlyPassSpacingEnd ∧
      dueTimer.op.state ≠ .resting ∧ dueTimer.op.notice = false ∧ (sideView rest).blocked = false :=
  ⟨passTaken_dueTimer, ⟨by decide, rfl, rfl, by decide, .inr ⟨rfl, .inl rfl⟩⟩,
    ⟨by decide, rfl, rfl, by decide, .inr ⟨rfl, .inr ⟨rfl, t0 - 5000, rfl, by decide⟩⟩⟩, by decide, by decide, by decide⟩

/-- The plan differs from the applied one, agrees with it, and differs from a held one under deferral. -/
theorem witness_PassHandsPlanOn :
    (PassTaken dueTimer .evaluationTimerExpiry ∧ dueTimer.drive.queue = [] ∧ AirSafe dueTimer ∧ dueTimer.link.lowAt = none ∧
      dueTimer.co.held = none ∧ dueTimer.arb.deferral = false ∧
      { planOfPass dueTimer with number := 0 } ≠ { dueTimer.co.applied with number := 0 }) ∧
    (let s := { dueTimer with co := { rest.co with applied := { planOfPass dueTimer with number := 65535 } } }
     PassTaken s .evaluationTimerExpiry ∧ s.drive.queue = [] ∧ AirSafe s ∧ s.link.lowAt = none ∧ s.co.held = none ∧
      { planOfPass s with number := 0 } = { s.co.applied with number := 0 }) ∧
    let s := { dueTimer with
      arb := { rest.arb with deferral := true }, co := { rest.co with held := some { Plan.empty with q := 1 } }
      app := { rest.app with number := 65535 } }
    PassTaken s .evaluationTimerExpiry ∧ s.drive.queue = [] ∧ AirSafe s ∧ s.link.lowAt = none ∧ s.arb.deferral = true ∧
      { planOfPass s with number := 0 } ≠ { ({ Plan.empty with q := 1 } : Plan) with number := 0 } := by
  refine ⟨⟨passTaken_dueTimer, rfl, airSafe_of (by decide), rfl, rfl, rfl, by decide⟩,
    ⟨⟨by decide, rfl, rfl, by decide, .inl ⟨rfl, t0 - 30000, rfl, by decide⟩⟩, rfl, airSafe_of (by decide), rfl, rfl,
      by decide⟩,
    ⟨by decide, rfl, rfl, by decide, .inl ⟨rfl, t0 - 30000, rfl, by decide⟩⟩, rfl, airSafe_of (by decide), rfl, rfl, by decide⟩

/-- Each call is formed on some readings at its bound, and a zone that is not ACTIVE forms none. -/
theorem witness_CallsAndDemand :
    ((rest.zst.get 0).state = .active ∧ (rest.zst.get 0).unconf = false ∧ (rest.zst.get 7).state ≠ .active) ∧
    (let p := Setpoints.factory
     p.heat + 10 ≤ p.cool ∧ (freshAt 243 none).eff = some 243 ∧
      (activeWork autoOn p (freshAt 243 none) ZoneWork.zero).call = .cool ∧
      (activeWork autoOn p (freshAt 197 none) ZoneWork.zero).call = .heat ∧
      (activeWork ⟨.off, .auto, true, true⟩ p (freshAt 49 none) ZoneWork.zero).call = .frost ∧
      (activeWork autoOn p (freshAt 220 none) ZoneWork.zero).call = .satisfied ∧ SensorRec.zero.eff = none) ∧
    let p : Setpoints := ⟨240, 200, some 400, false⟩
    let r := freshAt 220 (some 430)
    let held : ZoneWork := { ZoneWork.zero with call := .dry }
    let new := dryOrSatisfied autoOn p r ZoneWork.zero
    (autoOn.request = .on ∧ autoOn.policy = .auto) ∧ r.state = .fresh ∧ r.temp = some 220 ∧ r.rh = some 430 ∧
      p.dry = some 400 ∧ (new.call = .dry ∧ new.suspended = false) ∧
      (dryOrSatisfied autoOn p (freshAt 210 (some 401)) held).call = .dry ∧
      (dryOrSatisfied autoOn p (freshAt 210 (some 401)) held).suspended = true ∧
      (dryOrSatisfied autoOn p (freshAt 219 (some 401)) { held with suspended := true }).suspended = true := by decide

/-- The state at rest with a relief zone 2 that reads a temperature. -/
def relieves (side : Option Side) (t : Int) : State :=
  { polls 1 false t0 with
    zcfg := rest.zcfg.set 2 ⟨600, 90, 1, some 5⟩
    sens := { rest.sens with zone := rest.sens.zone.set 2 (freshAt t none) }
    app := { rest.app with bandSide := side } }

/-- The cooling band in force and zone 2 between the bounds, its DRY call suspended; newly relief-eligible it is not withdrawn yet. -/
def dries (withdrawn : Bool) : State :=
  let s := relieves (some .cooling) ((rest.setp.get 2).heat + 15)
  let w : ZoneWork := { s.work.get 2 with call := .dry, suspended := true, withdrawn := withdrawn }
  { s with work := s.work.set 2 w }

/-- A suspended DRY zone that becomes relief-eligible under an unchanged cooling band is given no relief air (05 R82, R89). -/
theorem test_new_relief_of_suspended_dry_withdrawn : stepTwo (dries false) (some .cooling) 2 = true := by decide

theorem witness_ReliefWithdrawn :
    (∀ side, let s := relieves side 210
      (s.zst.get 2).state = .active ∧ (s.zst.get 2).unconf = false ∧ 0 < (s.zcfg.get 2).ra ∧
        (sensorOf s 2).state = .fresh ∧ (sensorOf s 2).temp = some 210 ∧ s.app.bandSide = side) ∧
      (rest.zst.get 7).state ≠ .active ∧
      (let s := dries false
       (s.zst.get 2).state = .active ∧ (s.zst.get 2).unconf = false ∧ 0 < (s.zcfg.get 2).ra ∧
        (sensorOf s 2).temp = some ((s.setp.get 2).heat + 15) ∧ s.app.bandSide = some .cooling ∧
        (s.work.get 2).call = .dry ∧ (s.work.get 2).suspended = true ∧ (s.work.get 2).withdrawn = false) :=
  ⟨fun _ => ⟨rfl, rfl, (by decide : 0 < 90), rfl, rfl, rfl⟩, by decide, by decide⟩

/-- A view with demands on the two sides, in ordinary operation. -/
def sides (cool heat : Nat) : SideView := ⟨t0, cool, heat, false, true, false, .on, .auto, true, false, true, 20, 5, 5, 45⟩

/-- An arbiter that serves a side, or none. -/
def serves (side : Option Side) (mode : Mode) : Arbiter :=
  { rest.arb with
    mode := mode, served := side, sideStart := side.map fun _ => t0 - 1200000
    waitHeat := some (t0 - 2699999), lastServed := some .cooling }

/-- The cases before the side is judged. -/
theorem witness_ModeIsDecidedInOrder_first :
    let v := sides 100 100
    ({ rest.arb with deferral := true } : Arbiter).deferral = true ∧ ({ v with inTest := true } : SideView).inTest = true ∧
      ({ rest.arb with mode := .rest, restStart := some t0, restLength := some 5 } : Arbiter).restOver v.now = false ∧
      (({ v with policy := .fan } : SideView).request = .on ∧ rest.arb.mode ≠ .rest) := by decide

/-- A side that is left, each cause at its bound, with and without callers of the other side. -/
theorem witness_ModeIsDecidedInOrder_leave :
    let a := serves (some .cooling) .cool
    let late := { a with noCallers := some (t0 - 300000) }
    let v := sides 0 100
    (a.deferral = false ∧ v.inTest = false ∧ a.mode ≠ .rest ∧ ¬(v.request = .on ∧ v.policy = .fan) ∧
      a.served = some .cooling) ∧
      ({ v with blocked := true } : SideView).isBlocked .cooling = true ∧
      (v.w .cooling = 0 ∧ ({ v with request := .off } : SideView).request = .off) ∧
      ({ v with policy := .heat } : SideView).forms .cooling = false ∧
      (late.noCallers = some (t0 - 300000) ∧ t0 - 300000 + v.releaseTime * 60000 ≤ v.now) ∧
      (0 < v.w .heating ∧ v.isBlocked .heating = false) ∧ (sides 0 0).w .heating = 0 ∧
      (serves (some .heating) .heat).served = some .heating ∧ ({ sides 100 0 with blocked := true } : SideView).isBlocked .cooling = true ∧
      (0 < (sides 100 0).w .cooling ∧ (sides 100 0).w .heating = 0 ∧
        ({ a with waitHeat := some (t0 - 2700000) } : Arbiter).waitOf .heating = some (t0 - 2700000) ∧
        t0 - 2700000 + (sides 100 0).maxWait * 60000 ≤ (sides 100 0).now ∧ a.waitOf .heating = some (t0 - 2699999) ∧
        (sides 100 0).now < t0 - 2699999 + (sides 100 0).maxWait * 60000) := by decide

/-- A blocked side with callers goes to REST toward a side that has waited the maximum wait and lost its callers at this pass, since
both rules apply (02 R35), and to NONE a tick before (02 R34). -/
theorem test_blocked_side_and_maximum_wait :
    let v := { sides 100 0 with blocked := true }
    let at_ := fun since => ({ serves (some .cooling) .cool with waitHeat := some since } : Arbiter).decideMode v
    ((at_ (t0 - 2700000)).mode = .rest ∧ (at_ (t0 - 2700000)).restTarget = some .heating) ∧
      (at_ (t0 - 2699999)).mode = .idle := by decide

/-- A side without callers a tick before the release time, with the time running and just begun. -/
theorem witness_ModeIsDecidedInOrder_keep :
    let a := { serves (some .cooling) .cool with noCallers := some (t0 - 299999) }
    let v := sides 0 100
    a.served = some .cooling ∧ v.isBlocked .cooling = false ∧ v.w .cooling = 0 ∧ v.request = .on ∧ v.forms .cooling = true ∧
      0 < v.releaseTime ∧ (∀ t, a.noCallers = some t → v.now < t + v.releaseTime * 60000) ∧
      (∀ t, (serves (some .cooling) .cool).noCallers = some t → v.now < t + v.releaseTime * 60000) := by
  refine ⟨rfl, rfl, rfl, rfl, rfl, by decide, fun t ht => ?_, fun t ht => by cases ht⟩
  obtain rfl := Option.some.inj ht; decide

/-- A side with callers: outweighed at the minimum hold and a tick before it, at the maximum wait and a tick before it. -/
theorem witness_ModeIsDecidedInOrder_hold :
    let a := serves (some .cooling) .cool
    let young := { a with sideStart := some (t0 - 1199999) }
    let v := sides 99 100
    (v.isBlocked .cooling = false ∧ 0 < v.w .cooling ∧ v.isBlocked .heating = false ∧ v.w .cooling < v.w .heating) ∧
      (a.sideStart = some (t0 - 1200000) ∧ t0 - 1200000 + v.minHold * 60000 ≤ v.now) ∧
      (∀ t, young.sideStart = some t → v.now < t + v.minHold * 60000) ∧
      (∀ t, young.waitOf .heating = some t → v.now < t + v.maxWait * 60000) ∧
      (({ a with waitHeat := some (t0 - 2700000) } : Arbiter).waitOf .heating = some (t0 - 2700000) ∧
        t0 - 2700000 + v.maxWait * 60000 ≤ v.now) ∧ (sides 100 100).w .heating ≤ (sides 100 100).w .cooling ∧
      ({ v with blocked := true } : SideView).isBlocked .cooling = true := by
  refine ⟨by decide, by decide, fun t ht => ?_, fun t ht => ?_, by decide, by decide, by decide⟩
  · obtain rfl := Option.some.inj ht; decide
  · obtain rfl := Option.some.inj ht; decide

/-- From NONE: no candidate, the larger aggregate, a blocked rival, equality after each side and after none, and after a REST. -/
theorem witness_ModeIsDecidedInOrder_start :
    let a := serves none .idle
    let v := sides 100 100
    (a.served = none ∧ (sides 0 0).w .cooling = 0 ∧ (sides 0 0).w .heating = 0) ∧
      ({ sides 5 0 with blocked := true } : SideView).blocked = true ∧
      ((sides 0 1).w .cooling < (sides 0 1).w .heating ∧ (sides 0 1).isBlocked .heating = false) ∧
      ({ v with blocked := true } : SideView).isBlocked .cooling = true ∧
      (v.w .cooling = v.w .heating ∧ 0 < v.w .heating ∧ a.lastServed = some .cooling) ∧
      ({ a with lastServed := none } : Arbiter).lastServed = none ∧ a.mode ≠ .rest ∧
      ({ a with mode := .rest, restStart := some (t0 - 300000), restLength := some 5 } : Arbiter).restOver v.now = true := by decide

/-! #### Plans -/

theorem planViewGood_caseB : PlanViewGood caseB := by
  refine ⟨by decide, by decide, by decide, by decide⟩

/-- The least view: one zone at its smallest design airflow, and the limits at their bounds. -/
def leastView : PlanView :=
  { mode := .cool, qrated := 300, qsysMin := 100, qhi := 100, capped := true
    zones := { Eight.all { caseOut with da := 20 } with z0 := caseCall 20 .cool 10 } }

theorem witness_PlanAirflowsAddUp :
    (PlanViewGood caseB ∧ caseB.members ≠ [] ∧ caseB.a2Sum < (buildPlan caseB).q ∧ (caseB.zones.get 7).active = false ∧
      ((buildPlan caseB).zones.get 7).role = .excluded) ∧
    PlanViewGood { caseB with mode := .idle } ∧ ({ caseB with mode := .idle } : PlanView).members = [] := by
  refine ⟨⟨planViewGood_caseB, by decide, by decide, by decide, by decide⟩, planViewGood_caseB, by decide⟩

/-- Two zones at a tenth of their design airflow. -/
def tenths : PlanView :=
  { caseA with qsysMin := 100, zones := { Eight.all caseOut with z0 := caseCall 600 .cool 10, z1 := caseCall 600 .cool 10 } }

theorem witness_PlanOpeningsFollowAirflow :
    (PlanViewGood caseB ∧ ((buildPlan caseB).zones.get 0).air = 0 ∧ 0 < ((buildPlan caseB).zones.get 3).air ∧
      20 < ((buildPlan caseB).zones.get 3).opening ∧ 0 < (buildPlan caseB).q) ∧
    PlanViewGood tenths ∧ 0 < ((buildPlan tenths).zones.get 0).air ∧
      ((buildPlan tenths).zones.get 0).air * 10 ≤ (tenths.zones.get 0).da :=
  ⟨⟨planViewGood_caseB, by decide, by decide, by decide, by decide⟩, ⟨by decide, by decide, by decide, by decide⟩,
    by decide, by decide⟩

/-- The capacity by C0 and Cair (03 R57). -/
def capacities (v : PlanView) : Nat × Nat :=
  ((100 * v.a2Sum + v.qrated * v.f / 100 - 1) / (v.qrated * v.f / 100), 125 * (buildPlan v).q / (v.qrated * v.f / 100))

theorem witness_PlanCapacityIsZeroOrEnough :
    (PlanViewGood caseA ∧ caseA.mode = .cool ∧ caseA.members ≠ [] ∧ capacities caseA = (34, 69)) ∧
      (PlanViewGood caseB ∧ caseB.mode = .dry ∧ caseB.rawSum ≤ caseB.qhi ∧ capacities caseB = (17, 63)) ∧
      (PlanViewGood caseC ∧ caseC.mode = .heat ∧ caseC.qhi < caseC.rawSum) ∧
      PlanViewGood leastView ∧ leastView.members ≠ [] ∧ leastView.rawSum ≤ leastView.qhi ∧
        (capacities leastView).2 < 20 := by
  refine ⟨⟨?_, rfl, by decide, by decide⟩, ⟨planViewGood_caseB, rfl, by decide, by decide⟩, ⟨?_, rfl, by decide⟩, ?_,
    by decide, by decide, by decide⟩ <;> exact ⟨by decide, by decide, by decide, by decide⟩

theorem witness_CoilTargetFollowsDriestRoom :
    (∀ z : ZoneId, (caseB.zones.get z).rh ≤ 1000) ∧ (buildPlan caseB).coilTarget = some 106 := by decide

/-! #### Dampers and the changeover -/

/-- The state at rest with damper 1 in slot 1, the others at 20 steps. -/
def drives (slot : Slot) (x : Damper) : State :=
  { rest with drive := { rest.drive with
      dampers := (Eight.all ⟨some 20, .idle, .nothing, 0⟩ : Eight Damper).set 1 x, slot1 := some slot } }

/-- Damper 1 on its way, its zone ACTIVE. -/
def stalls (n : Nat) : State :=
  let s := drives ⟨1, .move 200, 5, t0, true⟩ ⟨some 100, .moving, .nothing, n⟩
  { s with zst := s.zst.set 1 ⟨.active, false⟩ }

theorem witness_DamperStepsAndStalls :
    (let s := drives ⟨1, .move 200, 5, t0 - 20, true⟩ ⟨some 199, .moving, .nothing, 0⟩
     s.drive.slotOf 1 = some ⟨1, .move 200, 5, t0 - 20, true⟩ ∧ t0 - 20 + 20 ≤ s.now ∧ (damperOf s 1).position ≠ none ∧
      (damperOf s 1).position ≠ some 200 ∧ passes (damperOf s 0).position = true) ∧
    (let s := drives ⟨1, .home, 219, t0 - 20, false⟩ ⟨none, .homing, .nothing, 0⟩
     s.drive.slotOf 1 = some ⟨1, .home, 219, t0 - 20, false⟩ ∧ 219 < 220 ∧ s.blower.goal = 0) ∧
    (Calm (stalls 2) ∧ (stalls 2).drive.slotOf 1 = some ⟨1, .move 200, 5, t0, true⟩ ∧
      passes (damperOf (stalls 2) 0).position = true ∧
      ((stalls 2).zst.get 1).state = .active ∧ 2 ≤ (damperOf (stalls 2) 1).stalls ∧
      ((stalls 2).zst.get 1).unconf = false) ∧
    (let s := { stalls 2 with zst := (stalls 2).zst.set 1 ⟨.active, true⟩ }
     Calm s ∧ s.drive.slotOf 1 = some ⟨1, .move 200, 5, t0, true⟩ ∧ s.blower.goal = 0 ∧ (s.zst.get 1).unconf = true) ∧
    (Calm (stalls 1) ∧ ((stalls 1).zst.get 1).state = .active ∧ ¬2 ≤ (damperOf (stalls 1) 1).stalls) ∧
    (Calm (openWindings (stalls 0)) ∧ (openWindings (stalls 0)).inp.windingOpen.get 1 = true) ∧
    Calm (drives ⟨1, .move 200, 5, t0, true⟩ ⟨some 100, .moving, .nothing, 2⟩) :=
  ⟨by decide, by decide, ⟨calm_of (by decide), by decide, by decide, by decide, by decide, by decide⟩,
    ⟨calm_of (by decide), by decide, rfl, rfl⟩, ⟨calm_of (by decide), by decide, by decide⟩,
    ⟨calm_of (by decide), by decide⟩, calm_of (by decide)⟩

theorem witness_DamperMotionsComplete :
    (let s := drives ⟨1, .move 200, 5, t0, true⟩ ⟨some 200, .moving, .target 20, 1⟩
     Calm s ∧ AirSafe s ∧ s.drive.slotOf 1 = some ⟨1, .move 200, 5, t0, true⟩ ∧
      (damperOf s 1).position = some 200 ∧ (damperOf s 1).followOn ≠ .home) ∧
    (let s := openWindings { drives ⟨1, .move 200, 5, t0, true⟩ ⟨some 200, .moving, .target 20, 1⟩ with
        zst := rest.zst.set 1 ⟨.active, false⟩ }
     Calm s ∧ AirSafe s ∧ s.drive.slotOf 1 = some ⟨1, .move 200, 5, t0, true⟩ ∧ (damperOf s 1).followOn = .target 20 ∧
      s.inp.windingOpen.get 1 = true ∧ s.zst.get 1 = ⟨.active, false⟩ ∧ s.blower.goal = 0) ∧
    let s := drives ⟨1, .home, 220, t0, false⟩ ⟨none, .homing, .target 200, 0⟩
    Calm s ∧ AirSafe s ∧ s.drive.slotOf 1 = some ⟨1, .home, 220, t0, false⟩ ∧ 220 ≤ 220 ∧ (damperOf s 1).followOn ≠ .home :=
  ⟨⟨calm_of (by decide), airSafe_of (by decide), by decide, by decide, by decide⟩,
    ⟨calm_of (by decide), airSafe_of (by decide), by decide, by decide, by decide, by decide, by decide⟩,
    calm_of (by decide), airSafe_of (by decide), by decide, by decide, by decide⟩

/-- STARTUP at the last reset HOME, with each latched action. -/
theorem witness_DamperMotionsComplete_startup : ∀ l ∈ [Latched.nothing, .toggle, .test],
    let s := { rest with
      op := { rest.op with state := .startup, latched := l }
      eval := { rest.eval with lastPass := none }
      drive := { rest.drive with
        dampers := rest.drive.dampers.set 1 ⟨none, .homing, .nothing, 0⟩, resetHomes := [1]
        slot1 := some ⟨1, .home, 220, t0, false⟩ } }
    s.op.state = .startup ∧ s.drive.slotOf 1 = some ⟨1, .home, 220, t0, false⟩ ∧ 220 ≤ 220 ∧
      (damperOf s 1).followOn = .nothing ∧ (∀ z ∈ s.drive.resetHomes, z = 1) ∧ s.drive.queue = [] ∧ s.todo = Todo.clear ∧
      s.co.phase = .applied ∧ s.co.incoming = none ∧ s.co.held = none ∧ s.op.testPhase = .idle ∧ s.eval.lastPass = none ∧
      s.seq.state = .stopped ∧ wakeRoundDue s = false ∧ s.now < s.seq.minOffFrom + 180000 := by decide

/-- The state at rest with a record and an entry for damper 0, the damper of an ACTIVE zone. -/
def queues (x : Damper) (queue : List QueueEntry) (slot : Option Slot) : State :=
  { rest with drive := { rest.drive with dampers := rest.drive.dampers.set 0 x, queue := queue, slot1 := slot } }

theorem witness_MoveRequestsAreTaken :
    stateOf rest 7 ≠ .active ∧ stateOf rest 0 = .active ∧
      ((damperOf rest 0).motion = .idle ∧ (damperOf rest 0).position = some 0) ∧ (0 ≠ 200) ∧
      (damperOf (queues ⟨none, .idle, .nothing, 0⟩ [] none) 0).position = none ∧
      (let s := queues ⟨some 0, .queued, .nothing, 0⟩ [⟨3, .home⟩, ⟨0, .move 200⟩] none
       (damperOf s 0).motion = .queued ∧ s.drive.entryOf 0 = some ⟨0, .move 200⟩ ∧ (damperOf s 0).position = some 0 ∧
        (damperOf s 0).position ≠ some 20) ∧
      (let s := queues ⟨none, .queued, .nothing, 0⟩ [⟨0, .home⟩] none
       (damperOf s 0).motion = .queued ∧ s.drive.entryOf 0 = some ⟨0, .home⟩) ∧
      (let s := queues ⟨some 5, .moving, .nothing, 0⟩ [] (some ⟨0, .move 200, 5, t0, true⟩)
       (damperOf s 0).motion = .moving ∧ s.drive.slotOf 0 = some ⟨0, .move 200, 5, t0, true⟩) ∧
      (damperOf (queues ⟨none, .homing, .nothing, 0⟩ [] (some ⟨0, .home, 5, t0, false⟩)) 0).motion = .homing ∧
      (damperOf (queues ⟨none, .fault, .nothing, 3⟩ [] none) 0).motion = .fault := by decide

/-- The state at rest in a phase with an incoming plan, its damper 2 at a position. -/
def changes (p : Plan) (phase : Phase) (position : Nat) : State :=
  { rest with
    co := { rest.co with incoming := some p, phase := phase }
    zst := { rest.zst with z4 := ⟨.active, true⟩ }
    drive := { rest.drive with dampers := rest.drive.dampers.set 2 ⟨some position, .idle, .nothing, 0⟩ } }

/-- A plan that opens damper 2 by 20 steps, with or without air, and closes damper 4. -/
def opens (air c : Nat) : Plan :=
  { Plan.empty with
    number := 1, mode := .cool, q := air, c := c
    zones := { Plan.empty.zones with z2 := ⟨.calling, air, 20⟩, z4 := ⟨.closed, 0, 0⟩, z7 := ⟨.excluded, 0, 0⟩ } }

theorem witness_ChangeoverPhasesEnd :
    (({ rest with arb := { rest.arb with deferral := true } } : State).arb.deferral = true) ∧
    (rest.arb.deferral = false ∧ rest.co.phase = .applied ∧ (opens 60 0).c ≤ commanded rest ∧
      commanded rest < (opens 60 20).c) ∧
    (let s := changes (opens 60 20) .opening 20
     s.co.incoming = some (opens 60 20) ∧ s.co.phase = .opening ∧
      (∀ z : ZoneId, 0 < ((opens 60 20).zones.get z).opening →
        (damperOf s z).motion = .fault ∨
          ((damperOf s z).position.isSome = true ∧ ((opens 60 20).zones.get z).opening ≤ (damperOf s z).position.getD 0)) ∧
      s.drive.airPath = true) ∧
    (let s := changes (opens 60 20) .opening 19
     s.co.phase = .opening ∧ ¬20 ≤ (damperOf s 2).position.getD 0 ∧ (damperOf s 2).motion ≠ .fault) ∧
    (let s := changes (opens 60 20) .opening 20
     let s := { s with drive := { s.drive with slot1 := some ⟨2, .move 20, 20, t0, true⟩ } }
     s.drive.slotOf 2 = some ⟨2, .move 20, 20, t0, true⟩ ∧ ((opens 60 20).zones.get 2).opening = 20) ∧
    (let s := changes { opens 60 20 with zones := Plan.empty.zones } .opening 19
     s.co.phase = .opening ∧ (∀ z : ZoneId, ¬0 < (Plan.empty.zones.get z).opening) ∧ s.drive.airPath = false) ∧
    (let s := changes (opens 60 20) .blower 20
     s.co.incoming = some (opens 60 20) ∧ s.co.phase = .blower ∧ s.todo = Todo.clear ∧ s.co.held = none ∧
      s.op.testPhase ≠ .opening ∧ s.drive.queue = [] ∧ s.blower.given = 0) ∧
    (let s := changes (opens 60 20) .blower 20
     let s := { s with blower := { s.blower with state := .ramp, given := 60 } }
     s.co.phase = .blower ∧
      ¬(s.blower.given = 0 ∨ s.blower.state = .hold ∨ s.blower.state = .run ∨ s.todo.holdReport = true)) ∧
    (let s := changes (opens 60 20) .closing 20
     s.co.incoming = some (opens 60 20) ∧ s.co.phase = .closing ∧
      (∀ z : ZoneId, ((opens 60 20).zones.get z).role = .calling ∨ ((opens 60 20).zones.get z).role = .relief ∨
        ((opens 60 20).zones.get z).role = .closed →
        (damperOf s z).motion = .fault ∨
          (damperOf s z).position = some ((opens 60 20).zones.get z).opening ∧ (damperOf s z).motion = .idle) ∧
      (s.zst.get 4).unconf = true ∧ ((opens 60 20).zones.get 4).role = .closed) ∧
    (let s := changes (opens 60 20) .closing 21
     s.co.phase = .closing ∧ (damperOf s 2).position ≠ some 20 ∧ (damperOf s 2).motion ≠ .fault) ∧
    let s := { rest with blower := { rest.blower with state := .run, goal := 500, given := 500 } }
    s.blower.goal ≠ 0 ∧ s.drive.airPath = false := by decide

/-- A HOLD report in the BLOWER phase, while the blower ramps toward a goal above 0. -/
theorem witness_ChangeoverPhasesEnd_holdReport :
    let c := changes (opens 60 20) .blower 20
    let s := { c with blower := { c.blower with state := .ramp, given := 60 }, todo := { c.todo with holdReport := true } }
    s.co.incoming = some (opens 60 20) ∧ s.co.phase = .blower ∧ s.blower.state ≠ .hold ∧
      { s.todo with holdReport := false } = Todo.clear ∧ s.todo.holdReport = true ∧ s.co.held = none ∧
      s.op.testPhase ≠ .opening ∧ s.drive.queue = [] ∧ ¬(s.blower.given = 0 ∨ s.blower.state = .run) := by decide

/-- A HOLD entered and left inside one STAT, by a trip in a defrost with the coil warm, still ends BLOWER (07 R114, 04 R73). -/
theorem test_hold_report_ends_blower_phase :
    sees (.statResponse (responseOf 0x52 (statBytes { statRunning with defrostReq := true, trip := some .overcurrent })))
      (let c := changes (opens 60 20) .blower 20
       let s := sends .stat (runs .heat)
       { s with
         co := c.co, drive := c.drive, blower := { s.blower with state := .ramp, given := 60, goal := 60 }
         prot := { s.prot with coil := some 300 } })
      (fun t => decide (t.blower.state = .ramp ∧ t.blower.defrostHold = false ∧ t.seq.state = .tripped ∧
        t.co.phase ≠ .blower ∧ t.todo = Todo.clear)) = true := by decide

/-- Damper 2 of such a state faults with unconfigure pending: IDLE at UNKNOWN, and passed over in OPEN and CLOSE (04 R77). -/
theorem witness_ChangeoverPhasesEnd_passedOver :
    let s := faultDamper 2 { changes (opens 60 20) .opening 20 with zst := rest.zst.set 2 ⟨.active, true⟩ }
    s.co.incoming = some (opens 60 20) ∧ s.co.phase = .opening ∧ damperOf s 2 = ⟨none, .idle, .nothing, 0⟩ ∧
      stateOf s 2 = .unused ∧ 2 ∈ s.drive.passedOver ∧ openDone (opens 60 20) s = true ∧ s.drive.airPath = false ∧
      closedEnough (opens 60 20) s 2 = true := by decide

/-- The same with damper 2's record, its entry and its slot. -/
def changing (x : Damper) (queue : List QueueEntry) (slot : Option Slot) : State :=
  let s := changes (opens 60 20) .opening 0
  { s with
    zst := { s.zst with z2 := ⟨.active, false⟩ }
    drive := { s.drive with dampers := s.drive.dampers.set 2 x, queue := queue, slot1 := slot } }

theorem witness_ChangeoverIsSuperseded :
    (let s := changing ⟨some 19, .queued, .nothing, 0⟩ [⟨2, .move 0⟩] none
     stateOf rest 0 = .active ∧ (rest.zst.get 0).unconf = false ∧ stateOf (changes (opens 60 20) .opening 20) 4 = .active ∧
      ((changes (opens 60 20) .opening 20).zst.get 4).unconf = true ∧
     s.co.phase ≠ .applied ∧ stateOf s 2 = .active ∧ s.op.testPhase = .idle ∧ ((opens 60 20).zones.get 2).role = .calling ∧
      (damperOf s 2).motion = .queued ∧ s.drive.slotOf 2 = none ∧ s.drive.entryOf 2 = some ⟨2, .move 0⟩ ∧
      (damperOf s 2).position = some 19 ∧ 19 < ((opens 60 20).zones.get 2).opening ∧
      (opens 60 0).c ≤ commanded s ∧ commanded s < (opens 60 20).c) ∧
    (let s := changing ⟨some 20, .queued, .nothing, 0⟩ [⟨2, .move 0⟩] none
     (damperOf s 2).position = some 20 ∧ ((opens 60 20).zones.get 2).opening ≤ 20) ∧
    (let s := changing ⟨some 10, .moving, .target 30, 0⟩ [] (some ⟨2, .move 19, 5, t0, true⟩)
     (damperOf s 2).motion = .moving ∧ s.drive.slotOf 2 = some ⟨2, .move 19, 5, t0, true⟩ ∧ s.drive.entryOf 2 = none) ∧
    (let s := changing ⟨none, .homing, .target 30, 0⟩ [] (some ⟨2, .home, 5, t0, false⟩)
     (damperOf s 2).motion = .homing ∧ s.drive.slotOf 2 = some ⟨2, .home, 5, t0, false⟩ ∧ s.drive.entryOf 2 = none) ∧
    (let s := changing ⟨some 19, .idle, .nothing, 0⟩ [] none
     (damperOf s 2).motion = .idle ∧ s.drive.slotOf 2 = none ∧ s.drive.entryOf 2 = none ∧ (damperOf s 2).position = some 19) ∧
    (let s := changes (opens 60 20) .closing 20
     ({ s with todo := { s.todo with faulted := [2] } } : State).todo.faulted = 2 :: [] ∧
      s.co.incoming = some (opens 60 20) ∧ s.co.phase ≠ .applied ∧ s.co.reapply = false ∧
      ((opens 60 20).zones.get 2).role ≠ .excluded ∧ ((opens 60 20).zones.get 7).role = .excluded ∧
      ({ s with todo := { s.todo with restart := true } } : State).todo.restart = true ∧ s.todo.faulted = []) ∧
    rest.co.incoming = none ∧
      (({ rest with co := { rest.co with held := some (opens 60 20) } } : State).co.held = some (opens 60 20) ∧
        rest.arb.deferral = false ∧ rest.todo.faulted = [] ∧ rest.todo.restart = false) := by decide

/-! #### The blower -/

/-- The state at rest with another blower. -/
def withBlower (f : Blower → Blower) : State := { rest with blower := f rest.blower }

theorem witness_BlowerTakesGoals :
    (let b := rest.blower
     b.state = .off ∧ 500 ≠ b.goal ∧ ({ b with state := .hold } : Blower).state = .hold ∧
      ({ b with state := .runOn } : Blower).state = .runOn) ∧
    (let b : Blower := { rest.blower with state := .run, goal := 500, given := 500 }
     b.state = .run ∧ 500 = b.goal ∧ 501 ≠ b.goal) ∧
    (rest.drive.airPath = false ∧ (blows.drive.airPath = true)) ∧
    (let b : Blower := { rest.blower with state := .hold, coldBlow := true, given := 500 }
     b.state = .hold ∧ b.defrostHold = false ∧ b.given ≠ 0 ∧ ({ b with given := 0 } : Blower).given = 0 ∧
      ({ b with defrostHold := true } : Blower).defrostHold = true) := by decide

theorem witness_BlowerRampsAndSettles :
    (let s := withBlower fun b => { b with state := .ramp, goal := 500, speedGoal := 39, rampFrom := t0 - 250 }
     s.blower.demand ≠ s.blower.speedGoal ∧ s.blower.retryFrom = none ∧ s.blower.rampFrom + 250 ≤ s.now) ∧
    (let s := withBlower fun b => { b with
        state := .ramp, goalSince := some (t0 - 3000), inBand := true, lastPulse := t0 - 999, bandFrom := t0 - 3000 }
     Calm s ∧ s.blower.state = .ramp ∧ s.blower.retryFrom = none ∧ s.blower.goalSince = some (t0 - 3000) ∧
      s.blower.inBand = true ∧ decide (s.blower.lastPulse + 1000 ≤ s.now) = false ∧ t0 - 3000 + 3000 ≤ s.now ∧
      s.blower.bandFrom + 3000 ≤ s.now) ∧
    (let s := withBlower fun b => { b with state := .run, inBand := false, bandFrom := t0 - 3000 }
     Calm s ∧ s.blower.state = .run ∧ s.blower.inBand = false ∧ s.blower.bandFrom + 3000 ≤ s.now) ∧
    (let s := withBlower fun b => { b with state := .run, inBand := true, lastPulse := t0 - 4000 }
     Calm s ∧ s.blower.state = .run ∧ s.blower.inBand = true ∧ s.blower.lastPulse + 4000 ≤ s.now) ∧
    (let b : Blower := { rest.blower with
        state := .ramp, goal := 500, speedGoal := 39, demand := 39, expected := 650, settleFrom := some (t0 - 100) }
     b.retryFrom = none ∧ b.demand = b.speedGoal ∧ b.settleFrom = some (t0 - 100) ∧
      (b.rampTo t0 Settings.factory.table 501).speedGoal = b.speedGoal ∧
      (b.rampTo t0 Settings.factory.table 900).speedGoal ≠ b.speedGoal) ∧
    let s := withBlower fun b => { b with state := .ramp, retryFrom := some (t0 - 60000) }
    Calm s ∧ s.blower.retryFrom = some (t0 - 60000) ∧ t0 - 60000 + 60000 ≤ s.now :=
  ⟨by decide, ⟨calm_of (by decide), by decide, by decide, by decide, by decide, by decide, by decide, by decide⟩,
    ⟨calm_of (by decide), by decide, by decide, by decide⟩, ⟨calm_of (by decide), by decide, by decide, by decide⟩,
    by decide, calm_of (by decide), by decide, by decide⟩

theorem witness_BlowerRunsOnHoldsAndRests :
    (let b := { rest.blower with state := .ramp, carried := some 500, retryFrom := some (t0 - 1) }
     b.state = .ramp ∧ b.carried = some 500 ∧ b.retryFrom ≠ none ∧ rest.blower.carried = none) ∧
    (let s := withBlower fun b => { b with state := .runOn, goal := 250, runOnUntil := some t0 }
     Calm s ∧ s.blower.state = .runOn ∧ s.blower.runOnUntil = some t0 ∧ t0 ≤ s.now) ∧
    (let s : State :=
      { runs .heat with
        blower := { rest.blower with state := .hold, coldBlow := true }
        seq := { (runs .heat).seq with runStart := some (t0 - 120000) } }
     Calm s ∧ s.blower.coldBlow = true ∧ s.seq.runStart = some (t0 - 120000) ∧ t0 - 120000 + 120000 ≤ s.now ∧
      s.blower.given = 0 ∧ s.blower.goal = 0 ∧ s.blower.state = .hold ∧ s.blower.defrostHold = false) ∧
    (let s : State :=
      { blows with
        blower := { blows.blower with state := .hold, coldBlow := true, defrostHold := true }
        seq := { (runs .heat).seq with runStart := some (t0 - 120000) } }
     Calm s ∧ s.blower.coldBlow = true ∧ s.drive.airPath = true ∧ s.blower.defrostHold = true ∧ s.blower.given ≠ 0) ∧
    let s : State :=
      { seqIn .defrostPrep (runs .heat) with blower :=
        { rest.blower with state := .hold, defrostHold := true, zeroFrom := some (t0 - 1), lastPulse := t0 - 1000 } }
    Calm s ∧ s.seq.state = .defrostPrep ∧ s.seq.grantSent = false ∧ s.blower.state = .hold ∧ s.blower.defrostHold = true ∧
      s.blower.demand = 0 ∧ s.blower.zeroFrom = some (t0 - 1) ∧ s.blower.lastPulse + 1000 ≤ s.now :=
  ⟨by decide, ⟨calm_of (by decide), by decide, by decide, by decide⟩,
    ⟨calm_of (by decide), by decide, by decide, by decide, by decide, by decide, by decide, by decide⟩,
    ⟨calm_of (by decide), by decide, by decide, by decide, by decide⟩,
    calm_of (by decide), by decide, by decide, by decide, by decide, by decide, by decide, by decide⟩

theorem witness_PressureCapSteps :
    (let s := withBlower fun b => { b with state := .run }
     s.blower.state = .run ∧ s.cfg.pressureCap < 126 ∧ 10 * 99 < 8 * s.cfg.pressureCap) ∧
    (let s := withBlower fun b => { b with state := .run, aboveFrom := some (t0 - 10000), qhi := 451 }
     Calm s ∧ s.blower.aboveFrom = some (t0 - 10000) ∧ t0 - 10000 + 10000 ≤ s.now ∧ s.cfg.qsysMin < s.blower.qhi) ∧
    let s := withBlower fun b => { b with belowFrom := some (t0 - 600000), qhi := 1099, capped := true }
    Calm s ∧ s.blower.belowFrom = some (t0 - 600000) ∧ t0 - 600000 + 600000 ≤ s.now ∧ s.blower.qhi < s.cfg.qmax :=
  ⟨by decide, ⟨calm_of (by decide), by decide, by decide, by decide⟩, calm_of (by decide), by decide, by decide, by decide⟩

/-! #### The outdoor link -/

/-- The state at rest with another link. -/
def withLink (f : Link → Link) : State := { rest with link := f rest.link }

/-- A diagnostic read of four bytes that has not begun. -/
def aDiag : Diagnostic := ⟨true, 0xE1, 4, [], t0 - 10000, false, true⟩

theorem witness_LinkFramesBegin :
    (let s := withLink fun k => { k with nextRound := t0, wakeRound := true, windowEnd := t0, lowAt := some (t0 - 2) }
     s.link.lowAt = some (t0 - 2) ∧ t0 - 2 + 2 ≤ s.now ∧ s.link.nextRound ≤ s.now ∧ s.link.wakeRound = true ∧
      s.link.windowEnd ≤ s.now ∧ s.link.frame = none ∧ s.link.state = .start) ∧
    (let s := withLink fun k => { k with state := .active, diag := some aDiag, lastGood := some (t0 - 1999) }
     s.link.state = .active ∧ s.link.diag = some aDiag ∧ aDiag.begun = false ∧ s.link.lastGood = some (t0 - 1999) ∧
      s.now < t0 - 1999 + 2000) ∧
    (let s := withLink fun k => { k with state := .active, diag := some aDiag, lastGood := some (t0 - 2000) }
     s.link.lastGood = some (t0 - 2000) ∧ t0 - 2000 + 2000 ≤ s.now) ∧
    (let s := withLink fun k => { k with round := some ⟨t0 - 50, .diagRead, false, false⟩, diag := some aDiag }
     s.link.round = some ⟨t0 - 50, .diagRead, false, false⟩ ∧ t0 - 50 + 50 ≤ s.now ∧ s.link.frame = none ∧
      s.link.diag = some aDiag) ∧
    (let s := withLink fun k => { k with round := some ⟨t0 - 150, .stat, true, true⟩, diag := some aDiag, state := .slow }
     s.link.round = some ⟨t0 - 150, .stat, true, true⟩ ∧ t0 - 150 + 150 ≤ s.now ∧ s.link.frame = none ∧
      s.link.diag = some aDiag ∧ s.link.state = .slow) ∧
    (aDiag.begun = false ∧ aDiag.chosen = true ∧ ({ aDiag with chosen := false } : Diagnostic).chosen = false) ∧
    LimitGood rest ∧ ¬((runs .cool).link.state = .start ∨ (runs .cool).link.state = .lost) :=
  ⟨by decide, by decide, by decide, by decide, by decide, by decide, limitGood_of (by decide), by decide⟩

/-- A frame whose last byte ended some time ago, with the bytes of its response that have come. -/
def ended (kind : FrameKind) (ago : Nat) (arrived : List Byte) : LinkFrame :=
  ⟨kind, [0x52, 0x0A], t0 - 60, t0 - ago, arrived⟩

/-- The samples of a byte sent: three of each bit. -/
def sampled (b : Byte) : BitVec 33 :=
  BitVec.ofNat 33 (((sentBits b).zipIdx.map fun x => if x.1 then 7 * 8 ^ x.2 else 0).sum)

/-- The state at rest with such a frame, its last byte read back as sent. -/
def awaits (kind : FrameKind) (ago : Nat) (arrived : List Byte := []) : State :=
  withLink fun k =>
    { k with state := .active, diag := some aDiag, frame := some (ended kind ago arrived), readBack := sampled 0x0A }

/-- The state at rest with a CAP whose last byte ends now and is read back as a given byte. -/
def readsBack (b : Byte) : State :=
  { awaits .cap 0 with link := { (awaits .cap 0).link with readBack := sampled b } }

/-- A byte read back otherwise than it was sent ends its frame and counts; one read back as sent does nothing (08 R124). -/
theorem test_collision :
    sees .linkCollision (readsBack 0x0B) (fun t => t.link.frame.isNone && t.link.collisions == 1) = true ∧
      sees .linkCollision (readsBack 0x0A) (fun t => t.link.frame.isSome && t.link.collisions == 0) = true := by decide

/-- A command frame whose last byte is read back otherwise has not been sent (08 R123, R124). -/
theorem test_command_frame_not_read_back :
    sees .linkCommandFrameSent (readsBack 0x0B) (fun t => t.link.frame.isSome) = true ∧
      sees .linkCommandFrameSent (readsBack 0x0A) (fun t => t.link.frame.isNone) = true := by decide

theorem witness_FailingExchange :
    FailingExchange (readsBack 0x0B) .linkCollision (ended .cap 0 []) .collision (collidedLink (readsBack 0x0B)) ∧
    FailingExchange (awaits .stat 40) (.responseWindowClose 0) (ended .stat 40 []) .noResponse
      (judgedLink (awaits .stat 40) (ended .stat 40 []) false) ∧
    FailingExchange (awaits .info 40) (.responseWindowClose 3) (ended .info 40 []) .shortLength
      (judgedLink (awaits .info 40) (ended .info 40 []) true) ∧
    FailingExchange (awaits .info 40 [1]) (.responseWindowClose 0) (ended .info 40 [1]) .shortLength
      (judgedLink (awaits .info 40 [1]) (ended .info 40 [1]) false) ∧
    FailingExchange (awaits .stat 40) (.linkByteError 0x1FFFFFFF8) (ended .stat 40 []) .parity
      (judgedLink (awaits .stat 40) (ended .stat 40 []) true) ∧
    FailingExchange (awaits .stat 0) (.linkByteError 0) (ended .stat 0 []) .framing
      (judgedLink (awaits .stat 0) (ended .stat 0 []) true) ∧
    FailingExchange (awaits .stat 20 [4, 0]) (.statResponse ((responseOf 0x52 [4, 0, 0, 0, 0, 0, 0, 0, 0, 0]).drop 2))
      (ended .stat 20 [4, 0]) .check (judgedLink (awaits .stat 20 [4, 0]) (ended .stat 20 [4, 0]) true) ∧
    FailingExchange (awaits .info 20) (.infoResponse (responseOf 0x54 [0, 0, 1])) (ended .info 20 []) .check
      (judgedLink (awaits .info 20) (ended .info 20 []) true) ∧
    FailingExchange (awaits .diagRead 20) (.diagReadResponse [1, 2, 3, 4, 0]) (ended .diagRead 20 []) .check
      (judgedLink (awaits .diagRead 20) (ended .diagRead 20 []) true) :=
  ⟨.collision _ 1 0x0A (by decide) (show (_ : Nat) = _ by decide) (by decide), .silence _ (by decide) (by decide) (by decide),
    .short _ 3 (by decide) (by decide) (by decide), .short _ 0 (by decide) (by decide) (by decide),
    .byte _ _ _ (by decide) (windowOpen_of (by decide)) (by decide), .byte _ _ _ (by decide) (windowOpen_of (by decide)) (by decide),
    .stat _ _ (by decide) (windowOpen_of (by decide)) (by decide) (by decide),
    .info _ _ (by decide) (windowOpen_of (by decide)) (by decide) (by decide),
    .diag _ _ aDiag (by decide) (windowOpen_of (by decide)) (by decide) (by decide) (by decide)⟩

/-- A link on whose line a low level was heard 1 ms ago, with its STAT due. -/
def lowLine (collisions : Nat) : State :=
  withLink fun k => { k with
    state := .active, lowAt := some (t0 - 1), collisions := collisions, round := some ⟨t0 - 50, .stat, false, false⟩ }

theorem witness_LinkExchangesFail :
    (let s := readsBack 0x0A
     s.link.frame = some (ended .cap 0 []) ∧ (ended .cap 0 []).sentBy ≤ s.now ∧ ReadsBack s (ended .cap 0 []) ∧
      s.link.lowAt = none) ∧
    (let s := awaits .diagCommand 0
     s.link.frame = some (ended .diagCommand 0 []) ∧ s.link.diag = some aDiag ∧ ReadsBack s (ended .diagCommand 0 []) ∧
      aDiag.begun = false ∧ aDiag.enteredAt + 10000 ≤ s.now) ∧
    (let s := readsBack 0x0B
     s.link.frame = some (ended .cap 0 []) ∧ ¬ReadsBack s (ended .cap 0 [])) ∧
    (Calm (awaits .stat 40) ∧ (awaits .stat 40).link.wakeRound = false ∧
      (judgedLink (awaits .stat 40) (ended .stat 40 []) false).collisions < 5) ∧
    (let s := withLink fun k => { k with lowAt := some (t0 - 1) }
     s.link.frame = none ∧ Calm s ∧ s.link.lowAt = some (t0 - 1) ∧ s.now < t0 - 1 + 2 ∧ s.now < s.link.nextRound ∧
      s.link.round = none ∧ (withLink fun k => { k with nextRound := t0 }).link.nextRound ≤ t0) ∧
    (Calm (lowLine 3) ∧ (lowLine 3).link.frame = none ∧ (lowLine 3).link.lowAt = some (t0 - 1) ∧ (lowLine 3).now < t0 - 1 + 2 ∧
      (lowLine 3).link.collisions < 4 ∧ (lowLine 3).link.round = some ⟨t0 - 50, .stat, false, false⟩ ∧
      t0 - 50 + 50 ≤ (lowLine 3).now ∧ (lowLine 3).link.wakeRound = false) ∧
    (let s := { seqIn .defrostPrep (runs .heat) with
        link := { (runs .heat).link with state := .slow, statAgeFrom := some (t0 - 30000) }
        prot := { rest.prot with coil := some 299 } }
     Calm s ∧ s.blower.coldBlow = false ∧ s.link.state = .slow ∧ s.link.statAgeFrom = some (t0 - 30000) ∧
      t0 - 30000 + 30000 ≤ s.now ∧ s.seq.state ≠ .defrostRecovery ∧ s.seq.state.defrosting = true ∧
      s.prot.coil = some 299 ∧ (299 : Int) < 300) ∧
    let s := { runs .cool with link := { (readsBack 0x0B).link with collisions := 4 } }
    Calm s ∧ s.blower.coldBlow = false ∧ s.link.state = .active ∧ s.link.frame = some (ended .cap 0 []) ∧
      ByteEnds s (ended .cap 0 []) 1 ∧ 4 ≤ s.link.collisions ∧ readBits s.link.readBack ≠ sentBits 0x0A ∧
      s.seq.state.defrosting = false :=
  ⟨⟨rfl, by decide, readsBack_of (by decide), rfl⟩, ⟨rfl, rfl, readsBack_of (by decide), by decide, by decide⟩,
    ⟨rfl, fun h => absurd (h 1 0x0A rfl (show (_ : Nat) = _ by decide)) (by decide)⟩,
    ⟨calm_of (by decide), by decide, by decide⟩,
    ⟨by decide, calm_of (by decide), by decide, by decide, by decide, by decide, by decide⟩,
    ⟨calm_of (by decide), by decide, by decide, by decide, by decide, by decide, by decide, by decide⟩,
    ⟨calm_of (by decide), by decide, by decide, by decide, by decide, by decide, by decide, by decide, by decide⟩,
    calm_of (by decide), by decide, by decide, by decide, by decide, by decide, by decide, by decide⟩

/-- The bytes of a STAT and of an INFO with their records. -/
theorem goodStat : goodData 0x52 10 (responseOf 0x52 (statBytes statReady)) = some (statBytes statReady) ∧
    statOf (statBytes statReady) = some statReady := by decide

/-- NOTICE with the conditions of R164 met, and the STAT awaited. -/
def offered : State :=
  { sends .stat (withLink fun k => { k with state := .active, round := some ⟨t0 - 50, .stat, true, false⟩ }) with
    op := { rest.op with notice := true, noticeFrom := some t0 } }

theorem witness_LinkGoodResponses :
    (let s := sends .stat (runs .cool)
     s.link.frame = some ⟨.stat, [], t0 - 20, t0, []⟩ ∧ WindowOpen s ⟨.stat, [], t0 - 20, t0, []⟩ ∧ s.link.wakeRound = false ∧
      ([] ++ [1, 2, 3] : List Byte).length < 4 ∧
      goodData 0x52 10 ([] ++ responseOf 0x52 (statBytes statReady)) = some (statBytes statReady) ∧
      statOf (statBytes statReady) = some statReady ∧ Settled s ∧ s.op.state ≠ .resting ∧ s.op.notice = false) ∧
    (Calm offered ∧ offered.op.notice = true ∧ statReady.standdownReady = true ∧ offered.op.state = .off ∧
      offered.arb.mode = .idle ∧ offered.arb.deferral = false ∧ offered.link.state = .active ∧
      offered.link.round = some ⟨t0 - 50, .stat, true, false⟩ ∧ offered.seq.state = .stopped ∧ statReady.trip = none ∧
      offered.prot.stops = [] ∧ offered.cfg.ambientGate = some 50 ∧ statReady.ambient = some 50 ∧
      (let r := { statReady with trip := some .highPressure }
       goodData 0x52 10 ([] ++ responseOf 0x52 (statBytes r)) = some (statBytes r) ∧ statOf (statBytes r) = some r ∧
        offered.link.lastStatus.bind StatRecord.trip ≠ some .highPressure)) ∧
    (let s := sends .stat { rest with
        op := { rest.op with state := .resting, request := .on }, link := { rest.link with state := .slow } }
     let r := { statReady with ambient := some 49 }
     Calm s ∧ s.link.frame = some ⟨.stat, [], t0 - 20, t0, []⟩ ∧ WindowOpen s ⟨.stat, [], t0 - 20, t0, []⟩ ∧
      s.op.state = .resting ∧ s.op.notice = false ∧ s.seq.state = .stopped ∧ s.prot.stops = [] ∧ r.trip = none ∧
      s.cfg.ambientGate = some 50 ∧ goodData 0x52 10 ([] ++ responseOf 0x52 (statBytes r)) = some (statBytes r) ∧
      statOf (statBytes r) = some r ∧ (∀ x, r.ambient = some x → x < 50) ∧ statReady.ambient = some 50 ∧
      ({ statReady with ambient := none } : StatRecord).ambient = none) ∧
    (Calm (awaits .info 0 [99]) ∧ (awaits .info 0 [99]).link.frame = some (ended .info 0 [99]) ∧
      WindowOpen (awaits .info 0 [99]) (ended .info 0 [99]) ∧
      goodData 0x54 3 ([99] ++ (responseOf 0x54 [99, 1, 15]).drop 1) = some [99, 1, 15] ∧
      infoOf [99, 1, 15] = some ⟨99, true, 15⟩) ∧
    (awaits .diagRead 40).link.frame = some (ended .diagRead 40 []) ∧ WindowOpen (awaits .diagRead 40) (ended .diagRead 40 []) ∧
      (awaits .diagRead 40).link.diag = some aDiag ∧ ([1, 2, 3, 4] : List Byte).length < aDiag.length + 1 ∧
      goodData 0xE1 4 ([] ++ responseOf 0xE1 [1, 2, 3, 4]) = some [1, 2, 3, 4] :=
  ⟨⟨by decide, windowOpen_of (by decide), by decide, by decide, goodStat.1, goodStat.2, (calm_of (by decide)).1, by decide,
      by decide⟩,
    ⟨calm_of (by decide), by decide, by decide, by decide, by decide, by decide, by decide, by decide, by decide, by decide,
      by decide, by decide, by decide, by decide⟩,
    ⟨calm_of (by decide), by decide, windowOpen_of (by decide), by decide, by decide, by decide, by decide, by decide,
      by decide, by decide, by decide, fun x hx => by cases hx; decide, by decide, by decide⟩,
    ⟨calm_of (by decide), by decide, windowOpen_of (by decide), by decide, by decide⟩, by decide, windowOpen_of (by decide),
    by decide, by decide, by decide⟩

/-! #### The sequencer -/

/-- A state that has just sent its STAT frame and meets the hypotheses on a good STAT. -/
def statMeets (s : State) : Bool :=
  calmly s && opened s ⟨.stat, [], t0 - 20, t0, []⟩ && decide (s.link.frame = some ⟨.stat, [], t0 - 20, t0, []⟩ ∧
    s.link.wakeRound = false ∧ s.op.state ≠ .resting ∧ s.op.notice = false ∧ s.prot.stops = [] ∧
    (s.blower.coldBlow = true ∨ s.seq.state.defrosting = true →
      s.drive.airPath = true ∨ s.blower.given = 0 ∧ s.blower.goal = 0 ∧ s.blower.carried = none))

/-- The bytes of a record are good and give the record back. -/
def carries (r : StatRecord) : Bool :=
  decide (goodData 0x52 10 (responseOf 0x52 (statBytes r)) = some (statBytes r) ∧ statOf (statBytes r) = some r ∧
    r.trip = none)

/-- A state whose indoor coil has reached 30.0 °C. -/
def warm (s : State) : State := { s with prot := { s.prot with coil := some 300 } }

theorem witness_SequencerMoves_stat :
    (let s := sends .stat { runs .cool with seq := { (runs .cool).seq with runStart := none } }
     statMeets s = true ∧ carries statRunning = true ∧ s.seq.state = .running ∧ s.seq.runStart = none ∧
      carries { statRunning with compressor := .starting } = true ∧
      carries { statRunning with compressor := .stopped, holdoff := true } = true ∧
      statMeets (seqIn .stopWait s) = true ∧ statMeets (seqIn .defrostRecovery s) = true ∧
      (seqIn .defrostRecovery s).seq.takenStopped = false) ∧
    (let s := sends .stat { runs .cool with arb := { rest.arb with mode := .rest } }
     statMeets s = true ∧ carries statReady = true ∧ s.seq.runStart ≠ none ∧ s.arb.mode = .rest ∧ s.arb.restStart = none) ∧
    (statMeets (sends .stat (runs .heat)) = true ∧ carries { statRunning with defrostReq := true } = true ∧
      carries { statReady with defrostReq := true } = true ∧ (sends .stat (runs .heat)).seq.runStart ≠ none ∧
      (runs .heat).seq.release.map Release.mode = some .heat) ∧
    (let s := sends .stat (seqIn .defrostPrep (runs .heat))
     statMeets { s with seq := { s.seq with grantSent := true } } = true ∧
      carries { statRunning with defrostReq := true, defrostActive := true } = true) ∧
    (statMeets (sends .stat (seqIn .defrostActive (runs .heat))) = true ∧ carries statRunning = true ∧
      carries { statReady with defrostActive := true } = true) ∧
    statMeets (sends .stat (seqIn .stopped (runs .heat))) = true ∧
    (let s := sends .stat { runs .heat with blower := { rest.blower with coldBlow := true, state := .hold } }
     statMeets s = true ∧ s.seq.state = .running) ∧
    (let s := sends .stat (warm (seqIn .defrostActive (runs .heat)))
     statMeets s = true ∧ s.prot.coil = some 300 ∧ s.seq.takenStopped = false ∧ s.seq.stopMark = false ∧ wanted s ≠ 0 ∧
      wanted { s with prot := { s.prot with limit := 0 } } = 0 ∧ carries statReady = true) ∧
    (let s := sends .stat (warm (seqIn .defrostPrep (offLong (runs .heat))))
     statMeets s = true ∧ statMeets { s with prot := { s.prot with lockout := true } } = true) := by decide

theorem witness_SequencerMoves_timers :
    (let s := { rest with seq := { rest.seq with minOffFrom := t0 - 180000 } }
     s.seq.minOffFrom + 180000 ≤ s.now ∧ s.seq.minOffDone = false ∧ Calm s) ∧
    (let s := { runs .heat with
        seq := { (runs .heat).seq with state := .waitStart, runStart := none, minOffFrom := t0 - 180000 } }
     s.seq.minOffFrom + 180000 ≤ s.now ∧ Settled s ∧ s.drive.queue = [] ∧ s.seq.state = .waitStart ∧ wanted s ≠ 0 ∧
      s.prot.supplyLow = false ∧ s.prot.coilFault = false ∧ s.link.state = .active ∧
      s.link.lastStatus = some statRunning ∧ statRunning.holdoff = false) ∧
    (let s := seqIn .stopWait (runs .cool)
     Calm s ∧ s.seq.state = .stopWait ∧ s.seq.stopSent = false ∧ s.seq.runStart = some (t0 - 300000) ∧
      t0 - 300000 + 300000 ≤ s.now) ∧
    let s := { blows with
      seq := { (runs .heat).seq with
        state := .defrostRecovery, recoveryFrom := some (t0 - 180000), minOffFrom := t0 - 179999, takenStopped := true } }
    Calm s ∧ s.seq.state = .defrostRecovery ∧ s.seq.recoveryFrom = some (t0 - 180000) ∧ t0 - 180000 + 180000 ≤ s.now ∧
      HoldEndsSafely s ∧
      (let u := offLong { s with seq := { s.seq with takenStopped := false } }
       Calm u ∧ HoldEndsSafely u ∧ u.seq.minOffFrom + 180000 ≤ u.now ∧ u.seq.stopMark = false ∧ wanted u ≠ 0) ∧
      (let u := offLong { s with link := (runs .heat).link }
       Calm u ∧ HoldEndsSafely u ∧ StartFree u ∧ u.seq.takenStopped = true ∧ u.prot.lockout = false ∧ u.prot.stops = [] ∧
        wanted u ≠ 0) := by
  refine ⟨⟨by decide, by decide, calm_of (by decide)⟩, ⟨by decide, ?_, by decide, by decide, by decide, by decide, by decide,
    by decide, by decide, by decide⟩, ⟨calm_of (by decide), by decide, by decide, by decide, by decide⟩,
    calm_of (by decide), by decide, by decide, by decide, .inl (by decide),
    ⟨calm_of (by decide), .inl (by decide), by decide, by decide, by decide⟩,
    calm_of (by decide), .inl (by decide), startFree_of (by decide), by decide, by decide, by decide, by decide⟩
  exact ⟨rfl, rfl, rfl, rfl, by decide, rfl, rfl, t0, rfl, by decide⟩

/-- The compressor running with a pass due that wants no capacity, its run begun at a time; the first in REST or not. -/
def demandEnds (inRest : Bool) (start : Nat) : State :=
  { dueTimer with
    seq := { (runs .cool).seq with runStart := some start }
    arb := if inRest then { rest.arb with mode := .rest, restLength := some 5 } else rest.arb }

theorem witness_SequencerMoves_demand : ∀ inRest ∈ [false, true], ∀ start ∈ [t0 - 300000, t0 - 299999],
    let s := demandEnds inRest start
    PassTaken s .evaluationTimerExpiry ∧ s.drive.queue = [] ∧ AirSafe s ∧ s.co.phase = .applied ∧ s.co.incoming = none ∧
      s.co.held = none ∧ s.arb.deferral = false ∧ s.prot.floatHeld = false ∧ s.seq.state = .running ∧
      s.link.lowAt = none ∧ (planOfPass s).c = 0 ∧ ((planOfPass s).mode = .rest ↔ inRest = true) ∧
      { planOfPass s with number := 0 } ≠ { s.co.applied with number := 0 } ∧ s.seq.runStart = some start := by
  intro inRest hr start hs
  simp only [List.mem_cons, List.not_mem_nil, or_false] at hr hs
  rcases hr with rfl | rfl <;> rcases hs with rfl | rfl <;>
    exact ⟨⟨by decide, rfl, rfl, by decide, .inl ⟨rfl, t0 - 30000, rfl, by decide⟩⟩, rfl, airSafe_of (by decide), rfl, rfl, rfl,
      rfl, rfl, rfl, rfl, by decide, by decide, by decide, rfl⟩

/-! #### Protection -/

/-- The state at rest with another Protection Monitor. -/
def withProt (f : Protection → Protection) : State := { rest with prot := f rest.prot }

theorem witness_ProtectionReadings :
    (let s := offLong (runs .cool)
     Calm s ∧ s.seq.state ≠ .defrostRecovery ∧ s.blower.coldBlow = false ∧ s.seq.minOffFrom + 180000 ≤ s.now ∧
      compressorRunning s = true ∧ s.seq.release.map Release.mode = some .cool ∧ (-30 : Int) ≤ -30 ∧ FreezeWatched s ∧
      (-1 : Int) < 0 ∧ ¬(0 : Int) < 0) ∧
    (let s := offLong (runs .heat)
     Calm s ∧ s.seq.minOffFrom + 180000 ≤ s.now ∧ compressorRunning s = true ∧
      s.seq.release.map Release.mode = some .heat ∧ (700 : Int) ≤ 700 ∧ SupplyWatched s ∧ (600 : Int) < 601) ∧
    (let s := { withProt (fun p => { p with stops := [.coilFreeze] }) with seq := { rest.seq with state := .tripped } }
     Calm s ∧ s.seq.state = .tripped ∧ TripKind.coilFreeze ∈ s.prot.stops ∧ wanted s = 0) ∧
    (∀ k ∈ [TripKind.coilFreeze, .supplyHot],
      let s := { offLong (seqIn .tripped (runs .cool)) with prot := { rest.prot with stops := [k] } }
      Calm s ∧ s.seq.state = .tripped ∧ k ∈ s.prot.stops ∧ s.prot.stops.filter (fun x => decide (x ≠ k)) = [] ∧
        wanted s ≠ 0 ∧ StartFree s) ∧
    (let s := { offLong (runs .heat) with
        blower := { rest.blower with state := .hold, coldBlow := true, given := 500 }
        drive := { rest.drive with dampers := rest.drive.dampers.set 0 ⟨some 200, .idle, .nothing, 0⟩ } }
     Calm s ∧ compressorRunning s = true ∧ s.blower.coldBlow = true ∧ (280 : Int) ≤ 280 ∧ HoldEndsSafely s) ∧
    let s := { seqIn .defrostRecovery (runs .heat) with
      blower := { rest.blower with state := .hold, defrostHold := true }, arb := { rest.arb with deferral := true } }
    Calm s ∧ s.seq.state = .defrostRecovery ∧ (300 : Int) ≤ 300 ∧ HoldEndsSafely s ∧ s.seq.takenStopped = false ∧
      wanted s ≠ 0 ∧
      (let u := offLong { s with seq := { s.seq with takenStopped := true } }
       Calm u ∧ HoldEndsSafely u ∧ u.prot.lockout = false ∧ u.prot.stops = [] ∧ wanted u ≠ 0 ∧ StartFree u) :=
  ⟨⟨calm_of (by decide), by decide, by decide, by decide, by decide, by decide, by decide, ⟨rfl, _, rfl, .inl rfl⟩, by decide,
      by decide⟩,
    ⟨calm_of (by decide), by decide, by decide, by decide, by decide, ⟨rfl, _, rfl, rfl⟩, by decide⟩,
    ⟨calm_of (by decide), by decide, by decide, by decide⟩,
    fun k hk => ⟨calm_of (by revert k; decide), rfl, by simp, by simp, by revert k; decide, startFree_of (by revert k; decide)⟩,
    ⟨calm_of (by decide), by decide, by decide, by decide, .inl (by decide)⟩,
    calm_of (by decide), by decide, by decide, .inr (by decide), by decide, by decide,
    calm_of (by decide), .inr (by decide), by decide, by decide, by decide, startFree_of (by decide)⟩

theorem witness_ProtectionTimers :
    (let s := withProt fun p => { p with belowZeroFrom := some (t0 - 60000), above60From := some (t0 - 60000), limit := 20 }
     Calm s ∧ t0 - 60000 + 60000 ≤ s.now ∧ s.prot.belowZeroFrom = some (t0 - 60000) ∧ s.prot.freezeLim = false ∧
      s.prot.above60From = some (t0 - 60000) ∧ s.prot.supplyLim = false ∧ LimitGood s ∧ 10 < s.prot.limit ∧
      s.seq.state.defrosting = false ∧ wantedOf s.seq.release (s.prot.limit - 10) = 0) ∧
    (let s := { runs .cool with prot :=
        { rest.prot with stepFrom := some (t0 - 60000), freezeLim := true, limit := 20 } }
     Calm s ∧ s.prot.stepFrom = some (t0 - 60000) ∧ s.prot.freezeLim = true ∧ LimitGood s ∧ s.seq.state ≠ .stopped ∧
      FreezeWatched s) ∧
    (let s := { runs .heat with prot := { rest.prot with above60From := some (t0 - 60000), limit := 10 } }
     Calm s ∧ s.prot.above60From = some (t0 - 60000) ∧ s.prot.supplyLim = false ∧ s.prot.freezeLim = false ∧ LimitGood s ∧
      SupplyWatched s ∧ s.prot.limit - 10 = 0) ∧
    (LimitGood (withProt fun p => { p with limit := 0 }) ∧ 0 - 10 = 0) ∧
    (let s := withProt fun p => { p with recoverFrom := some (t0 - 120000), limit := 0 }
     Calm s ∧ s.prot.recoverFrom = some (t0 - 120000) ∧ t0 - 120000 + 120000 ≤ s.now ∧ s.prot.freezeLim = false ∧
      s.prot.supplyLim = false ∧ s.prot.limit ≤ 100 ∧ wantedOf s.seq.release (min 100 (s.prot.limit + 10)) = 0 ∧
      s.seq.state.defrosting = false ∧ s.seq.state ≠ .running ∧ s.seq.state ≠ .stopWait) ∧
    (let s := { offLong (seqIn .stopped (runs .cool)) with
        prot := { rest.prot with recoverFrom := some (t0 - 120000), limit := 10 } }
     Calm s ∧ s.seq.state = .stopped ∧ wantedOf s.seq.release (min 100 (s.prot.limit + 10)) ≠ 0 ∧ StartFree s ∧
      ¬StartFree { s with seq := { s.seq with minOffFrom := t0 - 179999 } }) ∧
    (let s := { withProt (fun p => { p with
          startFailHold := some (t0 - 180000), defrostLongHold := some (t0 - 180000), supplyGoneFrom := some (t0 - 60000)
          stops := [.supplyHot], floatHeld := true }) with
        inp := { rest.inp with floatSince := t0 - 60000 } }
     Calm s ∧ s.prot.startFailHold = some (t0 - 180000) ∧ s.prot.defrostLongHold = some (t0 - 180000) ∧
      t0 - 180000 + 180000 ≤ s.now ∧ s.prot.supplyGoneFrom = some (t0 - 60000) ∧ t0 - 60000 + 60000 ≤ s.now ∧
      TripKind.supplyHot ∈ s.prot.stops ∧ s.prot.floatHeld = true ∧ s.inp.floatClosed = false ∧
      s.inp.floatSince = t0 - 60000 ∧ wanted s = 0) ∧
    (let s := { offLong (runs .heat) with
        prot := { rest.prot with floatHeld := true }, inp := { rest.inp with floatSince := t0 - 60000 } }
     Calm s ∧ s.seq.state = .running ∧ s.seq.minOffFrom + 180000 ≤ s.now ∧ s.prot.floatHeld = true ∧
      s.inp.floatClosed = false ∧ s.inp.floatSince = t0 - 60000) ∧
    (let s := { offLong (seqIn .tripped (runs .heat)) with
        prot := { rest.prot with stops := [.startFail], startFailHold := some (t0 - 180000) } }
     Calm s ∧ s.seq.state = .tripped ∧ TripKind.startFail ∈ s.prot.stops ∧
      s.prot.stops.filter (fun x => decide (x ≠ .startFail)) = [] ∧ wanted s ≠ 0 ∧ StartFree s) ∧
    (let s := withProt fun p => { p with lowFrom := some (t0 - 2000) }
     Calm s ∧ s.prot.supplyLow = false ∧ s.prot.lowFrom = some (t0 - 2000) ∧ t0 - 2000 + 2000 ≤ s.now ∧
      s.seq.state.defrosting = false) ∧
    let s := withProt fun p => { p with supplyLow := true, highFrom := some (t0 - 10000) }
    Calm s ∧ s.prot.supplyLow = true ∧ s.prot.highFrom = some (t0 - 10000) ∧ t0 - 10000 + 10000 ≤ s.now :=
  ⟨⟨calm_of (by decide), by decide, by decide, by decide, by decide, by decide, limitGood_of (by decide), by decide,
      by decide, by decide⟩,
    ⟨calm_of (by decide), by decide, by decide, limitGood_of (by decide), by decide, ⟨rfl, _, rfl, .inl rfl⟩⟩,
    ⟨calm_of (by decide), by decide, by decide, by decide, limitGood_of (by decide), ⟨rfl, _, rfl, rfl⟩, by decide⟩,
    ⟨limitGood_of (by decide), by decide⟩,
    ⟨calm_of (by decide), by decide, by decide, by decide, by decide, by decide, by decide, by decide, by decide, by decide⟩,
    ⟨calm_of (by decide), by decide, by decide, startFree_of (by decide), fun h => absurd h.1 (by decide)⟩,
    ⟨calm_of (by decide), by decide, by decide, by decide, by decide, by decide, by decide, by decide, by decide, by decide,
      by decide⟩,
    ⟨calm_of (by decide), by decide, by decide, by decide, by decide, by decide⟩,
    ⟨calm_of (by decide), by decide, by decide, by decide, by decide, startFree_of (by decide)⟩,
    ⟨calm_of (by decide), by decide, by decide, by decide, by decide⟩, calm_of (by decide), by decide, by decide, by decide⟩

/-- Each way a trip is counted, at its bound. -/
theorem witness_CountedTrips :
    (let s := { runs .cool with seq :=
        { (runs .cool).seq with runStart := none, startFailMs := 59999, startFailFrom := some (t0 - 1) } }
     TripsBy s .startFailTimeout .startFail ∧ Calm s ∧ s.blower.coldBlow = false) ∧
    (let s := { runs .heat with seq :=
        { (runs .heat).seq with state := .defrostPrep, grantSent := true, defrostFrom := some (t0 - 60000) } }
     TripsBy s .defrostPrepTimeout .defrostLong ∧ Calm s ∧ s.seq.state.defrosting = true ∧ s.prot.coil = none) ∧
    (let s := { runs .heat with seq :=
        { (runs .heat).seq with state := .defrostActive, defrostFrom := some (t0 - 900000) } }
     TripsBy s .defrostActiveTimeout .defrostLong ∧ Calm s) ∧
    (let s := withBlower fun b => { b with state := .ramp, settleFrom := some (t0 - 30000) }
     TripsBy s .settleTimeout .blower ∧ Calm s) ∧
    (let s := { runs .cool with inp := { rest.inp with floatClosed := true, floatSince := t0 - 2000 } }
     TripsBy s .floatHeld .float ∧ Calm s) ∧
    (TripsBy (runs .cool) (.indoorCoilConversion (-31)) .coilFreeze ∧ Calm (runs .cool)) ∧
    (let s := { runs .dry with prot :=
        { rest.prot with limit := 10, freezeLim := true, stepFrom := some (t0 - 60000) } }
     TripsBy s .limitStepTime .coilFreeze ∧ Calm s) ∧
    (let s := { runs .test with prot := { rest.prot with limit := 10, belowZeroFrom := some (t0 - 60000) } }
     TripsBy s .freezeTimeExpiry .coilFreeze ∧ Calm s) ∧
    (TripsBy (runs .heat) (.supplyAirConversion 701) .supplyHot ∧ Calm (runs .heat)) ∧
    let s := { runs .heat with blower := { rest.blower with state := .hold, coldBlow := true } }
    TripsBy s (.supplyAirConversion 701) .supplyHot ∧ Calm s ∧ s.blower.coldBlow = true ∧ HoldEndsSafely s := by
  have fw : ∀ (m : Mode) (p : Protection), m = .cool ∨ m = .dry ∨ m = .test →
      FreezeWatched { runs m with prot := p } := fun m p h => ⟨rfl, _, rfl, h⟩
  refine ⟨⟨.startFail (by decide) (by decide) (by decide), calm_of (by decide), by decide⟩,
    ⟨.prep (t0 - 60000) (by decide) (by decide) (by decide) (by decide), calm_of (by decide), by decide, by decide⟩,
    ⟨.active (t0 - 900000) (by decide) (by decide) (by decide), calm_of (by decide)⟩,
    ⟨.blower (t0 - 30000) (by decide) (by decide) (by decide) (by decide), calm_of (by decide)⟩,
    ⟨.float (by decide) (by decide) (by decide), calm_of (by decide)⟩,
    ⟨.coil _ (fw .cool _ (by decide)) (by decide) (by decide), calm_of (by decide)⟩,
    ⟨.freezeStep (t0 - 60000) (fw .dry _ (by decide)) (by decide) (by decide) (by decide) (by decide), calm_of (by decide)⟩,
    ⟨.freezeFirst (t0 - 60000) (fw .test _ (by decide)) (by decide) (by decide) (by decide) (by decide), calm_of (by decide)⟩,
    ⟨.supply _ ⟨rfl, _, rfl, rfl⟩ (by decide) (by decide), calm_of (by decide)⟩,
    .supply _ ⟨rfl, _, rfl, rfl⟩ (by decide) (by decide), calm_of (by decide), by decide, .inr (by decide)⟩

/-- When limiting begins at 10 % the stop ends it at once, and the recovery time begins with that end (10 R154, R155). -/
theorem test_limiting_at_ten_restarts_recovery :
    sees .freezeTimeExpiry
      { runs .cool with prot :=
          { rest.prot with limit := 10, belowZeroFrom := some (t0 - 60000), recoverFrom := some (t0 - 60000) } }
      (fun t => decide (t.prot.limit = 0 ∧ t.prot.freezeLim = false ∧ t.prot.recoverFrom = some t0)) = true := by decide

/-- The compressor under a release, its watch's time and limiting mark set. -/
def watchedUnder (mode : Mode) : State :=
  { runs mode with prot :=
      { rest.prot with
        freezeLim := decide (mode = .cool), belowZeroFrom := if mode = .cool then some t0 else none
        supplyLim := decide (mode = .heat), above60From := if mode = .heat then some t0 else none } }

/-- A release ends a watch for good, also where the next one begins it again (10 R153). -/
theorem test_release_restarts_watch :
    let s := releasePlan { Plan.empty with mode := .cool, c := 50 } (releasePlan Plan.empty (watchedUnder .cool))
    freezeWatch s = true ∧ s.prot.belowZeroFrom = none ∧ s.prot.freezeLim = false := by decide

theorem witness_ProtectionTimers_release :
    FreezeWatched (seqRelease ⟨.dry, 50, none⟩ (watchedUnder .cool)) ∧
      ¬FreezeWatched (seqRelease ⟨.idle, 0, none⟩ (watchedUnder .cool)) ∧
      SupplyWatched (seqRelease ⟨.heat, 30, none⟩ (watchedUnder .heat)) ∧
      ¬SupplyWatched (seqRelease ⟨.cool, 50, none⟩ (watchedUnder .heat)) :=
  ⟨⟨rfl, _, rfl, .inr (.inl rfl)⟩, fun ⟨_, r, h, m⟩ => by cases h; simp at m, ⟨rfl, _, rfl, rfl⟩,
    fun ⟨_, r, h, m⟩ => by cases h; simp at m⟩

/-- A STAT with an outdoor code that is new, that is the same as before, and with none. -/
theorem witness_CountedTrips_outdoor :
    let s := sends .stat (offLong (runs .cool))
    let r := { statRunning with trip := some .overcurrent }
    let before := { s with
      link := { s.link with lastStatus := some r }
      prot := { s.prot with stops := [.overcurrent] }
      seq := { s.seq with state := .tripped } }
    (calmly s = true ∧ s.link.frame = some ⟨.stat, [], t0 - 20, t0, []⟩ ∧ opened s ⟨.stat, [], t0 - 20, t0, []⟩ = true ∧
      s.link.wakeRound = false ∧
      goodData 0x52 10 ([] ++ responseOf 0x52 (statBytes r)) = some (statBytes r) ∧ statOf (statBytes r) = some r ∧
      s.op.state ≠ .resting ∧ s.blower.coldBlow = false ∧ s.seq.state = .running ∧ s.seq.minOffFrom + 180000 ≤ s.now ∧
      s.link.lastStatus.bind StatRecord.trip ≠ some .overcurrent ∧ TripKind.overcurrent ∉ s.prot.stops ∧
      r.compressor ≠ .stopped ∧ r.defrostReq = false) ∧
    (calmly before = true ∧ before.link.lastStatus.bind StatRecord.trip = r.trip ∧ before.prot.stops ≠ [] ∧
      before.seq.state = .tripped) ∧
    (carries statReady = true ∧ wanted before ≠ 0 ∧
      freely { before with link := { before.link with lastStatus := some statReady } } = true) := by decide

/-! #### The operating states -/

/-- The state at rest with another Operating State Controller, and the button contact open or closed for 50 ms. -/
def withOp (closed : Bool) (f : Operating → Operating) : State :=
  { rest with op := f rest.op, inp := { rest.inp with buttonClosed := closed, buttonSince := t0 - 50 } }

theorem witness_OperatingRows_standDown :
    (let s := { withOp false (fun o => { o with idleFrom := some (t0 - 1800000) }) with
        link := { rest.link with state := .active, lastStatus := some statReady } }
     Calm s ∧ s.op.idleFrom = some (t0 - 1800000) ∧ t0 - 1800000 + 1800000 ≤ s.now ∧ s.op.idleDone = false ∧
      s.op.notice = false ∧ s.op.state = .off ∧ s.arb.mode = .idle ∧ s.seq.state = .stopped ∧ s.link.state = .active ∧
      s.arb.deferral = false ∧ s.cfg.ambientGate = some 50 ∧ s.link.lastStatus = some statReady ∧
      statReady.ambient = some 50) ∧
    let s := withOp false fun o => { o with notice := true, noticeFrom := some (t0 - 60000) }
    Calm s ∧ s.op.notice = true ∧ s.op.noticeFrom = some (t0 - 60000) ∧ t0 - 60000 + 60000 ≤ s.now :=
  ⟨⟨calm_of (by decide), by decide, by decide, by decide, by decide, by decide, by decide, by decide, by decide, by decide,
    by decide, by decide, by decide⟩, calm_of (by decide), by decide, by decide, by decide⟩

theorem witness_OperatingRows_button :
    (let s := withOp true fun o => o
     Calm s ∧ s.inp.buttonClosed = true ∧ s.op.accepted = !true ∧ s.inp.buttonSince + 50 ≤ s.now ∧ s.op.state = .off) ∧
    (let s := withOp true fun o => { o with state := .test }
     Calm s ∧ s.op.state = .test ∧ s.seq.state.defrosting = false) ∧
    (let s := withOp false fun o => { o with accepted := true, button := .pressed, pressFrom := some (t0 - 50) }
     Calm s ∧ s.inp.buttonClosed = false ∧ s.op.accepted = !false ∧ s.inp.buttonSince + 50 ≤ s.now ∧ s.op.state = .off ∧
      s.seq.state.defrosting = false) ∧
    (let s := withOp true fun o => { o with
        accepted := true, button := .pressed, pressFrom := some (t0 - 5000), state := .on, request := .on }
     Calm s ∧ s.op.button = .pressed ∧ s.op.pressFrom = some (t0 - 5000) ∧ t0 - 5000 + s.cfg.buttonHold * 1000 ≤ s.now ∧
      (s.op.request = .on ↔ s.op.state = .on) ∧ s.now < s.seq.minOffFrom + 180000) ∧
    (let s := { offLong (runs .cool) with op :=
        { rest.op with
          accepted := true, button := .pressed, pressFrom := some (t0 - 5000), state := .on, request := .on } }
     Calm s ∧ s.op.button = .pressed ∧ s.op.pressFrom = some (t0 - 5000) ∧ t0 - 5000 + s.cfg.buttonHold * 1000 ≤ s.now ∧
      (s.op.request = .on ↔ s.op.state = .on) ∧ s.seq.state = .running ∧ s.seq.minOffFrom + 180000 ≤ s.now) :=
  ⟨⟨calm_of (by decide), by decide, by decide, by decide, by decide⟩, ⟨calm_of (by decide), by decide, by decide⟩,
    ⟨calm_of (by decide), by decide, by decide, by decide, by decide, by decide⟩,
    ⟨calm_of (by decide), by decide, by decide, by decide, by decide, by decide⟩,
    calm_of (by decide), by decide, by decide, by decide, by decide, by decide, by decide⟩

theorem witness_OperatingRows_test :
    (let s := withOp false fun o => { o with state := .test, testFrom := some (t0 - 1200000) }
     Calm s ∧ s.op.state = .test ∧ s.op.testFrom = some (t0 - 1200000) ∧ t0 - 1200000 + 1200000 ≤ s.now ∧
      s.seq.state.defrosting = false) ∧
    let s := { State.reset with
      now := t0
      inp := { State.reset.inp with buttonSince := t0 - 50 }
      op := { State.reset.op with button := .pressed, accepted := true, pressFrom := some (t0 - 5000) } }
    s.op.state = .startup ∧ s.drive.resetHomes ≠ [] ∧ s.drive.queue = [] ∧ s.todo = Todo.clear ∧ s.co.phase = .applied ∧
      s.co.held = none ∧ s.op.testPhase = .idle ∧ s.op.button = .pressed ∧ s.inp.buttonClosed = false ∧
      s.op.accepted = !false ∧ s.inp.buttonSince + 50 ≤ s.now ∧ s.op.pressFrom = some (t0 - 5000) ∧
      t0 - 5000 + s.cfg.buttonHold * 1000 ≤ s.now :=
  ⟨⟨calm_of (by decide), by decide, by decide, by decide, by decide⟩, by decide⟩

theorem witness_ServiceIsEnded :
    let s := withOp true fun o => { o with testPhase := .preparing }
    let u := withOp true fun o => { o with testPhase := .opening, testDampers := [0], state := .on, request := .on }
    let v := withOp true fun o => { o with state := .test, testFrom := some t0 }
    let calms := fun x : State => Calm { x with op := { x.op with testPhase := .idle } } ∧ x.seq.state.defrosting = false
    (calms s ∧ s.op.testPhase ≠ .idle ∧ s.op.state = .off ∧ s.inp.buttonClosed = true ∧ s.op.accepted = false ∧
      s.inp.buttonSince + 50 ≤ s.now ∧ s.port.service = none ∧ OpRequest.on ≠ s.op.request) ∧
      (calms u ∧ u.op.testPhase ≠ .idle ∧ u.op.state = .on ∧ OpRequest.off ≠ u.op.request) ∧
      calms v ∧ v.op.state = .test ∧ v.op.testPhase = .idle ∧ v.port.service = none :=
  ⟨⟨⟨calm_of (by decide), by decide⟩, by decide, by decide, by decide, by decide, by decide, by decide, by decide⟩,
    ⟨⟨calm_of (by decide), by decide⟩, by decide, by decide, by decide⟩, ⟨calm_of (by decide), by decide⟩, by decide, by decide,
    by decide⟩

/-- The state at rest in RESTING under a request, with the button read closed and pressed since before. -/
def resting (request : OpRequest) (accepted : Bool) : State :=
  { withOp true (fun o => { o with
      state := .resting, request := request, accepted := accepted, button := if accepted then .pressed else .released
      pressFrom := if accepted then some (t0 - 5000) else none }) with
    link := { rest.link with state := .slow, lowAt := some (t0 - 2) } }

theorem witness_RestingWakesAndTestOpens_wakes :
    (Calm (resting .on false) ∧ (resting .on false).op.state = .resting ∧ (resting .on false).seq.state = .stopped ∧
      (resting .on false).link.lowAt = some (t0 - 2) ∧ t0 - 2 + 2 ≤ (resting .on false).now ∧
      (resting .on false).port.service = none ∧ OpRequest.off ≠ (resting .on false).op.request ∧
      (resting .on false).inp.buttonClosed = true ∧ (resting .on false).op.accepted = false ∧
      (resting .on false).inp.buttonSince + 50 ≤ (resting .on false).now) ∧
    (WakingWrite (resting .on false) (.setZone (byte (7 : ZoneId).val) 0 0 0 0) ∧
      WakingWrite (resting .on false) (.configSystem keepAll none) ∧
      WakingWrite (resting .on false) (.configZoneConfigure (byte (7 : ZoneId).val) 20 20 8 31) ∧
      WakingWrite (resting .on false) (.configZoneUnconfigure (byte (0 : ZoneId).val)) ∧
      WakingWrite (resting .on false) (.setSystem 0xFE (byte Policy.fan.code) (flagByte false))) ∧
    Calm (resting .off true) ∧ (resting .off true).op.request = .off ∧ (resting .off true).op.button = .pressed ∧
      (resting .off true).op.pressFrom = some (t0 - 5000) ∧
      t0 - 5000 + (resting .off true).cfg.buttonHold * 1000 ≤ (resting .off true).now ∧
      (resting .off true).now < (resting .off true).seq.minOffFrom + 180000 :=
  ⟨⟨calm_of (by decide), by decide, by decide, by decide, by decide, by decide, by decide, by decide, by decide, by decide⟩,
    ⟨.setZone _ _ _ _ _, .configSystem _ _ _ rfl, .configure _ _ _ _ _ ⟨20, 20, 8, some 31⟩ (by decide) (by decide),
      .unconfigure _ (by decide) (by decide), .setSystem _ _ (by decide) (by decide)⟩,
    calm_of (by decide), by decide, by decide, by decide, by decide, by decide⟩

/-- The state at rest with zone 0 ACTIVE and its damper's record, at the end of PREPARING or in OPENING. -/
def testing (phase : TestPhase) (x : Damper) (slot : Option Slot) : State :=
  { rest with
    op := { rest.op with testPhase := phase, testDampers := if phase = .opening then [0] else [] }
    seq := { rest.seq with minOffFrom := t0 - 180000 }
    drive := { rest.drive with dampers := rest.drive.dampers.set 0 x, slot1 := slot } }

/-- What those states share. -/
def testQuiet (s : State) : Bool :=
  airily s && decide (s.todo = Todo.clear ∧ s.co.phase = .applied ∧ s.co.incoming = none ∧ s.co.held = none ∧
    s.drive.queue = [] ∧ s.eval.lastPass = some t0 ∧ s.now < t0 + 5000 ∧ wakeRoundDue s = false ∧ s.op.state = .off ∧
    s.inp.windingOpen = Eight.all false)

theorem witness_RestingWakesAndTestOpens_opens :
    (let s := testing .preparing ⟨some 200, .idle, .nothing, 0⟩ none
     testQuiet s = true ∧ s.op.testPhase = .preparing ∧ s.seq.state = .stopped ∧ s.seq.minOffFrom + 180000 ≤ s.now ∧
      s.seq.minOffDone = false ∧
      ∀ z : ZoneId, stateOf s z = .active ∧ (s.zst.get z).unconf = false →
        (damperOf s z).motion = .idle ∧ (damperOf s z).position = some 200 ∧ s.drive.slotOf z = none) ∧
    (let s := testing .preparing ⟨some 199, .idle, .nothing, 0⟩ none
     testQuiet s = true ∧ stateOf s 0 = .active ∧ (s.zst.get 0).unconf = false ∧ (damperOf s 0).position = some 199 ∧
      ∀ z : ZoneId, stateOf s z = .active → (damperOf s z).motion = .idle ∧ s.drive.slotOf z = none) ∧
    (let s := testing .opening ⟨some 200, .moving, .nothing, 0⟩ (some ⟨0, .move 200, 5, t0, true⟩)
     testQuiet s = true ∧ s.op.testPhase = .opening ∧ 0 ∈ s.op.testDampers ∧ (∀ z ∈ s.op.testDampers, stateOf s z = .active) ∧
      s.drive.slotOf 0 = some ⟨0, .move 200, 5, t0, true⟩ ∧ (damperOf s 0).followOn = .nothing ∧
      (damperOf s 0).position = some 200 ∧ (∀ z ∈ s.op.testDampers, z = 0 ∨ z ∈ s.op.opened)) ∧
    (let s := testing .opening ⟨some 200, .moving, .nothing, 0⟩ (some ⟨0, .move 200, 5, t0, true⟩)
     let s := { s with op := { s.op with testDampers := [0, 3] }, zst := s.zst.set 3 ⟨.active, false⟩ }
     testQuiet s = true ∧ (∀ z ∈ s.op.testDampers, stateOf s z = .active) ∧ 3 ∈ s.op.testDampers ∧ 3 ∉ s.op.opened) ∧
    let s := testing .opening ⟨none, .homing, .nothing, 1⟩ (some ⟨0, .home, 220, t0, false⟩)
    testQuiet s = true ∧ s.drive.slotOf 0 = some ⟨0, .home, 220, t0, false⟩ ∧ 0 ∉ s.op.opened :=
  ⟨by decide, by decide, by decide, by decide, by decide⟩

/-- A long press in RESTING, OFF and ON after the minimum-off time, with the damper of zone 0 open and with it closed. -/
theorem witness_RestingWakesAndTestOpens_long : ∀ state ∈ [OpState.resting, .off, .on], ∀ u ∈ [199, 200],
    let s := testing .idle ⟨some u, .idle, .nothing, 0⟩ none
    let s := { s with op :=
      { s.op with
        state := state, request := if state = .on then .on else .off, accepted := true, button := .pressed
        pressFrom := some (t0 - 5000) } }
    airily s = true ∧ { s with op := rest.op } = { testing .idle ⟨some u, .idle, .nothing, 0⟩ none with op := rest.op } ∧
      t0 - 5000 + s.cfg.buttonHold * 1000 ≤ s.now ∧ s.link.lowAt = none ∧ s.seq.state = .stopped ∧
      s.seq.minOffFrom + 180000 ≤ s.now ∧ (s.op.request = .on ↔ state = .on) ∧ stateOf s 0 = .active ∧
      (s.zst.get 0).unconf = false ∧
      ∀ z : ZoneId, stateOf s z = .active →
        (damperOf s z).motion = .idle ∧ (damperOf s z).position ≠ none ∧ s.drive.slotOf z = none := by decide

end Sys2Proof.Tests
end

section
/-! The setpoints a SET_ZONE request leaves (01 R7, R8), by which of the two it carries. -/

namespace Sys2Proof.Machine

/-! ### Operands -/

theorem carriedTemp_of_eq {w : Word} (h : w = 0x7FFE) : carriedTemp w = none := if_pos h

theorem carriedTemp_of_ne {w : Word} (h : w ≠ 0x7FFE) : carriedTemp w = some w.toInt := if_neg h

@[simp] theorem orInForce_some {α : Type} (a b : α) : orInForce a (some b) = b := rfl

@[simp] theorem orInForce_none {α : Type} (a : α) : orInForce a none = a := rfl

theorem clampInt_eq_max_min {a b : Int} (x : Int) (h : a ≤ b) : clampInt x a b = max a (min b x) := by
  unfold clampInt
  split
  · omega
  · split <;> omega

/-! ### The result of SET_ZONE -/

section
variable {old : Setpoints} {coolW heatW : Word} (unconf : Bool) (dryW : Word) (park : Byte)

/-- A cool setpoint carried stands, whether or not a heat setpoint is carried too: the heat setpoint gives way. -/
theorem setZoneResult_of_cool_carried {c : Int} (hc : carriedTemp coolW = some c) :
    (setZoneResult old unconf coolW heatW dryW park).1.cool = clampInt c 160 320 ∧
      (setZoneResult old unconf coolW heatW dryW park).1.heat =
        min (orInForce old.heat ((carriedTemp heatW).map fun t => clampInt t 100 300)) (clampInt c 160 320 - 10) := by
  generalize hx : orInForce old.heat ((carriedTemp heatW).map fun t => clampInt t 100 300) = heat0
  by_cases close : clampInt c 160 320 < heat0 + 10 <;> simp [setZoneResult, hc, hx, close] <;> omega

/-- A heat setpoint carried alone stands: the cool setpoint in force gives way. -/
theorem setZoneResult_of_heat_only {h : Int} (hc : carriedTemp coolW = none) (hh : carriedTemp heatW = some h) :
    (setZoneResult old unconf coolW heatW dryW park).1.heat = clampInt h 100 300 ∧
      (setZoneResult old unconf coolW heatW dryW park).1.cool = max old.cool (clampInt h 100 300 + 10) := by
  by_cases close : old.cool < clampInt h 100 300 + 10 <;> simp [setZoneResult, hc, hh, close] <;> omega

/-- With neither carried, setpoints that keep their gap stay. -/
theorem setZoneResult_of_neither (hc : carriedTemp coolW = none) (hh : carriedTemp heatW = none)
    (gap : old.heat + 10 ≤ old.cool) :
    (setZoneResult old unconf coolW heatW dryW park).1.cool = old.cool ∧
      (setZoneResult old unconf coolW heatW dryW park).1.heat = old.heat := by
  have apart : ¬old.cool < old.heat + 10 := by omega
  simp [setZoneResult, hc, hh, apart]

end

/-- Settles O20, by which of the two setpoints the request carries: in each case the result is an expression in the
clamped values and those in force, from which the gap and the ranges follow. -/
theorem setpointsKeepTheirGap : Obligations.SetpointsKeepTheirGap := by
  unfold Obligations.SetpointsKeepTheirGap
  intro old unconf coolW heatW dryW park ⟨cool_lo, cool_hi, heat_lo, heat_hi, gap, _⟩
  have cool_clamp := clampInt_eq_max_min coolW.toInt (show (160 : Int) ≤ 320 by decide)
  have heat_clamp := clampInt_eq_max_min heatW.toInt (show (100 : Int) ≤ 300 by decide)
  by_cases hc : coolW = 0x7FFE
  · by_cases hh : heatW = 0x7FFE
    · obtain ⟨cool, heat⟩ :=
        setZoneResult_of_neither unconf dryW park (carriedTemp_of_eq hc) (carriedTemp_of_eq hh) gap
      refine ⟨(absurd hc ·), fun _ => (absurd hh ·), (absurd hc ·), fun _ _ => ⟨cool, heat⟩, ?_⟩
      omega
    · obtain ⟨heat, cool⟩ :=
        setZoneResult_of_heat_only (old := old) unconf dryW park (carriedTemp_of_eq hc) (carriedTemp_of_ne hh)
      rw [heat_clamp] at heat cool
      refine ⟨(absurd hc ·), fun _ _ => ⟨heat, cool⟩, (absurd hc ·), fun _ h => absurd h hh, ?_⟩
      omega
  · obtain ⟨cool, heat⟩ :=
      setZoneResult_of_cool_carried (old := old) (heatW := heatW) unconf dryW park (carriedTemp_of_ne hc)
    rw [cool_clamp] at heat cool
    by_cases hh : heatW = 0x7FFE
    · rw [carriedTemp_of_eq hh, Option.map_none, orInForce_none] at heat
      refine ⟨fun _ _ => ⟨cool, heat⟩, (absurd · hc), fun _ h => absurd hh h, (absurd · hc), ?_⟩
      omega
    · rw [carriedTemp_of_ne hh, Option.map_some, orInForce_some, heat_clamp] at heat
      refine ⟨fun _ h => absurd h hh, (absurd · hc), fun _ _ => ⟨cool, heat⟩, (absurd · hc), ?_⟩
      omega

end Sys2Proof.Machine
end

section
/-! The plan a pass builds, stage by stage (03 R46 to R60): its airflows, its openings and its capacity. -/

namespace Sys2Proof.Machine

/-! ### Sums, floors and ceilings over eight zones -/

theorem Eight.sum_eq (e : Eight Nat) : e.sum = ∑ z, e.get z := (Fin.sum_univ_eight e.get).symm

theorem Eight.sum_ofFn (f : ZoneId → Nat) : (Eight.ofFn f).sum = ∑ z, f z := (Fin.sum_univ_eight f).symm

theorem Eight.sum_set_add (e : Eight Nat) (z : ZoneId) (n : Nat) : (e.set z (e.get z + n)).sum = e.sum + n := by
  have split_at (i : ZoneId) : (e.set z (e.get z + n)).get i = e.get i + if i = z then n else 0 := by
    rw [Eight.get_set]
    split <;> simp_all
  simp [Eight.sum_eq, split_at, Finset.sum_add_distrib]

theorem sum_div_le_div_sum (f : ZoneId → Nat) {n : Nat} (hn : 0 < n) : ∑ z, f z / n ≤ (∑ z, f z) / n := by
  rw [Nat.le_div_iff_mul_le hn, Finset.sum_mul]
  exact Finset.sum_le_sum fun z _ => Nat.div_mul_le_self (f z) n

/-- Flooring loses less than 1 in each of eight zones, so at most 7 together (03 R50). -/
theorem div_sum_le_sum_div_add (f : ZoneId → Nat) {n : Nat} (hn : 0 < n) : (∑ z, f z) / n ≤ ∑ z, f z / n + 7 := by
  have each (z : ZoneId) : f z ≤ f z / n * n + (n - 1) := by
    have := Nat.div_add_mod' (f z) n
    have := Nat.mod_lt (f z) hn
    omega
  have total : ∑ z, f z ≤ (∑ z, f z / n) * n + 8 * (n - 1) := by
    simpa [Finset.sum_add_distrib, Finset.sum_mul] using Finset.sum_le_sum fun z (_ : z ∈ Finset.univ) => each z
  rw [← Nat.lt_succ_iff, Nat.div_lt_iff_lt_mul hn]
  calc ∑ z, f z ≤ (∑ z, f z / n) * n + 8 * (n - 1) := total
    _ < (∑ z, f z / n) * n + 8 * n := by omega
    _ = (∑ z, f z / n + 7 + 1) * n := by ring

theorem ceilDiv_le_iff {a b c : Nat} (hb : 0 < b) : ceilDiv a b ≤ c ↔ a ≤ b * c := ceilDiv_le_iff_le_mul hb

theorem lt_ceilDiv_iff {a b c : Nat} (hb : 0 < b) : c < ceilDiv a b ↔ b * c < a := by
  simpa using (ceilDiv_le_iff (a := a) (c := c) hb).not

/-! ### The fill of stage 3 -/

section
variable (limit : ZoneId → Nat)

/-- What a fill takes from the shortfall it adds to the airflows. -/
theorem fill_conserves (zs : List ZoneId) (short : Nat) (air : Eight Nat) :
    (fill limit zs short air).1 + (fill limit zs short air).2.sum = short + air.sum := by
  induction zs generalizing short air with
  | nil => rfl
  | cons z rest ih =>
    rw [fill, ih, Eight.sum_set_add]
    omega

theorem fill_short_le (zs : List ZoneId) (short : Nat) (air : Eight Nat) :
    (fill limit zs short air).1 ≤ short := by
  induction zs generalizing short air with
  | nil => exact le_rfl
  | cons z rest ih => exact (ih _ _).trans (Nat.sub_le _ _)

theorem fill_get_of_notMem {zs : List ZoneId} {z : ZoneId} (h : z ∉ zs) (short : Nat) (air : Eight Nat) :
    (fill limit zs short air).2.get z = air.get z := by
  induction zs generalizing short air with
  | nil => rfl
  | cons y rest ih =>
    obtain ⟨ne, notMem⟩ := not_or.mp (List.mem_cons.not.mp h)
    rw [fill, ih notMem, Eight.get_set_ne _ _ ne]

/-- A fill keeps every airflow within a bound that its limits keep. -/
theorem fill_get_le {bound : ZoneId → Nat} (hl : ∀ z, limit z ≤ bound z) (zs : List ZoneId) (short : Nat)
    (air : Eight Nat) (ha : ∀ z, air.get z ≤ bound z) (z : ZoneId) :
    (fill limit zs short air).2.get z ≤ bound z := by
  induction zs generalizing short air with
  | nil => exact ha z
  | cons y rest ih =>
    refine ih _ _ fun i => ?_
    rw [Eight.get_set]
    split
    case isTrue h =>
      subst h
      have := hl i
      have := ha i
      omega
    case isFalse => exact ha i

end

theorem mem_insertBy {before : ZoneId → ZoneId → Bool} {x z : ZoneId} {zs : List ZoneId} :
    x ∈ insertBy before z zs ↔ x = z ∨ x ∈ zs := by
  induction zs with
  | nil => simp [insertBy]
  | cons y rest ih =>
    rw [insertBy]
    split
    · simp
    · simp [ih, or_left_comm]

theorem mem_sortBy {before : ZoneId → ZoneId → Bool} {x : ZoneId} {zs : List ZoneId} :
    x ∈ sortBy before zs ↔ x ∈ zs := by
  induction zs with
  | nil => rfl
  | cons y rest ih => simp [sortBy, mem_insertBy, ih]

/-! ### The ranges of a plan view's zones -/

section
variable {v : PlanView} (hv : PlanViewGood v) (z : ZoneId)
include hv

theorem PlanViewGood.le_da : 20 ≤ (v.zones.get z).da := by
  obtain ⟨_, _, _, zones⟩ := hv
  exact (zones z).1

theorem PlanViewGood.ra_le_da : (v.zones.get z).ra ≤ (v.zones.get z).da := by
  obtain ⟨_, _, _, zones⟩ := hv
  obtain ⟨_, ra_le, _⟩ := zones z
  exact ra_le

theorem PlanViewGood.d_le : (v.zones.get z).d ≤ 100 := by
  obtain ⟨_, _, _, zones⟩ := hv
  obtain ⟨_, _, d_le⟩ := zones z
  exact d_le

end

/-! ### Who takes part (03 R44, R45, R52) -/

section
variable {v : PlanView} {z : ZoneId}

@[simp] theorem PlanView.mem_members : z ∈ v.members ↔ v.k z = true := by simp [PlanView.members]

@[simp] theorem PlanView.mem_overblowOrder : z ∈ v.overblowOrder ↔ v.k z = true := by
  unfold PlanView.overblowOrder
  split
  · exact PlanView.mem_members
  · rw [mem_sortBy, PlanView.mem_members]

@[simp] theorem PlanView.mem_reliefOrder : z ∈ v.reliefOrder ↔ v.isRelief z = true := by
  simp [PlanView.reliefOrder, mem_sortBy]

theorem PlanView.k_of_inactive (h : (v.zones.get z).active = false) : v.k z = false := by
  simp [PlanView.k, inK, ZoneView.takesPart, h]

theorem PlanView.isRelief_of_inactive (h : (v.zones.get z).active = false) : v.isRelief z = false := by
  simp [PlanView.isRelief, ZoneView.takesPart, h]

/-! ### Limits and stages 1 and 2 (03 R48 to R50) -/

theorem PlanView.f_range (v : PlanView) : 70 ≤ v.f ∧ v.f ≤ 100 := by
  unfold PlanView.f
  split
  · split <;> decide
  · decide
  · decide

theorem PlanView.qlo_le_qhi (hv : PlanViewGood v) : v.qlo ≤ v.qhi := by
  obtain ⟨_, qsysMin_le_qhi, _, _⟩ := hv
  have qlo_le : v.qlo ≤ v.qsysMin :=
    Nat.div_le_of_le_mul (by rw [mul_comm]; exact Nat.mul_le_mul_right _ v.f_range.2)
  exact qlo_le.trans qsysMin_le_qhi

theorem PlanView.qref_pos (hv : PlanViewGood v) : 0 < v.qref := by
  obtain ⟨_, _, qrated, _⟩ := hv
  have : 300 * 70 ≤ v.qrated * v.f := Nat.mul_le_mul qrated v.f_range.1
  exact Nat.div_pos (by omega) (by decide)

theorem PlanView.dOf_le (hv : PlanViewGood v) (z : ZoneId) : v.dOf z ≤ 100 := by
  unfold PlanView.dOf
  split
  · decide
  · exact hv.d_le z

theorem PlanView.raw_of_not_k (h : v.k z = false) : v.raw z = 0 := by simp [PlanView.raw, h]

theorem PlanView.raw_le_da (hv : PlanViewGood v) (z : ZoneId) : v.raw z ≤ (v.zones.get z).da := by
  have share : (v.zones.get z).da * v.dOf z * v.f / 10000 ≤ (v.zones.get z).da :=
    Nat.div_le_of_le_mul <| calc
      (v.zones.get z).da * v.dOf z * v.f ≤ (v.zones.get z).da * 100 * 100 :=
        Nat.mul_le_mul (Nat.mul_le_mul_left _ (PlanView.dOf_le hv z)) v.f_range.2
      _ = 10000 * (v.zones.get z).da := by ring
  unfold PlanView.raw
  split
  · split
    · exact le_rfl
    · exact max_le share (hv.le_da z)
  · exact Nat.zero_le _

theorem PlanView.le_raw_of_k (hv : PlanViewGood v) (h : v.k z = true) : 20 ≤ v.raw z := by
  rw [PlanView.raw, if_pos h]
  split
  · exact hv.le_da z
  · exact le_max_right _ _

theorem PlanView.rawSum_eq (v : PlanView) : v.rawSum = ∑ z, v.raw z := Eight.sum_ofFn v.raw

theorem PlanView.le_rawSum (hv : PlanViewGood v) (h : v.members ≠ []) : 20 ≤ v.rawSum := by
  obtain ⟨z, mem⟩ := List.exists_mem_of_ne_nil _ h
  rw [PlanView.rawSum_eq]
  exact (PlanView.le_raw_of_k hv (PlanView.mem_members.mp mem)).trans
    (Finset.single_le_sum (fun _ _ => Nat.zero_le _) (Finset.mem_univ z))

theorem PlanView.a2_le_raw (v : PlanView) (z : ZoneId) : v.a2 z ≤ v.raw z := by
  unfold PlanView.a2
  split
  case isTrue h => exact Nat.div_le_of_le_mul (by rw [mul_comm]; exact Nat.mul_le_mul_right _ h.le)
  case isFalse => exact le_rfl

theorem PlanView.a2Sum_of_uncapped (h : v.rawSum ≤ v.qhi) : v.a2Sum = v.rawSum := by
  have a2_eq : v.a2 = v.raw := funext fun z => if_neg h.not_gt
  rw [PlanView.a2Sum, a2_eq, PlanView.rawSum]

/-- Under the ceiling ΣA2 is Qhi but for what flooring loses (03 R50). -/
theorem PlanView.a2Sum_of_ceiling (h : v.qhi < v.rawSum) : v.a2Sum ≤ v.qhi ∧ v.qhi ≤ v.a2Sum + 7 := by
  have rawSum_pos : 0 < v.rawSum := by omega
  have a2Sum_eq : v.a2Sum = ∑ z, v.raw z * v.qhi / v.rawSum := by
    simp [PlanView.a2Sum, PlanView.a2, Eight.sum_ofFn, h]
  have unfloored : (∑ z, v.raw z * v.qhi) / v.rawSum = v.qhi := by
    rw [← Finset.sum_mul, ← PlanView.rawSum_eq, Nat.mul_div_cancel_left _ rawSum_pos]
  have upper := sum_div_le_div_sum (fun z => v.raw z * v.qhi) rawSum_pos
  have lower := div_sum_le_sum_div_add (fun z => v.raw z * v.qhi) rawSum_pos
  omega

theorem PlanView.a2Sum_le_qhi (v : PlanView) : v.a2Sum ≤ v.qhi := by
  by_cases h : v.qhi < v.rawSum
  · exact (PlanView.a2Sum_of_ceiling h).1
  · rw [PlanView.a2Sum_of_uncapped (not_lt.mp h)]
    exact not_lt.mp h

/-! ### Stage 3 (03 R51 to R54) -/

/-- The airflows of stage 3 and the shortfall left make up ΣA2 and the shortfall. -/
theorem PlanView.filled_conserves (v : PlanView) : v.filled.1 + v.filled.2.sum = v.short + v.a2Sum := by
  rw [PlanView.filled, fill_conserves, PlanView.overblown, fill_conserves, PlanView.a2Sum]

theorem PlanView.filled_short_le (v : PlanView) : v.filled.1 ≤ v.short :=
  (fill_short_le _ _ _ _).trans (fill_short_le _ _ _ _)

theorem PlanView.filled_le_da (hv : PlanViewGood v) (z : ZoneId) : v.filled.2.get z ≤ (v.zones.get z).da := by
  have a2_le (i : ZoneId) : (Eight.ofFn v.a2).get i ≤ (v.zones.get i).da := by
    rw [Eight.get_ofFn]
    exact (v.a2_le_raw i).trans (PlanView.raw_le_da hv i)
  exact fill_get_le _ hv.ra_le_da _ _ _ (fill_get_le _ (fun _ => le_rfl) _ _ _ a2_le) z

/-- A zone that is not ACTIVE has no A2, and neither fill takes it (03 R44). -/
theorem PlanView.filled_of_inactive (h : (v.zones.get z).active = false) : v.filled.2.get z = 0 := by
  have not_k := PlanView.k_of_inactive h
  have no_a2 : v.a2 z = 0 := Nat.le_zero.mp (PlanView.raw_of_not_k not_k ▸ v.a2_le_raw z)
  rw [PlanView.filled, fill_get_of_notMem _ (by simp [PlanView.isRelief_of_inactive h]), PlanView.overblown,
    fill_get_of_notMem _ (by simp [not_k]), Eight.get_ofFn, no_a2]

end

/-! ### The plan built (03 R46, R47, R54) -/

section
variable {v : PlanView}

theorem buildPlan_of_no_members (h : v.members = []) : buildPlan v = holdingPlan v := if_pos h

theorem buildPlan_of_members (h : v.members ≠ []) : buildPlan v = stagedPlan v := if_neg h

@[simp] theorem holdingPlan_zone (v : PlanView) (z : ZoneId) :
    (holdingPlan v).zones.get z = ⟨holdingRole (v.zones.get z), 0, 0⟩ := Eight.get_ofFn _ z

@[simp] theorem stagedPlan_zone (v : PlanView) (z : ZoneId) :
    (stagedPlan v).zones.get z = ⟨v.role (v.filled.2.get z) z, v.filled.2.get z,
      openingOf (v.filled.2.get z) (v.zones.get z).da⟩ := Eight.get_ofFn _ z

theorem holdingRole_eq_excluded {z : ZoneView} : holdingRole z = .excluded ↔ z.active = false := by
  cases active : z.active <;> cases unconf : z.unconf <;> simp [holdingRole, active, unconf]

theorem PlanView.role_eq_excluded {air : Nat} {z : ZoneId} :
    v.role air z = .excluded ↔ (v.zones.get z).active = false := by
  cases active : (v.zones.get z).active
  · simp [PlanView.role, active]
  · simp only [PlanView.role, active, Bool.not_true, Bool.false_eq_true, if_false]
    split_ifs <;> decide

theorem buildPlan_role_excluded (v : PlanView) (z : ZoneId) :
    ((buildPlan v).zones.get z).role = .excluded ↔ (v.zones.get z).active = false := by
  by_cases h : v.members = []
  · simp [buildPlan_of_no_members h, holdingRole_eq_excluded]
  · simp [buildPlan_of_members h, PlanView.role_eq_excluded]

theorem buildPlan_air_of_inactive {z : ZoneId} (inactive : (v.zones.get z).active = false) :
    ((buildPlan v).zones.get z).air = 0 := by
  by_cases h : v.members = []
  · simp [buildPlan_of_no_members h]
  · simp [buildPlan_of_members h, PlanView.filled_of_inactive inactive]

theorem buildPlan_air_le_da (hv : PlanViewGood v) (z : ZoneId) :
    ((buildPlan v).zones.get z).air ≤ (v.zones.get z).da := by
  by_cases h : v.members = []
  · simp [buildPlan_of_no_members h]
  · simp [buildPlan_of_members h, PlanView.filled_le_da hv z]

/-- In a holding plan too, as no air gives no opening. -/
theorem buildPlan_opening (v : PlanView) (z : ZoneId) :
    ((buildPlan v).zones.get z).opening = openingOf ((buildPlan v).zones.get z).air (v.zones.get z).da := by
  by_cases h : v.members = []
  · simp [buildPlan_of_no_members h, openingOf]
  · simp [buildPlan_of_members h]

theorem buildPlan_q (v : PlanView) : (buildPlan v).q = ∑ z, ((buildPlan v).zones.get z).air := by
  by_cases h : v.members = []
  · simp [buildPlan_of_no_members h, holdingPlan]
  · simp [buildPlan_of_members h, stagedPlan, Eight.sum_eq]

theorem buildPlan_noAir_of_no_members (h : v.members = []) :
    (buildPlan v).q = 0 ∧ ∀ z, ((buildPlan v).zones.get z).air = 0 := by
  rw [buildPlan_of_no_members h]
  exact ⟨rfl, fun z => by simp⟩

/-- A plan built through the stages keeps ΣA2, and goes beyond it only up to Qlo. -/
theorem buildPlan_q_of_members (h : v.members ≠ []) :
    v.a2Sum ≤ (buildPlan v).q ∧ (buildPlan v).q ≤ max v.a2Sum v.qlo := by
  have q_eq : (buildPlan v).q = v.filled.2.sum := by rw [buildPlan_of_members h]; rfl
  have conserved := v.filled_conserves
  have left_le := v.filled_short_le
  have short_eq : v.short = v.qlo - v.a2Sum := rfl
  omega

theorem buildPlan_q_le_qhi (hv : PlanViewGood v) : (buildPlan v).q ≤ v.qhi := by
  by_cases h : v.members = []
  · simp [buildPlan_noAir_of_no_members h]
  · exact (buildPlan_q_of_members h).2.trans (max_le v.a2Sum_le_qhi (PlanView.qlo_le_qhi hv))

end

/-- Settles O38: the airflows of stage 3 sum to ΣA2 and what the fills assign of the shortfall, and no fill takes a
zone beyond its limit. -/
theorem planAirflowsAddUp : Obligations.PlanAirflowsAddUp := by
  unfold Obligations.PlanAirflowsAddUp
  intro v hv
  refine ⟨by rw [Eight.sum_ofFn]; exact buildPlan_q v, buildPlan_q_le_qhi hv, buildPlan_air_le_da hv,
    fun z excluded => buildPlan_air_of_inactive ((buildPlan_role_excluded v z).mp excluded),
    fun z => (buildPlan_role_excluded v z).mpr, v.a2Sum_le_qhi, buildPlan_noAir_of_no_members, fun members => ?_⟩
  obtain ⟨lower, upper⟩ := buildPlan_q_of_members members
  refine ⟨lower, fun beyond => ?_⟩
  exact (le_max_iff.mp upper).resolve_left (not_le.mpr beyond)

/-! ### Stage 4 (03 R55) -/

theorem openingOf_zero (da : Nat) : openingOf 0 da = 0 := rfl

/-- Air within the design airflow needs no clamp at 200. -/
theorem openingOf_eq_max {air da : Nat} (hair : 0 < air) (hle : air ≤ da) :
    openingOf air da = max 20 (ceilDiv (air * 200) da) := by
  have ceil_le : ceilDiv (air * 200) da ≤ 200 := (ceilDiv_le_iff (by omega)).mpr (Nat.mul_le_mul_right 200 hle)
  rw [openingOf, if_neg (by omega), clampNat]
  split
  · omega
  · split <;> omega

/-- The opening of a zone with air is the smallest that carries it, but at least 20. -/
theorem openingOf_bounds {air da : Nat} (hair : 0 < air) (hle : air ≤ da) :
    20 ≤ openingOf air da ∧ openingOf air da ≤ 200 ∧ air * 200 ≤ openingOf air da * da ∧
      (20 < openingOf air da → (openingOf air da - 1) * da < air * 200) := by
  have da_pos : 0 < da := by omega
  rw [openingOf_eq_max hair hle]
  refine ⟨le_max_left _ _, max_le (by decide) ((ceilDiv_le_iff da_pos).mpr (Nat.mul_le_mul_right 200 hle)), ?_, ?_⟩
  · rw [mul_comm _ da, ← ceilDiv_le_iff da_pos]
    exact le_max_right _ _
  · intro above
    rw [mul_comm _ da, ← lt_ceilDiv_iff da_pos]
    omega

theorem openingOf_tenth {air da : Nat} (hair : 0 < air) (hle : air * 10 ≤ da) : openingOf air da = 20 := by
  rw [openingOf_eq_max hair (by omega), max_eq_left]
  exact (ceilDiv_le_iff (by omega)).mpr (by omega)

/-- Settles O39: every opening is `openingOf` of an airflow within the design airflow, and a target above 0 is the
sum of airflows of which one is above 0. -/
theorem planOpeningsFollowAirflow : Obligations.PlanOpeningsFollowAirflow := by
  unfold Obligations.PlanOpeningsFollowAirflow
  intro v hv
  have bounds (z : ZoneId) (hair : 0 < ((buildPlan v).zones.get z).air) :=
    openingOf_bounds hair (buildPlan_air_le_da hv z)
  simp only [buildPlan_opening]
  refine ⟨fun z => ⟨fun no_air => ?_, bounds z, openingOf_tenth⟩, fun q_pos => ?_⟩
  · rw [no_air, openingOf_zero]
  · rw [buildPlan_q] at q_pos
    obtain ⟨z, _, air_pos⟩ := Finset.exists_ne_zero_of_sum_ne_zero q_pos.ne'
    have hair := Nat.pos_of_ne_zero air_pos
    exact ⟨z, hair, (bounds z hair).1⟩

/-! ### Stage 5 (03 R56, R57) -/

section
variable {v : PlanView}

theorem smallCapacity_range {c : Nat} (cair : Nat) (hc : c ≤ 100) :
    smallCapacity c cair = 0 ∨ 20 ≤ smallCapacity c cair ∧ smallCapacity c cair ≤ 100 := by
  unfold smallCapacity
  split
  · omega
  · split <;> omega

/-- 03 Table 3.3, where C0 is at least 1. -/
theorem smallCapacity_table {c0 cair : Nat} (hc : 1 ≤ c0) :
    (20 ≤ c0 → 20 ≤ cair → smallCapacity (min (min c0 100) cair) cair = min (min c0 100) cair) ∧
      (c0 < 20 → 20 ≤ cair → smallCapacity (min (min c0 100) cair) cair = 20) ∧
      (cair < 20 → smallCapacity (min (min c0 100) cair) cair = 0) := by
  refine ⟨fun big air => if_pos (by omega), fun small air => ?_, fun starved => ?_⟩
  · rw [smallCapacity, if_neg (by omega), if_pos air]
  · unfold smallCapacity
    rw [if_neg (show ¬20 ≤ cair by omega)]
    split <;> omega

theorem PlanView.capacity_range (v : PlanView) (q : Nat) : v.capacity q = 0 ∨ 20 ≤ v.capacity q ∧ v.capacity q ≤ 100 := by
  unfold PlanView.capacity
  split
  case h_5 => exact .inl rfl
  all_goals exact smallCapacity_range _ (by omega)

theorem PlanView.capacity_of_side (h : v.mode = .cool ∨ v.mode = .dry ∨ v.mode = .heat) (q : Nat) :
    v.capacity q = smallCapacity (min (min v.c0 100) (v.cair q)) (v.cair q) := by
  obtain mode | mode | mode := h <;> simp only [PlanView.capacity, mode]

theorem buildPlan_c_of_no_members (h : v.members = []) : (buildPlan v).c = 0 := by
  rw [buildPlan_of_no_members h]
  rfl

theorem buildPlan_c_of_members (h : v.members ≠ []) : (buildPlan v).c = v.capacity (buildPlan v).q := by
  rw [buildPlan_of_members h]
  rfl

theorem buildPlan_c_range (v : PlanView) : (buildPlan v).c = 0 ∨ 20 ≤ (buildPlan v).c ∧ (buildPlan v).c ≤ 100 := by
  by_cases h : v.members = []
  · exact .inl (buildPlan_c_of_no_members h)
  · rw [buildPlan_c_of_members h]
    exact v.capacity_range _

theorem PlanView.le_a2Sum_of_ceiling (hv : PlanViewGood v) (h : v.qhi < v.rawSum) : 93 ≤ v.a2Sum := by
  obtain ⟨qsysMin_ge, qsysMin_le_qhi, _, _⟩ := hv
  obtain ⟨_, qhi_le⟩ := PlanView.a2Sum_of_ceiling h
  omega

theorem PlanView.le_a2Sum_of_uncapped (hv : PlanViewGood v) (members : v.members ≠ []) (h : v.rawSum ≤ v.qhi) :
    20 ≤ v.a2Sum := by
  rw [PlanView.a2Sum_of_uncapped h]
  exact PlanView.le_rawSum hv members

theorem PlanView.c0_pos (hv : PlanViewGood v) (members : v.members ≠ []) : 1 ≤ v.c0 := by
  have a2Sum_pos : 0 < v.a2Sum := by
    rcases lt_or_ge v.qhi v.rawSum with h | h
    · exact lt_of_lt_of_le (by decide) (PlanView.le_a2Sum_of_ceiling hv h)
    · exact lt_of_lt_of_le (by decide) (PlanView.le_a2Sum_of_uncapped hv members h)
  exact (lt_ceilDiv_iff (PlanView.qref_pos hv)).mpr (by omega)

end

/-- Settles O40: a calling set leaves ΣA2, and so C0, above 0, which shuts out the one row of Table 3.3 where the
capacity is 0 though the air is enough. -/
theorem planCapacityIsZeroOrEnough : Obligations.PlanCapacityIsZeroOrEnough := by
  unfold Obligations.PlanCapacityIsZeroOrEnough
  intro v hv
  refine ⟨buildPlan_c_range v, buildPlan_c_of_no_members, fun side members => ?_⟩
  have c0_pos := PlanView.c0_pos hv members
  simp only [buildPlan_c_of_members members, PlanView.capacity_of_side side]
  exact ⟨c0_pos, PlanView.le_a2Sum_of_ceiling hv, PlanView.le_a2Sum_of_uncapped hv members, smallCapacity_table c0_pos⟩

end Sys2Proof.Machine
end

section
/-! The Damper Drive damper by damper (06 R93 to R107): what each of its operations does to the record, the queue entries and the
slots of one damper, and that it leaves those of the others. -/

namespace Sys2Proof.Machine

/-! ### One damper in the drive -/

/-- The queue entries of a damper. -/
def Drive.entriesOf (v : Drive) (d : ZoneId) : List QueueEntry := v.queue.filter fun e => decide (e.damper = d)

/-- The slots that a damper holds. -/
def Drive.slotsOf (v : Drive) (d : ZoneId) : List Slot :=
  (v.slot1.toList ++ v.slot2.toList).filter fun x => decide (x.damper = d)

theorem Drive.entryOf_eq (v : Drive) (d : ZoneId) : v.entryOf d = (v.entriesOf d).head? :=
  List.head?_filter.symm

theorem Drive.slotOf_eq (v : Drive) (d : ZoneId) : v.slotOf d = (v.slotsOf d).head? := by
  unfold Drive.slotOf Drive.slotsOf
  cases v.slot1 with
  | none => cases h : v.slot2 <;> simp [Option.filter, List.filter_cons] <;> split <;> simp_all
  | some x =>
    by_cases hx : x.damper = d
    · simp [hx]
    · cases h : v.slot2 <;> simp [hx, Option.filter, List.filter_cons] <;> split <;> simp_all

theorem Drive.damper_of_mem_slotsOf {v : Drive} {d : ZoneId} {x : Slot} (h : x ∈ v.slotsOf d) : x.damper = d := by
  simpa using (List.mem_filter.mp h).2

theorem Drive.entry_mem {v : Drive} {d : ZoneId} {e : QueueEntry} (h : v.entryOf d = some e) : e ∈ v.entriesOf d := by
  rw [Drive.entryOf_eq] at h
  exact List.mem_of_mem_head? h

theorem Drive.slot_mem {v : Drive} {d : ZoneId} {x : Slot} (h : v.slotOf d = some x) : x ∈ v.slotsOf d := by
  rw [Drive.slotOf_eq] at h
  exact List.mem_of_mem_head? h

theorem Drive.slotOf_damper {v : Drive} {d : ZoneId} {x : Slot} (h : v.slotOf d = some x) : x.damper = d :=
  Drive.damper_of_mem_slotsOf (Drive.slot_mem h)

theorem Drive.entriesOf_nil {v : Drive} {d : ZoneId} : v.entriesOf d = [] ↔ v.entryOf d = none := by
  rw [Drive.entryOf_eq, List.head?_eq_none_iff]

theorem Drive.slotsOf_nil {v : Drive} {d : ZoneId} : v.slotsOf d = [] ↔ v.slotOf d = none := by
  rw [Drive.slotOf_eq, List.head?_eq_none_iff]

/-! ### The operations, damper by damper -/

section
variable (v : Drive) (d x : ZoneId)

theorem Drive.onDamper_get (f : Damper → Damper) :
    (v.onDamper d f).dampers.get x = if x = d then f (v.dampers.get d) else v.dampers.get x := Eight.get_modify ..

@[simp] theorem Drive.onDamper_get_same (f : Damper → Damper) : (v.onDamper d f).dampers.get d = f (v.dampers.get d) :=
  Eight.get_modify_same ..

@[simp] theorem Drive.onDamper_entriesOf (f : Damper → Damper) : (v.onDamper d f).entriesOf x = v.entriesOf x := rfl
@[simp] theorem Drive.onDamper_slotsOf (f : Damper → Damper) : (v.onDamper d f).slotsOf x = v.slotsOf x := rfl
@[simp] theorem Drive.onDamper_slot1 (f : Damper → Damper) : (v.onDamper d f).slot1 = v.slot1 := rfl
@[simp] theorem Drive.onDamper_slot2 (f : Damper → Damper) : (v.onDamper d f).slot2 = v.slot2 := rfl
@[simp] theorem Drive.onDamper_queue (f : Damper → Damper) : (v.onDamper d f).queue = v.queue := rfl
@[simp] theorem Drive.onDamper_resetHomes (f : Damper → Damper) : (v.onDamper d f).resetHomes = v.resetHomes := rfl
@[simp] theorem Drive.onDamper_passedOver (f : Damper → Damper) : (v.onDamper d f).passedOver = v.passedOver := rfl

@[simp] theorem Drive.append_dampers (w : Drift) :
    (v.append d w).dampers = v.dampers.modify d fun y => { y with motion := .queued } := rfl
theorem Drive.append_entriesOf (w : Drift) :
    (v.append d w).entriesOf x = v.entriesOf x ++ if x = d then [⟨d, w⟩] else [] := by
  by_cases h : d = x <;> simp [Drive.entriesOf, Drive.append, Drive.onDamper, List.filter_append, h, eq_comm]
@[simp] theorem Drive.append_slotsOf (w : Drift) : (v.append d w).slotsOf x = v.slotsOf x := rfl

@[simp] theorem Drive.retarget_dampers (w : Drift) : (v.retarget d w).dampers = v.dampers := rfl
theorem Drive.retarget_entriesOf (w : Drift) : (v.retarget d w).entriesOf x =
    if x = d then (v.entriesOf x).map (fun e => { e with what := w }) else v.entriesOf x := by
  simp only [Drive.entriesOf, Drive.retarget]
  induction v.queue with
  | nil => simp
  | cons e rest ih => by_cases hx : x = d <;> by_cases he : e.damper = d <;> by_cases hex : e.damper = x <;> simp_all
@[simp] theorem Drive.retarget_slotsOf (w : Drift) : (v.retarget d w).slotsOf x = v.slotsOf x := rfl

@[simp] theorem Drive.unqueue_dampers : (v.unqueue d).dampers = v.dampers := rfl
theorem Drive.unqueue_entriesOf : (v.unqueue d).entriesOf x = if x = d then [] else v.entriesOf x := by
  simp only [Drive.entriesOf, Drive.unqueue, List.filter_filter]
  split <;> [(subst_vars; simp); (apply List.filter_congr; intro e _; by_cases e.damper = x <;> simp_all)]
@[simp] theorem Drive.unqueue_slotsOf : (v.unqueue d).slotsOf x = v.slotsOf x := rfl

@[simp] theorem Drive.free_dampers : (v.free d).dampers = v.dampers := rfl
@[simp] theorem Drive.free_entriesOf : (v.free d).entriesOf x = v.entriesOf x := rfl
theorem Drive.free_slotsOf : (v.free d).slotsOf x = if x = d then [] else v.slotsOf x := by
  have one (o : Option Slot) : (o.filter fun y => decide (y.damper ≠ d)).toList.filter (fun y => decide (y.damper = x)) =
      if x = d then [] else o.toList.filter fun y => decide (y.damper = x) := by
    cases o with
    | none => simp
    | some y => by_cases hx : x = d <;> by_cases hy : y.damper = d <;> by_cases hyx : y.damper = x <;>
        simp_all [Option.filter]
  simp only [Drive.slotsOf, Drive.free, List.filter_append, one]
  split <;> rfl

@[simp] theorem Drive.drained_dampers : (v.drained d).dampers = v.dampers := rfl
@[simp] theorem Drive.drained_entriesOf : (v.drained d).entriesOf x = v.entriesOf x := rfl
@[simp] theorem Drive.drained_slotsOf : (v.drained d).slotsOf x = v.slotsOf x := rfl

@[simp] theorem Drive.tookUp_dampers : (v.tookUp d).dampers = v.dampers := rfl
@[simp] theorem Drive.tookUp_entriesOf : (v.tookUp d).entriesOf x = v.entriesOf x := rfl
@[simp] theorem Drive.tookUp_slotsOf : (v.tookUp d).slotsOf x = v.slotsOf x := rfl

@[simp] theorem Slot.stepped_damper (y : Slot) : (y.stepped d).damper = y.damper := by unfold Slot.stepped; split <;> rfl
@[simp] theorem Slot.stepped_what (y : Slot) : (y.stepped d).what = y.what := by unfold Slot.stepped; split <;> rfl

@[simp] theorem Drive.stepMotion_entriesOf : (v.stepMotion d).entriesOf x = v.entriesOf x := by
  unfold Drive.stepMotion; dsimp only; split <;> rfl

theorem Drive.stepMotion_slotsOf : (v.stepMotion d).slotsOf x = (v.slotsOf x).map (Slot.stepped d) := by
  have one (o : Option Slot) : (o.map (Slot.stepped d)).toList.filter (fun y => decide (y.damper = x)) =
      (o.toList.filter fun y => decide (y.damper = x)).map (Slot.stepped d) := by
    cases o with
    | none => rfl
    | some y => by_cases hyx : y.damper = x <;> simp [hyx]
  unfold Drive.stepMotion
  dsimp only
  split <;> simp only [Drive.slotsOf, List.filter_append, one, List.map_append]

/-- A MOVE's damper goes one step nearer to its target. -/
theorem Drive.stepMotion_get_move {y : Slot} {t : Nat} (h : v.slotOf d = some y) (hw : y.what = .move t) :
    (v.stepMotion d).dampers.get x = if x = d then
      { v.dampers.get d with position := (v.dampers.get d).position.map fun p => towards p t } else v.dampers.get x := by
  obtain ⟨e, w, n, l, o⟩ := y
  cases hw
  unfold Drive.stepMotion
  rw [h]
  exact Drive.onDamper_get ..

/-- A damper that makes no MOVE keeps its record at a step. -/
theorem Drive.stepMotion_dampers_home (h : ∀ y t, v.slotOf d = some y → y.what ≠ .move t) :
    (v.stepMotion d).dampers = v.dampers := by
  unfold Drive.stepMotion
  dsimp only
  split
  · exact absurd rfl (h _ _ ‹_›)
  · rfl

/-- The slot in which the motion of an entry begins (06 R99). -/
def Drive.newSlot (now : Nat) (e : QueueEntry) : Slot :=
  ⟨e.damper, e.what, 0, now, match e.what with
    | .move t => decide ((v.dampers.get e.damper).position.getD 200 < t)
    | .home => false⟩

@[simp] theorem Drive.start_entriesOf (now : Nat) (e : QueueEntry) : (v.start now e).entriesOf x = v.entriesOf x := by
  unfold Drive.start; dsimp only; split <;> rfl

theorem Drive.start_get (now : Nat) (e : QueueEntry) : (v.start now e).dampers.get x =
    if x = e.damper then
      (match e.what with
      | .move _ => { v.dampers.get e.damper with motion := .moving }
      | .home => { v.dampers.get e.damper with motion := .homing, position := none })
    else v.dampers.get x := by
  unfold Drive.start
  dsimp only
  split <;> exact Drive.onDamper_get ..

theorem Drive.start_slot1 (now : Nat) (e : QueueEntry) :
    (v.start now e).slot1 = if v.slot1.isNone then some (v.newSlot now e) else v.slot1 := by
  unfold Drive.start; dsimp only; split <;> rfl

theorem Drive.start_slot2 (now : Nat) (e : QueueEntry) :
    (v.start now e).slot2 = if v.slot1.isNone then v.slot2 else some (v.newSlot now e) := by
  unfold Drive.start; dsimp only; split <;> rfl

/-- A motion that begins in a free slot is the only one of a damper that held none. -/
theorem Drive.start_slotsOf (now : Nat) (e : QueueEntry) (hf : v.slotFree = true) (hs : v.slotsOf e.damper = []) :
    (v.start now e).slotsOf x = if x = e.damper then [v.newSlot now e] else v.slotsOf x := by
  have hd : (v.newSlot now e).damper = e.damper := rfl
  unfold Drive.slotsOf at hs ⊢
  rw [Drive.start_slot1, Drive.start_slot2]
  cases h1 : v.slot1 with
  | none =>
    by_cases hx : x = e.damper
    · subst hx; simpa [h1, hd] using hs
    · simp [hd, Ne.symm hx, hx]
  | some y =>
    have hy : y.damper ≠ e.damper := fun hy => by simp [h1, hy] at hs
    by_cases hx : x = e.damper
    · subst hx; simp [hd, hy]
    · have h2 : v.slot2 = none := by simpa [Drive.slotFree, h1] using hf
      simp [h2, List.filter_cons, hd, Ne.symm hx, hx]

/-- All that a FAULT does to its damper: neither entry nor slot is left, and the position is UNKNOWN (06 R103). -/
theorem Drive.fault_get : (v.fault d).dampers.get x = if x = d then
    { v.dampers.get d with motion := .fault, position := none, followOn := .nothing } else v.dampers.get x :=
  Drive.onDamper_get ..
theorem Drive.fault_entriesOf : (v.fault d).entriesOf x = if x = d then [] else v.entriesOf x := by
  simp [Drive.fault, Drive.unqueue_entriesOf]
theorem Drive.fault_slotsOf : (v.fault d).slotsOf x = if x = d then [] else v.slotsOf x := by
  simp [Drive.fault, Drive.free_slotsOf]

end

/-! ### The requests of 06 R96 to R98 -/

section
variable {v : Drive} {d : ZoneId}

/-- The record and the entries of damper `d` alone go from those of `v` to those of `w`; no slot changes, and no position. -/
structure Drive.Asks (d : ZoneId) (v w : Drive) : Prop where
  slot1 : w.slot1 = v.slot1
  slot2 : w.slot2 = v.slot2
  position : (w.dampers.get d).position = (v.dampers.get d).position
  others : ∀ x, x ≠ d → w.dampers.get x = v.dampers.get x ∧ w.entriesOf x = v.entriesOf x

theorem Drive.Asks.refl (d : ZoneId) (v : Drive) : v.Asks d v := ⟨rfl, rfl, rfl, fun _ _ => ⟨rfl, rfl⟩⟩

theorem Drive.Asks.trans {u w : Drive} (h : u.Asks d v) (k : v.Asks d w) : u.Asks d w :=
  ⟨k.slot1.trans h.slot1, k.slot2.trans h.slot2, k.position.trans h.position,
    fun x hx => ⟨(k.others x hx).1.trans (h.others x hx).1, (k.others x hx).2.trans (h.others x hx).2⟩⟩

theorem Drive.Asks.slotsOf {w : Drive} (h : v.Asks d w) (x : ZoneId) : w.slotsOf x = v.slotsOf x := by
  unfold Drive.slotsOf; rw [h.slot1, h.slot2]

theorem Drive.Asks.positions {w : Drive} (h : v.Asks d w) (x : ZoneId) :
    (w.dampers.get x).position = (v.dampers.get x).position := by
  by_cases hx : x = d
  · exact hx ▸ h.position
  · rw [(h.others x hx).1]

theorem Drive.asks_onDamper (f : Damper → Damper) (hf : ∀ y, (f y).position = y.position) : v.Asks d (v.onDamper d f) :=
  ⟨rfl, rfl, by simp [hf], fun x hx => ⟨by simp [Drive.onDamper_get, hx], rfl⟩⟩

theorem Drive.asks_append (w : Drift) : v.Asks d (v.append d w) :=
  ⟨rfl, rfl, by simp, fun x hx => ⟨by simp [hx], by simp [Drive.append_entriesOf, hx]⟩⟩

theorem Drive.asks_retarget (w : Drift) : v.Asks d (v.retarget d w) :=
  ⟨rfl, rfl, rfl, fun x hx => ⟨rfl, by simp [Drive.retarget_entriesOf, hx]⟩⟩

theorem Drive.asks_unqueue : v.Asks d (v.unqueue d) :=
  ⟨rfl, rfl, rfl, fun x hx => ⟨rfl, by simp [Drive.unqueue_entriesOf, hx]⟩⟩

theorem Drive.asks_drained : v.Asks d (v.drained d) := ⟨rfl, rfl, rfl, fun _ _ => ⟨rfl, rfl⟩⟩

theorem Drive.asks_tookUp : v.Asks d (v.tookUp d) := ⟨rfl, rfl, rfl, fun _ _ => ⟨rfl, rfl⟩⟩

theorem Drive.asks_requestMove (t : Nat) : v.Asks d (v.requestMove d t) := by
  unfold Drive.requestMove
  dsimp only
  split
  · split
    · split
      · exact .refl d v
      · exact Drive.asks_append _
    · exact (Drive.asks_append _).trans (Drive.asks_onDamper _ fun _ => rfl)
  · split
    · split
      · exact Drive.asks_unqueue.trans (Drive.asks_onDamper _ fun _ => rfl)
      · exact Drive.asks_retarget _
    · exact Drive.asks_onDamper _ fun _ => rfl
    · exact .refl d v
  · split
    · exact Drive.asks_onDamper _ fun _ => rfl
    · exact .refl d v
  · exact Drive.asks_onDamper _ fun _ => rfl
  · exact .refl d v

theorem Drive.asks_requestHome : v.Asks d (v.requestHome d) := by
  unfold Drive.requestHome
  split
  · exact Drive.asks_tookUp.trans (Drive.asks_append _)
  · split
    · exact (Drive.asks_retarget _).trans (Drive.asks_onDamper _ fun _ => rfl)
    · exact .refl d v
  · exact Drive.asks_onDamper _ fun _ => rfl
  · exact .refl d v
  · exact .refl d v

theorem Drive.asks_withdrawMove : v.Asks d (v.withdrawMove d) := by
  unfold Drive.withdrawMove
  split
  · exact Drive.asks_unqueue.trans (Drive.asks_onDamper _ fun _ => rfl)
  · exact .refl d v

theorem Drive.asks_clearFollowOn : v.Asks d (v.clearFollowOn d) := Drive.asks_onDamper _ fun _ => rfl

theorem Drive.Asks.ite {c : Prop} [Decidable c] {w : Drive} (h : v.Asks d w) : v.Asks d (if c then w else v) := by
  split
  · exact h
  · exact .refl d v

theorem Drive.asks_passedOver (l : List ZoneId) : v.Asks d { v with passedOver := l } := ⟨rfl, rfl, rfl, fun _ _ => ⟨rfl, rfl⟩⟩

theorem Drive.asks_withdrawAll : v.Asks d (v.withdrawAll d) :=
  Drive.asks_drained.ite.trans
    ((Drive.asks_passedOver _).ite.trans (Drive.asks_unqueue.trans (Drive.asks_onDamper _ fun _ => rfl)))

end

end Sys2Proof.Machine
end

section
/-! The order of the Damper Drive (06 R93 to R95) damper by damper: `DamperFine` holds of one damper's record, entries and slots, and
every operation of the drive keeps it. -/

namespace Sys2Proof.Machine

/-! ### One damper in order -/

/-- The motion state of a damper agrees with what its entries and slots ask (06 R93, R95). -/
def MotionFits (m : MotionState) (entries slots : List Drift) : Prop :=
  match m with
  | .idle => entries = [] ∧ slots = []
  | .fault => entries = [] ∧ slots = []
  | .queued => entries.length = 1 ∧ slots = []
  | .moving => entries = [] ∧ ∃ u, slots = [.move u]
  | .homing => entries = [] ∧ slots = [.home]

/-- A damper's record, its queue entries and its slots: positions and targets in 0..200, and as the motion state says. -/
structure DamperFine (x : Damper) (es : List QueueEntry) (ss : List Slot) : Prop where
  position : ∀ n, x.position = some n → n ≤ 200
  followOn : ∀ n, x.followOn = .target n → n ≤ 200
  entry : ∀ e ∈ es, ∀ n, e.what = .move n → n ≤ 200
  slot : ∀ y ∈ ss, ∀ n, y.what = .move n → n ≤ 200
  motion : MotionFits x.motion (es.map QueueEntry.what) (ss.map Slot.what)

/-- Every damper of a drive is in order. -/
def DriveFine (v : Drive) : Prop := ∀ d, DamperFine (v.dampers.get d) (v.entriesOf d) (v.slotsOf d)

theorem driveAgrees_iff (s : State) : DriveAgrees s ↔ DriveFine s.drive ∧
    (∀ d, stateOf s d = .fault → (s.drive.dampers.get d).motion = .fault) ∧
    ∀ (p : Plan) (z : ZoneId), p = s.co.applied ∨ s.co.incoming = some p ∨ s.co.held = some p →
      (p.zones.get z).opening ≤ 200 := by
  constructor
  · rintro ⟨hp, hf, he, hs, hm, hz, hpl⟩
    refine ⟨fun d => ⟨hp d, hf d, ?_, ?_, hm d⟩, hz, hpl⟩
    · exact fun e h n => he e n (List.mem_filter.mp h).1
    · refine fun y h n => hs y n ?_
      simpa [eq_comm] using (List.mem_filter.mp h).1
  · rintro ⟨hf, hz, hpl⟩
    refine ⟨fun d => (hf d).position, fun d => (hf d).followOn, ?_, ?_, fun d => (hf d).motion, hz, hpl⟩
    · exact fun e n h => (hf e.damper).entry e (List.mem_filter.mpr ⟨h, by simp⟩) n
    · refine fun x n h => (hf x.damper).slot x (List.mem_filter.mpr ⟨?_, by simp⟩) n
      simpa [eq_comm] using h

section
variable {x : Damper} {es : List QueueEntry} {ss : List Slot}

/-- A damper that rests has neither entry nor slot. -/
theorem DamperFine.rests (h : DamperFine x es ss) (hm : x.motion = .idle ∨ x.motion = .fault) : es = [] ∧ ss = [] := by
  have := h.motion
  rcases hm with hm | hm <;> simpa [MotionFits, hm] using this

theorem DamperFine.queued (h : DamperFine x es ss) (hm : x.motion = .queued) : (∃ e, es = [e]) ∧ ss = [] := by
  simpa [MotionFits, hm, List.length_eq_one_iff] using h.motion

theorem DamperFine.moves (h : DamperFine x es ss) (hm : x.motion = .moving ∨ x.motion = .homing) : es = [] := by
  have := h.motion
  rcases hm with hm | hm <;> simp only [MotionFits, hm, List.map_eq_nil_iff] at this <;> exact this.1

/-- A damper that holds a slot is in motion, and it has no entry. -/
theorem DamperFine.motion_of_slot (h : DamperFine x es ss) (hs : ss ≠ []) :
    (x.motion = .moving ∨ x.motion = .homing) ∧ es = [] := by
  have := h.motion
  unfold MotionFits at this
  split at this <;> rename_i hm <;> simp_all

/-- A damper without a slot that has an entry is QUEUED. -/
theorem DamperFine.motion_of_entry (h : DamperFine x es ss) (he : es ≠ []) : x.motion = .queued := by
  have := h.motion
  unfold MotionFits at this
  split at this <;> rename_i hm <;> simp_all

/-- A damper at rest with neither entry nor slot. -/
theorem DamperFine.resting (hp : ∀ n, x.position = some n → n ≤ 200) (hf : ∀ n, x.followOn = .target n → n ≤ 200)
    (hm : x.motion = .idle ∨ x.motion = .fault) : DamperFine x [] [] :=
  ⟨hp, hf, by simp, by simp, by rcases hm with hm | hm <;> simp [MotionFits, hm]⟩

/-- Only the stall count and the follow-on of a damper change. -/
theorem DamperFine.marked (h : DamperFine x es ss) {f : FollowOn} {k : Nat} (hf : ∀ n, f = .target n → n ≤ 200) :
    DamperFine { x with followOn := f, stalls := k } es ss := ⟨h.position, hf, h.entry, h.slot, h.motion⟩

end

theorem followTarget_le {t n : Nat} (h : t ≤ 200) (hn : followTarget t = .target n) : n ≤ 200 := by
  unfold followTarget at hn; split at hn <;> simp_all

/-! ### The operations that ask (06 R96 to R98) -/

section
variable {v : Drive} {d : ZoneId}

/-- A drive in which one damper alone has changed is in order where that damper is. -/
theorem Drive.Asks.fine {w : Drive} (h : v.Asks d w) (hv : DriveFine v)
    (hd : DamperFine (w.dampers.get d) (w.entriesOf d) (v.slotsOf d)) : DriveFine w := by
  intro x
  rw [h.slotsOf]
  by_cases hx : x = d
  · exact hx ▸ hd
  · rw [(h.others x hx).1, (h.others x hx).2]; exact hv x

theorem Drive.append_fine {w : Drift} {f : FollowOn} (hv : DriveFine v) (hm : (v.dampers.get d).motion = .idle)
    (hw : ∀ n, w = .move n → n ≤ 200) (hf : ∀ n, f = .target n → n ≤ 200) :
    DriveFine ((v.append d w).onDamper d fun y => { y with followOn := f }) := by
  obtain ⟨he, hs⟩ := (hv d).rests (.inl hm)
  refine ((Drive.asks_append w).trans (Drive.asks_onDamper (fun y => { y with followOn := f }) fun _ => rfl)).fine hv ?_
  rw [hs, Drive.onDamper_entriesOf, Drive.append_entriesOf, he]
  refine ⟨by simpa using (hv d).position, by simpa using hf, by simpa using hw, by simp, by simp [MotionFits]⟩

theorem Drive.append_fine' {w : Drift} (hv : DriveFine v) (hm : (v.dampers.get d).motion = .idle)
    (hw : ∀ n, w = .move n → n ≤ 200) : DriveFine (v.append d w) := by
  have h := Drive.append_fine (f := (v.dampers.get d).followOn) hv hm hw (hv d).followOn
  rwa [show ((v.append d w).onDamper d fun y => { y with followOn := (v.dampers.get d).followOn }) = v.append d w from ?_] at h
  have key : (v.append d w).dampers.modify d (fun y => { y with followOn := (v.dampers.get d).followOn }) =
      (v.append d w).dampers := by
    apply Eight.ext_get
    intro x
    rw [Eight.get_modify]
    split
    · subst_vars; simp
    · rfl
  unfold Drive.onDamper
  rw [key]

theorem Drive.retarget_fine {w : Drift} {f : FollowOn} (hv : DriveFine v) (hw : ∀ n, w = .move n → n ≤ 200)
    (hf : ∀ n, f = .target n → n ≤ 200) : DriveFine ((v.retarget d w).onDamper d fun y => { y with followOn := f }) := by
  refine ((Drive.asks_retarget w).trans (Drive.asks_onDamper (fun y => { y with followOn := f }) fun _ => rfl)).fine hv ?_
  obtain ⟨hp, -, -, hs, hm⟩ := hv d
  rw [Drive.onDamper_entriesOf, Drive.retarget_entriesOf, if_pos rfl]
  refine ⟨by simpa using hp, by simpa using hf, by simpa using fun _ _ => hw, hs, ?_⟩
  simp only [Drive.onDamper_get_same, Drive.retarget_dampers]
  unfold MotionFits at hm ⊢
  split at hm <;> simp_all

/-- An entry gets another target. -/
theorem Drive.retarget_move_fine {t : Nat} (hv : DriveFine v) (ht : t ≤ 200) : DriveFine (v.retarget d (.move t)) := by
  refine (Drive.asks_retarget _).fine hv ?_
  have h := Drive.retarget_fine (d := d) hv (w := .move t) (by simp; omega) (hv d).followOn d
  rwa [Drive.onDamper_get_same, Drive.onDamper_entriesOf, Drive.onDamper_slotsOf] at h

theorem Drive.onDamper_fine {f : Damper → Damper} (hv : DriveFine v) (hp : ∀ y, (f y).position = y.position)
    (hm : ∀ y, (f y).motion = y.motion) (hf : ∀ n, (f (v.dampers.get d)).followOn = .target n → n ≤ 200) :
    DriveFine (v.onDamper d f) := by
  refine (Drive.asks_onDamper f hp).fine hv ?_
  obtain ⟨hpos, -, he, hs, hmo⟩ := hv d
  rw [Drive.onDamper_get_same, Drive.onDamper_entriesOf]
  exact ⟨by rwa [hp], hf, he, hs, by rwa [hm]⟩

/-- The entry of a QUEUED damper goes, and the damper is IDLE. -/
theorem Drive.unqueue_fine {f : Damper → Damper} (hv : DriveFine v) (hs : v.slotsOf d = [])
    (hp : ∀ y, (f y).position = y.position) (hf : ∀ n, (f (v.dampers.get d)).followOn = .target n → n ≤ 200)
    (hm : (f (v.dampers.get d)).motion = .idle ∨ (f (v.dampers.get d)).motion = .fault) :
    DriveFine ((v.unqueue d).onDamper d f) := by
  refine (Drive.asks_unqueue.trans (Drive.asks_onDamper f hp)).fine hv ?_
  rw [Drive.onDamper_get_same, Drive.onDamper_entriesOf, Drive.unqueue_entriesOf, if_pos rfl, hs]
  exact .resting (by simpa [hp] using (hv d).position) hf hm

theorem Drive.queued_of_entryOf {e : QueueEntry} (hv : DriveFine v) (h : v.entryOf d = some e) :
    (v.dampers.get d).motion = .queued ∧ v.entriesOf d = [e] ∧ v.slotsOf d = [] := by
  have he := Drive.entry_mem h
  have hm := (hv d).motion_of_entry (List.ne_nil_of_mem he)
  obtain ⟨⟨e', he'⟩, hs⟩ := (hv d).queued hm
  rw [he', List.mem_singleton] at he
  exact ⟨hm, he ▸ he', hs⟩

theorem Drive.requestMove_fine {t : Nat} (hv : DriveFine v) (ht : t ≤ 200) : DriveFine (v.requestMove d t) := by
  have hfol : ∀ n, followTarget t = .target n → n ≤ 200 := fun n => followTarget_le ht
  unfold Drive.requestMove
  dsimp only
  split
  next hm =>
    split
    next =>
      split
      · exact hv
      · exact Drive.append_fine' hv hm (by simp; omega)
    next => exact Drive.append_fine hv hm (by simp) hfol
  next hm =>
    split
    next =>
      split
      · exact Drive.unqueue_fine hv ((hv d).queued hm).2 (fun _ => rfl) (hv d).followOn (.inl rfl)
      · exact Drive.retarget_move_fine hv ht
    next => exact Drive.onDamper_fine hv (fun _ => rfl) (fun _ => rfl) hfol
    next => exact hv
  next =>
    split
    next => exact Drive.onDamper_fine hv (fun _ => rfl) (fun _ => rfl) (by dsimp only; split <;> simp; omega)
    next => exact hv
  next => exact Drive.onDamper_fine hv (fun _ => rfl) (fun _ => rfl) hfol
  next => exact hv

theorem Drive.tookUp_fine (hv : DriveFine v) : DriveFine (v.tookUp d) := hv

theorem Drive.requestHome_fine (hv : DriveFine v) : DriveFine (v.requestHome d) := by
  unfold Drive.requestHome
  split
  next hm => exact Drive.append_fine' (Drive.tookUp_fine hv) hm (by simp)
  next =>
    split
    next t h =>
      have ht := (hv d).entry _ (Drive.entry_mem h) t rfl
      exact Drive.retarget_fine hv (by simp) fun n => followTarget_le ht
    next => exact hv
  next => exact Drive.onDamper_fine hv (fun _ => rfl) (fun _ => rfl) (by simp)
  next => exact hv
  next => exact hv

theorem Drive.withdrawMove_fine (hv : DriveFine v) : DriveFine (v.withdrawMove d) := by
  unfold Drive.withdrawMove
  split
  next h => exact Drive.unqueue_fine hv (Drive.queued_of_entryOf hv h).2.2 (fun _ => rfl) (hv d).followOn (.inl rfl)
  next => exact hv

theorem Drive.clearFollowOn_fine (hv : DriveFine v) : DriveFine (v.clearFollowOn d) :=
  Drive.onDamper_fine hv (fun _ => rfl) (fun _ => rfl) (by dsimp only; split <;> simp)

theorem DriveFine.ite {c : Prop} [Decidable c] {w : Drive} (hv : DriveFine v) (hw : DriveFine w) :
    DriveFine (if c then w else v) := by split <;> assumption

/-- A damper whose zone becomes UNUSED keeps a motion it makes, and nothing else of what was asked of it. -/
theorem Drive.withdrawAll_fine (hv : DriveFine v) : DriveFine (v.withdrawAll d) := by
  refine Drive.asks_withdrawAll.fine hv ?_
  unfold Drive.withdrawAll
  dsimp only
  generalize hu : (if v.slotOf d = none then v.drained d else v) = u
  generalize hw : (if (u.dampers.get d).motion = .fault then { u with passedOver := u.passedOver ++ [d] } else u) = w
  have hd : w.dampers = v.dampers := by subst hw hu; (repeat' split) <;> rfl
  rw [Drive.onDamper_get_same, Drive.onDamper_entriesOf, Drive.unqueue_entriesOf, if_pos rfl, Drive.unqueue_dampers, hd]
  have hf := hv d
  refine ⟨hf.position, by simp, by simp, hf.slot, ?_⟩
  have hm := hf.motion
  unfold MotionFits at hm ⊢
  cases h : (v.dampers.get d).motion <;> simp_all

end

/-! ### A FAULT that stays -/

theorem Drive.requestMove_fault {v : Drive} {x : ZoneId} (d : ZoneId) (t : Nat) (h : (v.dampers.get x).motion = .fault) :
    ((v.requestMove d t).dampers.get x).motion = .fault := by
  by_cases hx : x = d
  · subst hx
    unfold Drive.requestMove
    simp [h]
  · rw [((Drive.asks_requestMove (v := v) (d := d) t).others x hx).1, h]

theorem Drive.requestHome_fault {v : Drive} {x : ZoneId} (d : ZoneId) (h : (v.dampers.get x).motion = .fault) :
    ((v.requestHome d).dampers.get x).motion = .fault := by
  by_cases hx : x = d
  · subst hx
    unfold Drive.requestHome
    simp [h]
  · rw [((Drive.asks_requestHome (v := v) (d := d)).others x hx).1, h]

theorem Drive.clearFollowOn_fault {v : Drive} {x : ZoneId} (d : ZoneId) (h : (v.dampers.get x).motion = .fault) :
    ((v.clearFollowOn d).dampers.get x).motion = .fault := by
  unfold Drive.clearFollowOn
  rw [Drive.onDamper_get]
  split
  · subst_vars; exact h
  · exact h

theorem Drive.withdrawMove_fault {v : Drive} {x : ZoneId} (d : ZoneId) (hv : DriveFine v)
    (h : (v.dampers.get x).motion = .fault) : ((v.withdrawMove d).dampers.get x).motion = .fault := by
  by_cases hx : x = d
  · subst hx
    have he : v.entryOf x = none := Drive.entriesOf_nil.mp ((hv x).rests (.inr h)).1
    unfold Drive.withdrawMove
    simp [he, h]
  · rw [((Drive.asks_withdrawMove (v := v) (d := d)).others x hx).1, h]

/-! ### Motions (06 R99 to R103) -/

section
variable {v : Drive} {d : ZoneId}

/-- The motion of the oldest entry begins in a free slot. -/
theorem Drive.start_fine {now : Nat} {e : QueueEntry} {rest : List QueueEntry} (hv : DriveFine v) (hq : v.queue = e :: rest)
    (hf : v.slotFree = true) : DriveFine (({ v with queue := rest } : Drive).start now e) := by
  have hents (x : ZoneId) : v.entriesOf x = (if e.damper = x then [e] else []) ++ ({ v with queue := rest } : Drive).entriesOf x := by
    by_cases hx : e.damper = x <;> simp [Drive.entriesOf, hq, hx]
  have hne : v.entriesOf e.damper ≠ [] := by simp [hents]
  have hm := (hv e.damper).motion_of_entry hne
  obtain ⟨⟨e', he'⟩, hs⟩ := (hv e.damper).queued hm
  have hrest : ({ v with queue := rest } : Drive).entriesOf e.damper = [] := by
    rw [hents, if_pos rfl] at he'
    simpa using congrArg List.tail he'
  intro x
  have hget := Drive.start_get { v with queue := rest } x now e
  have hslots := Drive.start_slotsOf { v with queue := rest } x now e hf hs
  rw [Drive.start_entriesOf, hget, hslots]
  by_cases hx : x = e.damper
  · subst hx
    rw [if_pos rfl, if_pos rfl, hrest]
    have hfine := hv e.damper
    have hent := hfine.entry e (by simp [hents])
    cases hw : e.what with
    | move t =>
      refine ⟨hfine.position, hfine.followOn, by simp, ?_, ?_⟩
      · simpa [Drive.newSlot, hw] using hent
      · simp [MotionFits, Drive.newSlot, hw]
    | home =>
      refine ⟨by simp, hfine.followOn, by simp, ?_, ?_⟩
      · simp [Drive.newSlot, hw]
      · simp [MotionFits, Drive.newSlot, hw]
  · rw [if_neg hx, if_neg hx]
    have h := hv x
    rwa [hents, if_neg (Ne.symm hx), List.nil_append] at h

/-- A queue without its oldest entry keeps the entries of the other dampers. -/
theorem Drive.tail_entriesOf {e : QueueEntry} {rest : List QueueEntry} (hq : v.queue = e :: rest) {x : ZoneId}
    (hx : x ≠ e.damper) : ({ v with queue := rest } : Drive).entriesOf x = v.entriesOf x := by
  simp [Drive.entriesOf, hq, Ne.symm hx]

/-- A damper enters FAULT; nothing is asked of the others that was not asked before. -/
theorem Drive.fault_fine {w : Drive} (hw : ∀ x, x ≠ d → DamperFine (w.dampers.get x) (w.entriesOf x) (w.slotsOf x)) :
    DriveFine (w.fault d) := by
  intro x
  rw [Drive.fault_get, Drive.fault_entriesOf, Drive.fault_slotsOf]
  by_cases hx : x = d
  · subst hx
    simp only [if_pos]
    exact .resting (by simp) (by simp) (.inr rfl)
  · simp only [if_neg hx]; exact hw x hx

theorem Drive.stepMotion_fine (hv : DriveFine v) : DriveFine (v.stepMotion d) := by
  have hrest (x : ZoneId) (hx : (v.stepMotion d).dampers.get x = v.dampers.get x) :
      DamperFine ((v.stepMotion d).dampers.get x) ((v.stepMotion d).entriesOf x) ((v.stepMotion d).slotsOf x) := by
    obtain ⟨hp, hf, he, hs, hm⟩ := hv x
    rw [hx, Drive.stepMotion_entriesOf, Drive.stepMotion_slotsOf]
    refine ⟨hp, hf, he, ?_, ?_⟩
    · simpa using hs
    · rw [List.map_map, show Slot.what ∘ Slot.stepped d = Slot.what from funext fun y => Slot.stepped_what d y]; exact hm
  intro x
  by_cases hmv : ∃ y t, v.slotOf d = some y ∧ y.what = .move t
  · obtain ⟨y, t, hy, ht⟩ := hmv
    have hg := Drive.stepMotion_get_move v d x hy ht
    by_cases hx : x = d
    · subst hx
      rw [if_pos rfl] at hg
      obtain ⟨hp, hf, he, hs, hm⟩ := hv x
      rw [hg, Drive.stepMotion_entriesOf, Drive.stepMotion_slotsOf]
      refine ⟨?_, hf, he, by simpa using hs, ?_⟩
      · intro n hn
        obtain ⟨p, hpp, rfl⟩ := Option.map_eq_some_iff.mp hn
        have h1 := hp p hpp
        have h2 := hs y (Drive.slot_mem hy) t ht
        unfold towards
        split
        · omega
        · split <;> omega
      · rw [List.map_map, show Slot.what ∘ Slot.stepped x = Slot.what from funext fun y => Slot.stepped_what x y]; exact hm
    · exact hrest x (by rw [hg, if_neg hx])
  · have hd := Drive.stepMotion_dampers_home v d fun y t hy ht => hmv ⟨y, t, hy, ht⟩
    exact hrest x (by rw [hd])

/-- The record of a damper that has come to its rest, and takes its follow-on. -/
theorem Drive.takeFollowOn_fine {w : Drive} (hw : ∀ x, x ≠ d → DamperFine (w.dampers.get x) (w.entriesOf x) (w.slotsOf x))
    (he : w.entriesOf d = []) (hs : w.slotsOf d = []) (hp : ∀ n, (w.dampers.get d).position = some n → n ≤ 200)
    (hf : ∀ n, (w.dampers.get d).followOn = .target n → n ≤ 200) : DriveFine (w.takeFollowOn d) := by
  have h0 : DriveFine (w.onDamper d fun y => { y with followOn := .nothing, motion := .idle }) := by
    intro x
    rw [Drive.onDamper_get, Drive.onDamper_entriesOf, Drive.onDamper_slotsOf]
    by_cases hx : x = d
    · subst hx
      rw [if_pos rfl, he, hs]
      exact .resting hp (by simp) (.inl rfl)
    · rw [if_neg hx]; exact hw x hx
  unfold Drive.takeFollowOn
  dsimp only
  split
  · exact h0
  · split
    · exact h0
    · exact Drive.append_fine' h0 (by simp) (by rintro n ⟨⟩; exact hf _ ‹_›)
  · exact Drive.append_fine' h0 (by simp) (by simp)

/-- A damper that holds a slot has no entry. -/
theorem Drive.entriesOf_of_slotOf {y : Slot} (hv : DriveFine v) (h : v.slotOf d = some y) : v.entriesOf d = [] :=
  ((hv d).motion_of_slot (List.ne_nil_of_mem (Drive.slot_mem h))).2

theorem Drive.completeMove_fine {y : Slot} (hv : DriveFine v) (h : v.slotOf d = some y) : DriveFine (v.completeMove d) := by
  refine Drive.takeFollowOn_fine (fun x hx => ?_) ?_ ?_ ?_ ?_
  · simpa [Drive.onDamper_get, Drive.free_slotsOf, hx] using hv x
  · simpa using Drive.entriesOf_of_slotOf hv h
  · simp [Drive.free_slotsOf]
  · simpa using (hv d).position
  · simpa using (hv d).followOn

theorem Drive.completeHome_fine {y : Slot} (hv : DriveFine v) (h : v.slotOf d = some y) : DriveFine (v.completeHome d) := by
  refine Drive.takeFollowOn_fine (fun x hx => ?_) ?_ ?_ ?_ ?_
  · simpa [Drive.onDamper_get, Drive.free_slotsOf, hx] using hv x
  · simpa using Drive.entriesOf_of_slotOf hv h
  · simp [Drive.free_slotsOf]
  · simp
  · simpa using (hv d).followOn

theorem Drive.stallStop_fine {y : Slot} (hv : DriveFine v) (h : v.slotOf d = some y) : DriveFine (v.stallStop d) := by
  intro x
  unfold Drive.stallStop
  rw [Drive.onDamper_get, Drive.onDamper_entriesOf, Drive.onDamper_slotsOf, Drive.free_entriesOf, Drive.free_slotsOf]
  by_cases hx : x = d
  · subst hx
    rw [if_pos rfl, if_pos rfl, Drive.entriesOf_of_slotOf hv h]
    exact .resting (by simp) (by simp) (.inl rfl)
  · rw [if_neg hx, if_neg hx]; exact hv x

/-- The drive after a reset: every configured zone's damper has a HOME queued. -/
theorem Drive.afterReset_fine (p : ZoneId → Bool) : DriveFine (Drive.afterReset (allZones.filter p)) := by
  intro d
  have he : (Drive.afterReset (allZones.filter p)).entriesOf d = if p d then [⟨d, .home⟩] else [] := by
    have hone : allZones.filter (fun z => decide (z = d)) = [d] := by fin_cases d <;> rfl
    have hswap : (allZones.filter p).filter (fun z => decide (z = d)) = if p d then [d] else [] := by
      rw [List.filter_filter, show (fun z => decide (z = d) && p z) = fun z => p z && decide (z = d) from
        funext fun z => Bool.and_comm .., ← List.filter_filter, hone, List.filter_singleton]
      cases p d <;> rfl
    show ((allZones.filter p).map fun z => (⟨z, .home⟩ : QueueEntry)).filter _ = _
    rw [List.filter_map, show ((fun e : QueueEntry => decide (e.damper = d)) ∘ fun z => (⟨z, .home⟩ : QueueEntry)) =
      fun z => decide (z = d) from rfl, hswap]
    split <;> rfl
  have hs : (Drive.afterReset (allZones.filter p)).slotsOf d = [] := rfl
  rw [he, hs]
  have hx : (Drive.afterReset (allZones.filter p)).dampers.get d = ⟨none, if p d then .queued else .idle, .nothing, 0⟩ := by
    simp [Drive.afterReset, List.mem_filter]
  rw [hx]
  cases p d <;> exact ⟨by simp, by simp, by simp, by simp, by simp [MotionFits]⟩

end

/-! ### Faults that stay through a motion -/

section
variable {v : Drive} {d : ZoneId}

/-- A damper that holds a slot is not in FAULT. -/
theorem Drive.not_fault_of_slotOf {y : Slot} (hv : DriveFine v) (h : v.slotOf d = some y) :
    (v.dampers.get d).motion ≠ .fault := by
  intro hm
  have := ((hv d).rests (.inr hm)).2
  exact List.ne_nil_of_mem (Drive.slot_mem h) this

end

end Sys2Proof.Machine
end

section
/-! The air path (06 R104) under the operations of the Damper Drive and of the Blower Controller. -/

namespace Sys2Proof.Machine

/-! ### The dampers -/

theorem Drive.airPath_iff (v : Drive) : v.airPath = true ↔ ∃ d, passes (v.dampers.get d).position = true := by
  unfold Drive.airPath
  rw [List.any_eq_true]
  constructor
  · rintro ⟨x, hx, hp⟩
    obtain ⟨d, rfl⟩ := Eight.mem_toList.mp hx
    exact ⟨d, hp⟩
  · rintro ⟨d, hp⟩
    exact ⟨_, Eight.mem_toList.mpr ⟨d, rfl⟩, hp⟩

theorem homesUnknown_iff (v : Drive) :
    HomesUnknown v ↔ ∀ d, ∀ y ∈ v.slotsOf d, y.what = .home → (v.dampers.get d).position = none := by
  constructor
  · intro h d y hy hw
    have hd := Drive.damper_of_mem_slotsOf hy
    subst hd
    exact h y (by simpa [eq_comm] using (List.mem_filter.mp hy).1) hw
  · intro h y hy hw
    refine h y.damper y (List.mem_filter.mpr ⟨?_, by simp⟩) hw
    simpa [eq_comm] using hy

section
variable {v : Drive} {d : ZoneId}

theorem Drive.Asks.homesUnknown {w : Drive} (h : v.Asks d w) (hv : HomesUnknown v) : HomesUnknown w := by
  rw [homesUnknown_iff] at hv ⊢
  intro x
  rw [h.slotsOf, h.positions]
  exact hv x

theorem Drive.Asks.airPath {w : Drive} (h : v.Asks d w) : w.airPath = v.airPath := by
  rw [Bool.eq_iff_iff, Drive.airPath_iff, Drive.airPath_iff]
  simp only [h.positions]

theorem Drive.start_homesUnknown {now : Nat} {e : QueueEntry} (hv : HomesUnknown v) : HomesUnknown (v.start now e) := by
  have hpos (x : ZoneId) (h : (v.dampers.get x).position = none ∨ x = e.damper ∧ e.what = .home) :
      ((v.start now e).dampers.get x).position = none := by
    rw [Drive.start_get]
    split
    next hx =>
      subst hx
      rcases h with h | ⟨-, h⟩
      · cases e.what <;> simp [h]
      · simp [h]
    next hx => exact h.resolve_right fun k => hx k.1
  intro y hy hw
  rw [Drive.start_slot1, Drive.start_slot2] at hy
  have : y = v.newSlot now e ∨ v.slot1 = some y ∨ v.slot2 = some y := by
    split at hy
    · exact hy.imp (fun h => (Option.some.inj h).symm) .inr
    · exact hy.symm.imp (fun h => (Option.some.inj h).symm) .inl
  rcases this with rfl | hold
  · exact hpos _ (.inr ⟨rfl, hw⟩)
  · exact hpos _ (.inl (hv y hold hw))

theorem Drive.fault_homesUnknown (hv : HomesUnknown v) : HomesUnknown (v.fault d) := by
  rw [homesUnknown_iff] at hv ⊢
  intro x y
  rw [Drive.fault_slotsOf, Drive.fault_get]
  split
  · simp
  · exact hv x y

theorem Drive.stepMotion_homesUnknown (hv : HomesUnknown v) : HomesUnknown (v.stepMotion d) := by
  rw [homesUnknown_iff] at hv ⊢
  intro x y
  rw [Drive.stepMotion_slotsOf, List.mem_map]
  rintro ⟨y', hy', rfl⟩ hw
  rw [Slot.stepped_what] at hw
  have hn := hv x y' hy' hw
  by_cases hmv : ∃ z t, v.slotOf d = some z ∧ z.what = .move t
  · obtain ⟨z, t, hz, ht⟩ := hmv
    rw [Drive.stepMotion_get_move v d x hz ht]
    split
    next hx => subst hx; simp [hn]
    next => exact hn
  · rw [Drive.stepMotion_dampers_home v d fun z t hz ht => hmv ⟨z, t, hz, ht⟩]; exact hn

theorem Drive.asks_takeFollowOn : v.Asks d (v.takeFollowOn d) := by
  have h0 : v.Asks d (v.onDamper d fun y => { y with followOn := .nothing, motion := .idle }) :=
    Drive.asks_onDamper _ fun _ => rfl
  unfold Drive.takeFollowOn
  dsimp only
  split
  · exact h0
  · split
    · exact h0
    · exact h0.trans (Drive.asks_append _)
  · exact h0.trans (Drive.asks_append _)

/-- A damper whose slot is freed makes no motion any more, whatever its position is then. -/
theorem Drive.freed_homesUnknown {f : Damper → Damper} (hv : HomesUnknown v) : HomesUnknown ((v.free d).onDamper d f) := by
  rw [homesUnknown_iff] at hv ⊢
  intro x y
  rw [Drive.onDamper_slotsOf, Drive.free_slotsOf, Drive.onDamper_get]
  split
  · simp
  · exact hv x y

theorem Drive.completeMove_homesUnknown (hv : HomesUnknown v) : HomesUnknown (v.completeMove d) :=
  Drive.asks_takeFollowOn.homesUnknown (Drive.freed_homesUnknown hv)

theorem Drive.completeHome_homesUnknown (hv : HomesUnknown v) : HomesUnknown (v.completeHome d) :=
  Drive.asks_takeFollowOn.homesUnknown
    (Drive.freed_homesUnknown (v := v.drained d) (f := fun y => { y with position := some 0 }) hv)

theorem Drive.completeMove_airPath : (v.completeMove d).airPath = v.airPath := by
  unfold Drive.completeMove
  rw [Drive.asks_takeFollowOn.airPath, Bool.eq_iff_iff, Drive.airPath_iff, Drive.airPath_iff]
  refine exists_congr fun x => ?_
  rw [Drive.onDamper_get]
  split
  · subst_vars; rfl
  · rfl

/-- A HOME that completes takes no air path away: the position of its damper was UNKNOWN. -/
theorem Drive.completeHome_airPath {y : Slot} (hv : HomesUnknown v) (hy : v.slotOf d = some y) (hw : y.what = .home)
    (h : v.airPath = true) : (v.completeHome d).airPath = true := by
  unfold Drive.completeHome
  rw [Drive.asks_takeFollowOn.airPath]
  rw [Drive.airPath_iff] at h ⊢
  obtain ⟨x, hx⟩ := h
  refine ⟨x, ?_⟩
  have hn := (homesUnknown_iff v).mp hv d y (Drive.slot_mem hy) hw
  rw [Drive.onDamper_get]
  split
  next hxd => rw [hxd, hn] at hx; simp [passes] at hx
  next => exact hx

theorem Drive.stallStop_homesUnknown (hv : HomesUnknown v) : HomesUnknown (v.stallStop d) := Drive.freed_homesUnknown hv

theorem Drive.afterReset_homesUnknown (homes : List ZoneId) : HomesUnknown (Drive.afterReset homes) := by
  intro x hx; simp [Drive.afterReset] at hx

end

/-! ### The blower -/

/-- While the blower blows it carries an airflow only with a goal (07 R117). -/
def CarrySafe (b : Blower) : Prop := b.state = .ramp ∨ b.state = .run → ∀ q, b.carried = some q → q ≠ 0 → b.goal ≠ 0

/-- The blower's part of the air path: a goal above 0 only with a path, and `CarrySafe`. -/
def BlowerSafe (path : Prop) (b : Blower) : Prop := (b.goal ≠ 0 → path) ∧ CarrySafe b

theorem airSafeOf_iff (v : Drive) (b : Blower) :
    AirSafeOf v b ↔ BlowerSafe (v.airPath = true) b ∧ HomesUnknown v := by
  unfold AirSafeOf BlowerSafe CarrySafe; tauto

section
variable {b : Blower} {path : Prop} (now : Nat) (table : List BlowerPoint)

theorem carrySafe_of_none (h : b.carried = none) : CarrySafe b := by rintro - q hq; rw [h] at hq; cases hq

@[simp] theorem Blower.setGoal_goal (q : Nat) : (b.setGoal now table q).goal = q := rfl
@[simp] theorem Blower.setGoal_state (q : Nat) : (b.setGoal now table q).state = b.state := rfl
@[simp] theorem Blower.setGoal_carried (q : Nat) : (b.setGoal now table q).carried = b.carried := rfl
@[simp] theorem Blower.setDemand_goal (q : Nat) : (b.setDemand now q).goal = b.goal := rfl
@[simp] theorem Blower.setDemand_state (q : Nat) : (b.setDemand now q).state = b.state := rfl
@[simp] theorem Blower.setDemand_carried (q : Nat) : (b.setDemand now q).carried = b.carried := rfl
@[simp] theorem Blower.leavePause_goal : (b.leavePause now).goal = b.goal := by unfold Blower.leavePause; split <;> rfl
@[simp] theorem Blower.leavePause_carried : (b.leavePause now).carried = b.carried := by unfold Blower.leavePause; split <;> rfl

/-- A goal put in force with nothing carried. -/
theorem BlowerSafe.goal (h : b.carried = none) {q : Nat} (hq : q ≠ 0 → path) : BlowerSafe path (b.setGoal now table q) :=
  ⟨hq, carrySafe_of_none h⟩

theorem BlowerSafe.turnOff (path : Prop) (b : Blower) : BlowerSafe path (b.turnOff now table) :=
  .goal now table rfl (fun h => absurd rfl h)
theorem BlowerSafe.enterHold (path : Prop) (b : Blower) : BlowerSafe path (b.enterHold now table) :=
  .goal now table rfl (fun h => absurd rfl h)
theorem BlowerSafe.rampTo (b : Blower) {g : Nat} (hg : g ≠ 0 → path) : BlowerSafe path (b.rampTo now table g) :=
  .goal now table rfl hg
theorem BlowerSafe.guard (path : Prop) (b : Blower) : BlowerSafe path (b.guard now table) :=
  ⟨fun h => absurd rfl h, carrySafe_of_none rfl⟩

theorem BlowerSafe.give (h : BlowerSafe path b) {running : Bool} {g : Nat} (hg : g ≠ 0 → path) :
    BlowerSafe path (b.give now table running g) := by
  unfold Blower.give
  dsimp only
  split
  · split
    · exact h
    · exact .rampTo now table _ hg
  · exact h
  · split
    · exact h
    · exact .rampTo now table _ hg
  · split
    · split
      · exact ⟨h.1, fun _ q hq h0 => by cases hq; exact h0⟩
      · exact .turnOff now table path _
    · split
      · exact ⟨h.1, carrySafe_of_none rfl⟩
      · exact .rampTo now table _ hg

theorem BlowerSafe.addHold (h : BlowerSafe path b) (cold : Bool) : BlowerSafe path (b.addHold now table cold) := by
  unfold Blower.addHold
  cases cold <;> simp only [Bool.false_eq_true, ↓reduceIte] <;> split
  · exact h
  · exact .enterHold now table path _
  · exact h
  · exact .enterHold now table path _

/-- A hold that ends leaves nothing carried without a goal; the path is for the guard to see to. -/
theorem CarrySafe.removeHold (h : CarrySafe b) (cold : Bool) : CarrySafe (b.removeHold now table cold) := by
  unfold Blower.removeHold
  cases cold <;> simp only [Bool.false_eq_true, ↓reduceIte] <;> split
  · split <;> exact carrySafe_of_none rfl
  · exact h
  · split <;> exact carrySafe_of_none rfl
  · exact h

theorem BlowerSafe.stopReported (h : BlowerSafe path b) (m : Option Mode) :
    BlowerSafe path (b.stopReported now table m) := by
  unfold Blower.stopReported
  split
  next hb =>
    split
    · exact h
    next q hq =>
      split
      · exact .turnOff now table path _
      · refine ⟨fun hg => h.1 (h.2 hb q hq fun h0 => hg (by simp [h0])), ?_⟩
        rintro (hs | hs) <;> cases hs
  next => exact h

theorem BlowerSafe.newTable (h : BlowerSafe path b) : BlowerSafe path (b.newTable now table) := by
  unfold Blower.newTable
  split
  · exact h
  · refine ⟨h.1, fun hs => h.2 ?_⟩
    simp only [Blower.setGoal_state] at hs
    split at hs
    · exact .inr ‹_›
    · exact hs

/-- The blower blows no less than before, and its goal and what it carries stand. -/
theorem BlowerSafe.same {c : Blower} (h : BlowerSafe path b) (hg : c.goal = b.goal) (hc : c.carried = b.carried)
    (hs : c.state = .ramp ∨ c.state = .run → b.state = .ramp ∨ b.state = .run) : BlowerSafe path c := by
  unfold BlowerSafe CarrySafe
  rw [hg, hc]
  exact ⟨h.1, fun k => h.2 (hs k)⟩

theorem BlowerSafe.afterReset (qmax : Nat) : BlowerSafe path (Blower.afterReset now qmax) :=
  ⟨fun h => absurd rfl h, carrySafe_of_none rfl⟩

end

end Sys2Proof.Machine
end

section
/-! What every operation of the machine keeps, as one preorder on states: `Sound Q s t` says that `t`, reached from `s`, has the
running clock and the queue of commands of `s`, and each of the invariants of configuration, trips, times, air path and drive that `s`
has. `Q` is what is given of the plans that the operation works for. -/

namespace Sys2Proof.Machine

/-! ### The preorder -/

/-- Limiting has its step time, and the notice has its time (10 R155, 11 R165): what the renewal of the times takes as given. -/
def MarksTimed (s : State) : Prop :=
  (s.prot.freezeLim = true ∨ s.prot.supplyLim = true → s.prot.stepFrom ≠ none) ∧
    (s.op.noticeFrom ≠ none ↔ s.op.notice = true)

/-- Every zone of a plan has an opening of 0..200 (03 R55). -/
def PlanFine (p : Plan) : Prop := ∀ z, (p.zones.get z).opening ≤ 200

/-- From `s` to `t` everything is kept but, perhaps, the air path. -/
structure Firm (Q : Prop) (s t : State) : Prop where
  now : t.now = s.now
  pending : t.pending = s.pending
  config : ConfigurationGood s → ConfigurationGood t
  trips : HistoriesGood s ∧ LimitGood s → HistoriesGood t ∧ LimitGood t
  marks : MarksTimed s → MarksTimed t
  homes : HomesUnknown s.drive → HomesUnknown t.drive
  carry : CarrySafe s.blower → CarrySafe t.blower
  drive : Q → DriveAgrees s → DriveAgrees t

/-- From `s` to `t` everything is kept. -/
structure Sound (Q : Prop) (s t : State) : Prop extends Firm Q s t where
  air : AirSafe s → t.blower.goal ≠ 0 → t.drive.airPath = true

section
variable {Q : Prop} {s t u : State}

theorem Firm.trans (h : Firm Q s t) (k : Firm Q t u) : Firm Q s u :=
  ⟨k.now.trans h.now, k.pending.trans h.pending, k.config ∘ h.config, k.trips ∘ h.trips, k.marks ∘ h.marks,
    k.homes ∘ h.homes, k.carry ∘ h.carry, fun q d => k.drive q (h.drive q d)⟩

theorem Sound.airSafe (h : Sound Q s t) (hs : AirSafe s) : AirSafe t := by
  refine ⟨h.air hs, h.carry ?_, h.homes ?_⟩
  · exact hs.2.1
  · exact hs.2.2

theorem Sound.refl : Sound Q s s := ⟨⟨rfl, rfl, id, id, id, id, id, fun _ => id⟩, fun h => h.1⟩

theorem Sound.trans (h : Sound Q s t) (k : Sound Q t u) : Sound Q s u :=
  ⟨h.toFirm.trans k.toFirm, fun hs => k.air (h.airSafe hs)⟩

theorem Sound.ite {c : Prop} [Decidable c] (h : Sound Q s t) (k : Sound Q s u) : Sound Q s (if c then t else u) := by
  split <;> assumption

/-- A choice between an operation and none. -/
theorem Sound.iteSelf {c : Prop} [Decidable c] (h : Sound Q s t) : Sound Q s (if c then t else s) := h.ite .refl

theorem Sound.iteSelf' {c : Prop} [Decidable c] (h : Sound Q s t) : Sound Q s (if c then s else t) := .ite .refl h

theorem Sound.foldl {α : Type} {f : State → α → State} (h : ∀ s a, Sound Q s (f s a)) (l : List α) (s : State) :
    Sound Q s (l.foldl f s) := by
  induction l generalizing s with
  | nil => exact .refl
  | cons a l ih => exact (h s a).trans (ih _)

end

/-! ### Operations that keep every record the invariants speak of -/

/-- The records that the invariants speak of. -/
structure Records where
  now : Nat
  pending : List Instr
  zcfg : Eight ZoneConfig
  setp : Eight Setpoints
  cfg : Settings
  store : Store
  hist : Histories
  lockout : Bool
  limit : Nat
  freezeLim : Bool
  supplyLim : Bool
  stepFrom : Option Nat
  notice : Bool
  noticeFrom : Option Nat
  zst : Eight ZoneStatus
  drive : Drive
  state : BlowerState
  goal : Nat
  carried : Option Nat
  applied : Plan
  incoming : Option Plan
  held : Option Plan

/-- The records of a state. -/
def records (s : State) : Records :=
  ⟨s.now, s.pending, s.zcfg, s.setp, s.cfg, s.store, s.prot.hist, s.prot.lockout, s.prot.limit, s.prot.freezeLim,
    s.prot.supplyLim, s.prot.stepFrom, s.op.notice, s.op.noticeFrom, s.zst, s.drive, s.blower.state, s.blower.goal,
    s.blower.carried, s.co.applied, s.co.incoming, s.co.held⟩

theorem Sound.of_records {Q : Prop} {s t : State} (h : records t = records s) : Sound Q s t := by
  simp only [records, Records.mk.injEq] at h
  obtain ⟨hn, hp, hz, hsp, hc, hst, hh, hl, hlim, hf, hsl, hsf, hno, hnf, hzs, hd, hb, hg, hca, ha, hi, hhe⟩ := h
  refine ⟨⟨hn, hp, ?_, ?_, ?_, ?_, ?_, ?_⟩, ?_⟩
  · unfold ConfigurationGood; rw [hz, hsp, hc, hst]; exact id
  · unfold HistoriesGood LimitGood; rw [hh, hl, hlim]; exact id
  · unfold MarksTimed; rw [hf, hsl, hsf, hno, hnf]; exact id
  · rw [hd]; exact id
  · unfold CarrySafe; rw [hb, hg, hca]; exact id
  · simp only [driveAgrees_iff, stateOf, hzs, hd, ha, hi, hhe]; exact fun _ => id
  · rw [hg, hd]; exact fun hs => hs.1

/-- An operation on a state that has the records of `s`. -/
theorem Sound.after {Q : Prop} {s t u : State} (k : Sound Q t u) (h : records t = records s) : Sound Q s u :=
  (Sound.of_records h).trans k

/-! ### Operations on one block -/

theorem DriveAgrees.of_eq {s t : State} (h : DriveAgrees s) (hz : t.zst = s.zst) (hd : t.drive = s.drive) (hc : t.co = s.co) :
    DriveAgrees t := by
  simpa only [driveAgrees_iff, stateOf, hz, hd, hc] using h

section
variable {Q : Prop} {s : State}

/-- The drive changes, and the air path is left aside. -/
theorem Firm.of_drive {w : Drive} (hf : DriveFine s.drive → (Q → DriveAgrees s) → Q → DriveFine w)
    (hz : DriveFine s.drive → ∀ x, stateOf s x = .fault → (s.drive.dampers.get x).motion = .fault →
      (w.dampers.get x).motion = .fault)
    (hh : HomesUnknown s.drive → HomesUnknown w) : Firm Q s { s with drive := w } := by
  refine ⟨rfl, rfl, id, id, id, hh, id, fun q h => ?_⟩
  obtain ⟨hd, hzf, hpl⟩ := (driveAgrees_iff s).mp h
  exact (driveAgrees_iff _).mpr ⟨hf hd (fun _ => h) q, fun x hx => hz hd x hx (hzf x hx), hpl⟩

/-- One damper is asked for something. -/
theorem Sound.of_asks {w : Drive} {d : ZoneId} (ha : s.drive.Asks d w) (hf : Q → DriveFine s.drive → DriveFine w)
    (hz : DriveFine s.drive → ∀ x, (s.drive.dampers.get x).motion = .fault → (w.dampers.get x).motion = .fault) :
    Sound Q s { s with drive := w } := by
  refine ⟨.of_drive (fun hd _ q => hf q hd) (fun hd x _ => hz hd x) ha.homesUnknown, fun hs => ?_⟩
  rw [ha.airPath]
  exact hs.1

/-- The blower changes. -/
theorem Sound.of_blower {b : Blower} (h : BlowerSafe (s.drive.airPath = true) s.blower → BlowerSafe (s.drive.airPath = true) b)
    (hc : CarrySafe s.blower → CarrySafe b) : Sound Q s { s with blower := b } :=
  ⟨⟨rfl, rfl, id, id, id, id, hc, fun _ h => h.of_eq rfl rfl rfl⟩, fun hs => (h ((airSafeOf_iff ..).mp hs).1).1⟩

/-- The blower changes so that its part of the air path is safe whatever the path is. -/
theorem Sound.of_blower' {b : Blower} (h : ∀ path, BlowerSafe path s.blower → BlowerSafe path b) :
    Sound Q s { s with blower := b } :=
  .of_blower (h _) fun hc => (h True ⟨fun _ => trivial, hc⟩).2

/-- The controller changes, and every plan it then holds has openings of 0..200. -/
theorem Sound.of_co {c : Changeover}
    (h : Q → (∀ p, p = s.co.applied ∨ s.co.incoming = some p ∨ s.co.held = some p → PlanFine p) →
      ∀ p, p = c.applied ∨ c.incoming = some p ∨ c.held = some p → PlanFine p) : Sound Q s { s with co := c } := by
  refine ⟨⟨rfl, rfl, id, id, id, id, id, fun q hd => ?_⟩, fun hs => hs.1⟩
  obtain ⟨hd, hzf, hpl⟩ := (driveAgrees_iff s).mp hd
  exact (driveAgrees_iff _).mpr ⟨hd, hzf, fun p z hp => h q (fun p hp z => hpl p z hp) p hp z⟩

/-- Only values of the configuration change. -/
theorem Sound.of_config {z : Eight ZoneConfig} {p : Eight Setpoints} {c : Settings} {st : Store}
    (h : ConfigurationGood s → ConfigurationGood { s with zcfg := z, setp := p, cfg := c, store := st }) :
    Sound Q s { s with zcfg := z, setp := p, cfg := c, store := st } :=
  ⟨⟨rfl, rfl, h, id, id, id, id, fun _ h => h.of_eq rfl rfl rfl⟩, fun hs => hs.1⟩

/-- Only the histories, LOCKOUT and the limit change, of what the invariants speak of. -/
theorem Sound.of_trips {p : Protection} (h : HistoriesGood s ∧ LimitGood s →
      HistoriesGood { s with prot := p } ∧ LimitGood { s with prot := p })
    (hm : MarksTimed s → MarksTimed { s with prot := p }) : Sound Q s { s with prot := p } :=
  ⟨⟨rfl, rfl, id, h, hm, id, id, fun _ h => h.of_eq rfl rfl rfl⟩, fun hs => hs.1⟩

/-- Only the limiting marks and their step time change, of what the invariants speak of. -/
theorem Sound.of_marks {p : Protection} (hh : p.hist = s.prot.hist) (hl : p.lockout = s.prot.lockout)
    (hlim : p.limit = s.prot.limit) (hm : MarksTimed s → MarksTimed { s with prot := p }) : Sound Q s { s with prot := p } :=
  .of_trips (by unfold HistoriesGood LimitGood; simp only [hh, hl, hlim]; exact id) hm

/-- Only the Operating State Controller changes, and its notice keeps its time. -/
theorem Sound.of_op {o : Operating} (hm : MarksTimed s → MarksTimed { s with op := o }) : Sound Q s { s with op := o } :=
  ⟨⟨rfl, rfl, id, id, hm, id, id, fun _ h => h.of_eq rfl rfl rfl⟩, fun hs => hs.1⟩

/-- The states of the zones change, and a damper is in FAULT where its zone is. -/
theorem Sound.of_zst {z : Eight ZoneStatus}
    (h : ∀ d, (z.get d).state = .fault → stateOf s d = .fault ∨ (s.drive.dampers.get d).motion = .fault) :
    Sound Q s { s with zst := z } := by
  refine ⟨⟨rfl, rfl, id, id, id, id, id, fun _ hd => ?_⟩, fun hs => hs.1⟩
  obtain ⟨hd, hzf, hpl⟩ := (driveAgrees_iff s).mp hd
  exact (driveAgrees_iff _).mpr ⟨hd, fun d hd => (h d hd).elim (hzf d) id, hpl⟩

end

/-! ### Shared operations (12 R171 to R177, 01) -/

section
variable {Q : Prop} (s : State)

theorem raise_sound (r : Report) : Sound Q s (raise r s) := .of_records rfl
theorem handReply_sound (k : Byte) (st : Status) (b : List Byte) : Sound Q s (handReply k st b s) := .of_records rfl
theorem requestPass_sound : Sound Q s (requestPass s) := .of_records rfl
theorem tellRestart_sound : Sound Q s (tellRestart s) := .of_records rfl
theorem tellPhase_sound : Sound Q s (tellPhase s) := .of_records rfl

theorem setZoneState_sound (z : ZoneId) (new : ZoneState)
    (h : new = .fault → stateOf s z = .fault ∨ (s.drive.dampers.get z).motion = .fault) : Sound Q s (setZoneState z new s) := by
  refine .trans (.of_zst fun d hd => ?_) (raise_sound _ _)
  rw [Eight.get_modify] at hd
  split at hd
  next hx => exact hx ▸ h hd
  next => exact .inl hd

/-- The values in force make a good image. -/
theorem imageInForce_good (h : ConfigurationGood s) : ImageGood (imageInForce s) :=
  ⟨h.1, fun z => by simpa [imageInForce, imageZone] using h.2.1 z⟩

theorem autoImage_good (h : ConfigurationGood s) : ImageGood (autoImage s).1 := by
  unfold autoImage
  split
  next i hi =>
    split
    · exact imageInForce_good s h
    · exact h.2.2.1 i hi
  next => exact imageInForce_good s h

theorem startAutoSave_sound : Sound Q s (startAutoSave s) := by
  refine .iteSelf (.of_config fun h => ⟨h.1, h.2.1, h.2.2.1, ?_⟩)
  rintro i ⟨⟩
  exact autoImage_good s h

theorem autoSave_sound : Sound Q s (autoSave s) :=
  .trans (t := { s with store := { s.store with autoPending := true } }) (.of_config id) (startAutoSave_sound _)

theorem startFullWrite_sound : Sound Q s (startFullWrite s) := by
  refine .of_config fun h => ⟨h.1, h.2.1, h.2.2.1, ?_⟩
  rintro i ⟨⟩
  exact imageInForce_good s h

/-! ### Zone sensing (01) -/

theorem putSensor_sound (z : ZoneId) (r : SensorRec) : Sound Q s (putSensor z r s) := .of_records rfl

theorem changeSensor_sound (z : ZoneId) (r : SensorRec) : Sound Q s (changeSensor z r s) :=
  .ite (putSensor_sound _ _ _) (.of_records rfl)

theorem discardPoll_sound (z : ZoneId) : Sound Q s (discardPoll z s) := by
  unfold discardPoll
  split
  · exact .iteSelf (.of_records rfl)
  · exact .refl

theorem restartSensing_sound (z : ZoneId) (a : Option Nat) : Sound Q s (restartSensing z a s) :=
  (discardPoll_sound _ _).trans (changeSensor_sound _ _ _)

theorem stopSensing_sound (z : ZoneId) : Sound Q s (stopSensing z s) :=
  (discardPoll_sound _ _).trans (changeSensor_sound _ _ _)

theorem restartSweep_sound : Sound Q s (restartSweep s) := .of_records rfl

theorem failAttempt_sound (p : Poll) : Sound Q s (failAttempt p s) := by
  unfold failAttempt
  split
  · exact .of_records rfl
  · exact .trans (t := { s with sens := { s.sens with poll := none } }) (.of_records rfl)
      (.iteSelf' (changeSensor_sound _ _ _))

theorem passPoll_sound (p : Poll) (t : Int) (rh : Option Nat) : Sound Q s (passPoll p t rh s) :=
  .trans (t := { s with sens := { s.sens with poll := none } }) (.of_records rfl) (.iteSelf' (changeSensor_sound _ _ _))

/-! ### Dampers (06) -/

theorem moveRequest_sound (d : ZoneId) {t : Nat} (ht : Q → t ≤ 200) : Sound Q s (moveRequest d t s) :=
  .iteSelf (.of_asks (Drive.asks_requestMove _) (fun q h => Drive.requestMove_fine h (ht q))
    fun _ _ => Drive.requestMove_fault _ _)

theorem homeRequest_sound (d : ZoneId) : Sound Q s (homeRequest d s) :=
  .of_asks Drive.asks_requestHome (fun _ => Drive.requestHome_fine) fun _ _ => Drive.requestHome_fault _

/-- A zone that is not in FAULT gives its damper up. -/
theorem withdrawAll_sound (z : ZoneId) (hz : stateOf s z ≠ .fault) : Sound Q s { s with drive := s.drive.withdrawAll z } := by
  refine ⟨.of_drive (fun h _ _ => Drive.withdrawAll_fine h) (fun _ x hx h => ?_) Drive.asks_withdrawAll.homesUnknown,
    fun hs => ?_⟩
  · rwa [((Drive.asks_withdrawAll (v := s.drive) (d := z)).others x (by rintro rfl; exact hz hx)).1]
  · rw [Drive.asks_withdrawAll.airPath]; exact hs.1

theorem releaseZone_sound (z : ZoneId) : Sound Q s (releaseZone z s) := by
  have h1 : Sound Q s (requestPass (setZoneState z .unused s)) :=
    .trans (setZoneState_sound s z .unused (by simp)) (requestPass_sound _)
  have h2 (t : State) : Sound Q t { t with zst := t.zst.modify z fun x => { x with unconf := false } } := by
    refine .of_zst fun d hd => .inl ?_
    rw [Eight.get_modify] at hd
    split at hd
    next hx => exact hx ▸ hd
    next => exact hd
  refine .trans (h1.trans ((h2 _).trans (stopSensing_sound _ z))) (.trans (withdrawAll_sound _ z ?_) (.of_records rfl))
  have hk (t : State) : stateOf (stopSensing z t) z = stateOf t z := by
    unfold stopSensing changeSensor discardPoll
    (repeat' split) <;> rfl
  rw [hk]
  simp [stateOf, setZoneState, raise, requestPass]

/-- The FAULT of a damper goes with its zone. -/
theorem faultZone_sound (d : ZoneId) (hd : (s.drive.dampers.get d).motion = .fault) :
    Sound Q s
      (match stateOf s d with
      | .active =>
        let s := requestPass (setZoneState d .fault s)
        if (s.zst.get d).unconf then releaseZone d s else s
      | .parked =>
        let s := requestPass (setZoneState d .fault s)
        if (s.zst.get d).unconf then releaseZone d s else s
      | _ => s) := by
  have h1 : Sound Q s (requestPass (setZoneState d .fault s)) :=
    .trans (setZoneState_sound s d .fault fun _ => .inr hd) (requestPass_sound _)
  split
  · exact h1.trans (.iteSelf (releaseZone_sound _ _))
  · exact h1.trans (.iteSelf (releaseZone_sound _ _))
  · exact .refl

/-- A damper enters FAULT from a drive `w` in which the others stand as they stood. -/
theorem faultDamper_firm (d : ZoneId) {w : Drive}
    (hf : DriveFine s.drive → ∀ x, x ≠ d → DamperFine (w.dampers.get x) (w.entriesOf x) (w.slotsOf x))
    (hz : ∀ x, x ≠ d → w.dampers.get x = s.drive.dampers.get x) (hh : HomesUnknown s.drive → HomesUnknown w) :
    Firm Q s (faultDamper d { s with drive := w }) := by
  have h1 : Firm Q s { s with drive := w.fault d } := by
    refine .of_drive (fun h _ _ => Drive.fault_fine (hf h)) (fun _ x _ hx => ?_) fun h => Drive.fault_homesUnknown (hh h)
    rw [Drive.fault_get]
    split
    · rfl
    next hxd => rwa [hz x hxd]
  refine h1.trans (.trans (Sound.of_records ?_).toFirm (faultZone_sound _ d ?_).toFirm)
  · rfl
  · show ((w.fault d).dampers.get d).motion = .fault
    rw [Drive.fault_get, if_pos rfl]

/-! ### The air path and the blower (06 R104, 07) -/

theorem blowerGuard_firm : Firm Q s (blowerGuard s) :=
  .trans (.trans (Sound.of_blower' fun path _ => .guard _ _ path _).toFirm (requestPass_sound _).toFirm)
    (tellRestart_sound _).toFirm

/-- Whatever has become of the air path, the guard makes it safe. -/
theorem airGuard_sound {t : State} (h : Firm Q s t) : Sound Q s (airGuard t) := by
  unfold airGuard
  split
  · exact ⟨h.trans (blowerGuard_firm t), fun _ hg => absurd rfl hg⟩
  next hn => exact ⟨h, fun _ hg => by simpa [hg] using hn⟩

theorem giveBlower_sound {g : Nat} (hg : g ≠ 0 → s.drive.airPath = true) : Sound Q s (giveBlower g s) :=
  .of_blower (fun h => h.give _ _ hg) fun h => (BlowerSafe.give (path := True) _ _ ⟨fun _ => trivial, h⟩ fun _ => trivial).2

theorem offerGoal_sound (g : Nat) : Sound Q s (offerGoal g s) := by
  unfold offerGoal
  split
  · exact (giveBlower_sound s fun h => absurd rfl h).trans (.of_records rfl)
  next hn => exact giveBlower_sound s fun hg => by simpa [hg] using hn

theorem addHold_sound (cold : Bool) : Sound Q s (addHold cold s) :=
  .trans (.of_blower' fun _ h => h.addHold _ _ cold) (.of_records rfl)

theorem removeHold_sound (cold : Bool) : Sound Q s (removeHold cold s) :=
  airGuard_sound _ ⟨rfl, rfl, id, id, id, id, fun h => h.removeHold _ _ cold, fun _ h => h.of_eq rfl rfl rfl⟩

/-- The oldest entry is granted: its motion begins, or its damper enters FAULT. -/
theorem grantOne_sound (hg : canGrant s = true) : Sound Q s (grantOne s) := by
  unfold grantOne
  split
  · exact .refl
  next e rest hq =>
    dsimp only
    have hfree : s.drive.slotFree = true := by simp only [canGrant, Bool.and_eq_true] at hg; exact hg.1
    split
    · refine airGuard_sound s (faultDamper_firm s e.damper (fun h x hx => ?_) (fun _ _ => rfl) fun h => h)
      rw [Drive.tail_entriesOf hq hx]
      exact h x
    · have h : Firm Q s { s with drive := ({ s.drive with queue := rest } : Drive).start s.now e } :=
        .of_drive (fun h _ _ => Drive.start_fine h hq hfree) (fun hd x hx hm => ?_)
          fun h => Drive.start_homesUnknown (v := { s.drive with queue := rest }) h
      · exact airGuard_sound s h
      · have hne : x ≠ e.damper := by
          rintro rfl
          have := (hd e.damper).rests (.inr hm)
          simp [Drive.entriesOf, hq] at this
        rw [Drive.start_get, if_neg hne]
        exact hm

end

end Sys2Proof.Machine
end

section
/-! The sequencer, the Protection Monitor, the Plan Changeover Controller, the link and the operating states keep what `Sound` says. -/

namespace Sys2Proof.Machine

section
variable {Q : Prop} (s : State)

/-! ### The sequencer (09) -/

theorem seqTo_sound (q : SeqState) : Sound Q s (seqTo q s) := .of_records rfl
theorem restartMinOff_sound : Sound Q s (restartMinOff s) := .of_records rfl
theorem seqRest_sound (q : SeqState) : Sound Q s (seqRest q s) := .of_records rfl
theorem stopWait_sound (b : Bool) : Sound Q s (stopWait b s) := .of_records rfl

theorem restStartPoint_sound : Sound Q s (restStartPoint s) := .iteSelf (.of_records rfl)

theorem stopReport_sound : Sound Q s (stopReport s) := by
  have h1 : Sound Q s (restStartPoint (restartMinOff { s with seq := { s.seq with runStart := none } })) :=
    .trans (t := restartMinOff { s with seq := { s.seq with runStart := none } }) (.of_records rfl) (restStartPoint_sound _)
  unfold stopReport
  dsimp only
  refine .trans (h1.trans ?_) (.iteSelf (removeHold_sound _ _))
  exact .of_blower' fun _ h => h.stopReported _ _ _

theorem endRecovery_sound (c : DefrostCause) : Sound Q s (endRecovery c s) := by
  unfold endRecovery
  dsimp only
  refine .trans ?_ (raise_sound _ _)
  refine .trans ?_ (removeHold_sound _ _)
  exact ((seqRest_sound s _).trans (.iteSelf (stopWait_sound _ _))).trans (.of_records rfl)

theorem enterRecovery_sound (c : DefrostCause) : Sound Q s (enterRecovery c s) := by
  unfold enterRecovery
  dsimp only
  exact .after (.iteSelf (endRecovery_sound _ _)) rfl

theorem grantDefrost_sound : Sound Q s (grantDefrost s) := .of_records rfl

theorem enterPrep_sound : Sound Q s (enterPrep s) := by
  unfold enterPrep
  dsimp only
  refine .trans ?_ (.iteSelf (grantDefrost_sound _))
  refine .trans ?_ (raise_sound _ _)
  exact (Sound.of_records rfl).trans ((addHold_sound _ _).trans (.of_records rfl))

theorem takeStopped_sound : Sound Q s (takeStopped s) := .iteSelf' ((stopReport_sound s).trans (.of_records rfl))

theorem interruptDefrost_sound (c : DefrostCause) : Sound Q s (interruptDefrost c s) :=
  (takeStopped_sound s).trans (.iteSelf' (enterRecovery_sound _ _))

theorem markStop_sound : Sound Q s (markStop s) :=
  .trans (t := { s with seq := { s.seq with stopMark := true } }) (.of_records rfl) (.iteSelf (enterRecovery_sound _ _))

theorem immediateStop_sound : Sound Q s (immediateStop s) := by
  unfold immediateStop
  split
  · exact stopWait_sound _ _
  · exact stopWait_sound _ _
  · exact markStop_sound _
  · exact markStop_sound _
  · exact markStop_sound _
  · exact .refl

theorem followWanted_sound : Sound Q s (followWanted s) := by
  unfold followWanted
  split
  · exact seqTo_sound _ _
  · exact seqTo_sound _ _
  · exact .refl

theorem releaseOff_sound : Sound Q s (releaseOff s) := by
  unfold releaseOff
  dsimp only
  exact .after ((immediateStop_sound _).trans (followWanted_sound _)) rfl

theorem limitChanged_sound : Sound Q s (limitChanged s) :=
  .trans (.iteSelf (immediateStop_sound s)) (followWanted_sound _)

theorem seqRelease_sound (r : Release) : Sound Q s (seqRelease r s) := by
  obtain ⟨t, ht⟩ : ∃ t : State, t = { s with seq :=
      { s.seq with release := some r, stopping := if r.c = 0 then s.seq.stopping else some r.mode } } := ⟨_, rfl⟩
  unfold seqRelease
  rw [← ht]
  dsimp only
  refine .after ?_ (show records t = records s by rw [ht]; rfl)
  split
  · exact .ite (stopWait_sound _ _) (.ite (stopWait_sound _ _) (.iteSelf (stopWait_sound _ _)))
  · exact .iteSelf' (.ite (stopWait_sound _ _) (.iteSelf' (seqTo_sound _ _)))
  · exact followWanted_sound _
  · exact followWanted_sound _
  · exact .refl

theorem startCompressor_sound : Sound Q s (startCompressor s) := by
  unfold startCompressor
  dsimp only
  exact .after (.iteSelf (addHold_sound _ _)) rfl

theorem stoppingTrip_sound : Sound Q s (stoppingTrip s) := by
  unfold stoppingTrip
  dsimp only
  refine (restartMinOff_sound s).trans ?_
  split
  · exact seqRest_sound _ _
  · exact seqRest_sound _ _
  · exact (stopReport_sound _).trans (seqRest_sound _ _)
  · exact (stopReport_sound _).trans (seqRest_sound _ _)
  · exact interruptDefrost_sound _ _
  · exact interruptDefrost_sound _ _
  · exact interruptDefrost_sound _ _
  · exact .refl
  · exact .refl

theorem lockoutSet_sound : Sound Q s (lockoutSet s) := by
  unfold lockoutSet
  dsimp only
  refine (restartMinOff_sound s).trans ?_
  split
  · exact (stopReport_sound _).trans (seqRest_sound _ _)
  · exact (stopReport_sound _).trans (seqRest_sound _ _)
  · exact interruptDefrost_sound _ _
  · exact interruptDefrost_sound _ _
  · exact interruptDefrost_sound _ _
  · exact seqRest_sound _ _

theorem noStoppingTrip_sound : Sound Q s (noStoppingTrip s) := .iteSelf (seqTo_sound _ _)

theorem lockoutEnds_sound : Sound Q s (lockoutEnds s) := .iteSelf (seqTo_sound _ _)

theorem statStops_sound : Sound Q s (statStops s) := (stopReport_sound _).trans (seqRest_sound _ _)

theorem seqLinkLost_sound : Sound Q s (seqLinkLost s) := by
  unfold seqLinkLost
  dsimp only
  refine (restartMinOff_sound s).trans ?_
  split
  · exact (stopReport_sound _).trans (seqRest_sound _ _)
  · exact (stopReport_sound _).trans (seqRest_sound _ _)
  · exact interruptDefrost_sound _ _
  · exact interruptDefrost_sound _ _
  · exact interruptDefrost_sound _ _
  · exact .refl

theorem confirmStart_sound (r : StatRecord) : Sound Q s (confirmStart r s) := .iteSelf (.of_records rfl)

theorem statRunning_sound (r : StatRecord) : Sound Q s (statRunning r s) :=
  .ite (statStops_sound s) (.iteSelf (enterPrep_sound s))

theorem statDefrost_sound (r : StatRecord) : Sound Q s (statDefrost r s) := by
  unfold statDefrost
  split
  · exact .ite (.of_records rfl) (.iteSelf (enterRecovery_sound _ _))
  · exact .iteSelf (enterRecovery_sound _ _)
  · exact .refl

theorem seqStat_sound (r : StatRecord) : Sound Q s (seqStat r s) := by
  unfold seqStat
  dsimp only
  refine (confirmStart_sound s r).trans ?_
  split
  · exact statRunning_sound _ _
  · exact .iteSelf (statStops_sound _)
  · exact .ite (interruptDefrost_sound _ _) (statDefrost_sound _ _)
  · exact .ite (interruptDefrost_sound _ _) (statDefrost_sound _ _)
  · exact .iteSelf (interruptDefrost_sound _ _)
  · exact .refl

/-! ### Trips and the limit (10) -/

theorem leaveStops_sound (k : TripKind) : Sound Q s (leaveStops k s) := by
  unfold leaveStops
  dsimp only
  exact .iteSelf (.after (.iteSelf (noStoppingTrip_sound _)) rfl)

theorem joinStops_sound (k : TripKind) : Sound Q s (joinStops k s) := by
  unfold joinStops
  exact .iteSelf' (.after (stoppingTrip_sound _) rfl)

theorem recordTime_length (l : List Nat) (t : Nat) (h : l.length ≤ 3) : (recordTime l t).length ≤ 3 := by
  have hf : (l.filter fun e => decide (t ≤ e + 3600)).length ≤ 3 := (List.length_filter_le ..).trans h
  unfold recordTime
  dsimp only
  split <;> simp only [List.length_append, List.length_tail, List.length_singleton] <;> omega

/-- A history with a trip recorded, and LOCKOUT set where it then holds three. -/
theorem recordHistory_sound (k : TripKind) (t : Nat) : Sound Q s
    { s with prot := { s.prot with
        hist := s.prot.hist.set k (recordTime (s.prot.hist.get k) t)
        lockout := s.prot.lockout || (decide (3 ≤ (recordTime (s.prot.hist.get k) t).length) && !s.prot.lockout) } } := by
  refine .of_trips (fun ⟨hh, hl⟩ => ⟨fun j => ?_, hl⟩) id
  dsimp only
  rw [hist_get_set]
  split
  · refine ⟨recordTime_length _ _ (hh k).1, fun h3 => ?_⟩
    rw [h3]
    cases s.prot.lockout <;> rfl
  · exact ⟨(hh j).1, fun h3 => by rw [(hh j).2 h3]; rfl⟩

theorem recordTrip_sound (k : TripKind) (stopping : Bool) : Sound Q s (recordTrip k stopping s) := by
  unfold recordTrip
  dsimp only
  refine .trans ?_ (.iteSelf (lockoutSet_sound _))
  refine .trans ?_ (.iteSelf (joinStops_sound _ _))
  refine .trans ?_ (.iteSelf (raise_sound _ _))
  exact .trans (recordHistory_sound s k _) (.of_records rfl)

theorem clearLockout_sound : Sound Q s (clearLockout s) := by
  unfold clearLockout
  dsimp only
  have h : Sound Q s { s with prot := { s.prot with hist := Histories.empty, lockout := false } } := by
    refine .of_trips (fun ⟨_, hl⟩ => ⟨fun k => ?_, hl⟩) id
    have h0 : Histories.empty.get k = [] := by cases k <;> rfl
    simp [h0]
  exact .ite ((h.trans (lockoutEnds_sound _)).trans (.of_records rfl)) (h.trans (requestPass_sound _))

theorem judgeFloat_sound : Sound Q s (judgeFloat s) := .ite (joinStops_sound _ _) (leaveStops_sound _ _)

theorem floatHolds_sound : Sound Q s (floatHolds s) := by
  unfold floatHolds
  exact .after (recordTrip_sound _ _ _) rfl

theorem floatClears_sound : Sound Q s (floatClears s) := by
  unfold floatClears
  exact .after (judgeFloat_sound _) rfl

theorem LimitGood.stepDown {s : State} (h : LimitGood s) (p : Protection) (hp : p.limit = s.prot.limit - 10) :
    LimitGood { s with prot := p } := by
  unfold LimitGood at h ⊢
  dsimp only
  omega

/-- A step of the limit gives its limiting a step time, whatever the limiting was begun by. -/
theorem limitDown_sound {p : Protection} (hh : p.hist = s.prot.hist) (hlk : p.lockout = s.prot.lockout)
    (hl : p.limit = s.prot.limit) : Sound Q s (limitDown { s with prot := p }) := by
  unfold limitDown
  dsimp only
  have h1 : Sound Q s { s with prot := { p with limit := p.limit - 10, stepFrom := some s.now } } := by
    refine .of_trips (fun ⟨h, h'⟩ => ⟨?_, h'.stepDown _ (by rw [← hl])⟩) fun h => ⟨by simp, h.2⟩
    simpa [HistoriesGood, hh, hlk] using h
  exact (h1.trans (.iteSelf' (limitChanged_sound _))).trans (.iteSelf (recordTrip_sound _ _ _))

theorem limitUp_sound : Sound Q s (limitUp s) := by
  unfold limitUp
  dsimp only
  refine .trans ?_ (.iteSelf' (limitChanged_sound _))
  refine .of_trips (fun ⟨h, h'⟩ => ⟨h, ?_⟩) id
  unfold LimitGood at h' ⊢
  dsimp only
  omega

theorem freezeLimits_sound : Sound Q s (freezeLimits s) := limitDown_sound s rfl rfl rfl
theorem supplyLimits_sound : Sound Q s (supplyLimits s) := limitDown_sound s rfl rfl rfl

/-- Limiting that only ends keeps the step time of what is left. -/
theorem MarksTimed.fewer {s : State} (h : MarksTimed s) (p : Protection) (hs : p.stepFrom = s.prot.stepFrom)
    (hf : p.freezeLim = true → s.prot.freezeLim = true) (hsl : p.supplyLim = true → s.prot.supplyLim = true) :
    MarksTimed { s with prot := p } := by
  refine ⟨fun hl => ?_, h.2⟩
  show p.stepFrom ≠ none
  rw [hs]
  exact h.1 (hl.imp hf hsl)

theorem endWatches_sound : Sound Q s (endWatches s) :=
  .of_marks rfl rfl rfl fun h => h.fewer _ rfl (by simp only [Bool.and_eq_true]; exact And.left)
    (by simp only [Bool.and_eq_true]; exact And.left)

theorem judgeCoilSensor_sound (r : Option Int) : Sound Q s (judgeCoilSensor r s) := by
  unfold judgeCoilSensor
  dsimp only
  refine .ite (.of_records rfl) ?_
  exact .after (.iteSelf (leaveStops_sound _ _)) rfl

theorem judgeFreeze_sound (r : Option Int) : Sound Q s (judgeFreeze r s) :=
  .of_marks rfl rfl rfl fun h => h.fewer _ rfl (by simp only [Bool.and_eq_true]; exact And.left) id

theorem coilConverted_sound (raw : Int) : Sound Q s (coilConverted raw s) := by
  unfold coilConverted
  dsimp only
  refine .trans ?_ (.iteSelf (endRecovery_sound _ _))
  refine .trans ?_ (.iteSelf (removeHold_sound _ _))
  refine .trans ?_ (.iteSelf (leaveStops_sound _ _))
  refine .trans ?_ (.iteSelf (recordTrip_sound _ _ _))
  exact (judgeCoilSensor_sound _ _).trans (judgeFreeze_sound _ _)

theorem supplyConverted_sound (raw : Int) : Sound Q s (supplyConverted raw s) := by
  unfold supplyConverted
  dsimp only
  refine .trans ?_ (.iteSelf (leaveStops_sound _ _))
  refine .trans ?_ (.iteSelf (recordTrip_sound _ _ _))
  exact .of_marks rfl rfl rfl fun h => h.fewer _ rfl id (by simp only [Bool.and_eq_true]; exact And.left)

theorem leaveOutdoor_sound (keep : Option TripKind) : Sound Q s (leaveOutdoor keep s) :=
  .foldl (fun s k => leaveStops_sound s k) _ s

theorem protStat_sound (previous : Option StatRecord) (r : StatRecord) : Sound Q s (protStat previous r s) := by
  unfold protStat
  split
  · exact leaveOutdoor_sound _ _
  · exact .iteSelf' ((recordTrip_sound _ _ _).trans (leaveOutdoor_sound _ _))

theorem startFailTrip_sound : Sound Q s (startFailTrip s) := by
  unfold startFailTrip
  exact .after (recordTrip_sound _ _ _) rfl

theorem defrostLongTrip_sound : Sound Q s (defrostLongTrip s) := by
  unfold defrostLongTrip
  exact .after (recordTrip_sound _ _ _) rfl

theorem endHold_sound (k : HoldKind) : Sound Q s (endHold k s) := by
  unfold endHold
  split <;> exact .after (leaveStops_sound _ _) rfl

theorem mainsConverted_sound (r : Int) : Sound Q s (mainsConverted r s) := .of_records rfl

theorem supplyLowTo_sound (held : Bool) : Sound Q s (supplyLowTo held s) := by
  unfold supplyLowTo
  dsimp only
  exact .after (.iteSelf (immediateStop_sound _)) rfl

/-! ### The Plan Changeover Controller (04) -/

section
variable {p : Plan}

theorem requestFor_sound (hp : Q → PlanFine p) (z : ZoneId) : Sound Q s (requestFor p z s) :=
  .iteSelf (moveRequest_sound _ _ fun q => hp q z)

theorem requestOpenings_sound (hp : Q → PlanFine p) : Sound Q s (requestOpenings p s) :=
  .foldl (fun s z => .iteSelf (requestFor_sound s hp z)) _ s

theorem requestClosings_sound (hp : Q → PlanFine p) : Sound Q s (requestClosings p s) :=
  .foldl (fun s z => .iteSelf (requestFor_sound s hp z)) _ s

theorem releasePlan_sound : Sound Q s (releasePlan p s) := by
  unfold releasePlan
  exact .after (((seqRelease_sound _ _).trans (endWatches_sound _)).trans (judgeFloat_sound _)) rfl

theorem capacityStep_sound : Sound Q s (capacityStep p s) := .ite (releasePlan_sound _) (.of_records rfl)

theorem openPhase_sound (hp : Q → PlanFine p) : Sound Q s (openPhase p s) := by
  unfold openPhase
  dsimp only
  refine .trans ?_ (tellPhase_sound _)
  refine .trans ?_ (capacityStep_sound _)
  refine .trans ?_ (requestOpenings_sound _ hp)
  refine .trans (.of_co (c := { s.co with incoming := some p, phase := .opening }) fun q h x hx => ?_) (.of_records rfl)
  rcases hx with hx | hx | hx
  · exact h x (.inl hx)
  · cases hx; exact hp q
  · exact h x (.inr (.inr hx))

theorem adjustEntry_sound (hp : Q → PlanFine p) (d : ZoneId) : Sound Q s (adjustEntry p d s) := by
  unfold adjustEntry
  split
  next t he =>
    refine .ite (.of_asks (Drive.asks_retarget _) (fun q hv => ?_) fun _ _ h => h)
      (.of_asks Drive.asks_withdrawMove (fun _ hv => Drive.withdrawMove_fine hv) fun hv x => Drive.withdrawMove_fault d hv)
    exact Drive.retarget_move_fine hv (hp q d)
  next => exact .refl

theorem clearInMotion_sound (d : ZoneId) : Sound Q s (clearInMotion d s) := by
  have h : Sound Q s { s with drive := s.drive.clearFollowOn d } :=
    .of_asks Drive.asks_clearFollowOn (fun _ => Drive.clearFollowOn_fine) fun _ _ => Drive.clearFollowOn_fault d
  unfold clearInMotion
  split
  · exact h
  · exact h
  · exact .refl

theorem removeIntent_sound (hp : Q → PlanFine p) : Sound Q s (removeIntent p s) :=
  .foldl (fun s d => .iteSelf' ((adjustEntry_sound s hp d).trans (clearInMotion_sound _ d))) _ s

theorem supersede_sound (hp : Q → PlanFine p) (b : Bool) : Sound Q s (supersede p b s) := by
  unfold supersede
  dsimp only
  refine .trans ?_ (openPhase_sound _ hp)
  generalize ht : removeIntent p s = t
  have h : Sound Q s t := ht ▸ removeIntent_sound s hp
  exact h.trans (.of_records rfl)

theorem takePlan_sound (hp : Q → PlanFine p) : Sound Q s (takePlan p s) :=
  .ite (.trans (t := { s with co := { s.co with reapply := false } }) (.of_records rfl) (openPhase_sound _ hp))
    (supersede_sound _ hp _)

theorem handOn_sound (hp : Q → PlanFine p) : Sound Q s (handOn p s) := by
  refine .ite (.of_co fun q h x hx => ?_) (takePlan_sound _ hp)
  rcases hx with hx | hx | hx
  · exact h x (.inl hx)
  · exact h x (.inr (.inl hx))
  · cases hx; exact hp q

theorem planFine_of_agrees {s : State} (h : DriveAgrees s) {p : Plan}
    (hp : p = s.co.applied ∨ s.co.incoming = some p ∨ s.co.held = some p) : PlanFine p := fun z => h.plan p z hp

theorem takeHeld_sound (hq : Q → DriveAgrees s) : Sound Q s (takeHeld s) := by
  unfold takeHeld
  split
  next p hp =>
    refine .trans (.of_co (c := { s.co with held := none }) fun q h x hx => ?_)
      (takePlan_sound _ fun q => planFine_of_agrees (hq q) (.inr (.inr hp)))
    exact h x (hx.imp_right fun k => .inl (k.resolve_right (by simp)))
  next => exact .refl

theorem abandonFor_sound (hq : Q → DriveAgrees s) (d : ZoneId) : Sound Q s (abandonFor d s) := by
  unfold abandonFor
  split
  · exact .iteSelf ((requestPass_sound s).trans (supersede_sound _ (fun q => planFine_of_agrees (hq q) (.inl rfl)) _))
  · exact .refl

theorem restartChangeover_sound (hq : Q → DriveAgrees s) : Sound Q s (restartChangeover s) := by
  unfold restartChangeover
  split
  next p hp => exact openPhase_sound _ fun q => planFine_of_agrees (hq q) (.inr (.inl hp))
  next => exact supersede_sound _ (fun q => planFine_of_agrees (hq q) (.inl rfl)) _

theorem endOpen_sound : Sound Q s (endOpen p s) :=
  .ite (requestPass_sound _)
    (.trans (t := { s with co := { s.co with phase := .blower } }) (.of_records rfl) (offerGoal_sound _ _))

theorem endBlower_sound (hp : Q → PlanFine p) : Sound Q s (endBlower p s) := by
  unfold endBlower
  dsimp only
  refine .trans ?_ (tellPhase_sound _)
  refine .trans ?_ (requestClosings_sound _ hp)
  exact .after (.iteSelf' (releasePlan_sound _)) rfl

theorem finishUnconfigure_sound : Sound Q s (finishUnconfigure p s) :=
  .foldl (fun s z => .iteSelf (releaseZone_sound s z)) _ s

theorem endClose_sound (hp : Q → PlanFine p) : Sound Q s (endClose p s) := by
  unfold endClose
  dsimp only
  refine .trans ?_ (finishUnconfigure_sound _)
  refine .trans (.of_co fun q h x hx => ?_) (raise_sound _ _)
  rcases hx with hx | hx | hx
  · exact hx ▸ hp q
  · cases hx
  · exact h x (.inr (.inr hx))

end

theorem repair_sound (hq : Q → DriveAgrees s) (d : ZoneId) : Sound Q s (repair d s) := by
  unfold repair
  split
  next p n hp hn =>
    refine .iteSelf (moveRequest_sound _ _ fun q => planFine_of_agrees (hq q) ?_ d)
    unfold repairPlan at hp
    split at hp
    · exact .inl (Option.some.inj hp).symm
    · exact .inr (.inl hp)
    · exact .inr (.inl hp)
    · cases hp
  next => exact .refl

/-! ### The link (08) -/

theorem endFrame_sound : Sound Q s (endFrame s) := .of_records rfl
theorem noteLow_sound : Sound Q s (noteLow s) := .of_records rfl
theorem linkTo_sound (n : LinkState) (c : LinkCause) : Sound Q s (linkTo n c s) := .of_records rfl
theorem noteFailure_sound (k : FailureKind) : Sound Q s (noteFailure k s) := .of_records rfl

theorem takeBytes_sound (f : LinkFrame) (b : List Byte) : Sound Q s (takeBytes f b s) := by
  unfold takeBytes
  dsimp only
  split <;> exact .of_records rfl

theorem statFailed_sound (k : FailureKind) : Sound Q s (statFailed k s) := by
  unfold statFailed
  dsimp only
  exact .ite (.of_records rfl) (.ite (.of_records rfl) (.of_records rfl))

theorem endDiag_sound (o : DiagOutcome) (f : Option FailureKind) (b : List Byte) : Sound Q s (endDiag o f b s) := by
  unfold endDiag
  split
  · exact .of_records rfl
  · exact .refl

theorem exchangeFailed_sound (k : FrameKind) (f : FailureKind) : Sound Q s (exchangeFailed k f s) := by
  unfold exchangeFailed
  split
  · exact statFailed_sound _ _
  · exact noteFailure_sound _ _
  · exact (noteFailure_sound _ _).trans (endDiag_sound _ _ _ _)
  · exact endDiag_sound _ _ _ _
  · exact .refl

theorem loseLink_sound (c : LinkCause) : Sound Q s (loseLink c s) := .of_records rfl
theorem slowLink_sound : Sound Q s (slowLink s) := .iteSelf (.of_records rfl)
theorem wakeLink_sound : Sound Q s (wakeLink s) := .iteSelf (.of_records rfl)

theorem goodInfo_sound (r : InfoRecord) : Sound Q s (goodInfo r s) := by
  unfold goodInfo
  dsimp only
  exact .ite (.of_records rfl) (.of_records rfl)

/-! ### Operating states (11) -/

theorem leaveResting_sound : Sound Q s (leaveResting s) := (wakeLink_sound s).trans (restartSweep_sound _)

theorem changeOp_sound (n : OpState) (c : StateCause) : Sound Q s (changeOp n c s) := by
  unfold changeOp
  dsimp only
  exact .iteSelf' (.after (.iteSelf (leaveResting_sound _)) rfl)

theorem restartIdle_sound : Sound Q s (restartIdle s) := .of_records rfl

/-- A notice that is withdrawn has no time. -/
theorem MarksTimed.noNotice {s : State} (h : MarksTimed s) (o : Operating) (hn : o.notice = false) (hf : o.noticeFrom = none) :
    MarksTimed { s with op := o } := ⟨h.1, by simp [hn, hf]⟩

theorem withdrawNotice_sound : Sound Q s (withdrawNotice s) := .of_op fun h => h.noNotice _ rfl rfl

theorem wake_sound : Sound Q s (wake s) := (changeOp_sound s _ _).trans (restartIdle_sound _)

theorem wakeEvent_sound : Sound Q s (wakeEvent s) := .ite (wake_sound _) (.iteSelf (withdrawNotice_sound _))

theorem wakeIfOn_sound : Sound Q s (wakeIfOn s) := .iteSelf (wakeEvent_sound _)

theorem writeRequest_sound (n : OpRequest) (c : StateCause) : Sound Q s (writeRequest n c s) := by
  unfold writeRequest
  dsimp only
  refine .iteSelf' ?_
  have h : Sound Q s (requestPass (autoSave { s with op := { s.op with request := n } })) :=
    .trans (t := { s with op := { s.op with request := n } }) (.of_records rfl)
      ((autoSave_sound _).trans (requestPass_sound _))
  refine (h.trans (.iteSelf (c := n = .off) (releaseOff_sound _))).trans ?_
  generalize (if n = .off then releaseOff (requestPass (autoSave { s with op := { s.op with request := n } }))
    else requestPass (autoSave { s with op := { s.op with request := n } })) = t
  split
  · exact changeOp_sound _ _ _
  · exact changeOp_sound _ _ _
  · exact wake_sound _
  · exact .refl
  · exact .refl

theorem beginPreparation_sound : Sound Q s (beginPreparation s) := by
  unfold beginPreparation
  dsimp only
  exact .trans (.trans (writeRequest_sound _ _ _) (.iteSelf (wake_sound _))) (.of_records rfl)

theorem endPreparation_sound : Sound Q s (endPreparation s) := .of_records rfl

theorem endTest_sound : Sound Q s (endTest s) := by
  unfold endTest
  dsimp only
  exact .after ((changeOp_sound _ _ _).trans (releaseOff_sound _)) rfl

theorem endService_sound : Sound Q s (endService s) := .ite (endTest_sound _) (.iteSelf (endPreparation_sound _))

theorem markOpened_sound (d : ZoneId) : Sound Q s (markOpened d s) := .iteSelf' (.of_records rfl)

theorem openForTest_sound (d : ZoneId) : Sound Q s (openForTest d s) :=
  (moveRequest_sound s d fun _ => Nat.le_refl 200).trans (.iteSelf (markOpened_sound _ _))

theorem beginOpening_sound : Sound Q s (beginOpening s) := by
  unfold beginOpening
  dsimp only
  exact .after (.foldl (fun s d => openForTest_sound s d) _ _) rfl

theorem enterTest_sound : Sound Q s (enterTest s) := by
  unfold enterTest
  exact .after (changeOp_sound _ _ _) rfl

theorem testCompletion_sound (d : ZoneId) : Sound Q s (testCompletion d s) :=
  .iteSelf (.ite (markOpened_sound _ _) (.iteSelf (moveRequest_sound _ _ fun _ => Nat.le_refl 200)))

theorem reportButton_sound (e : ButtonEvent) : Sound Q s (reportButton e s) := raise_sound _ _

theorem pressed_sound : Sound Q s (pressed s) := by
  unfold pressed
  dsimp only
  have h : Sound Q s (wakeEvent { s with op := { s.op with accepted := true } }) := .after (wakeEvent_sound _) rfl
  refine h.trans ?_
  generalize wakeEvent { s with op := { s.op with accepted := true } } = t
  exact .ite ((endService_sound t).trans (.of_records rfl)) (.of_records rfl)

theorem toggle_sound : Sound Q s (toggle s) :=
  .ite (.of_records rfl) ((writeRequest_sound _ _ _).trans (reportButton_sound _ _))

theorem released_sound : Sound Q s (released s) := by
  unfold released
  dsimp only
  exact .after (.iteSelf (toggle_sound _)) rfl

theorem heldLong_sound : Sound Q s (heldLong s) := by
  unfold heldLong
  dsimp only
  refine .trans (t := { s with op := { s.op with button := .held, pressFrom := none } }) (.of_records rfl) ?_
  exact .ite (.of_records rfl) ((beginPreparation_sound _).trans (reportButton_sound _ _))

theorem applyLatched_sound : Sound Q s (applyLatched s) := by
  unfold applyLatched
  dsimp only
  refine .trans (t := { s with op := { s.op with latched := .nothing } }) (.of_records rfl) ?_
  split
  · exact .refl
  · exact (writeRequest_sound _ _ _).trans (reportButton_sound _ _)
  · exact (beginPreparation_sound _).trans (reportButton_sound _ _)

theorem endStartup_sound : Sound Q s (endStartup s) := (applyLatched_sound s).trans (changeOp_sound _ _ _)

theorem enterResting_sound : Sound Q s (enterResting s) := by
  unfold enterResting
  exact .trans (.of_op fun h => h.noNotice _ rfl rfl) ((changeOp_sound _ _ _).trans (slowLink_sound _))

theorem opStat_sound (r : StatRecord) : Sound Q s (opStat r s) :=
  .ite (wakeEvent_sound _) (.iteSelf (enterResting_sound _))

theorem standDown_sound : Sound Q s (standDown s) := by
  unfold standDown
  dsimp only
  refine .trans (t := { s with op :=
    { s.op with
      idleFrom := runWhile (idleHolds s) s.now s.op.idleFrom
      idleDone := idleHolds s && s.op.idleDone } }) (.of_records rfl) ?_
  refine .ite (.iteSelf' (withdrawNotice_sound _)) (.iteSelf (.of_op fun h => ⟨h.1, by simp⟩))

/-! ### Frames on the link, and its loss (08) -/

theorem linkLost_sound (c : LinkCause) : Sound Q s (linkLost c s) :=
  ((loseLink_sound s c).trans (seqLinkLost_sound _)).trans (wakeEvent_sound _)

theorem abandonFrame_sound (k : FrameKind) : Sound Q s (abandonFrame k s) := by
  unfold abandonFrame
  dsimp only
  exact .after ((exchangeFailed_sound _ _ _).trans (.iteSelf (linkLost_sound _ _))) rfl

theorem beginFrame_sound (k : FrameKind) (b : List Byte) : Sound Q s (beginFrame k b s) :=
  .ite (.of_records rfl) (abandonFrame_sound _ _)

theorem planRound_sound : Sound Q s (planRound s) := .of_records rfl

theorem beginRound_sound : Sound Q s (beginRound s) := (planRound_sound s).trans (beginFrame_sound _ _ _)

theorem beginDiag_sound (d : Diagnostic) : Sound Q s (beginDiag d s) := by
  unfold beginDiag
  dsimp only
  exact .trans (t := { s with link := { s.link with diag := some { d with begun := true } } }) (.of_records rfl)
    (.ite (beginFrame_sound _ _ _) (beginFrame_sound _ _ _))

theorem beginDiagOrStat_sound : Sound Q s (beginDiagOrStat s) := by
  unfold beginDiagOrStat
  split
  · exact beginDiag_sound _ _
  · exact beginFrame_sound _ _ _

theorem beginRequest_sound (r : Round) : Sound Q s (beginRequest r s) := by
  unfold beginRequest
  dsimp only
  refine .trans (t := { s with link := { s.link with round := some { r with requestBegun := true } } }) (.of_records rfl) ?_
  split
  · exact beginFrame_sound _ _ _
  · exact beginDiagOrStat_sound _
  · exact beginDiagOrStat_sound _
  · exact beginFrame_sound _ _ _
  · exact beginFrame_sound _ _ _

theorem beginSlowDiag_sound (r : Round) : Sound Q s (beginSlowDiag r s) := by
  unfold beginSlowDiag
  dsimp only
  refine .trans (t := { s with link := { s.link with round := some { r with slowDiag := false } } }) (.of_records rfl) ?_
  split
  · exact beginDiag_sound _ _
  · exact .refl

theorem beginDue_sound : Sound Q s (beginDue s) := by
  unfold beginDue
  refine .ite (beginRound_sound _) ?_
  split
  · exact beginRequest_sound _ _
  · exact beginSlowDiag_sound _ _
  · exact .refl

end

end Sys2Proof.Machine
end

section
/-! Passes and the consequences of a command keep what `Sound` says, and the renewal of the times at the end of a command puts every
time in step with its condition. -/

namespace Sys2Proof.Machine

section
variable {Q : Prop} (s : State)

/-! ### A pass (02, 03) -/

theorem formCalls_sound : Sound Q s (formCalls s) := .of_records rfl
theorem judgeRelief_sound : Sound Q s (judgeRelief s) := .of_records rfl
theorem beginPass_sound : Sound Q s (beginPass s) := .of_records rfl

theorem chooseMode_sound : Sound Q s (chooseMode s) := by
  unfold chooseMode
  dsimp only
  exact .ite (.of_records rfl) (.of_records rfl)

theorem applyParks_sound : Sound Q s (applyParks s) := by
  refine .foldl (fun s z => .iteSelf' (setZoneState_sound s z _ fun h => .inl ?_)) _ s
  unfold parkedState at h
  split at h
  · split at h <;> cases h
  · split at h <;> cases h
  · cases h
  · assumption

theorem openingOf_le (air da : Nat) : openingOf air da ≤ 200 := by
  unfold openingOf clampNat
  split
  · omega
  · split
    · omega
    · split <;> omega

theorem buildPlan_fine (v : PlanView) : PlanFine (buildPlan v) := fun z => by
  rw [buildPlan_opening]; exact openingOf_le _ _

theorem finishPlan_sound {p : Plan} (hp : PlanFine p) : Sound Q s (finishPlan p s) := by
  unfold finishPlan
  dsimp only
  exact .ite (.iteSelf (finishUnconfigure_sound s)) (.after (handOn_sound _ fun _ => hp) rfl)

theorem passCalls_sound : Sound Q s (passCalls s) := .ite ((formCalls_sound s).trans (wakeEvent_sound _)) (formCalls_sound s)

theorem passPlan_sound : Sound Q s (passPlan s) := (applyParks_sound s).trans (finishPlan_sound _ (buildPlan_fine _))

theorem runPass_sound : Sound Q s (runPass s) :=
  ((((beginPass_sound s).trans (passCalls_sound _)).trans (judgeRelief_sound _)).trans (chooseMode_sound _)).trans
    (passPlan_sound _)

/-! ### Consequences (logs 9, 10) -/

theorem phaseStep_sound (hq : Q → DriveAgrees s) : Sound Q s (phaseStep s) := by
  obtain ⟨t, ht⟩ : ∃ t : State, t = { s with todo := { s.todo with phaseCheck := false } } := ⟨_, rfl⟩
  have hr : records t = records s := by rw [ht]; rfl
  unfold phaseStep
  rw [← ht]
  dsimp only
  refine .after ?_ hr
  split
  · exact .refl
  next p hp =>
    have hf : Q → PlanFine p := fun q => planFine_of_agrees (hq q) (.inr (.inl ((congrArg Records.incoming hr).symm.trans hp)))
    split
    · exact .iteSelf (endOpen_sound _)
    · exact .iteSelf (endClose_sound _ hf)
    · exact .refl

theorem microStep_sound {s t : State} (h : microStep s = some t) (hq : Q → DriveAgrees s) : Sound Q s t := by
  have hq' (td : Todo) : Q → DriveAgrees { s with todo := td } := fun q => (hq q).of_eq rfl rfl rfl
  unfold microStep at h
  split at h
  · obtain rfl := Option.some.inj h
    exact .after (abandonFor_sound _ (hq' _) _) rfl
  split at h
  · obtain rfl := Option.some.inj h
    exact .after (restartChangeover_sound _ (hq' _)) rfl
  split at h
  · obtain rfl := Option.some.inj h; exact takeHeld_sound s hq
  split at h
  · obtain rfl := Option.some.inj h; exact markOpened_sound s _
  split at h
  next hg => obtain rfl := Option.some.inj h; exact grantOne_sound s hg
  split at h
  · obtain rfl := Option.some.inj h; exact phaseStep_sound s hq
  split at h
  · rw [Option.map_eq_some_iff] at h
    obtain ⟨p, hp, rfl⟩ := h
    exact endBlower_sound s fun q => planFine_of_agrees (hq q) (.inr (.inl hp))
  split at h
  · obtain rfl := Option.some.inj h; exact beginRound_sound s
  split at h
  · obtain rfl := Option.some.inj h; exact startCompressor_sound s
  split at h
  · obtain rfl := Option.some.inj h; exact endStartup_sound s
  split at h
  · obtain rfl := Option.some.inj h; exact beginOpening_sound s
  split at h
  · obtain rfl := Option.some.inj h; exact enterTest_sound s
  · cases h

theorem settle_sound (n : Nat) (hq : Q → DriveAgrees s) : Sound Q s (settle n s) :=
  settle_keeps (P := Sound Q s) (fun _ _ hm ht => ht.trans (microStep_sound hm fun q => ht.drive q (hq q))) n s .refl

theorem passStep_sound (hq : Q → DriveAgrees s) : Sound Q s (passStep s) :=
  .iteSelf ((runPass_sound s).trans (settle_sound _ _ fun q => (runPass_sound s).drive q (hq q)))

/-- A command ends with its times renewed, after consequences that keep what `Sound` says. -/
theorem finish_eq_sync (hq : Q → DriveAgrees s) : ∃ t, finish s = sync t ∧ Sound Q s t :=
  ⟨_, rfl, (settle_sound s _ hq).trans (passStep_sound _ fun q => (settle_sound s _ hq).drive q (hq q))⟩

/-! ### The renewal of the times -/

theorem syncWatches_sound : Sound Q s (syncWatches s) := by
  refine (endWatches_sound s).trans (.of_marks rfl rfl rfl fun h => ⟨fun hl => ?_, h.2⟩)
  have hlim : limiting (endWatches s) = true := by simpa [limiting] using hl
  dsimp only
  rw [if_pos hlim]
  exact h.1 hl

theorem syncStartFail_sound : Sound Q s (syncStartFail s) := .ite (.of_records rfl) (.of_records rfl)

theorem sync_sound : Sound Q s (sync s) := by
  unfold sync
  dsimp only
  refine .trans ?_ (standDown_sound _)
  refine .trans ?_ (syncStartFail_sound _)
  exact .after (syncWatches_sound _) rfl

theorem finish_sound (hq : Q → DriveAgrees s) : Sound Q s (finish s) := by
  obtain ⟨t, h, ht⟩ := finish_eq_sync s hq
  rw [h]
  exact ht.trans (sync_sound t)

end

/-! ### Conditions as the model tests them -/

section
variable (s : State)

theorem runWhile_ne_none (c : Bool) (now : Nat) (f : Option Nat) : runWhile c now f ≠ none ↔ c = true := by
  cases c <;> simp [runWhile]

theorem aboveCap_iff : s.blower.aboveCap s.cfg.pressureCap = true ↔ AboveCap s := by
  unfold Blower.aboveCap AboveCap
  cases s.blower.pressure <;> simp

theorem belowRelief_iff : s.blower.belowRelief s.cfg.pressureCap = true ↔ BelowRelief s := by
  unfold Blower.belowRelief BelowRelief
  cases s.blower.pressure <;> simp

theorem freezeWatch_iff : freezeWatch s = true ↔ FreezeWatched s := by
  unfold freezeWatch FreezeWatched releaseMode
  rw [Bool.and_eq_true]
  refine and_congr_right fun _ => ?_
  cases s.seq.release with
  | none => simp [coolsCoil]
  | some r => cases h : r.mode <;> simp [coolsCoil, h]

theorem supplyWatch_iff : supplyWatch s = true ↔ SupplyWatched s := by
  unfold supplyWatch SupplyWatched releaseMode
  simp

theorem startFailCounts_iff : startFailCounts s = true ↔ StartAwaited s := by
  unfold startFailCounts StartAwaited
  cases s.link.lastStatus <;> simp [and_assoc]

theorem idleHolds_iff : idleHolds s = true ↔ Idle s := by simp [idleHolds, Idle]

theorem meetsGate_iff : meetsGate s.cfg.ambientGate (lastAmbient s) = true ↔ MeetsGate s := by
  unfold MeetsGate lastAmbient
  cases s.cfg.ambientGate with
  | none => simp [meetsGate]
  | some g =>
    cases hr : s.link.lastStatus with
    | none => simp [meetsGate]
    | some r => cases hx : r.ambient <;> simp [meetsGate, hx]

theorem standDownOk_iff : standDownOk s = true ↔
    Idle s ∧ s.seq.state = .stopped ∧ s.link.state = .active ∧ s.arb.deferral = false ∧ MeetsGate s := by
  simp [standDownOk, idleHolds_iff, meetsGate_iff, and_assoc]

/-! ### What a command leaves in step -/

/-- The records that the times of `TimesInStep` and their conditions read. -/
structure TimeRecords where
  blower : BlowerState
  aboveFrom : Option Nat
  belowFrom : Option Nat
  pressure : Option Nat
  cfg : Settings
  seq : Sequencer
  link : LinkState
  lastStatus : Option StatRecord
  belowZeroFrom : Option Nat
  above60From : Option Nat
  freezeLim : Bool
  supplyLim : Bool
  stepFrom : Option Nat
  recoverFrom : Option Nat
  op : OpState
  idleFrom : Option Nat
  idleDone : Bool
  notice : Bool
  noticeFrom : Option Nat
  mode : Mode
  deferral : Bool

/-- The time records of a state. -/
def timeRecords (s : State) : TimeRecords :=
  ⟨s.blower.state, s.blower.aboveFrom, s.blower.belowFrom, s.blower.pressure, s.cfg, s.seq, s.link.state, s.link.lastStatus,
    s.prot.belowZeroFrom, s.prot.above60From, s.prot.freezeLim, s.prot.supplyLim, s.prot.stepFrom, s.prot.recoverFrom,
    s.op.state, s.op.idleFrom, s.op.idleDone, s.op.notice, s.op.noticeFrom, s.arb.mode, s.arb.deferral⟩

theorem TimesInStep.of_eq {s t : State} (h : TimesInStep s) (e : timeRecords t = timeRecords s) : TimesInStep t := by
  simp only [timeRecords, TimeRecords.mk.injEq] at e
  obtain ⟨hb, ha, hbe, hp, hc, hq, hl, hls, hpr, h60, hf, hsl, hsf, hrf, hos, hoi, hod, hon, hof, ham, had⟩ := e
  have habove : AboveCap t ↔ AboveCap s := by unfold AboveCap; rw [hb, hp, hc]
  have hbelow : BelowRelief t ↔ BelowRelief s := by unfold BelowRelief; rw [hp, hc]
  have hstart : StartAwaited t ↔ StartAwaited s := by unfold StartAwaited; rw [hq, hls]
  have hrun : compressorRunning t = compressorRunning s := by unfold compressorRunning; rw [hq]
  have hfw : FreezeWatched t ↔ FreezeWatched s := by unfold FreezeWatched; rw [hrun, hq]
  have hsw : SupplyWatched t ↔ SupplyWatched s := by unfold SupplyWatched; rw [hrun, hq]
  have hidle : Idle t ↔ Idle s := by unfold Idle; rw [hos, ham]
  have hgate : MeetsGate t ↔ MeetsGate s := by unfold MeetsGate; rw [hc, hls]
  constructor
  · rw [ha, habove]; exact h.aboveCap
  · rw [hbe, hbelow]; exact h.belowRelief
  · rw [hq, hstart]; exact h.startFail
  · rw [hpr, hf, hfw]; exact h.freezeWatch
  · rw [h60, hsl, hsw]; exact h.supplyWatch
  · rw [hsf, hf, hsl]; exact h.limitStep
  · rw [hrf, hf, hsl]; exact h.limitRecovery
  · rw [hoi, hidle]; exact h.idle
  · rw [hod, hidle]; exact h.idleReached
  · rw [hof, hon]; exact h.noticeTime
  · rw [hon, hidle, hq, hl, had, hgate]; exact h.notice

/-- The stand-down check puts the idle time and the notice in step. -/
theorem standDown_inStep (h : MarksTimed s) :
    ((standDown s).op.idleFrom ≠ none ↔ Idle s) ∧ ((standDown s).op.idleDone = true → Idle s) ∧
      ((standDown s).op.noticeFrom ≠ none ↔ (standDown s).op.notice = true) ∧
      ((standDown s).op.notice = true → standDownOk s = true) := by
  have hi := idleHolds_iff s
  have hw := runWhile_ne_none (idleHolds s) s.now s.op.idleFrom
  unfold standDown
  dsimp only
  split
  next hn =>
    split
    next hok =>
      refine ⟨hw.trans hi, fun hd => ?_, h.2, fun _ => hok⟩
      exact hi.mp (Bool.and_eq_true_iff.mp hd).1
    next =>
      refine ⟨?_, by simp [withdrawNotice, restartIdle], by simp [withdrawNotice, restartIdle],
        by simp [withdrawNotice, restartIdle]⟩
      rw [← hi]
      show (if idleHolds s then some s.now else none) ≠ none ↔ _
      cases idleHolds s <;> simp
  next hn =>
    split
    next hok =>
      refine ⟨hw.trans hi, fun hd => hi.mp (Bool.and_eq_true_iff.mp hd).1, by simp, fun _ => ?_⟩
      exact (Bool.and_eq_true_iff.mp hok).1
    next =>
      refine ⟨hw.trans hi, fun hd => hi.mp (Bool.and_eq_true_iff.mp hd).1, h.2, fun hn' => absurd hn' hn⟩

/-- The end of a command puts every time in step. -/
theorem timesInStep_sync (h : MarksTimed s) : TimesInStep (sync s) := by
  obtain ⟨b, hb⟩ : ∃ b : State, b = { s with blower := s.blower.syncPressure s.now s.cfg.pressureCap } := ⟨_, rfl⟩
  have e : sync s = standDown (syncStartFail (syncWatches b)) := by rw [hb]; rfl
  obtain ⟨q, hq, hq'⟩ := syncStartFail_eq (syncWatches b)
  obtain ⟨o, ho, ho'⟩ := standDown_eq (syncStartFail (syncWatches b))
  have hm : MarksTimed (syncStartFail (syncWatches b)) := by
    refine (syncStartFail_sound (Q := True) _).marks ((syncWatches_sound (Q := True) b).marks ?_)
    rw [hb]; exact h
  obtain ⟨hidle, hdone, hnt, hn⟩ := standDown_inStep _ hm
  rw [← e] at hidle hdone hnt hn
  have hblower : (sync s).blower = s.blower.syncPressure s.now s.cfg.pressureCap := by rw [e, ho, hq, hb]; rfl
  have hprot : (sync s).prot = (syncWatches b).prot := by rw [e, ho, hq]
  have hseq : (sync s).seq = q := by rw [e, ho, hq]
  have hrun : compressorRunning (endWatches b) = compressorRunning (sync s) := by
    unfold compressorRunning; simp [hb, endWatches]
  have hrel : releaseMode (endWatches b).seq = releaseMode (sync s).seq := by simp [releaseMode, hb, endWatches]
  have hfw : freezeWatch b = freezeWatch (sync s) := congrArg₂ (fun x y => x && coolsCoil y) hrun hrel
  have hsw : supplyWatch b = supplyWatch (sync s) := congrArg₂ (fun (x : Bool) (y : Option Mode) => x && decide (y = some Mode.heat)) hrun hrel
  have hmode : Idle (syncStartFail (syncWatches b)) ↔ Idle (sync s) := by
    unfold Idle; rw [hq]; simp [hb, syncWatches, endWatches]
  constructor
  · rw [← aboveCap_iff, hblower]
    exact (runWhile_ne_none ..).trans (by rw [sync_cfg]; rfl)
  · rw [← belowRelief_iff, hblower]
    exact (runWhile_ne_none ..).trans (by rw [sync_cfg]; rfl)
  · have hc : startFailCounts (syncWatches b) = startFailCounts (sync s) := by
      unfold startFailCounts; simp [hb, syncWatches, endWatches]
    rw [← startFailCounts_iff, ← hc, hseq]
    have : q = (syncStartFail (syncWatches b)).seq := by rw [hq]
    rw [this]
    unfold syncStartFail
    split
    next hs => exact ⟨fun _ => hs, fun _ => by simp⟩
    next hs => exact ⟨fun hx => absurd rfl hx, fun hx => absurd hx hs⟩
  · rw [← freezeWatch_iff, ← hfw, hprot]
    simp only [syncWatches, endWatches]
    cases freezeWatch b <;> simp
  · rw [← supplyWatch_iff, ← hsw, hprot]
    simp only [syncWatches, endWatches]
    cases supplyWatch b <;> simp
  · rw [hprot]
    have hstep : (endWatches b).prot.freezeLim = true ∨ (endWatches b).prot.supplyLim = true →
        (endWatches b).prot.stepFrom ≠ none :=
      ((endWatches_sound (Q := True) b).marks (by rw [hb]; exact h)).1
    show (if limiting (endWatches b) then (endWatches b).prot.stepFrom else none) ≠ none ↔ _
    have hl : limiting (endWatches b) = true ↔ (endWatches b).prot.freezeLim = true ∨ (endWatches b).prot.supplyLim = true := by
      simp [limiting]
    split
    next hlim => exact ⟨fun _ => hl.mp hlim, fun _ => hstep (hl.mp hlim)⟩
    next hlim => exact ⟨fun hx => absurd rfl hx, fun hx => absurd (hl.mpr hx) hlim⟩
  · rw [hprot]
    show runWhile (!limiting (endWatches b)) _ _ ≠ none ↔
      (endWatches b).prot.freezeLim = false ∧ (endWatches b).prot.supplyLim = false
    rw [runWhile_ne_none]
    simp [limiting]
  · rw [hidle, hmode]
  · exact fun hd => hmode.mp (hdone hd)
  · exact hnt
  · intro hno
    have hok := (standDownOk_iff _).mp (hn hno)
    obtain ⟨h1, h2, h3, h4, h5⟩ := hok
    rw [hq] at h2 h3 h4 h5
    refine ⟨hmode.mp h1, ?_, ?_, ?_, ?_⟩
    · rw [hseq]; exact h2
    · simpa [hb, syncWatches, endWatches] using h3
    · simpa [hb, syncWatches, endWatches] using h4
    · unfold MeetsGate at h5 ⊢
      simpa [hb, syncWatches, endWatches] using h5

theorem TimesInStep.marks {s : State} (h : TimesInStep s) : MarksTimed s := ⟨h.limitStep.mpr, h.noticeTime⟩

end

end Sys2Proof.Machine
end

section
/-! The host's requests, the events of every block and the resets keep what `Sound` says. -/

namespace Sys2Proof.Machine

section
variable {Q : Prop} (s : State)

/-! ### Values that a request may write (01 R5, R7, R8; 12 R175) -/

theorem configSystemResult_good {c old : Settings} {f : SettingFields} {table : Option (List PointFields)}
    (h : configSystemResult old f table = some c) : settingsGood c = true := by
  unfold configSystemResult at h
  split at h
  · cases h
  · dsimp only at h
    obtain ⟨hg, hc⟩ := Option.ite_none_right_eq_some.mp h
    obtain rfl := Option.some.inj hc
    exact hg

theorem zoneConfigOf_good {c : ZoneConfig} {da ra : Word} {rank a : Byte} (h : zoneConfigOf da ra rank a = some c) :
    ZoneConfigGood c := by
  unfold zoneConfigOf at h
  split at h
  next hg =>
    obtain rfl := Option.some.inj h
    simp only [within, Bool.and_eq_true, decide_eq_true_eq] at hg
    obtain ⟨⟨⟨hda, hra⟩, hrank⟩, ha⟩ := hg
    refine ⟨hda.1, hda.2, hra, hrank.1, hrank.2, fun n hn => ?_⟩
    dsimp only at hn
    unfold addressOf at hn
    split at hn
    · cases hn
    next h0 =>
      obtain rfl := Option.some.inj hn
      refine ⟨?_, ha⟩
      have : a.toNat ≠ 0 := fun hz => h0 (BitVec.eq_of_toNat_eq (by simpa using hz))
      omega
  next => cases h

theorem clampInt_bounds (x : Int) {a b : Int} (h : a ≤ b) : a ≤ clampInt x a b ∧ clampInt x a b ≤ b := by
  unfold clampInt; split
  · omega
  · split <;> omega

theorem clampNat_bounds (x : Nat) {a b : Nat} (h : a ≤ b) : a ≤ clampNat x a b ∧ clampNat x a b ≤ b := by
  unfold clampNat; split
  · omega
  · split <;> omega

/-- The setpoints a SET_ZONE request leaves are in their ranges and 1.0 °C apart, as those before were. -/
theorem setZoneResult_good {old : Setpoints} (h : SetpointsGood old) (unconf : Bool) (cool heat dry : Word) (park : Byte) :
    SetpointsGood (setZoneResult old unconf cool heat dry park).1 := by
  obtain ⟨hc1, hc2, hh1, hh2, hg, hd⟩ := h
  have hdry : ∀ t, (setZoneResult old unconf cool heat dry park).1.dry = some t → 400 ≤ t ∧ t ≤ 700 := by
    intro t ht
    simp only [setZoneResult] at ht
    split at ht
    · exact hd t ht
    · split at ht
      · cases ht
      · obtain rfl := Option.some.inj ht; exact clampNat_bounds _ (by omega)
  have hheat (w : Word) : 100 ≤ orInForce old.heat ((carriedTemp w).map fun t => clampInt t 100 300) ∧
      orInForce old.heat ((carriedTemp w).map fun t => clampInt t 100 300) ≤ 300 := by
    cases carriedTemp w with
    | none => exact ⟨hh1, hh2⟩
    | some t => exact clampInt_bounds t (by omega)
  refine ⟨?_, ?_, ?_, ?_, ?_, hdry⟩
  all_goals
    cases hcc : carriedTemp cool with
    | some c =>
      obtain ⟨ec, eh⟩ := setZoneResult_of_cool_carried (old := old) (heatW := heat) unconf dry park hcc
      have := clampInt_bounds c (a := 160) (b := 320) (by omega)
      have := hheat heat
      omega
    | none =>
      cases hhc : carriedTemp heat with
      | some t =>
        obtain ⟨eh, ec⟩ := setZoneResult_of_heat_only (old := old) unconf dry park hcc hhc
        have := clampInt_bounds t (a := 100) (b := 300) (by omega)
        omega
      | none =>
        obtain ⟨ec, eh⟩ := setZoneResult_of_neither (old := old) unconf dry park hcc hhc hg
        omega

/-! ### The host's requests (12) -/

theorem toStage_sound (r : Request) (g : ServiceStage) : Sound Q s (toStage r g s) := .of_records rfl
theorem refuse_sound (r : Request) (st : Status) : Sound Q s (refuse r st s) := handReply_sound _ _ _ _
theorem accept_sound (r : Request) (b : List Byte) : Sound Q s (accept r b s) := handReply_sound _ _ _ _

theorem hostRequest_sound (new : OpRequest) : Sound Q s (hostRequest new s) := by
  unfold hostRequest
  dsimp only
  exact .ite ((writeRequest_sound _ _ _).trans (endTest_sound _))
    (((endService_sound s).trans (.iteSelf (withdrawNotice_sound _))).trans (writeRequest_sound _ _ _))

theorem writeSystem_sound (req : Option OpRequest) (p : Policy) (f : Bool) : Sound Q s (writeSystem req p f s) := by
  unfold writeSystem
  dsimp only
  refine .trans ?_ (.iteSelf ((requestPass_sound _).trans (wakeIfOn_sound _)))
  refine .trans ?_ (.iteSelf (autoSave_sound _))
  cases req with
  | none => exact .of_records rfl
  | some new => exact .after (hostRequest_sound _ new) rfl

theorem doSetSystem_sound (r p f : Byte) : Sound Q s (doSetSystem r p f s) := by
  unfold doSetSystem
  dsimp only
  refine .ite (refuse_sound _ _ _) ?_
  split
  · exact refuse_sound _ _ _
  · exact (writeSystem_sound _ _ _ _).trans (accept_sound _ _ _)

theorem putSetpoints_sound (z : ZoneId) {p : Setpoints} (hp : SetpointsGood (s.setp.get z) → SetpointsGood p) :
    Sound Q s { s with setp := s.setp.set z p } := by
  refine .of_config fun h => ⟨h.1, fun d => ⟨(h.2.1 d).1, ?_⟩, h.2.2⟩
  show SetpointsGood ((s.setp.set z p).get d)
  rw [Eight.get_set]
  split
  · exact hp (h.2.1 z).2
  · exact (h.2.1 d).2

theorem doSetZone_sound (zone : Byte) (c h d : Word) (p : Byte) : Sound Q s (doSetZone zone c h d p s) := by
  unfold doSetZone
  dsimp only
  split
  · exact refuse_sound _ _ _
  next z _ =>
    refine .trans ?_ (handReply_sound _ _ _ _)
    refine .trans ?_ (wakeIfOn_sound _)
    refine .trans ?_ (requestPass_sound _)
    exact putSetpoints_sound s z fun hg => setZoneResult_good hg _ _ _ _ _

/-- Unconfigure pending set or cleared. -/
theorem putUnconf_sound (z : ZoneId) (u : Bool) :
    Sound Q s { s with zst := s.zst.modify z fun x => { x with unconf := u } } := by
  refine .of_zst fun d hd => .inl ?_
  rw [Eight.get_modify] at hd
  split at hd
  next hx => exact hx ▸ hd
  next => exact hd

theorem configureZone_sound (z : ZoneId) {c : ZoneConfig} (hc : ZoneConfigGood c) : Sound Q s (configureZone z c s) := by
  unfold configureZone
  dsimp only
  have h0 : Sound Q s { s with zcfg := s.zcfg.set z c } := by
    refine .of_config fun h => ⟨h.1, fun d => ⟨?_, (h.2.1 d).2⟩, h.2.2⟩
    show ZoneConfigGood ((s.zcfg.set z c).get d)
    rw [Eight.get_set]
    split
    · exact hc
    · exact (h.2.1 d).1
  have h1 : Sound Q s (requestPass
      { s with zcfg := s.zcfg.set z c, zst := s.zst.modify z fun x => { x with unconf := false } }) :=
    (h0.trans (putUnconf_sound _ z false)).trans (requestPass_sound _)
  refine h1.trans (.ite ?_ (.iteSelf' (restartSensing_sound _ _ _)))
  exact ((setZoneState_sound _ z .active (by simp)).trans (homeRequest_sound _ _)).trans (restartSensing_sound _ _ _)

theorem doConfigure_sound (zone : Byte) (da ra : Word) (rank a : Byte) : Sound Q s (doConfigure zone da ra rank a s) := by
  unfold doConfigure
  dsimp only
  split
  · exact refuse_sound _ _ _
  next z _ =>
    split
    · exact refuse_sound _ _ _
    next c hc =>
      exact .ite (refuse_sound _ _ _)
        (((configureZone_sound s z (zoneConfigOf_good hc)).trans (wakeIfOn_sound _)).trans (accept_sound _ _ _))

theorem unconfigureZone_sound (z : ZoneId) : Sound Q s (unconfigureZone z s) := by
  unfold unconfigureZone
  split
  · exact .refl
  · exact (releaseZone_sound _ _).trans (wakeIfOn_sound _)
  · refine .iteSelf' (.trans ?_ (wakeIfOn_sound _))
    refine .trans ?_ (requestPass_sound _)
    refine .trans ?_ (discardPoll_sound _ _)
    refine (putUnconf_sound s z true).trans (.of_config fun h => ⟨h.1, fun d => ⟨(h.2.1 d).1, ?_⟩, h.2.2⟩)
    show SetpointsGood ((s.setp.modify z fun x => { x with park := false }).get d)
    rw [Eight.get_modify]
    split
    · exact (h.2.1 z).2
    · exact (h.2.1 d).2

theorem doUnconfigure_sound (zone : Byte) : Sound Q s (doUnconfigure zone s) := by
  unfold doUnconfigure
  dsimp only
  split
  · exact refuse_sound _ _ _
  · exact (unconfigureZone_sound _ _).trans (accept_sound _ _ _)

/-- A zone and its damper leave FAULT together. -/
theorem leaveFault_sound (z : ZoneId) (hz : stateOf s z = .fault) : Sound Q s
    { s with
      drive := s.drive.onDamper z fun d => { d with stalls := 0, motion := .idle }
      zst := s.zst.modify z fun x => { x with state := .active } } := by
  have ha : s.drive.Asks z (s.drive.onDamper z fun d => { d with stalls := 0, motion := .idle }) :=
    Drive.asks_onDamper _ fun _ => rfl
  refine ⟨⟨rfl, rfl, id, id, id, ha.homesUnknown, id, fun _ h => ?_⟩, fun hs => ?_⟩
  · obtain ⟨hd, hzf, hpl⟩ := (driveAgrees_iff s).mp h
    refine (driveAgrees_iff _).mpr ⟨ha.fine hd ?_, fun x hx => ?_, hpl⟩
    · have hr := (hd z).rests (.inr (hzf z hz))
      rw [Drive.onDamper_get_same, Drive.onDamper_entriesOf, hr.1, hr.2]
      exact .resting (hd z).position (hd z).followOn (.inl rfl)
    · by_cases hxz : x = z
      · subst hxz; simp [stateOf] at hx
      · rw [(ha.others x hxz).1]
        exact hzf x (by simpa [stateOf, hxz] using hx)
  · rw [ha.airPath]
    exact hs.1

theorem clearFault_sound (z : ZoneId) : Sound Q s (clearFault z s) := by
  unfold clearFault
  dsimp only
  split
  next hz => exact (leaveFault_sound s z hz).trans (.after (homeRequest_sound _ z) rfl)
  next => exact requestPass_sound _

theorem doClearZoneFault_sound (zone : Byte) : Sound Q s (doClearZoneFault zone s) := by
  unfold doClearZoneFault
  dsimp only
  split
  · exact refuse_sound _ _ _
  · exact (clearFault_sound _ _).trans (accept_sound _ _ _)

theorem Blower.reconfigure_same (old new : Settings) (b : Blower) :
    (b.reconfigure old new).state = b.state ∧ (b.reconfigure old new).goal = b.goal ∧
      (b.reconfigure old new).carried = b.carried := by
  unfold Blower.reconfigure
  dsimp only
  (repeat' split) <;> exact ⟨rfl, rfl, rfl⟩

theorem applySettings_sound {c : Settings} (hc : settingsGood c = true) : Sound Q s (applySettings c s) := by
  unfold applySettings
  dsimp only
  have h1 : Sound Q s { s with cfg := c } := .of_config fun h => ⟨hc, h.2⟩
  have h2 : Sound Q { s with cfg := c }
      { s with cfg := c, blower := (s.blower.reconfigure s.cfg c).newTable s.now c.table } := by
    refine .of_blower' fun _ h => .newTable _ _ ?_
    obtain ⟨e1, e2, e3⟩ := Blower.reconfigure_same s.cfg c s.blower
    exact h.same e2 e3 (by rw [e1]; exact id)
  exact (h1.trans h2).trans (.iteSelf' (.of_records rfl))

theorem doConfigSystem_sound (f : SettingFields) (table : Option (List PointFields)) :
    Sound Q s (doConfigSystem f table s) := by
  unfold doConfigSystem
  dsimp only
  split
  · exact refuse_sound _ _ _
  next c hc =>
    exact (((applySettings_sound s (configSystemResult_good hc)).trans (requestPass_sound _)).trans
      (wakeIfOn_sound _)).trans (accept_sound _ _ _)

theorem doSaveConfig_sound : Sound Q s (doSaveConfig s) :=
  .ite ((toStage_sound s _ _).trans (startFullWrite_sound _)) (toStage_sound _ _ _)

theorem doRestart_sound : Sound Q s (doRestart s) :=
  .ite ((toStage_sound s _ _).trans (accept_sound _ _ _)) (toStage_sound _ _ _)

theorem doSetReports_sound (mask : Word) : Sound Q s (doSetReports mask s) := by
  unfold doSetReports
  exact .ite (.of_records rfl) (.of_records rfl)

theorem doOutdoorDiag_sound (d k l : Byte) (data : List Byte) : Sound Q s (doOutdoorDiag d k l data s) := by
  unfold doOutdoorDiag
  dsimp only
  exact .ite (refuse_sound _ _ _) (.ite (refuse_sound _ _ _) (.ite (refuse_sound _ _ _) (.of_records rfl)))

theorem perform_sound (r : Request) : Sound Q s (perform r s) := by
  unfold perform
  split
  · exact refuse_sound _ _ _
  · exact refuse_sound _ _ _
  · exact accept_sound _ _ _
  · unfold doGetSystem; split
    · exact accept_sound _ _ _
    · exact refuse_sound _ _ _
  · unfold doGetZone; split
    · exact accept_sound _ _ _
    · exact refuse_sound _ _ _
  · unfold doGetPlan; split
    · exact accept_sound _ _ _
    · exact refuse_sound _ _ _
  · exact accept_sound _ _ _
  · exact doSetSystem_sound _ _ _ _
  · exact doSetZone_sound _ _ _ _ _ _
  · exact doConfigSystem_sound _ _ _
  · exact doConfigure_sound _ _ _ _ _ _
  · exact doUnconfigure_sound _ _
  · exact refuse_sound _ _ _
  · exact doClearZoneFault_sound _ _
  · exact (clearLockout_sound _).trans (accept_sound _ _ _)
  · exact doSaveConfig_sound _
  · exact doSetReports_sound _ _
  · exact doOutdoorDiag_sound _ _ _ _ _
  · exact doRestart_sound _

theorem takeRequest_sound (r : Request) : Sound Q s (takeRequest r s) := (toStage_sound s _ _).trans (perform_sound _ _)

theorem offer_sound (r : Request) : Sound Q s (offer r s) :=
  .ite (takeRequest_sound _ _) (.ite (.of_records rfl) (.of_records rfl))

theorem offerHeard_sound (h : Heard) : Sound Q s (offerHeard h s) := by
  unfold offerHeard
  split
  · exact offer_sound _ _
  · exact .refl

theorem takeWaiting_sound : Sound Q s (takeWaiting s) := by
  unfold takeWaiting
  split
  · exact .after (takeRequest_sound _ _) rfl
  · exact .refl

theorem replySent_sound : Sound Q s (replySent s) := by
  unfold replySent
  split
  · exact .of_records rfl
  · exact .after (takeWaiting_sound _) rfl
  · exact .refl

theorem frameSent_sound (f : TxFrame) : Sound Q s (frameSent f s) := by
  unfold frameSent
  dsimp only
  have h : Sound Q s (if f.isReply then replySent { s with port := { s.port with tx := none } }
      else { s with port := { s.port with tx := none } }) := .after (.iteSelf (replySent_sound _)) rfl
  exact h.trans (.of_records rfl)

theorem storeImage_sound {i : Image} (whole : Bool) (h : s.store.writer.image = some i) : Sound Q s (storeImage i whole s) := by
  refine .of_config fun hg => ⟨hg.1, hg.2.1, ?_, by rintro _ ⟨⟩⟩
  rintro _ ⟨⟩
  exact hg.2.2.2 _ h

theorem afterWrite_sound : Sound Q s (afterWrite s) := by
  unfold afterWrite
  split
  · exact (toStage_sound _ _ _).trans (startFullWrite_sound _)
  · exact ((toStage_sound _ _ _).trans (accept_sound _ _ _)).trans (startAutoSave_sound _)
  · exact .ite (startAutoSave_sound _) ((toStage_sound _ _ _).trans (accept_sound _ _ _))
  · exact startAutoSave_sound _

/-! ### Events on the link (08) -/

theorem recordStat_sound (r : StatRecord) : Sound Q s (recordStat r s) := .of_records rfl

theorem statState_sound : Sound Q s (statState s) := by
  unfold statState
  split
  · exact linkTo_sound _ _ _
  · exact linkTo_sound _ _ _
  · exact .refl

theorem goodStat_sound (r : StatRecord) : Sound Q s (goodStat r s) :=
  ((((recordStat_sound s r).trans (statState_sound _)).trans (seqStat_sound _ _)).trans (protStat_sound _ _ _)).trans
    (opStat_sound _ _)

theorem commandSent_sound (f : LinkFrame) : Sound Q s (commandSent f s) :=
  (endFrame_sound s).trans (.iteSelf (endDiag_sound _ _ _ _))

theorem statArrived_sound (b : List Byte) : Sound Q s (statArrived b s) := by
  unfold statArrived
  split
  · exact (endFrame_sound s).trans (goodStat_sound _ _)
  · exact (endFrame_sound s).trans (exchangeFailed_sound _ _ _)

theorem infoArrived_sound (b : List Byte) : Sound Q s (infoArrived b s) := by
  unfold infoArrived
  split
  · exact (endFrame_sound s).trans (goodInfo_sound _ _)
  · exact (endFrame_sound s).trans (exchangeFailed_sound _ _ _)

theorem diagArrived_sound (d : Diagnostic) (b : List Byte) : Sound Q s (diagArrived d b s) := by
  unfold diagArrived
  split
  · exact (endFrame_sound s).trans (endDiag_sound _ _ _ _)
  · exact (endFrame_sound s).trans (exchangeFailed_sound _ _ _)

theorem windowClosed_sound (f : LinkFrame) (n : Nat) : Sound Q s (windowClosed f n s) := by
  unfold windowClosed
  dsimp only
  refine .trans ?_ (exchangeFailed_sound _ _ _)
  exact .trans (.iteSelf' (noteLow_sound s)) (endFrame_sound _)

/-! ### Zone sensing and the dampers -/

theorem judgeBytes_sound (p : Poll) (b : List Byte) : Sound Q s (judgeBytes p b s) := by
  unfold judgeBytes
  split
  · unfold judgeReply
    refine .ite (failAttempt_sound _ _) (.iteSelf' ?_)
    split
    · exact passPoll_sound _ _ _ _
    · exact failAttempt_sound _ _
  · exact .refl

theorem reportCompletion_sound (d : ZoneId) (hq : Q → DriveAgrees s) : Sound Q s (reportCompletion d s) :=
  ((tellPhase_sound s).trans (repair_sound (tellPhase s) (fun q => (hq q).of_eq rfl rfl rfl) _)).trans
    (testCompletion_sound _ _)

theorem completeMove_sound {d : ZoneId} {y : Slot} (h : s.drive.slotOf d = some y) :
    Sound Q s { s with drive := s.drive.completeMove d } := by
  refine ⟨.of_drive (fun hd _ _ => Drive.completeMove_fine hd h) (fun hd x _ hx => ?_) Drive.completeMove_homesUnknown,
    fun hs => by rw [Drive.completeMove_airPath]; exact hs.1⟩
  have hne : x ≠ d := by rintro rfl; exact Drive.not_fault_of_slotOf hd h hx
  rw [Drive.completeMove, (Drive.asks_takeFollowOn.others x hne).1, Drive.onDamper_get, if_neg hne]
  exact hx

theorem completeHome_sound {d : ZoneId} {y : Slot} (h : s.drive.slotOf d = some y) (hw : y.what = .home) :
    Sound Q s { s with drive := s.drive.completeHome d } := by
  refine ⟨.of_drive (fun hd _ _ => Drive.completeHome_fine hd h) (fun hd x _ hx => ?_) Drive.completeHome_homesUnknown,
    fun hs hg => Drive.completeHome_airPath hs.2.2 h hw (hs.1 hg)⟩
  have hne : x ≠ d := by rintro rfl; exact Drive.not_fault_of_slotOf hd h hx
  rw [Drive.completeHome, (Drive.asks_takeFollowOn.others x hne).1, Drive.onDamper_get, if_neg hne]
  exact hx

theorem stepMotion_firm (d : ZoneId) : Firm Q s { s with drive := s.drive.stepMotion d } := by
  refine .of_drive (fun hd _ _ => Drive.stepMotion_fine hd) (fun hd x _ hx => ?_) Drive.stepMotion_homesUnknown
  by_cases hmv : ∃ y t, s.drive.slotOf d = some y ∧ y.what = .move t
  · obtain ⟨y, t, hy, ht⟩ := hmv
    have hne : x ≠ d := by rintro rfl; exact Drive.not_fault_of_slotOf hd hy hx
    rw [Drive.stepMotion_get_move s.drive d x hy ht, if_neg hne]
    exact hx
  · rw [Drive.stepMotion_dampers_home s.drive d fun y t hy ht => hmv ⟨y, t, hy, ht⟩]
    exact hx

/-- A stalled MOVE ends; what its damper is asked for then is a HOME or nothing. -/
theorem stall_firm {d : ZoneId} {y : Slot} (h : s.drive.slotOf d = some y) : Firm Q s (stall d s) := by
  have hcount (k : Nat) : s.drive.Asks d (s.drive.onDamper d fun x => { x with stalls := k }) :=
    Drive.asks_onDamper _ fun _ => rfl
  have hcf (k : Nat) (hd : DriveFine s.drive) : DriveFine (s.drive.onDamper d fun x => { x with stalls := k }) :=
    Drive.onDamper_fine hd (fun _ => rfl) (fun _ => rfl) (hd d).followOn
  have hstop (v : Drive) (x : ZoneId) (hx : x ≠ d) : (v.stallStop d).dampers.get x = v.dampers.get x := by
    rw [Drive.stallStop, Drive.onDamper_get, if_neg hx]; rfl
  have hplain : Firm Q s { s with drive := s.drive.stallStop d } := by
    refine .of_drive (fun hd _ _ => Drive.stallStop_fine hd h) (fun hd x _ hx => ?_) Drive.stallStop_homesUnknown
    rw [hstop _ x (by rintro rfl; exact Drive.not_fault_of_slotOf hd h hx)]
    exact hx
  unfold stall
  dsimp only
  split
  · exact hplain
  · exact hplain
  · split
    · refine .of_drive (fun hd _ _ => Drive.requestHome_fine (Drive.stallStop_fine (hcf _ hd) h)) (fun hd x _ hx => ?_)
        fun hh => Drive.asks_requestHome.homesUnknown (Drive.stallStop_homesUnknown ((hcount _).homesUnknown hh))
      have hne : x ≠ d := by rintro rfl; exact Drive.not_fault_of_slotOf hd h hx
      rw [(Drive.asks_requestHome.others x hne).1, hstop _ x hne, ((hcount _).others x hne).1]
      exact hx
    · refine faultDamper_firm s d (fun hd x _ => Drive.stallStop_fine (hcf _ hd) h x) (fun x hx => ?_)
        fun hh => Drive.stallStop_homesUnknown ((hcount _).homesUnknown hh)
      rw [hstop _ x hx, ((hcount _).others x hx).1]

/-! ### Resets (11 R162) -/

theorem Image.factory_good : ImageGood Image.factory := by
  refine ⟨by decide, fun z => ?_⟩
  simp only [Image.factory, Eight.get_ofFn, factoryZone, ZoneConfigGood, SetpointsGood, ZoneConfig.factory, Setpoints.factory]
  simp

theorem loaded_good {image : Option Image} (h : ∀ i, image = some i → ImageGood i) : ImageGood (loaded image) := by
  cases image with
  | none => exact Image.factory_good
  | some i => exact h i rfl

/-- The invariants hold outright after a reset, but for what an image and the histories that survive bring. -/
theorem resetState_sound {now : Nat} {image : Option Image} {request : OpRequest} {cause : RestartCause} {hist : Histories}
    {lockout : Bool} (hn : now = s.now) (hi : ConfigurationGood s → ∀ i, image = some i → ImageGood i)
    (hh : HistoriesGood s → ∀ k, (hist.get k).length ≤ 3 ∧ ((hist.get k).length = 3 → lockout = true)) :
    Sound Q s (resetState now (loaded image) request cause hist lockout ⟨image, .idle, false, image.isNone⟩ s) := by
  refine ⟨⟨hn, rfl, fun h => ?_, fun h => ⟨hh h.1, by simp [LimitGood, resetState, Protection.afterReset]⟩, fun _ => ?_, fun _ => Drive.afterReset_homesUnknown _,
    fun _ => carrySafe_of_none rfl, fun _ _ => ?_⟩, fun _ hg => absurd rfl hg⟩
  · have hgood := loaded_good (hi h)
    refine ⟨hgood.1, fun z => ?_, hi h, by rintro _ ⟨⟩⟩
    simpa [resetState] using hgood.2 z
  · simp [MarksTimed, resetState, Protection.afterReset, Operating.afterReset]
  · refine (driveAgrees_iff _).mpr ⟨Drive.afterReset_fine _, fun d hd => ?_, fun p z hp => ?_⟩
    · simp only [stateOf, resetState, Eight.get_ofFn] at hd
      split at hd <;> cases hd
    · simp only [resetState, Changeover.afterReset] at hp
      rcases hp with rfl | hp | hp
      · simp [Plan.empty]
      · cases hp
      · cases hp

end

end Sys2Proof.Machine
end

section
/-! Every command answers a state that keeps what `Sound` says, and leaves the times in step: the commands one by one, and from them
the claims that hold of every step. -/

namespace Sys2Proof.Machine

/-! ### How a command ends -/

/-- What a command that begins in `s` may answer: a state whose times have just been renewed, or one with the times kept in step. -/
structure Ends (s t : State) : Prop where
  sound : Sound (DriveAgrees s) s t
  times : TimesInStep s → TimesInStep t

section
variable {s t : State}

theorem Ends.refl (s : State) : Ends s s := ⟨.refl, id⟩

theorem Ends.finish (h : Sound (DriveAgrees s) s t) : Ends s (finish t) := by
  have hq : DriveAgrees s → DriveAgrees t := fun q => h.drive q q
  refine ⟨h.trans (finish_sound t hq), fun ht => ?_⟩
  obtain ⟨u, hu, hs⟩ := finish_eq_sync (Q := DriveAgrees s) t hq
  rw [hu]
  exact timesInStep_sync u (hs.marks (h.marks ht.marks))

/-- A command without consequences that leaves the time records alone. -/
theorem Ends.plain (h : Sound (DriveAgrees s) s t) (e : timeRecords t = timeRecords s) : Ends s t := ⟨h, fun hs => hs.of_eq e⟩

theorem Ends.ite {c : Prop} [Decidable c] {u : State} (h : c → Ends s t) (k : ¬c → Ends s u) : Ends s (if c then t else u) := by
  split
  · exact h ‹_›
  · exact k ‹_›

/-- A command that acts only where it is due. -/
theorem Ends.due {c : Prop} [Decidable c] (h : c → Ends s t) : Ends s (if c then t else s) := .ite h fun _ => .refl s

/-- A command that answers such a state. -/
def Answers (s : State) (r : Result) : Prop := ∃ t, r = .next t ∧ Ends s t

theorem Answers.next (h : Ends s t) : Answers s (.next t) := ⟨t, rfl, h⟩

end

section
variable (s : State)

/-! ### Requests whose commands have no consequences -/

theorem timeRecords_offer {r : Request} (h : ∀ t, timeRecords (perform r t) = timeRecords t) :
    timeRecords (offer r s) = timeRecords s := by
  unfold offer
  split
  · unfold takeRequest; rw [h]; rfl
  · split <;> rfl

/-- A request that acts on the port, the store or the diagnostic slot alone. -/
theorem Ends.offer {r : Request} (h : ∀ t, timeRecords (perform r t) = timeRecords t) : Ends s (offer r s) :=
  .plain (offer_sound s r) (timeRecords_offer s h)

theorem timeRecords_startAutoSave : timeRecords (startAutoSave s) = timeRecords s := by unfold startAutoSave; split <;> rfl

theorem timeRecords_afterWrite : timeRecords (afterWrite s) = timeRecords s := by
  unfold afterWrite
  split
  · rfl
  · rw [timeRecords_startAutoSave]; rfl
  · split
    · exact timeRecords_startAutoSave s
    · rfl
  · exact timeRecords_startAutoSave s

theorem writeEnd_ends {i : Image} (whole : Bool) (h : s.store.writer.image = some i) :
    Ends s (afterWrite (storeImage i whole s)) :=
  .plain ((storeImage_sound s whole h).trans (afterWrite_sound _)) (by rw [timeRecords_afterWrite]; rfl)

/-! ### The host port -/

theorem execPowerOnReset_answers : Answers { s with now := 0 } (execPowerOnReset s) := by
  refine .next (.finish (resetState_sound { s with now := 0 } rfl (fun h i hi => ?_) fun _ k => ?_))
  · unfold imageAtPowerOn at hi
    split at hi
    · exact h.2.2.1 i hi
    · cases hi
  · have h0 : Histories.empty.get k = [] := by cases k <;> rfl
    simp [h0]

theorem execHostRestart_answers : Answers s (execHostRestart s) :=
  .next (.due fun _ => .finish (resetState_sound s rfl (fun h => h.2.2.1) fun h k => h k))

theorem execHostFrameReceived_answers (bytes : List HostByte) : Answers s (execHostFrameReceived bytes s) := by
  refine .next (.ite (fun _ => .plain (.of_records rfl) rfl) fun _ => .finish ?_)
  exact .after (.foldl (fun s h => offerHeard_sound s h) _ _) rfl

theorem execHostFrameAbandon_answers : Answers s (execHostFrameAbandon s) :=
  .next (.due fun _ => .plain (.of_records rfl) rfl)

theorem execUnknownKind_answers (k : Byte) : Answers s (execUnknownKind k s) :=
  .next (.ite (fun _ => .refl s) fun _ => .offer s fun _ => rfl)

theorem execGetSystem_answers (p : Option Byte) : Answers s (execGetSystem p s) := by
  refine .next (.offer s fun t => ?_)
  show timeRecords (doGetSystem p t) = _
  unfold doGetSystem
  split <;> rfl

theorem execGetZone_answers (z : Byte) : Answers s (execGetZone z s) := by
  refine .next (.offer s fun t => ?_)
  show timeRecords (doGetZone z t) = _
  unfold doGetZone
  split <;> rfl

theorem execGetPlan_answers (p : Option Byte) : Answers s (execGetPlan p s) := by
  refine .next (.offer s fun t => ?_)
  show timeRecords (doGetPlan p t) = _
  unfold doGetPlan
  split <;> rfl

theorem execSaveConfig_answers : Answers s (execSaveConfig s) := by
  refine .next (.offer s fun t => ?_)
  show timeRecords (doSaveConfig t) = _
  unfold doSaveConfig
  split <;> rfl

theorem execSetReports_answers (m : Word) : Answers s (execSetReports m s) := by
  refine .next (.offer s fun t => ?_)
  show timeRecords (doSetReports m t) = _
  unfold doSetReports
  split <;> rfl

theorem execOutdoorDiag_answers (d k l : Byte) (data : List Byte) : Answers s (execOutdoorDiag d k l data s) := by
  refine .next (.offer s fun t => ?_)
  show timeRecords (doOutdoorDiag d k l data t) = _
  unfold doOutdoorDiag
  dsimp only
  (repeat' split) <;> rfl

theorem execRestart_answers : Answers s (execRestart s) := by
  refine .next (.offer s fun t => ?_)
  show timeRecords (doRestart t) = _
  unfold doRestart
  split <;> rfl

theorem execHostFrameSent_answers : Answers s (execHostFrameSent s) := by
  refine .next ?_
  split
  · exact .finish (frameSent_sound s _)
  · exact .refl s

theorem execFullWriteEnd_answers : Answers s (execFullWriteEnd s) := by
  refine .next ?_
  split
  next hw => exact writeEnd_ends s true (by rw [hw]; rfl)
  next => exact .refl s

theorem execAutoSaveEnd_answers : Answers s (execAutoSaveEnd s) := by
  refine .next ?_
  split
  next hw => exact writeEnd_ends s _ (by rw [hw]; rfl)
  next => exact .refl s

/-! ### Zone sensing -/

theorem execSensorNoAcknowledge_answers : Answers s (execSensorNoAcknowledge s) := by
  refine .next ?_
  split
  · exact .finish (failAttempt_sound s _)
  · exact .refl s

theorem execSensorReply_answers (a r : List (List BusSample)) : Answers s (execSensorReply a r s) := by
  refine .next ?_
  split
  · dsimp only
    exact .due fun _ => .finish (.after (judgeBytes_sound _ _ _) rfl)
  · exact .refl s

theorem execSensorWindowClose_answers : Answers s (execSensorWindowClose s) := by
  refine .next ?_
  split
  · exact .due fun _ => .finish (failAttempt_sound s _)
  · exact .refl s

/-! ### Dampers -/

theorem Drive.isMove_slot {v : Drive} {d : ZoneId} (h : v.isMove d = true) : ∃ y, v.slotOf d = some y := by
  unfold Drive.isMove at h
  split at h
  · exact ⟨_, ‹_›⟩
  · cases h

theorem Drive.home_of_done {v : Drive} {d : ZoneId} (h : v.isMove d = false) (hd : v.motionDone d = true) :
    ∃ y, v.slotOf d = some y ∧ y.what = .home := by
  unfold Drive.isMove at h
  unfold Drive.motionDone at hd
  split at hd
  next hs => rw [hs] at h; cases h
  next hs => exact ⟨_, hs, rfl⟩
  next => cases hd

theorem execDamperStep_answers (d : ZoneId) : Answers s (execDamperStep d s) := by
  refine .next (.due fun _ => ?_)
  have hf : Firm (DriveAgrees s) s { s with drive := s.drive.stepMotion d } := stepMotion_firm s d
  refine .ite (fun _ => .finish ⟨hf.trans (blowerGuard_firm _), fun _ hg => absurd rfl hg⟩) fun hn => .plain ⟨hf, fun _ hg => ?_⟩ rfl
  simpa [hg] using hn

theorem execMoveComplete_answers (d : ZoneId) : Answers s (execMoveComplete d s) := by
  refine .next (.due fun hd => .finish ?_)
  obtain ⟨y, hy⟩ := Drive.isMove_slot (Bool.and_eq_true_iff.mp hd).1
  have h := completeMove_sound (Q := DriveAgrees s) s hy
  exact h.trans (reportCompletion_sound _ d fun q => h.drive q q)

theorem execHomeComplete_answers (d : ZoneId) : Answers s (execHomeComplete d s) := by
  refine .next (.due fun hd => .finish ?_)
  obtain ⟨hm, hdone⟩ := Bool.and_eq_true_iff.mp hd
  obtain ⟨y, hy, hw⟩ := Drive.home_of_done (by simpa using hm) hdone
  have h := completeHome_sound (Q := DriveAgrees s) s hy hw
  exact h.trans (reportCompletion_sound _ d fun q => h.drive q q)

theorem execDamperStall_answers (d : ZoneId) : Answers s (execDamperStall d s) := by
  refine .next (.due fun hd => .finish ?_)
  obtain ⟨y, hy⟩ := Drive.isMove_slot hd
  exact airGuard_sound s (stall_firm s hy)

/-! ### The blower -/

/-- Only the blower changes, and its goal, what it carries and whether it blows stand. -/
theorem sameBlower_sound {Q : Prop} {b : Blower} (hg : b.goal = s.blower.goal) (hc : b.carried = s.blower.carried)
    (hs : b.state = .ramp ∨ b.state = .run → s.blower.state = .ramp ∨ s.blower.state = .run) :
    Sound Q s { s with blower := b } := .of_blower' fun _ h => h.same hg hc hs

theorem execBlowerRampTick_answers : Answers s (execBlowerRampTick s) :=
  .next (.due fun _ => .plain (sameBlower_sound s rfl rfl id) rfl)

theorem execBlowerSettled_answers : Answers s (execBlowerSettled s) := by
  refine .next (.due fun hd => .finish (sameBlower_sound s rfl rfl fun _ => .inl ?_))
  unfold Blower.settledDue at hd
  split at hd
  · simp only [Bool.and_eq_true, decide_eq_true_eq] at hd; exact hd.1.1.1
  · cases hd

theorem execBlowerUnsettled_answers : Answers s (execBlowerUnsettled s) := by
  refine .next (.due fun hd => .finish (sameBlower_sound s rfl rfl fun _ => .inr ?_))
  simp only [Blower.unsettledDue, Bool.and_eq_true, decide_eq_true_eq] at hd
  exact hd.1.1

theorem execSettleTimeout_answers : Answers s (execSettleTimeout s) :=
  .next (.due fun _ => .finish
    ((sameBlower_sound s (b := s.blower.beginRetry s.now) rfl rfl id).trans (recordTrip_sound _ _ _)))

theorem execRetryPauseEnd_answers : Answers s (execRetryPauseEnd s) :=
  .next (.due fun _ => .finish (sameBlower_sound s rfl rfl id))

theorem execRunOnExpiry_answers : Answers s (execRunOnExpiry s) :=
  .next (.due fun _ => .finish (.of_blower' fun path _ => .turnOff _ _ path _))

theorem execDuctPressureConversion_answers (r : Int) : Answers s (execDuctPressureConversion r s) := by
  refine .next ⟨sameBlower_sound s rfl rfl id, fun h => ?_⟩
  constructor
  · rw [← aboveCap_iff]; exact runWhile_ne_none ..
  · rw [← belowRelief_iff]; exact runWhile_ne_none ..
  · exact h.startFail
  · exact h.freezeWatch
  · exact h.supplyWatch
  · exact h.limitStep
  · exact h.limitRecovery
  · exact h.idle
  · exact h.idleReached
  · exact h.noticeTime
  · exact h.notice

theorem execAboveCapTimeExpiry_answers : Answers s (execAboveCapTimeExpiry s) := by
  refine .next (.due fun _ => .finish ?_)
  have h : Sound (DriveAgrees s) s { s with blower := s.blower.stepDown s.now s.cfg.qmax s.cfg.qsysMin } := by
    unfold Blower.stepDown
    split <;> exact sameBlower_sound s rfl rfl id
  exact h.trans (.iteSelf (requestPass_sound _))

theorem execBelowReliefTimeExpiry_answers : Answers s (execBelowReliefTimeExpiry s) :=
  .next (.due fun _ => .finish
    ((sameBlower_sound s (b := s.blower.stepUp s.now s.cfg.qmax) rfl rfl id).trans (requestPass_sound _)))

/-! ### The link -/

theorem withBreak_ends {f : State → State} (hf : Sound (DriveAgrees s) s (f s))
    (ht : lineQuiet s = true → timeRecords (f s) = timeRecords s) : Ends s (withBreak f s) := by
  unfold withBreak
  exact .ite (fun hq => .plain hf (ht hq)) fun _ => .finish hf

theorem timeRecords_beginFrame {k : FrameKind} {b : List Byte} (h : lineQuiet s = true) :
    timeRecords (beginFrame k b s) = timeRecords s := by unfold beginFrame; rw [if_pos h]; rfl

theorem timeRecords_beginDiag (d : Diagnostic) (h : lineQuiet s = true) : timeRecords (beginDiag d s) = timeRecords s := by
  unfold beginDiag
  dsimp only
  split <;> (rw [timeRecords_beginFrame]; rfl; exact h)

theorem timeRecords_beginDiagOrStat (h : lineQuiet s = true) : timeRecords (beginDiagOrStat s) = timeRecords s := by
  unfold beginDiagOrStat
  split
  · exact timeRecords_beginDiag s _ h
  · exact timeRecords_beginFrame s h

theorem timeRecords_beginRequest (r : Round) (h : lineQuiet s = true) : timeRecords (beginRequest r s) = timeRecords s := by
  unfold beginRequest
  dsimp only
  split
  · rw [timeRecords_beginFrame]; rfl; exact h
  · rw [timeRecords_beginDiagOrStat]; rfl; exact h
  · rw [timeRecords_beginDiagOrStat]; rfl; exact h
  · rw [timeRecords_beginFrame]; rfl; exact h
  · rw [timeRecords_beginFrame]; rfl; exact h

theorem timeRecords_beginSlowDiag (r : Round) (h : lineQuiet s = true) : timeRecords (beginSlowDiag r s) = timeRecords s := by
  unfold beginSlowDiag
  dsimp only
  split
  · rw [timeRecords_beginDiag]; rfl; exact h
  · rfl

theorem beginRound_ends : Ends s (withBreak beginRound s) :=
  withBreak_ends s (beginRound_sound s) fun h => by unfold beginRound; rw [timeRecords_beginFrame]; rfl; exact h

theorem execLinkRequestFrameStart_answers : Answers s (execLinkRequestFrameStart s) := by
  refine .next ?_
  split
  · exact withBreak_ends s (beginRequest_sound s _) (timeRecords_beginRequest s _)
  · exact .refl s

theorem execLinkDiagFrameStart_answers : Answers s (execLinkDiagFrameStart s) := by
  refine .next ?_
  split
  · exact withBreak_ends s (beginSlowDiag_sound s _) (timeRecords_beginSlowDiag s _)
  · exact .refl s

theorem execLinkCollision_answers : Answers s (execLinkCollision s) := by
  refine .next ?_
  split
  · exact .finish (abandonFrame_sound s _)
  · exact .ite (fun _ => .refl s) fun _ => .finish (beginDue_sound s)

theorem timeRecords_endDiag (o : DiagOutcome) (f : Option FailureKind) (b : List Byte) :
    timeRecords (endDiag o f b s) = timeRecords s := by
  unfold endDiag
  split <;> rfl

theorem execLinkCommandFrameSent_answers : Answers s (execLinkCommandFrameSent s) := by
  refine .next ?_
  split
  · refine .plain (commandSent_sound s _) ?_
    unfold commandSent
    dsimp only
    split
    · rw [timeRecords_endDiag]; rfl
    · rfl
  · exact .refl s

theorem takeBytes_ends (f : LinkFrame) (b : List Byte) : Ends s (takeBytes f b s) := by
  refine .plain (takeBytes_sound s f b) ?_
  unfold takeBytes noteLow Link.heardLow
  dsimp only
  (repeat' split) <;> rfl

theorem execStatResponse_answers (b : List Byte) : Answers s (execStatResponse b s) := by
  refine .next ?_
  split
  · exact .ite (fun _ => takeBytes_ends s _ b) fun _ => .finish ((takeBytes_sound s _ b).trans (statArrived_sound _ _))
  · exact .refl s

theorem execInfoResponse_answers (b : List Byte) : Answers s (execInfoResponse b s) := by
  refine .next ?_
  split
  · exact .ite (fun _ => takeBytes_ends s _ b) fun _ => .finish ((takeBytes_sound s _ b).trans (infoArrived_sound _ _))
  · exact .refl s

theorem execDiagReadResponse_answers (b : List Byte) : Answers s (execDiagReadResponse b s) := by
  refine .next ?_
  split
  next f d _ _ =>
    refine .ite (fun _ => takeBytes_ends s f b) fun _ => ⟨(takeBytes_sound s f b).trans (diagArrived_sound _ _ _), fun h => ?_⟩
    refine ((takeBytes_ends s f b).times h).of_eq ?_
    unfold diagArrived
    split
    · rw [timeRecords_endDiag]; rfl
    · show timeRecords (endDiag _ _ _ _) = _
      rw [timeRecords_endDiag]; rfl
  next => exact .refl s

theorem execLinkByteError_answers (b : BitVec 33) : Answers s (execLinkByteError b s) := by
  refine .next ?_
  split
  · exact .due fun _ => .finish (((noteLow_sound s).trans (endFrame_sound _)).trans (exchangeFailed_sound _ _ _))
  · exact .refl s

theorem execResponseWindowClose_answers (n : Nat) : Answers s (execResponseWindowClose n s) := by
  refine .next ?_
  split
  · exact .finish (windowClosed_sound s _ n)
  · exact .refl s

/-! ### The sequencer -/

theorem execDefrostTimeout_sound {Q : Prop} : Sound Q s (defrostTooLong s) := .after (defrostLongTrip_sound _) rfl

/-! ### Every command -/

/-- The state a command begins in, with the running clock a power-on reset sets. -/
def clockOf (c : Instr) (s : State) : State :=
  match c with
  | .powerOnReset => { s with now := 0 }
  | _ => s

/-- Every command answers, and keeps what the invariants say. -/
theorem exec_answers (c : Instr) : Answers (clockOf c s) (exec c s) := by
  cases c with
  | powerOnReset => exact execPowerOnReset_answers s
  | hostRestart => exact execHostRestart_answers s
  | hostFrameReceived bytes => exact execHostFrameReceived_answers s bytes
  | hostFrameBadSum => exact .next (.plain (.of_records rfl) rfl)
  | hostFrameAbandon => exact execHostFrameAbandon_answers s
  | unknownKind kind => exact execUnknownKind_answers s kind
  | getInfo => exact .next (.offer s fun _ => rfl)
  | getSystem page => exact execGetSystem_answers s page
  | getZone zone => exact execGetZone_answers s zone
  | getPlan selector => exact execGetPlan_answers s selector
  | getQueue => exact .next (.offer s fun _ => rfl)
  | setSystem request policy frost => exact .next (.finish (offer_sound s _))
  | setZone zone cool heat dry park => exact .next (.finish (offer_sound s _))
  | configSystem settings table => exact .next (.finish (offer_sound s _))
  | configZoneConfigure zone da ra rank address => exact .next (.finish (offer_sound s _))
  | configZoneUnconfigure zone => exact .next (.finish (offer_sound s _))
  | clearZoneFault zone => exact .next (.finish (offer_sound s _))
  | clearLockout => exact .next (.finish (offer_sound s _))
  | saveConfig => exact execSaveConfig_answers s
  | setReports mask => exact execSetReports_answers s mask
  | outdoorDiag direction kind length data => exact execOutdoorDiag_answers s direction kind length data
  | restart => exact execRestart_answers s
  | hostFrameSent => exact execHostFrameSent_answers s
  | fullWriteEnd => exact execFullWriteEnd_answers s
  | autoSaveEnd => exact execAutoSaveEnd_answers s
  | sweepSlotStart => exact .next (.due fun _ => .plain (.of_records rfl) rfl)
  | sensorNoAcknowledge => exact execSensorNoAcknowledge_answers s
  | sensorReply acknowledge reply => exact execSensorReply_answers s acknowledge reply
  | sensorWindowClose => exact execSensorWindowClose_answers s
  | sensorAgeExpiry zone => exact .next (.due fun _ => .finish (changeSensor_sound s _ _))
  | returnAirConversion reading => exact .next (.plain (.of_records rfl) rfl)
  | evaluationTimerExpiry => exact .next (.due fun _ => .finish (runPass_sound s))
  | earlyPassSpacingEnd => exact .next (.due fun _ => .finish (runPass_sound s))
  | restEnd => exact .next (.due fun _ => .finish (.of_records rfl))
  | damperStep damper => exact execDamperStep_answers s damper
  | moveComplete damper => exact execMoveComplete_answers s damper
  | homeComplete damper => exact execHomeComplete_answers s damper
  | damperStall damper => exact execDamperStall_answers s damper
  | blowerRampTick => exact execBlowerRampTick_answers s
  | blowerSettled => exact execBlowerSettled_answers s
  | blowerUnsettled => exact execBlowerUnsettled_answers s
  | settleTimeout => exact execSettleTimeout_answers s
  | retryPauseEnd => exact execRetryPauseEnd_answers s
  | runOnExpiry => exact execRunOnExpiry_answers s
  | coldBlowTimeout => exact .next (.due fun _ => .finish (removeHold_sound s _))
  | blowerAtRest => exact .next (.due fun _ => .finish (grantDefrost_sound s))
  | ductPressureConversion reading => exact execDuctPressureConversion_answers s reading
  | aboveCapTimeExpiry => exact execAboveCapTimeExpiry_answers s
  | belowReliefTimeExpiry => exact execBelowReliefTimeExpiry_answers s
  | roundTick => exact .next (.due fun _ => beginRound_ends s)
  | linkRequestFrameStart => exact execLinkRequestFrameStart_answers s
  | linkDiagFrameStart => exact execLinkDiagFrameStart_answers s
  | linkCollision => exact execLinkCollision_answers s
  | linkCommandFrameSent => exact execLinkCommandFrameSent_answers s
  | statResponse bytes => exact execStatResponse_answers s bytes
  | infoResponse bytes => exact execInfoResponse_answers s bytes
  | diagReadResponse bytes => exact execDiagReadResponse_answers s bytes
  | linkByteError samples => exact execLinkByteError_answers s samples
  | responseWindowClose arrived => exact execResponseWindowClose_answers s arrived
  | statAgeLimit => exact .next (.due fun _ => .finish (linkLost_sound s _))
  | diagTimeout => exact .next (.due fun _ => .plain (endDiag_sound s _ _ _) (timeRecords_endDiag s _ _ _))
  | wakeRoundStart => exact .next (.due fun _ => beginRound_ends s)
  | minimumOffExpiry => exact .next (.due fun _ => .finish (.of_records rfl))
  | startFailTimeout => exact .next (.due fun _ => .finish (startFailTrip_sound s))
  | minimumRunEnd => exact .next (.due fun _ => .finish (stopWait_sound s _))
  | defrostPrepTimeout => exact .next (.due fun _ => .finish (execDefrostTimeout_sound s))
  | defrostActiveTimeout => exact .next (.due fun _ => .finish (execDefrostTimeout_sound s))
  | recoveryTimeExpiry => exact .next (.due fun _ => .finish (endRecovery_sound s _))
  | indoorCoilConversion reading => exact .next (.finish (coilConverted_sound s reading))
  | freezeTimeExpiry => exact .next (.due fun _ => .finish (freezeLimits_sound s))
  | supplyAirConversion reading => exact .next (.finish (supplyConverted_sound s reading))
  | above60TimeExpiry => exact .next (.due fun _ => .finish (supplyLimits_sound s))
  | supplyUnavailableExpiry => exact .next (.due fun _ => .finish (leaveStops_sound s _))
  | limitStepTime => exact .next (.due fun _ => .finish (limitDown_sound s rfl rfl rfl))
  | limitRecoveryTime => exact .next (.due fun _ => .finish (limitUp_sound s))
  | tripHoldExpiry kind => exact .next (.due fun _ => .finish (endHold_sound s kind))
  | floatHeld => exact .next (.due fun _ => .finish (floatHolds_sound s))
  | floatCleared => exact .next (.due fun _ => .finish (floatClears_sound s))
  | mainsConversion reading => exact .next (.plain (mainsConverted_sound s reading) rfl)
  | supplyLowHeld => exact .next (.due fun _ => .finish (supplyLowTo_sound s true))
  | supplyLowCleared => exact .next (.due fun _ => .finish (supplyLowTo_sound s false))
  | idleTimeReached => exact .next (.due fun _ => .finish (.of_records rfl))
  | noticeTimeExpiry => exact .next (.due fun _ => .finish (withdrawNotice_sound s))
  | buttonPress => exact .next (.due fun _ => .finish (pressed_sound s))
  | buttonRelease => exact .next (.due fun _ => .finish (released_sound s))
  | buttonHoldTime => exact .next (.due fun _ => .finish (heldLong_sound s))
  | testTimeExpiry => exact .next (.due fun _ => .finish (endTest_sound s))
  | floatInputChange closed => exact .next (.ite (fun _ => .refl s) fun _ => .plain (.of_records rfl) rfl)
  | tachometerPulse rpm => exact .next (.plain (sameBlower_sound s rfl rfl id) rfl)
  | buttonInputChange closed => exact .next (.ite (fun _ => .refl s) fun _ => .plain (.of_records rfl) rfl)

end

/-! ### Every step -/

/-- A property of states that every command keeps, and that neither the queue nor the passing of time touches, is kept by a step. -/
theorem step_keeps {P : State → Prop} (hc : ∀ c s, P s → P (clockOf c s))
    (he : ∀ s t, Ends s t → P s → P t) (hq : ∀ s q, P s → P { s with pending := q }) (ht : ∀ s, P s → P (passTime s))
    {s t : State} (hs : P s) (h : step s = .next t) : P t := by
  unfold step at h
  split at h
  next c rest _ =>
    obtain ⟨u, hu, hend⟩ := exec_answers { s with pending := rest } c
    rw [hu] at h
    cases h
    exact he _ _ hend (hc _ _ (hq _ _ hs))
  next =>
    cases h
    unfold tick
    split
    · exact ht s hs
    · exact hq _ _ hs

/-- Settles O3, by the list of all commands: each answers, and what it answers keeps the queue and, but for a power-on reset, the
running clock. -/
theorem everyCommandAnswers : Obligations.EveryCommandAnswers := by
  unfold Obligations.EveryCommandAnswers
  intro c s
  obtain ⟨t, ht, h⟩ := exec_answers s c
  refine ⟨t, ht, ?_, fun hc => ?_⟩
  · rw [h.sound.pending]; cases c <;> rfl
  · rw [h.sound.now]; cases c <;> first | rfl | exact absurd rfl hc

/-- Settles O6, by the preorder `Sound` on the operations of every command. -/
theorem configurationStaysGood : Obligations.ConfigurationStaysGood := by
  unfold Obligations.ConfigurationStaysGood
  intro s t hs h
  exact step_keeps (fun c s hs => by cases c <;> exact hs) (fun _ _ h => h.sound.config) (fun _ _ => id) (fun _ => id) hs h

/-- Settles O7, by the preorder `Sound` on the operations of every command. -/
theorem tripRecordStaysGood : Obligations.TripRecordStaysGood := by
  unfold Obligations.TripRecordStaysGood
  intro s t hh hl h
  exact step_keeps (P := fun s => HistoriesGood s ∧ LimitGood s) (fun c s hs => by cases c <;> exact hs)
    (fun _ _ h => h.sound.trips) (fun _ _ => id) (fun _ => id) ⟨hh, hl⟩ h

/-- Settles O8, by the preorder `Sound`: the guard answers each operation that can close the last damper, and a goal goes to the blower
only with a path. -/
theorem airPathStaysSafe : Obligations.AirPathStaysSafe := by
  unfold Obligations.AirPathStaysSafe
  intro s t hs h
  exact step_keeps (fun c s hs => by cases c <;> exact hs) (fun _ _ h => h.sound.airSafe) (fun _ _ => id) (fun _ => id) hs h

/-- Settles O9: a command ends with the times renewed, or leaves them and their conditions alone. -/
theorem timesStayInStep : Obligations.TimesStayInStep := by
  unfold Obligations.TimesStayInStep
  intro s t hs h
  refine step_keeps (fun c s hs => ?_) (fun _ _ h => h.times) (fun _ _ hs => hs.of_eq rfl) (fun s hs => hs.of_eq ?_) hs h
  · cases c <;> first | exact hs | exact hs.of_eq rfl
  · unfold passTime timeRecords Link.heardLow
    dsimp only
    (repeat' split) <;> rfl

/-- Settles O10, by the preorder `Sound`, damper by damper. -/
theorem driveStaysInAgreement : Obligations.DriveStaysInAgreement := by
  unfold Obligations.DriveStaysInAgreement
  intro s t hs h
  exact step_keeps (fun c s hs => by cases c <;> first | exact hs | exact hs.of_eq rfl rfl rfl)
    (fun _ _ h hs => h.sound.drive hs hs) (fun _ _ hs => hs.of_eq rfl rfl rfl) (fun _ hs => hs.of_eq rfl rfl rfl) hs h

end Sys2Proof.Machine
end

section
/-! Both resets (11 R162): what is loaded and what survives is left alone by the consequences of the reset. -/

namespace Sys2Proof.Machine

/-- What a reset that loads an image puts in force (11 Table 11.3, 12 R178). -/
def Reloaded (image : Option Image) (s t : State) : Prop :=
  let i := image.getD Image.factory
  t.cfg = i.settings ∧
    (∀ z : ZoneId, t.zcfg.get z = (i.zones.get z).config ∧ t.setp.get z = (i.zones.get z).setpoints) ∧
    t.op.policy = i.policy ∧ t.op.frost = i.frost ∧ t.port.mask = i.mask ∧
    t.store = ⟨image, .idle, false, image.isNone⟩ ∧ t.prot.limit = 100 ∧ t.blower.qhi = i.settings.qmax ∧
    t.blower.capped = false ∧ t.eval.hpCapable = true ∧ t.link.info = none ∧ t.link.lastStatus = none ∧
    t.link.diag = none ∧ t.blower.measured = 0 ∧ t.blower.lastPulse = t.now ∧
    t.port.receiver = .hunting ∧ t.port.service = none ∧ t.port.waiting = none ∧
    t.port.overrun = false ∧ t.port.restartDue = false ∧ t.pending = s.pending

/-- What a reset puts in force is in the fields that consequences keep. -/
theorem Reloaded.of_kept {image : Option Image} {s t u : State} (h : Reloaded image s t) (k : kept u = kept t) :
    Reloaded image s u := by
  obtain ⟨hc, hz, hp, hf, hm, hst, hl, hq, hca, hh, hi, hls, hd, hme, hlp, hr, hse, hw, ho, hrd, hpe⟩ := h
  have hzk : u.zcfg = t.zcfg := congrArg Kept.zcfg k
  have hsk : u.setp = t.setp := congrArg Kept.setp k
  have hdk : u.link.diag.map Diagnostic.unchosen = none := by
    have : u.link.diag.map Diagnostic.unchosen = t.link.diag.map Diagnostic.unchosen := congrArg Kept.diag k
    rw [this, hd]; rfl
  have hn : u.now = t.now := congrArg Kept.now k
  refine ⟨(congrArg Kept.cfg k).trans hc, fun z => by rw [hzk, hsk]; exact hz z, (congrArg Kept.policy k).trans hp,
    (congrArg Kept.frost k).trans hf, (congrArg Kept.mask k).trans hm, (congrArg Kept.store k).trans hst,
    (congrArg Kept.limit k).trans hl, ?_, ?_, (congrArg Kept.hpCapable k).trans hh, (congrArg Kept.info k).trans hi,
    (congrArg Kept.lastStatus k).trans hls, Option.map_eq_none_iff.mp hdk, ?_, ?_, (congrArg Kept.receiver k).trans hr,
    (congrArg Kept.service k).trans hse, (congrArg Kept.waiting k).trans hw, (congrArg Kept.overrun k).trans ho,
    (congrArg Kept.restartDue k).trans hrd, (congrArg Kept.pending k).trans hpe⟩
  · exact (congrArg (fun k : Kept => k.blower.qhi) k).trans hq
  · exact (congrArg (fun k : Kept => k.blower.capped) k).trans hca
  · exact (congrArg (fun k : Kept => k.blower.measured) k).trans hme
  · rw [hn]; exact (congrArg (fun k : Kept => k.blower.lastPulse) k).trans hlp

theorem resetState_reloaded (now : Nat) (image : Option Image) (request : OpRequest) (cause : RestartCause) (hist : Histories)
    (lockout : Bool) (s : State) :
    Reloaded image s
      (resetState now (loaded image) request cause hist lockout ⟨image, .idle, false, image.isNone⟩ s) := by
  refine ⟨rfl, fun z => ?_, rfl, rfl, rfl, rfl, rfl, rfl, rfl, rfl, rfl, rfl, rfl, rfl, rfl, rfl, rfl, rfl, rfl, rfl, rfl⟩
  simp [resetState, loaded]

/-- Settles O5: with no action latched the consequences of a reset keep what it loads and what survives it. -/
theorem resetsReload : Obligations.ResetsReload := by
  unfold Obligations.ResetsReload
  intro s
  have key (now : Nat) (image : Option Image) (request : OpRequest) (cause : RestartCause) (hist : Histories) (lockout : Bool) :
      let u := resetState now (loaded image) request cause hist lockout ⟨image, .idle, false, image.isNone⟩ s
      kept (finish u) = kept u ∧ Reloaded image s (finish u) := by
    have k := kept_finish (s := resetState now (loaded image) request cause hist lockout
      ⟨image, .idle, false, image.isNone⟩ s) rfl
    exact ⟨k, (resetState_reloaded ..).of_kept k⟩
  refine ⟨?_, fun hd => ?_, fun hd => ?_⟩
  · obtain ⟨k, hr⟩ := key 0 (imageAtPowerOn s.store) (restoredRequest (loaded (imageAtPowerOn s.store))) .powerOn
      Histories.empty false
    exact ⟨_, rfl, hr, congrArg Kept.now k, congrArg Kept.request k, congrArg Kept.restartCause k,
      congrArg Kept.hist k, congrArg Kept.lockout k⟩
  · obtain ⟨k, hr⟩ := key s.now s.store.image s.op.request .hostRestart s.prot.hist s.prot.lockout
    refine ⟨hostRestart s, ?_, hr, congrArg Kept.now k, congrArg Kept.request k, congrArg Kept.restartCause k,
      congrArg Kept.hist k, congrArg Kept.lockout k⟩
    simp [exec, execHostRestart, hd]
  · simp [exec, execHostRestart, hd]

end Sys2Proof.Machine
end

section
/-! Frames of the host line and requests read back from their payloads (12 R170, R173; 13 Table 13.2). -/

namespace Sys2Proof.Machine

/-! ### Sums and bytes -/

theorem byteSum_append (l m : List Byte) : byteSum (l ++ m) = byteSum l + byteSum m := by
  have shift : ∀ (m : List Byte) (a : Byte), m.foldl (· + ·) a = a + m.foldl (· + ·) 0 := by
    intro m
    induction m with
    | nil => simp
    | cons x m ih => intro a; rw [List.foldl_cons, ih, List.foldl_cons, ih (0 + x)]; simp [BitVec.add_assoc]
  rw [byteSum, List.foldl_append, shift]
  rfl

/-- A byte closes a list with sum 0 exactly where it is the check byte of the list (08 R122, 12 R170). -/
theorem byteSum_check_iff (l : List Byte) (c : Byte) : byteSum (l ++ [c]) = 0 ↔ c = checkByte l := by
  have hc : byteSum [c] = c := BitVec.zero_add c
  rw [byteSum_append, hc, checkByte]
  constructor <;> intro h <;> bv_omega

theorem toNat_byte {n : Nat} (h : n < 256) : (byte n).toNat = n := Nat.mod_eq_of_lt h

theorem byte_toNat (b : Byte) : byte b.toNat = b := (BitVec.ofNat_toNat 8 b).trans (BitVec.setWidth_eq b)

theorem word_toNat (w : Word) : word w.toNat = [w.extractLsb' 8 8, w.extractLsb' 0 8] := by
  have hi : BitVec.ofNat 8 (w.toNat / 256) = w.extractLsb' 8 8 := by
    apply BitVec.eq_of_toNat_eq
    simp [BitVec.extractLsb'_toNat, Nat.shiftRight_eq_div_pow]
  have lo : BitVec.ofNat 8 w.toNat = w.extractLsb' 0 8 := by
    apply BitVec.eq_of_toNat_eq
    simp [BitVec.extractLsb'_toNat]
  rw [word, hi, lo]

/-- A two-byte field is read as the word it was laid out from (13 R180). -/
theorem ofBytes_extract (w : Word) : ofBytes (w.extractLsb' 8 8) (w.extractLsb' 0 8) = w := by
  apply BitVec.eq_of_toNat_eq
  have hw := w.isLt
  simp only [ofBytes, BitVec.toNat_append, BitVec.extractLsb'_toNat, Nat.shiftRight_eq_div_pow, Nat.shiftLeft_eq]
  rw [← Nat.shiftLeft_eq, ← Nat.shiftLeft_add_eq_or_of_lt (Nat.mod_lt _ (by decide)), Nat.shiftLeft_eq]
  omega

/-! ### The receiver (12 R170) -/

/-- A frame of a LENGTH of 1..64 and a sum of 0 is a KIND, a payload and their check byte. -/
theorem receiveFrame_iff (f : List Byte) (kind : Byte) (payload : List Byte) :
    receiveFrame f = some (kind, payload) ↔ payload.length ≤ 63 ∧ f = (hostFrame kind payload).tail := by
  constructor
  · intro h
    match f with
    | [] | [_] => simp [receiveFrame] at h
    | len :: k :: rest =>
      simp only [receiveFrame] at h
      split at h
      · next hf =>
        obtain ⟨hpos, hmost, hlen, hsum⟩ := hf
        obtain ⟨rfl, rfl⟩ := Prod.mk.inj (Option.some.inj h)
        have hne : rest ≠ [] := by intro h0; simp [h0] at hlen; omega
        have hrest := List.dropLast_append_getLast hne
        have hbyte : byte (rest.dropLast.length + 1) = len := by
          rw [List.length_dropLast, hlen, Nat.sub_add_cancel hpos, byte_toNat]
        refine ⟨by rw [List.length_dropLast]; omega, ?_⟩
        have hc : rest.getLast hne = checkByte (len :: k :: rest.dropLast) := by
          rw [← byteSum_check_iff, List.cons_append, List.cons_append, hrest]; exact hsum
        simp only [hostFrame, List.tail_cons, withCheck, hbyte, List.cons_append, ← hc, hrest]
      · cases h
  · rintro ⟨hlen, rfl⟩
    have hn : (byte (payload.length + 1)).toNat = payload.length + 1 := toNat_byte (by omega)
    have hsum : byteSum (byte (payload.length + 1) :: kind :: (payload ++
        [checkByte (byte (payload.length + 1) :: kind :: payload)])) = 0 :=
      (byteSum_check_iff (byte (payload.length + 1) :: kind :: payload) _).2 rfl
    have hfit : (payload ++ [checkByte (byte (payload.length + 1) :: kind :: payload)]).length =
        (byte (payload.length + 1)).toNat := by rw [hn, List.length_append]; rfl
    simp only [hostFrame, List.tail_cons, withCheck, List.cons_append, receiveFrame]
    rw [if_pos ⟨by omega, by omega, hfit, hsum⟩, List.dropLast_concat]

/-! ### Requests (13 Table 13.2) -/

theorem pointsOf_flatten (t : List PointFields) :
    pointsOf (t.map fun p => word p.airflow.toNat ++ [p.speed] ++ word p.rpm.toNat).flatten = some t := by
  induction t with
  | nil => rfl
  | cons p t ih =>
    simp only [List.map_cons, List.flatten_cons, word_toNat, List.cons_append, List.nil_append, pointsOf] at ih ⊢
    rw [ih]
    simp [ofBytes_extract]

theorem points_length (t : List PointFields) :
    (t.map fun p => word p.airflow.toNat ++ [p.speed] ++ word p.rpm.toNat).flatten.length = 5 * t.length := by
  induction t with
  | nil => rfl
  | cons p t ih =>
    rw [List.map_cons, List.flatten_cons, List.length_append, ih]
    simp only [word, List.cons_append, List.nil_append, List.length_cons, List.length_nil]
    omega

/-- The payload of a CONFIG_SYSTEM is read back, with a table of six points and without one. -/
theorem configSystemOf_payload (f : SettingFields) (table : Option (List PointFields)) (h : tableFits table = true) :
    configSystemOf (Request.configSystem f table).payload = some (.configSystem f table) := by
  cases table with
  | none => simp [Request.payload, word_toNat, configSystemOf, ofBytes_extract]
  | some t =>
    have ht : t.length = 6 := by simpa [tableFits] using h
    have hl := points_length t
    have hp := pointsOf_flatten t
    simp only [Request.payload, Option.getD_some]
    generalize (t.map fun p => word p.airflow.toNat ++ [p.speed] ++ word p.rpm.toNat).flatten = rest at hl hp
    simp [word_toNat, configSystemOf, ofBytes_extract, hl, hp, ht]

theorem configZoneOf_configure (zone : Byte) (da ra : Word) (rank address : Byte) :
    configZoneOf (Request.configure zone da ra rank address).payload = some (.configure zone da ra rank address) := by
  simp [Request.payload, word_toNat, configZoneOf, ofBytes_extract]

/-- The payload of a request the lines can carry is read as the request. -/
theorem payloadOf_payload {c : Instr} {r : Request} (hw : wellFormed c = true) (h : requestOfCommand c = some r)
    (hk : ∀ k, r ≠ .unknownKind k) : payloadOf r.kind.toNat r.payload = some r := by
  cases c
  case unknownKind k =>
    have hr : (if within k.toNat 1 15 then none else some (Request.unknownKind k)) = some r := h
    split at hr
    · cases hr
    · cases hr; exact absurd rfl (hk k)
  case configSystem f table => cases h; exact configSystemOf_payload f table hw
  case configZoneConfigure zone da ra rank address => cases h; exact configZoneOf_configure zone da ra rank address
  case setZone zone cool heat dry park =>
    cases h
    rw [Request.payload, word_toNat, word_toNat, word_toNat]
    show some (Request.setZone zone (ofBytes _ _) (ofBytes _ _) (ofBytes _ _) park) = _
    simp only [ofBytes_extract]
  case setReports mask =>
    cases h
    rw [Request.payload, word_toNat]
    show some (Request.setReports (ofBytes _ _)) = _
    rw [ofBytes_extract]
  case getSystem page => cases h; cases page <;> rfl
  case getPlan selector => cases h; cases selector <;> rfl
  all_goals first
    | exact Option.noConfusion rfl (heq_of_eq h)
    | (cases h; rfl)

/-- The KIND of a request the host can ask is one of Table 13.2, but for UNKNOWN_KIND. -/
theorem kind_known {c : Instr} {r : Request} (h : requestOfCommand c = some r) (hk : ∀ k, r ≠ .unknownKind k) :
    1 ≤ r.kind.toNat ∧ r.kind.toNat ≤ 15 := by
  cases c
  case unknownKind k =>
    have hr : (if within k.toNat 1 15 then none else some (Request.unknownKind k)) = some r := h
    split at hr
    · cases hr
    · cases hr; exact absurd rfl (hk k)
  all_goals first
    | exact Option.noConfusion rfl (heq_of_eq h)
    | (cases h; simp [Request.kind])

/-- A KIND of Table 13.2 is parsed by its payload. -/
theorem parseRequest_known {kind : Byte} (h1 : 1 ≤ kind.toNat) (h2 : kind.toNat ≤ 15) (payload : List Byte) :
    parseRequest kind payload = (payloadOf kind.toNat payload).getD (.badLength kind) := by
  rw [parseRequest, if_pos ⟨h1, h2⟩]
  cases payloadOf kind.toNat payload <;> rfl

/-- A request the host can ask is parsed back from its KIND and its payload. -/
theorem parseRequest_payload {c : Instr} {r : Request} (hw : wellFormed c = true) (h : requestOfCommand c = some r) :
    parseRequest r.kind r.payload = r := by
  by_cases hk : ∃ k, r = .unknownKind k
  · obtain ⟨k, rfl⟩ := hk
    cases c
    case unknownKind k' =>
      have hr : (if within k'.toNat 1 15 then none else some (Request.unknownKind k')) = some (.unknownKind k) := h
      split at hr
      · cases hr
      · next hn =>
        obtain rfl : k' = k := by simpa using hr
        have : ¬ (1 ≤ k'.toNat ∧ k'.toNat ≤ 15) := by simpa [within] using hn
        rw [parseRequest, Request.kind, if_neg this]
    all_goals first
      | exact Option.noConfusion rfl (heq_of_eq h)
      | cases h
  · have hk' : ∀ k, r ≠ .unknownKind k := fun k e => hk ⟨k, e⟩
    obtain ⟨h1, h2⟩ := kind_known h hk'
    rw [parseRequest_known h1 h2, payloadOf_payload hw h hk', Option.getD_some]

/-- Settles O12, by the sum that a check byte closes and the payload layout of each request. -/
theorem requestFramesRoundTrip : Obligations.RequestFramesRoundTrip := by
  unfold Obligations.RequestFramesRoundTrip
  exact ⟨receiveFrame_iff, fun c r hw h => parseRequest_payload hw h⟩

end Sys2Proof.Machine
end

section
/-! Responses of the outdoor link read from their samples and bytes (08 R122, R123, R127, R128; 13 R184). -/

namespace Sys2Proof.Machine

/-! ### Bits of a byte on the line (08 R122, R123) -/

theorem majority_eq (a b c : Bool) : majority a b c = decide (2 ≤ a.toNat + b.toNat + c.toNat) := by
  revert a b c; decide

/-- The running parity of a list of bits is whether its count of ones is odd. -/
theorem foldl_bne_eq_odd_count (l : List Bool) (p : Bool) :
    l.foldl (fun p x => p != x) p = (p != decide (l.count true % 2 = 1)) := by
  induction l generalizing p with
  | nil => simp
  | cons x l ih =>
    rw [List.foldl_cons, ih]
    cases x with
    | false => simp
    | true =>
      have hodd : decide ((l.count true + 1) % 2 = 1) = !decide (l.count true % 2 = 1) := by
        rcases Nat.mod_two_eq_zero_or_one (l.count true) with h | h <;> simp [h, Nat.add_mod]
      simp [hodd]

theorem sentBits_eq (b : Byte) : sentBits b =
    false :: ((List.range 8).map fun k => b.getLsbD k) ++
      [decide (((List.range 8).map fun k => b.getLsbD k).count true % 2 = 1), true] := by
  rw [sentBits, foldl_bne_eq_odd_count, Bool.false_bne]

theorem sentBits_data (b : Byte) (k : Fin 8) : (sentBits b)[k.val + 1]? = some (b.getLsbD k.val) := by
  simp [sentBits_eq, List.getElem?_append_left, k.isLt]

theorem count_sentBits_even (b : Byte) : (((sentBits b).drop 1).take 9).count true % 2 = 0 := by
  have htake : ((sentBits b).drop 1).take 9 = ((List.range 8).map fun k => b.getLsbD k) ++
      [decide (((List.range 8).map fun k => b.getLsbD k).count true % 2 = 1)] := by
    rw [sentBits_eq]; simp [List.take_append]
  rw [htake, List.count_append, List.count_singleton]
  simp only [beq_iff_eq, decide_eq_true_eq]
  split <;> omega

theorem readBits_getElem? (samples : BitVec 33) (n : Fin 11) :
    (readBits samples)[n.val]? = some (lineBit samples n.val) := by
  simp [readBits, n.isLt]

theorem readBits_tail (samples : BitVec 33) : (readBits samples).tail =
    ((List.range 8).map fun k => lineBit samples (k + 1)) ++ [lineBit samples 9, lineBit samples 10] := rfl

/-- The eight data bits of a byte on the line, as that byte. -/
def sampledByte (samples : BitVec 33) : Byte := BitVec.ofFnLE fun k : Fin 8 => lineBit samples (k.val + 1)

theorem sampledByte_bits (samples : BitVec 33) :
    ((List.range 8).map fun k => (sampledByte samples).getLsbD k) = (List.range 8).map fun k => lineBit samples (k + 1) := by
  apply List.map_congr_left
  intro k hk
  have hk : k < 8 := by simpa using hk
  rw [BitVec.getLsbD_eq_getElem hk, sampledByte, BitVec.getElem_ofFnLE]

/-- A byte shows no failure where its parity bit is that of its data bits and its stop bit is high. -/
theorem byteFailure_eq_none_iff (samples : BitVec 33) : byteFailure samples = none ↔
    lineBit samples 9 = decide (((List.range 8).map fun k => lineBit samples (k + 1)).count true % 2 = 1) ∧
      lineBit samples 10 = true := by
  have hfold : (List.range 9).foldl (fun p k => p != lineBit samples (k + 1)) false =
      (decide (((List.range 8).map fun k => lineBit samples (k + 1)).count true % 2 = 1) != lineBit samples 9) := by
    rw [List.range_succ, List.foldl_append, List.foldl_cons, List.foldl_nil,
      ← List.foldl_map (f := fun k => lineBit samples (k + 1)) (g := fun p x => p != x), foldl_bne_eq_odd_count,
      Bool.false_bne]
  rw [byteFailure, hfold]
  generalize decide (((List.range 8).map fun k => lineBit samples (k + 1)).count true % 2 = 1) = parity
  cases parity <;> cases lineBit samples 9 <;> cases lineBit samples 10 <;> decide

/-- A byte shows no failure exactly where its bits after the start bit are those of a byte sent. -/
theorem byteFailure_none_iff_sent (samples : BitVec 33) :
    byteFailure samples = none ↔ ∃ c : Byte, (readBits samples).tail = (sentBits c).tail := by
  rw [byteFailure_eq_none_iff, readBits_tail]
  constructor
  · rintro ⟨hparity, hstop⟩
    refine ⟨sampledByte samples, ?_⟩
    rw [sentBits_eq, List.cons_append, List.tail_cons, sampledByte_bits, hparity, hstop]
  · rintro ⟨c, hc⟩
    rw [sentBits_eq, List.cons_append, List.tail_cons] at hc
    obtain ⟨hdata, hrest⟩ := List.append_inj hc (by simp)
    rw [hdata]
    simpa using hrest

/-! ### Responses (08 R123) -/

theorem goodData_append (kind c : Byte) (data more : List Byte) :
    goodData kind data.length (data ++ c :: more) =
      if c = checkByte (kind :: byte data.length :: data) then some data else none := by
  have htake : (data ++ c :: more).take (data.length + 1) = data ++ [c] := by
    rw [List.take_append, List.take_of_length_le (by omega)]; simp
  have hsum : responseSum kind data.length (data ++ [c]) = 0 ↔ c = checkByte (kind :: byte data.length :: data) :=
    byteSum_check_iff (kind :: byte data.length :: data) c
  rw [goodData, htake, List.take_left]
  simp only [hsum, List.length_append, List.length_cons]
  by_cases h : c = checkByte (kind :: byte data.length :: data)
  · rw [if_pos ⟨by omega, h⟩, if_pos h]
  · rw [if_neg (fun hh => h hh.2), if_neg h]

/-! ### STAT and INFO (08 R127, R128; 13 R184) -/

theorem word_ofBytes (hi lo : Byte) : word (ofBytes hi lo).toNat = [hi, lo] := by
  have h := hi.isLt
  have l := lo.isLt
  have hv : (ofBytes hi lo).toNat = hi.toNat * 256 + lo.toNat := by
    rw [ofBytes, BitVec.toNat_append, ← Nat.shiftLeft_add_eq_or_of_lt l, Nat.shiftLeft_eq]
  rw [word, hv]
  congr 1
  · apply BitVec.eq_of_toNat_eq
    rw [BitVec.toNat_ofNat]; omega
  · congr 1
    apply BitVec.eq_of_toNat_eq
    rw [BitVec.toNat_ofNat]; omega

/-- A received temperature is sent as the word it came in. -/
theorem optTemp_receivedTemp {w : Word} {t : Option Int} (h : receivedTemp w = some t) : optTemp t = word w.toNat := by
  rw [receivedTemp] at h
  split at h
  · next hw => cases h; rw [hw]; rfl
  split at h
  · cases h; rw [optTemp, tempField, BitVec.ofInt_toInt]
  · cases h

theorem receivedTemp_isSome_iff (w : Word) :
    (∃ t, receivedTemp w = some t) ↔ w = 0x7FFF ∨ -400 ≤ w.toInt ∧ w.toInt ≤ 850 := by
  rw [receivedTemp]
  split
  · next hw => simp [hw]
  split
  · next hw hr => simp [hr]
  · next hw hr => exact iff_of_false (by simp) (not_or.2 ⟨hw, hr⟩)

theorem code_compressorOf {n : Nat} {c : CompressorState} (h : compressorOf n = some c) : c.code = n := by
  unfold compressorOf at h
  split at h <;> cases h <;> rfl

theorem compressorOf_isSome_iff (n : Nat) : (∃ c, compressorOf n = some c) ↔ n ≤ 3 := by
  match n with
  | 0 | 1 | 2 | 3 => exact iff_of_true ⟨_, rfl⟩ (by decide)
  | n + 4 => exact iff_of_false (by simp [compressorOf]) (by omega)

theorem tripCodeByte_tripCodeOf {b : Byte} {k : Option TripKind} (h : tripCodeOf b.toNat = some k) :
    tripCodeByte k = b := by
  have hb : byte b.toNat = b := byte_toNat b
  unfold tripCodeOf at h
  split at h <;> cases h <;> simp_all [tripCodeByte, byte]

theorem tripCodeOf_isSome_iff (n : Nat) : (∃ k, tripCodeOf n = some k) ↔ n ≤ 5 := by
  match n with
  | 0 | 1 | 2 | 3 | 4 | 5 => exact iff_of_true ⟨_, rfl⟩ (by decide)
  | n + 6 => exact iff_of_false (by simp [tripCodeOf]) (by omega)

/-- The four flag bits a record keeps are the low half of the flags byte. -/
theorem packBits_low (fl : Byte) : byte (packBits [bitOf fl 0, bitOf fl 1, bitOf fl 2, bitOf fl 3]) = fl &&& 0x0F := by
  revert fl; decide

/-- The fields a STAT record is read from. -/
theorem statOf_eq_some_iff (bytes : List Byte) (r : StatRecord) : statOf bytes = some r ↔
    ∃ c sp a1 a0 o1 o0 d1 d0 fl tr : Byte, bytes = [c, sp, a1, a0, o1, o0, d1, d0, fl, tr] ∧
      compressorOf c.toNat = some r.compressor ∧ receivedTemp (ofBytes a1 a0) = some r.ambient ∧
      receivedTemp (ofBytes o1 o0) = some r.outdoorCoil ∧ receivedTemp (ofBytes d1 d0) = some r.discharge ∧
      tripCodeOf tr.toNat = some r.trip ∧ sp.toNat ≤ 100 ∧ r.speed = sp.toNat ∧ r.defrostReq = bitOf fl 0 ∧
      r.defrostActive = bitOf fl 1 ∧ r.holdoff = bitOf fl 2 ∧ r.standdownReady = bitOf fl 3 := by
  constructor
  · intro h
    unfold statOf at h
    split at h
    · next c sp a1 a0 o1 o0 d1 d0 fl tr =>
      split at h
      · next comp amb oc dis trip hcomp hamb hoc hdis htrip =>
        split at h
        · next hsp =>
          cases h
          exact ⟨c, sp, a1, a0, o1, o0, d1, d0, fl, tr, rfl, hcomp, hamb, hoc, hdis, htrip, hsp, rfl, rfl, rfl, rfl, rfl⟩
        · cases h
      · cases h
    · cases h
  · rintro ⟨c, sp, a1, a0, o1, o0, d1, d0, fl, tr, rfl, hcomp, hamb, hoc, hdis, htrip, hsp, hspeed, h0, h1, h2, h3⟩
    simp only [statOf, hcomp, hamb, hoc, hdis, htrip, ← h0, ← h1, ← h2, ← h3]
    rw [if_pos hsp, ← hspeed]

theorem statBytes_statOf {bytes : List Byte} {r : StatRecord} (h : statOf bytes = some r) :
    statBytes r = bytes.modify 8 (· &&& 0x0F) := by
  obtain ⟨c, sp, a1, a0, o1, o0, d1, d0, fl, tr, rfl, hcomp, hamb, hoc, hdis, htrip, -, hspeed, h0, h1, h2, h3⟩ :=
    (statOf_eq_some_iff _ _).1 h
  rw [statBytes, optTemp_receivedTemp hamb, optTemp_receivedTemp hoc, optTemp_receivedTemp hdis, word_ofBytes,
    word_ofBytes, word_ofBytes, tripCodeByte_tripCodeOf htrip, code_compressorOf hcomp, hspeed, byte_toNat, byte_toNat,
    statFlags, h0, h1, h2, h3, packBits_low]
  rfl

theorem statOf_isSome_iff (bytes : List Byte) : (∃ r, statOf bytes = some r) ↔
    ∃ c sp a1 a0 o1 o0 d1 d0 fl tr : Byte, bytes = [c, sp, a1, a0, o1, o0, d1, d0, fl, tr] ∧
      c.toNat ≤ 3 ∧ sp.toNat ≤ 100 ∧ tr.toNat ≤ 5 ∧
      ∀ t : Word, t = a1 ++ a0 ∨ t = o1 ++ o0 ∨ t = d1 ++ d0 → t = 0x7FFF ∨ -400 ≤ t.toInt ∧ t.toInt ≤ 850 := by
  constructor
  · rintro ⟨r, h⟩
    obtain ⟨c, sp, a1, a0, o1, o0, d1, d0, fl, tr, rfl, hcomp, hamb, hoc, hdis, htrip, hsp, -⟩ :=
      (statOf_eq_some_iff _ _).1 h
    refine ⟨c, sp, a1, a0, o1, o0, d1, d0, fl, tr, rfl, (compressorOf_isSome_iff _).1 ⟨_, hcomp⟩, hsp,
      (tripCodeOf_isSome_iff _).1 ⟨_, htrip⟩, ?_⟩
    rintro t (rfl | rfl | rfl)
    · exact (receivedTemp_isSome_iff _).1 ⟨_, hamb⟩
    · exact (receivedTemp_isSome_iff _).1 ⟨_, hoc⟩
    · exact (receivedTemp_isSome_iff _).1 ⟨_, hdis⟩
  · rintro ⟨c, sp, a1, a0, o1, o0, d1, d0, fl, tr, rfl, hc, hsp, htr, htemp⟩
    obtain ⟨comp, hcomp⟩ := (compressorOf_isSome_iff _).2 hc
    obtain ⟨trip, htrip⟩ := (tripCodeOf_isSome_iff _).2 htr
    obtain ⟨amb, hamb⟩ := (receivedTemp_isSome_iff _).2 (htemp _ (.inl rfl))
    obtain ⟨oc, hoc⟩ := (receivedTemp_isSome_iff _).2 (htemp _ (.inr (.inl rfl)))
    obtain ⟨dis, hdis⟩ := (receivedTemp_isSome_iff _).2 (htemp _ (.inr (.inr rfl)))
    exact ⟨⟨comp, sp.toNat, amb, oc, dis, bitOf fl 0, bitOf fl 1, bitOf fl 2, bitOf fl 3, trip⟩,
      (statOf_eq_some_iff _ _).2 ⟨c, sp, a1, a0, o1, o0, d1, d0, fl, tr, rfl, hcomp, hamb, hoc, hdis, htrip, hsp, rfl,
        rfl, rfl, rfl, rfl⟩⟩

theorem infoOf_eq (a b c : Byte) : infoOf [a, b, c] =
    if 1 ≤ a.toNat ∧ a.toNat ≤ 99 ∧ b.toNat ≤ 1 ∧ 1 ≤ c.toNat ∧ c.toNat ≤ 15 then
      some ⟨a.toNat, decide (b = 1), c.toNat⟩
    else none := by
  have hb : (b.toNat = 1) = (b = 1) := by rw [← BitVec.toNat_inj]; rfl
  simp only [infoOf, within, Bool.and_eq_true, decide_eq_true_eq, hb]
  congr 1
  apply propext
  tauto

/-- Settles O13, by the parity of the bits sent, the check byte that closes a response, and the fields each record is read
from. -/
theorem linkResponsesRoundTrip : Obligations.LinkResponsesRoundTrip := by
  unfold Obligations.LinkResponsesRoundTrip
  refine ⟨fun b k n samples => ⟨rfl, rfl, sentBits_data b k, count_sentBits_even b, ?_, ?_, byteFailure_none_iff_sent samples⟩,
    fun kind c data more _ => goodData_append kind c data more, fun _ _ h => statBytes_statOf h, statOf_isSome_iff, infoOf_eq⟩
  · rw [sentBits_eq]; rfl
  · rw [readBits_getElem?, lineBit, majority_eq]; rfl

end Sys2Proof.Machine
end

section
/-! The step of the machine (00, Conventions, Time) and the host line: frames heard, requests taken, refused and answered (12 R170 to
R173). -/

namespace Sys2Proof.Machine

/-! ### The step -/

/-- Settles O1: the front command is the first branch of a step. -/
theorem stepRunsFrontCommand : Obligations.StepRunsFrontCommand := by
  unfold Obligations.StepRunsFrontCommand
  intro c rest s h
  rw [step, h]

theorem tick_of_due {s : State} (h : dueEvents s ≠ []) : tick s = { s with pending := s.pending ++ dueEvents s } := by
  unfold tick
  split
  · next hd => exact absurd hd h
  · rfl

theorem tick_of_not_due {s : State} (h : dueEvents s = []) : tick s = passTime s := by rw [tick, h]

/-- The part drives the line while the frame it sends is not over. -/
theorem driven_eq_false_iff (k : Link) (now : Nat) :
    k.driven now = false ↔ ∀ f, k.frame = some f → f.sentBy ≤ now := by
  cases h : k.frame <;> simp [Link.driven, h]

/-- What a millisecond changes. -/
theorem passTime_eq (s : State) : passTime s =
    { s with
      now := s.now + 1, pending := s.pending ++ conversionsAt (s.now + 1)
      inp := { s.inp with windingOpen := Eight.ofFn fun d => Config.windingOpen (s.now + 1) d.val }
      link := { s.link with
        lowAt :=
          if Config.linkLow (s.now + 1) = true ∧ ∀ f, s.link.frame = some f → f.sentBy ≤ s.now + 1 then some (s.now + 1)
          else s.link.lowAt
        readBack := Config.readBack (s.now + 1) } } := by
  simp only [passTime, heardLow_eq, ← driven_eq_false_iff]
  cases Config.linkLow (s.now + 1) <;> cases s.link.driven (s.now + 1) <;> simp

/-- Settles O2, by the two branches of a step on an empty queue. -/
theorem emptyQueueLetsTimePass : Obligations.EmptyQueueLetsTimePass := by
  unfold Obligations.EmptyQueueLetsTimePass
  intro s hq
  have hstep : step s = .next (tick s) := by rw [step, hq]
  rw [hstep]
  constructor
  · intro h; rw [tick_of_due h, hq, List.nil_append]
  · intro h
    refine ⟨passTime s, by rw [tick_of_not_due h], ?_⟩
    rw [passTime_eq, hq]
    refine ⟨rfl, List.nil_append _, fun d => Eight.get_ofFn _ d, rfl, rfl, ?_⟩
    cases s
    cases hq
    rfl

/-! ### Reads (12 R173) -/

theorem accept_idle {s : State} (h : PortIdle s) (r : Request) (body : List Byte) :
    accept r body (toStage r .replying s) = answered s r .ok body := handReply_idle h r .ok body

theorem refuse_idle {s : State} (h : PortIdle s) (r : Request) (status : Status) :
    refuse r status (toStage r .replying s) = answered s r status [] := handReply_idle h r status []

theorem offer_getSystem {s : State} (h : PortIdle s) {page : Option Byte} {body : List Byte}
    (hp : systemPage s (page.getD 0).toNat = some body) :
    offer (.getSystem page) s = answered s (.getSystem page) .ok body := by
  have hp' : systemPage (toStage (.getSystem page) .replying s) (page.getD 0).toNat = some body := hp
  rw [offer_free h.1, perform, doGetSystem, hp']
  exact accept_idle h _ _

theorem offer_getPlan {s : State} (h : PortIdle s) {selector : Option Byte} {p : Option Plan}
    (hp : selectedPlan s (selector.getD 0).toNat = some p) : offer (.getPlan selector) s =
      answered s (.getPlan selector) .ok (planBody s (selector.getD 0).toNat p) := by
  have hp' : selectedPlan (toStage (.getPlan selector) .replying s) (selector.getD 0).toNat = some p := hp
  rw [offer_free h.1, perform, doGetPlan, hp']
  exact accept_idle h _ _

/-- Settles O17: a read of an idle port is answered at once. -/
theorem readsAnswered : Obligations.ReadsAnswered := by
  unfold Obligations.ReadsAnswered
  intro s h
  refine ⟨?_, fun page => ⟨?_, ?_, ?_⟩, fun z => ?_, fun selector => ⟨?_, ?_, ?_⟩, ?_⟩
  · exact congrArg Host.Outcome.next ((offer_free h.1 _).trans (accept_idle h .getInfo (infoBody s)))
  · intro hp; exact congrArg Host.Outcome.next (offer_getSystem h (by rw [hp]; rfl))
  · intro hp; exact congrArg Host.Outcome.next (offer_getSystem h (by rw [hp]; rfl))
  · intro hp; exact congrArg Host.Outcome.next (offer_getSystem h (by rw [hp]; rfl))
  · refine congrArg Host.Outcome.next ?_
    rw [offer_free h.1, perform, doGetZone, zoneOf_byte]
    exact accept_idle h _ _
  · intro hp
    have hn : (selector.getD 0).toNat = 0 := by rw [hp]; rfl
    rw [← hn]; exact congrArg Host.Outcome.next (offer_getPlan h (by rw [hn]; rfl))
  · intro hp
    have hn : (selector.getD 0).toNat = 1 := by rw [hp]; rfl
    rw [← hn]; exact congrArg Host.Outcome.next (offer_getPlan h (by rw [hn]; rfl))
  · intro hp
    have hn : (selector.getD 0).toNat = 2 := by rw [hp]; rfl
    rw [← hn]; exact congrArg Host.Outcome.next (offer_getPlan h (by rw [hn]; rfl))
  · exact congrArg Host.Outcome.next ((offer_free h.1 _).trans (accept_idle h .getQueue (queueBody s)))

/-! ### Requests that wait or are refused (12 R171, R173) -/

/-- The two marks a busy port puts an offered request under. -/
theorem offer_busy {s : State} (h : s.port.service ≠ none) (r : Request) : offer r s =
    { s with port :=
        if s.port.waiting = none then { s.port with waiting := some r } else { s.port with overrun := true } } := by
  unfold offer
  rw [if_neg (by simpa using h)]
  cases hw : s.port.waiting <;> simp

/-- A request command leaves a state that its request leaves calm as the request does, but for the times. -/
theorem exec_request_timeless {c : Instr} {r : Request} {s : State} (h : requestOfCommand c = some r)
    (hc : Calm (offer r s)) : ∃ t, exec c s = .next t ∧ t.timeless = (offer r s).timeless := by
  rcases exec_request s h with he | he
  · exact ⟨_, he, timeless_finish_calm hc⟩
  · exact ⟨_, he, rfl⟩

/-- Settles O15: a busy port only takes the request or its mark. -/
theorem requestsWaitOrAreDropped : Obligations.RequestsWaitOrAreDropped := by
  unfold Obligations.RequestsWaitOrAreDropped
  intro c r s hcalm hr hbusy
  have ho := offer_busy hbusy r
  have hc : Calm (offer r s) := by rw [ho]; exact hcalm
  rw [← ho]
  exact exec_request_timeless hr hc

theorem carriedByte_of_ne {b : Byte} (h : b ≠ 0xFE) : carriedByte b = some b.toNat := if_neg h

theorem requestOf_none {n : Nat} (h : 1 < n) : requestOf n = none := by
  match n, h with
  | n + 2, _ => rfl

theorem frostOf_none {n : Nat} (h : 1 < n) : frostOf n = none := by
  match n, h with
  | n + 2, _ => rfl

theorem policyOf_none {n : Nat} (h : 4 < n) : policyOf n = none := by
  match n, h with
  | n + 5, _ => rfl

theorem policyOf_heat {n : Nat} (h : policyOf n = some .heat) : n = 2 := by
  unfold policyOf at h
  split at h <;> first | rfl | cases h

/-- A value without a code refuses the whole SET_SYSTEM. -/
theorem systemValues_none {request policy frost : Byte}
    (h : (request ≠ 0xFE ∧ 1 < request.toNat) ∨ (policy ≠ 0xFE ∧ 4 < policy.toNat) ∨ (frost ≠ 0xFE ∧ 1 < frost.toNat)) :
    systemValues request policy frost = none := by
  unfold systemValues
  split
  · next r p f hr hp hf =>
    rcases h with ⟨hne, hlt⟩ | ⟨hne, hlt⟩ | ⟨hne, hlt⟩
    · simp [carriedByte_of_ne hne, requestOf_none hlt] at hr
    · simp [carriedByte_of_ne hne, policyOf_none hlt] at hp
    · simp [carriedByte_of_ne hne, frostOf_none hlt] at hf
  · rfl

/-- A check of Table 12.2 that fails decides what the request does. -/
theorem perform_refused {s : State} {c : Instr} {r : Request} {status : Status} (hr : requestOfCommand c = some r)
    (h : RefusedAs s c status) (t : State) (ht : t = toStage r .replying s) : perform r t = refuse r status t := by
  have hzcfg : t.zcfg = s.zcfg := by rw [ht]; rfl
  have hzst : t.zst = s.zst := by rw [ht]; rfl
  cases h with
  | kind k hk =>
    have hn : within k.toNat 1 15 = false := by
      rcases hk with rfl | hk
      · decide
      · simp [within, hk]
    have hr' : (if within k.toNat 1 15 then none else some (Request.unknownKind k)) = some r := hr
    rw [hn] at hr'
    cases hr'
    rfl
  | page p hp =>
    cases hr
    have hn : systemPage t p.toNat = none := by unfold systemPage; rw [if_neg, if_neg, if_neg] <;> omega
    simp only [perform, doGetSystem, Option.getD_some, hn]
  | selector p hp =>
    cases hr
    have hn : selectedPlan t p.toNat = none := by unfold selectedPlan; rw [if_neg, if_neg, if_neg] <;> omega
    simp only [perform, doGetPlan, Option.getD_some, hn]
  | getZone z hz => cases hr; simp only [perform, doGetZone, zoneOf_none hz]
  | setZone z c h d p hz => cases hr; simp only [perform, doSetZone, zoneOf_none hz]
  | configureZone z da ra rank a hz => cases hr; simp only [perform, doConfigure, zoneOf_none hz]
  | unconfigureZone z hz => cases hr; simp only [perform, doUnconfigure, zoneOf_none hz]
  | clearFault z hz => cases hr; simp only [perform, doClearZoneFault, zoneOf_none hz]
  | configureValue z da ra rank a hz hbad =>
    cases hr
    have hnone : zoneConfigOf da ra rank a = none := by
      rw [zoneConfigOf, if_neg]
      simp only [within, Bool.and_eq_true, decide_eq_true_eq]
      rcases hbad with h | h | h | rfl | h | h
      · omega
      · omega
      · omega
      · simp
      · omega
      · omega
    simp only [perform, doConfigure, show zoneOf z = some ⟨z.toNat, hz⟩ from dif_pos hz, hnone]
  | configureAddress z da ra rank a other hz h1 h2 h3 h4 h5 h6 h7 hne hconf haddr =>
    cases hr
    have hr1 : 1 ≤ rank.toNat := by
      have : rank.toNat ≠ 0 := fun h => h4 (BitVec.eq_of_toNat_eq h)
      omega
    have hsome : zoneConfigOf da ra rank a = some ⟨da.toNat, ra.toNat, rank.toNat, some a.toNat⟩ := by
      rw [zoneConfigOf, if_pos (by simp [within, *]), addressOf, if_neg h6]
    have htaken : addressTaken t ⟨z.toNat, hz⟩ (some a.toNat) = true := by
      simp only [addressTaken, Option.isSome_some, Bool.true_and, List.any_eq_true, Bool.and_eq_true,
        decide_eq_true_eq]
      refine ⟨other, mem_allZones other, ⟨fun e => hne (congrArg Fin.val e), ?_⟩, by rw [hzcfg, haddr]⟩
      simpa [configured, stateOf, hzst] using hconf
    simp only [perform, doConfigure, show zoneOf z = some ⟨z.toNat, hz⟩ from dif_pos hz, hsome, htaken, ↓reduceIte]
  | notSupported request frost hcap =>
    cases hr
    have hcap' : t.eval.hpCapable = false := by rw [ht]; exact hcap
    have hheat : (carriedByte 2).bind policyOf = some .heat := by decide
    simp only [perform, doSetSystem, hheat, hcap', and_self, ↓reduceIte]
  | systemValue request policy frost hp hbad =>
    cases hr
    have hn : (carriedByte policy).bind policyOf ≠ some .heat := by
      intro hh
      unfold carriedByte at hh
      split at hh
      · cases hh
      · exact hp (BitVec.eq_of_toNat_eq (policyOf_heat hh))
    rw [perform, doSetSystem, if_neg (fun hh => hn hh.1), systemValues_none hbad]
  | mask m hm => cases hr; rw [perform, doSetReports, if_neg (by omega)]
  | diagValue direction kind length data hbad =>
    cases hr
    have hn : diagInRange direction kind length = false := by
      simp only [diagInRange, within, Bool.and_eq_false_iff, decide_eq_false_iff_not]
      omega
    simp [perform, doOutdoorDiag, hn]
  | diagBusy direction kind length data h1 h2 h3 h4 hlen hd =>
    cases hr
    have hn : diagInRange direction kind length = true := by
      simp only [diagInRange, within, Bool.and_eq_true, decide_eq_true_eq]
      exact ⟨⟨h1, h2, h3⟩, h4⟩
    have hd' : t.link.diag.isSome = true := by rw [ht]; exact Option.isSome_iff_ne_none.2 hd
    simp [perform, doOutdoorDiag, hn, hlen, hd']
  | diagLength direction kind length data h1 h2 h3 h4 hlen =>
    cases hr
    have hn : diagInRange direction kind length = true := by
      simp only [diagInRange, within, Bool.and_eq_true, decide_eq_true_eq]
      exact ⟨⟨h1, h2, h3⟩, h4⟩
    simp [perform, doOutdoorDiag, hn, hlen]
  | configSystem f table hnone =>
    cases hr
    have hnone' : configSystemResult t.cfg f table = none := by rw [ht]; exact hnone
    simp only [perform, doConfigSystem, hnone']

/-- Settles O16, by the check that fails for each refusal. -/
theorem refusedRequestsAnswered : Obligations.RefusedRequestsAnswered := by
  unfold Obligations.RefusedRequestsAnswered
  intro c r status s hcalm hidle hr href
  have ho : offer r s = answered s r status [] := by
    rw [offer_free hidle.1, perform_refused hr href _ rfl, refuse_idle hidle]
  have hc : Calm (offer r s) := by rw [ho]; exact hcalm
  rw [← ho]
  exact exec_request_timeless hr hc

end Sys2Proof.Machine
end

section
/-! Bytes on the host line and the frames they make (12 R170), and frames that act as the rows of their requests (12 R171, R173). -/

namespace Sys2Proof.Machine

/-! ### A frame heard byte by byte -/

/-- Bytes on the line without gaps, each with a good stop bit. -/
def onLine (l : List Byte) : List HostByte := l.map fun b => ⟨b, 0, true⟩

/-- What the bytes after SYNC of a whole frame are heard as. -/
def heardAs (f : List Byte) : Heard :=
  match receiveFrame f with
  | some (kind, payload) => .frame kind payload
  | none => .badSum

/-- A receiver that has heard these bytes of a frame, SYNC first, and no more. -/
def Receiver.Heeds (r : Receiver) : List Byte → Prop
  | [] => r = .hunting
  | _ :: got => ∃ last, r = .collecting got last

/-- The bytes of a frame with a LENGTH in its range (12 R170). -/
def FrameBytes (f : List Byte) : Prop :=
  ∃ (len : Byte) (rest : List Byte), f = 0xA5 :: len :: rest ∧ 1 ≤ len.toNat ∧ len.toNat ≤ 64 ∧ rest.length = len.toNat + 1

theorem within_length {len : Byte} (h1 : 1 ≤ len.toNat) (h2 : len.toNat ≤ 64) : within len.toNat 1 64 = true := by
  simp [within, h1, h2]

/-- A byte that does not end its frame is kept. -/
theorem Receiver.byte_heeds {f before after : List Byte} {x : Byte} {r : Receiver} (hf : FrameBytes f)
    (h : f = before ++ x :: after) (ha : after ≠ []) (hr : r.Heeds before) (now : Nat) :
    (r.byte now ⟨x, 0, true⟩).2 = .nothing ∧ (r.byte now ⟨x, 0, true⟩).1.Heeds (before ++ [x]) := by
  obtain ⟨len, rest, rfl, h1, h2, hlen⟩ := hf
  match before, h with
  | [], h =>
    obtain rfl : r = .hunting := hr
    obtain rfl : (0xA5 : Byte) = x := (List.cons.inj h).1
    exact ⟨rfl, now, rfl⟩
  | [_], h =>
    obtain ⟨last, rfl⟩ := hr
    obtain ⟨-, h'⟩ := List.cons.inj h
    obtain rfl : len = x := (List.cons.inj h').1
    have hw : Receiver.byte now (.collecting [] last) ⟨len, 0, true⟩ = (.collecting [len] now, .nothing) := by
      simp [Receiver.byte, collectByte, within_length h1 h2]
    rw [hw]
    exact ⟨rfl, now, rfl⟩
  | _ :: len' :: got, h =>
    obtain ⟨last, rfl⟩ := hr
    obtain ⟨-, h'⟩ := List.cons.inj h
    obtain ⟨rfl, hrest⟩ := List.cons.inj h'
    replace hrest : rest = got ++ x :: after := hrest
    have hshort : (len :: got).length < len.toNat + 1 := by
      have := congrArg List.length hrest
      have hpos := List.length_pos_iff.2 ha
      simp only [List.length_append, List.length_cons] at this ⊢
      omega
    have hw : Receiver.byte now (.collecting (len :: got) last) ⟨x, 0, true⟩ =
        (.collecting (len :: got ++ [x]) now, .nothing) := by
      simp only [Receiver.byte, collectByte]
      rw [if_neg (by decide), if_pos trivial, if_pos hshort]
    rw [hw]
    exact ⟨rfl, now, rfl⟩

/-- The last byte of a frame completes it. -/
theorem Receiver.byte_last {f before : List Byte} {x : Byte} {r : Receiver} (hf : FrameBytes f)
    (h : f = before ++ [x]) (hr : r.Heeds before) (now : Nat) :
    r.byte now ⟨x, 0, true⟩ = (.hunting, heardAs f.tail) := by
  obtain ⟨len, rest, rfl, h1, h2, hlen⟩ := hf
  match before, h with
  | [], h => exact absurd (congrArg List.length h) (by simp)
  | [_], h =>
    have := congrArg List.length h
    simp only [List.length_append, List.length_cons, List.length_nil] at this
    omega
  | _ :: len' :: got, h =>
    obtain ⟨last, rfl⟩ := hr
    obtain ⟨-, h'⟩ := List.cons.inj h
    obtain ⟨rfl, hrest⟩ := List.cons.inj h'
    replace hrest : rest = got ++ [x] := hrest
    have hfull : ¬ (len :: got).length < len.toNat + 1 := by
      have := congrArg List.length hrest
      simp only [List.length_append, List.length_cons, List.length_nil] at this ⊢
      omega
    simp only [Receiver.byte, collectByte]
    rw [if_neg (by decide), if_pos trivial, if_neg hfull, List.tail_cons, heardAs, hrest, List.cons_append]
    cases receiveFrame (len :: (got ++ [x])) <;> rfl

/-- Bytes of a frame that do not end it leave the receiver inside it. -/
theorem Receiver.run_heeds {f : List Byte} (hf : FrameBytes f) (now : Nat) (l : List Byte) :
    ∀ (r : Receiver) (before after : List Byte), f = before ++ l ++ after → after ≠ [] → r.Heeds before →
      (r.run now (onLine l)).2 = [] ∧ (r.run now (onLine l)).1.Heeds (before ++ l) := by
  induction l with
  | nil => intro r before after _ _ hr; exact ⟨rfl, by simpa [onLine, Receiver.run] using hr⟩
  | cons x l ih =>
    intro r before after h ha hr
    have h' : f = before ++ x :: (l ++ after) := by rw [h]; simp
    obtain ⟨h2, h1⟩ := Receiver.byte_heeds hf h' (by simp [ha]) hr now
    obtain ⟨i2, i1⟩ := ih (r.byte now ⟨x, 0, true⟩).1 (before ++ [x]) after (by rw [h]; simp) ha h1
    constructor
    · simpa [onLine, Receiver.run, h2] using i2
    · simpa [onLine, Receiver.run] using i1

/-- The bytes that end a frame give it, and the receiver hunts again. -/
theorem Receiver.run_ends {f : List Byte} (hf : FrameBytes f) (now : Nat) {r : Receiver} {before l : List Byte}
    (h : f = before ++ l) (hl : l ≠ []) (hr : r.Heeds before) :
    r.run now (onLine l) = (.hunting, [heardAs f.tail]) := by
  obtain ⟨l', x, rfl⟩ : ∃ l' x, l = l' ++ [x] := ⟨l.dropLast, l.getLast hl, (List.dropLast_append_getLast hl).symm⟩
  obtain ⟨h2, h1⟩ := Receiver.run_heeds hf now l' r before [x] (by simp [h]) (by simp) hr
  have hlast := Receiver.byte_last (x := x) hf (by simp [h]) h1 now
  have hsome : heardAs f.tail ≠ .nothing := by
    unfold heardAs; split <;> simp
  rw [onLine, List.map_append, ← onLine, Receiver.run_append, h2]
  simp [Receiver.run, hlast, hsome]

/-- A frame taken in two parts is heard once. -/
theorem Receiver.run_two {f : List Byte} (hf : FrameBytes f) {a b : List HostByte} (h : a ++ b = onLine f) (now later : Nat) :
    ((Receiver.hunting.run now a).1.run later b).1 = .hunting ∧
      (Receiver.hunting.run now a).2 ++ ((Receiver.hunting.run now a).1.run later b).2 = [heardAs f.tail] := by
  obtain ⟨l, m, rfl, rfl, rfl⟩ : ∃ l m, f = l ++ m ∧ onLine l = a ∧ onLine m = b := List.map_eq_append_iff.1 h.symm
  by_cases hm : m = []
  · subst hm
    have hne : l ++ [] ≠ [] := by obtain ⟨len, rest, he, -⟩ := hf; rw [he]; simp
    have hl := Receiver.run_ends hf now (r := .hunting) (before := []) (by simp) (by simpa using hne) rfl (l := l)
    rw [hl]; exact ⟨rfl, rfl⟩
  · obtain ⟨h2, h1⟩ := Receiver.run_heeds hf now l .hunting [] m rfl hm rfl
    have hr := Receiver.run_ends hf later rfl hm h1
    rw [hr, h2]; exact ⟨rfl, rfl⟩

theorem frameBytes_hostFrame (kind : Byte) {payload : List Byte} (h : payload.length ≤ 63) :
    FrameBytes (hostFrame kind payload) := by
  have hn : (byte (payload.length + 1)).toNat = payload.length + 1 := toNat_byte (by omega)
  refine ⟨byte (payload.length + 1), kind :: payload ++ [checkByte (byte (payload.length + 1) :: kind :: payload)], rfl,
    by omega, by omega, ?_⟩
  rw [hn]; simp

theorem heardAs_hostFrame (kind : Byte) {payload : List Byte} (h : payload.length ≤ 63) :
    heardAs (hostFrame kind payload).tail = .frame kind payload := by
  rw [heardAs, (receiveFrame_iff _ kind payload).2 ⟨h, rfl⟩]

/-! ### Bytes that make no request -/

/-- Bytes that hold no frame with a good sum move only the receiver. -/
theorem execHostFrameReceived_quiet {s : State} {bytes : List HostByte} {r : Receiver} {heard : List Heard}
    (h : s.port.receiver.run s.now bytes = (r, heard)) (hq : ∀ x ∈ heard, x = .badSum ∨ x = .abandoned) :
    exec (.hostFrameReceived bytes) s = .next (putReceiver r s) := by
  have hnil : (heard.filter fun h => decide (h ≠ .badSum) && decide (h ≠ .abandoned)) = [] := by
    rw [List.filter_eq_nil_iff]
    intro x hx
    rcases hq x hx with rfl | rfl <;> decide
  show Host.Outcome.next _ = _
  rw [h]
  dsimp only
  rw [hnil, if_pos rfl]

theorem putReceiver_same {s : State} {r : Receiver} (h : s.port.receiver = r) : putReceiver r s = s := by
  subst h; rfl

/-- Bytes to be discarded leave a hunting receiver to the bytes after them. -/
theorem Receiver.run_after_junk (now : Nat) {junk : List HostByte} (h : ∀ b ∈ junk, b.value ≠ 0xA5 ∨ b.stop = false)
    (l : List HostByte) : Receiver.hunting.run now (junk ++ l) = Receiver.hunting.run now l := by
  rw [Receiver.run_append, Receiver.run_junk now junk h, List.nil_append]

theorem heardAs_bad {len : Byte} {rest : List Byte} (h : byteSum (len :: rest) ≠ 0) : heardAs (len :: rest) = .badSum := by
  have hn : receiveFrame (len :: rest) = none := by
    unfold receiveFrame
    split
    · next hl => cases hl; rw [if_neg (fun hh => h hh.2.2.2)]
    · rfl
  rw [heardAs, hn]

/-! ### Frames that act as their requests -/

/-- A state in which a request has reached the port, the store and the diagnostic slot alone. -/
def PortReached (s t : State) : Prop :=
  ∃ port store diag, t = { s with port := port, store := store, link := { s.link with diag := diag } }

theorem PortReached.calm {s t : State} (h : PortReached s t) (hc : Calm s) : Calm t := by
  obtain ⟨port, store, diag, rfl⟩ := h; exact hc

theorem doGetSystem_reached (page : Option Byte) (s : State) : PortReached s (doGetSystem page s) := by
  unfold doGetSystem; split <;> exact ⟨_, _, _, rfl⟩

theorem doGetZone_reached (zone : Byte) (s : State) : PortReached s (doGetZone zone s) := by
  unfold doGetZone; split <;> exact ⟨_, _, _, rfl⟩

theorem doGetPlan_reached (selector : Option Byte) (s : State) : PortReached s (doGetPlan selector s) := by
  unfold doGetPlan; split <;> exact ⟨_, _, _, rfl⟩

theorem doSaveConfig_reached (s : State) : PortReached s (doSaveConfig s) := by
  unfold doSaveConfig; split <;> exact ⟨_, _, _, rfl⟩

theorem doSetReports_reached (mask : Word) (s : State) : PortReached s (doSetReports mask s) := by
  unfold doSetReports; split <;> exact ⟨_, _, _, rfl⟩

theorem doOutdoorDiag_reached (direction kind length : Byte) (data : List Byte) (s : State) :
    PortReached s (doOutdoorDiag direction kind length data s) := by
  unfold doOutdoorDiag
  dsimp only
  split
  · exact ⟨_, _, _, rfl⟩
  split
  · exact ⟨_, _, _, rfl⟩
  split <;> exact ⟨_, _, _, rfl⟩

theorem doRestart_reached (s : State) : PortReached s (doRestart s) := by
  unfold doRestart; split <;> exact ⟨_, _, _, rfl⟩

/-- An offered request reaches the port alone where its action does. -/
theorem offer_reached {r : Request} {s : State} (h : ∀ t, PortReached t (perform r t)) : PortReached s (offer r s) := by
  by_cases hs : s.port.service = none
  · obtain ⟨port, store, diag, he⟩ := h (toStage r .replying s)
    rw [offer_free hs]
    exact ⟨port, store, diag, he⟩
  · rw [offer_busy hs]; exact ⟨_, _, _, rfl⟩

/-- A request command ends as a command that changes the blocks does, or its request reaches the port alone. -/
theorem exec_offer {c : Instr} {r : Request} (s : State) (h : requestOfCommand c = some r) :
    exec c s = .next (finish (offer r s)) ∨ exec c s = .next (offer r s) ∧ PortReached s (offer r s) := by
  cases c
  case unknownKind k =>
    right
    have hr : (if within k.toNat 1 15 then none else some (Request.unknownKind k)) = some r := h
    split at hr
    · cases hr
    · next hn =>
      cases hr
      exact ⟨congrArg Host.Outcome.next (if_neg hn), offer_reached fun t => ⟨_, _, _, rfl⟩⟩
  case getInfo => cases h; exact .inr ⟨rfl, offer_reached fun t => ⟨_, _, _, rfl⟩⟩
  case getSystem page => cases h; exact .inr ⟨rfl, offer_reached (doGetSystem_reached page)⟩
  case getZone zone => cases h; exact .inr ⟨rfl, offer_reached (doGetZone_reached zone)⟩
  case getPlan selector => cases h; exact .inr ⟨rfl, offer_reached (doGetPlan_reached selector)⟩
  case getQueue => cases h; exact .inr ⟨rfl, offer_reached fun t => ⟨_, _, _, rfl⟩⟩
  case saveConfig => cases h; exact .inr ⟨rfl, offer_reached doSaveConfig_reached⟩
  case setReports mask => cases h; exact .inr ⟨rfl, offer_reached (doSetReports_reached mask)⟩
  case outdoorDiag direction kind length data =>
    cases h; exact .inr ⟨rfl, offer_reached (doOutdoorDiag_reached direction kind length data)⟩
  case restart => cases h; exact .inr ⟨rfl, offer_reached doRestart_reached⟩
  all_goals first
    | exact Option.noConfusion rfl (heq_of_eq h)
    | (cases h; exact .inl rfl)

/-- In a calm state a request command does what its request does at the end of a command, but for the times. -/
theorem exec_request_finish {c : Instr} {r : Request} {s : State} (hc : Calm s) (h : requestOfCommand c = some r) :
    ∃ u, exec c s = .next u ∧ (finish (offer r s)).timeless = u.timeless := by
  rcases exec_offer s h with he | ⟨he, hreach⟩
  · exact ⟨_, he, rfl⟩
  · exact ⟨_, he, timeless_finish_calm (hreach.calm hc)⟩

/-- Bytes that end in a whole frame offer its request. -/
theorem execHostFrameReceived_frame {s : State} {before : List HostByte} {kind : Byte} {payload : List Byte}
    (hr : s.port.receiver = .hunting) (hj : ∀ b ∈ before, b.value ≠ 0xA5 ∨ b.stop = false) (hp : payload.length ≤ 63) :
    exec (.hostFrameReceived (before ++ onLine (hostFrame kind payload))) s =
      .next (finish (offer (parseRequest kind payload) s)) := by
  have hrun : s.port.receiver.run s.now (before ++ onLine (hostFrame kind payload)) = (.hunting, [.frame kind payload]) := by
    rw [hr, Receiver.run_after_junk s.now hj,
      Receiver.run_ends (frameBytes_hostFrame kind hp) s.now (before := []) (l := hostFrame kind payload) rfl (by simp [hostFrame]) rfl,
      heardAs_hostFrame kind hp]
  show Host.Outcome.next _ = _
  rw [hrun]
  dsimp only
  rw [List.filter_cons_of_pos (by simp), List.filter_nil, if_neg (by simp), List.foldl_cons, List.foldl_nil,
    putReceiver_same hr]
  rfl

/-- The payload of a request the lines can carry fits a frame. -/
theorem payload_length {c : Instr} {r : Request} (hw : wellFormed c = true) (h : requestOfCommand c = some r) :
    r.payload.length ≤ 63 := by
  cases c
  case unknownKind k =>
    have hr : (if within k.toNat 1 15 then none else some (Request.unknownKind k)) = some r := h
    split at hr
    · cases hr
    · cases hr; exact Nat.zero_le _
  case configSystem f table =>
    cases h
    have hlen := points_length (table.getD [])
    have ht : (table.getD []).length ≤ 6 := by
      cases table with
      | none => exact Nat.zero_le _
      | some t => exact Nat.le_of_eq (of_decide_eq_true hw)
    simp only [Request.payload, List.length_append, hlen]
    simp only [word, List.length_cons, List.length_nil]
    omega
  case outdoorDiag direction kind length data =>
    cases h
    have hd : data.length ≤ 60 := of_decide_eq_true hw
    simp only [Request.payload, List.length_append, List.length_cons, List.length_nil]
    omega
  case getSystem page => cases h; cases page <;> simp [Request.payload]
  case getPlan selector => cases h; cases selector <;> simp [Request.payload]
  all_goals first
    | exact Option.noConfusion rfl (heq_of_eq h)
    | (cases h; simp [Request.payload, word])

/-- Settles O14, by the receiver heeding a frame byte by byte and the request that a whole frame offers. -/
theorem hostFramesActAsTheirRows : Obligations.HostFramesActAsTheirRows := by
  unfold Obligations.HostFramesActAsTheirRows
  refine ⟨?_, ?_, fun s => rfl, ?_, ?_⟩
  · intro now later a b kind payload hp hab
    have h := Receiver.run_two (frameBytes_hostFrame kind hp) hab now later
    rwa [heardAs_hostFrame kind hp] at h
  · intro s before hj hr
    refine ⟨?_, ?_, ?_, ?_⟩
    · have hrun := Receiver.run_junk s.now before hj
      rw [← hr] at hrun
      exact execHostFrameReceived_quiet hrun (by simp)
    · have hrun : s.port.receiver.run s.now (before ++ onLine [0xA5]) = (.collecting [] s.now, []) := by
        rw [hr, Receiver.run_after_junk s.now hj]; rfl
      exact execHostFrameReceived_quiet hrun (by simp)
    · intro len hlen
      have hw : within len.toNat 1 64 = false := by
        rcases hlen with rfl | hlen
        · rfl
        · simp [within, hlen]
      have hrun : s.port.receiver.run s.now (before ++ onLine [0xA5, len]) = (.hunting, [.abandoned]) := by
        rw [hr, Receiver.run_after_junk s.now hj]
        simp [onLine, Receiver.run, Receiver.byte, huntByte, collectByte, hw]
      exact (execHostFrameReceived_quiet hrun (by simp)).trans (congrArg _ (putReceiver_same hr))
    · intro len rest h1 h2 hlen hsum
      have hf : FrameBytes (0xA5 :: len :: rest) := ⟨len, rest, rfl, h1, h2, hlen⟩
      have hrun : s.port.receiver.run s.now (before ++ onLine (0xA5 :: len :: rest)) = (.hunting, [.badSum]) := by
        rw [hr, Receiver.run_after_junk s.now hj,
          Receiver.run_ends hf s.now (before := []) (l := 0xA5 :: len :: rest) rfl (by simp) rfl, List.tail_cons,
          heardAs_bad hsum]
      exact (execHostFrameReceived_quiet hrun (by simp)).trans (congrArg _ (putReceiver_same hr))
  · intro s got last x hr
    refine ⟨fun hstop hgap => ?_, fun hgap => ?_, fun hlate => ?_⟩
    · have hrun : s.port.receiver.run s.now [x] = (.hunting, [.abandoned]) := by
        simp [hr, Receiver.run, Receiver.byte, hstop, Nat.not_lt.2 hgap]
      exact execHostFrameReceived_quiet hrun (by simp)
    · have hrun : s.port.receiver.run s.now [x] = (huntByte s.now x, [.abandoned]) := by
        simp [hr, Receiver.run, Receiver.byte, hgap]
      rw [execHostFrameReceived_quiet hrun (by simp), putReceiver, huntByte]
      simp only [Bool.and_eq_true, decide_eq_true_eq]
    · show Host.Outcome.next (if s.port.receiver.gapOver s.now then putReceiver .hunting s else s) = _
      rw [if_pos (by simp [hr, Receiver.gapOver, hlate])]
      rfl
  · intro s before hc hr hj
    constructor
    · intro c r hw h
      obtain ⟨u, hu, ht⟩ := exec_request_finish hc h
      have hframe := execHostFrameReceived_frame (kind := r.kind) hr hj (payload_length hw h)
      rw [parseRequest_payload hw h] at hframe
      exact ⟨_, u, hframe, hu, ht⟩
    · intro kind payload hidle h1 h2 hp hbad
      have hframe := execHostFrameReceived_frame (kind := kind) hr hj hp
      rw [parseRequest_known h1 h2, hbad, Option.getD_none] at hframe
      have ho : offer (.badLength kind) s = answered s (.badLength kind) .badLength [] :=
        (offer_free hidle.1 _).trans (refuse_idle hidle _ _)
      have hcalm : Calm (offer (.badLength kind) s) := by rw [ho]; exact hc
      refine ⟨_, hframe, ?_⟩
      rw [timeless_finish_calm hcalm, ho]

end Sys2Proof.Machine
end

section
/-! Fields of the read replies at their offsets (13 R180 to R183, Tables 13.3 to 13.6). -/

namespace Sys2Proof.Machine

/-! ### Bytes at an offset -/

/-- Bytes after a first part stand at their offset counted from its end. -/
theorem Carries.right {base : Nat} {a b : List Byte} {off : Nat} {bytes : List Byte}
    (h : Carries (base + a.length) b off bytes) : Carries base (a ++ b) off bytes := by
  obtain ⟨hle, hb⟩ := h
  refine ⟨by omega, ?_⟩
  have hsub : off - base = a.length + (off - (base + a.length)) := by omega
  rw [hsub, List.drop_append, List.drop_of_length_le (Nat.le_add_right _ _), Nat.add_sub_cancel_left, List.nil_append, hb]

/-- Bytes within a first part stand at their offset whatever follows. -/
theorem Carries.left {base : Nat} {a : List Byte} {off : Nat} {bytes : List Byte} (h : Carries base a off bytes)
    (b : List Byte) : Carries base (a ++ b) off bytes := by
  obtain ⟨hle, hb⟩ := h
  refine ⟨hle, ?_⟩
  by_cases hnil : bytes = []
  · simp [hnil]
  have hlen : bytes.length ≤ (a.drop (off - base)).length := by
    have := congrArg List.length hb
    rw [List.length_take] at this
    omega
  have hpos : 0 < bytes.length := List.length_pos_iff.2 hnil
  have hin : off - base ≤ a.length := by rw [List.length_drop] at hlen; omega
  rw [List.drop_append_of_le_length hin, List.take_append_of_le_length hlen, hb]

/-- The parts of a field stand one after the other. -/
theorem Carries.split {base : Nat} {body : List Byte} {off : Nat} {a b : List Byte}
    (h : Carries base body off (a ++ b)) : Carries base body off a ∧ Carries base body (off + a.length) b := by
  obtain ⟨hle, hb⟩ := h
  rw [List.length_append] at hb
  refine ⟨⟨hle, ?_⟩, by omega, ?_⟩
  · have := congrArg (List.take a.length) hb
    rwa [List.take_take, Nat.min_eq_left (by omega), List.take_left] at this
  · have := congrArg (List.drop a.length) hb
    rw [List.drop_take, List.drop_drop, List.drop_left, Nat.add_sub_cancel_left] at this
    rwa [show off + a.length - base = off - base + a.length by omega]

/-- A field that begins a body stands at the body's offset. -/
theorem Carries.first (base : Nat) (bytes rest : List Byte) : Carries base (bytes ++ rest) base bytes :=
  ⟨Nat.le_refl _, by rw [Nat.sub_self, List.drop_zero, List.take_left]⟩

/-- In a body of blocks of one length, block n stands n lengths from the start. -/
theorem Carries.block {α : Type} (base k : Nat) (f : α → List Byte) (hf : ∀ x, (f x).length = k) (l : List α) :
    ∀ (n : Nat) (x : α), l[n]? = some x → Carries base (l.map f).flatten (base + k * n) (f x) := by
  induction l generalizing base with
  | nil => intro n x h; simp at h
  | cons y l ih =>
    intro n x h
    rw [List.map_cons, List.flatten_cons]
    match n with
    | 0 =>
      obtain rfl : y = x := by simpa using h
      exact Carries.first base _ _
    | n + 1 =>
      apply Carries.right
      have hoff : base + k * (n + 1) = base + (f y).length + k * n := by rw [hf]; ring
      rw [hoff]
      exact ih _ n x (by simpa using h)

theorem flatten_blocks_length {α : Type} (k : Nat) (f : α → List Byte) (hf : ∀ x, (f x).length = k) (l : List α) :
    (l.map f).flatten.length = k * l.length := by
  induction l with
  | nil => simp
  | cons y l ih => rw [List.map_cons, List.flatten_cons, List.length_append, ih, hf, List.length_cons]; ring

theorem Eight.toList_getElem? {α : Type} (e : Eight α) (z : ZoneId) : e.toList[z.val]? = some (e.get z) := by
  fin_cases z <;> rfl

/-- In a body made of fields, each stands after those before it. -/
theorem Carries.field {base : Nat} {fields : List (List Byte)} {off : Nat} {bytes : List Byte} (n : Nat)
    (h : fields[n]? = some bytes) (hoff : off = base + ((fields.take n).map List.length).sum) :
    Carries base fields.flatten off bytes := by
  subst hoff
  induction fields generalizing base n with
  | nil => simp at h
  | cons f fields ih =>
    rw [List.flatten_cons]
    match n with
    | 0 =>
      obtain rfl : f = bytes := by simpa using h
      exact Carries.first base _ _
    | n + 1 =>
      apply Carries.right
      rw [List.take_succ_cons, List.map_cons, List.sum_cons, ← Nat.add_assoc]
      exact ih n (by simpa using h)

/-! ### Lengths of fields -/

@[simp] theorem word_length (n : Nat) : (word n).length = 2 := rfl
@[simp] theorem tempField_length (t : Int) : (tempField t).length = 2 := rfl
@[simp] theorem optTemp_length (t : Option Int) : (optTemp t).length = 2 := by cases t <;> rfl
@[simp] theorem optRh_length (r : Option Nat) : (optRh r).length = 2 := by cases r <;> rfl
@[simp] theorem optWord_length (n : Option Nat) : (optWord n).length = 2 := by cases n <;> rfl
@[simp] theorem optAge_length (now : Nat) (t : Option Nat) : (optAge now t).length = 2 := by cases t <;> rfl
@[simp] theorem optLeft_length (now ms : Nat) (t : Option Nat) : (optLeft now ms t).length = 2 := by cases t <;> rfl

/-! ### GET_INFO, GET_ZONE and GET_PLAN -/

theorem infoBody_layout (s : State) :
    (infoBody s).length = 9 ∧ Carries 2 (infoBody s) 2 [0x5A, 0x08] ∧ Carries 2 (infoBody s) 4 [1] ∧
      Carries 2 (infoBody s) 5
        [byte s.op.restartCause.code, flagByte s.store.defaulted, flagByte s.link.info.isSome] ∧
      (∀ i, s.link.info = some i →
        Carries 2 (infoBody s) 8 [byte i.capacityClass, flagByte i.heatPump, byte i.level]) ∧
      (s.link.info = none → Carries 2 (infoBody s) 8 [0, 0, 0]) := by
  unfold infoBody
  cases s.link.info with
  | none => exact ⟨rfl, ⟨by decide, rfl⟩, ⟨by decide, rfl⟩, ⟨by decide, rfl⟩, nofun, fun _ => ⟨by decide, rfl⟩⟩
  | some i =>
    refine ⟨rfl, ⟨by decide, rfl⟩, ⟨by decide, rfl⟩, ⟨by decide, rfl⟩, fun j hj => ?_, nofun⟩
    cases hj
    exact ⟨by decide, rfl⟩

/-- The fields of Table 13.3. -/
def zoneFields (s : State) (z : ZoneId) : List (List Byte) :=
  let st := s.zst.get z
  let c := s.zcfg.get z
  let p := s.setp.get z
  let r := sensorOf s z
  let w := s.work.get z
  let d := damperOf s z
  [[byte z.val, byte st.state.code], [zoneMarks st.unconf p.park w.suspended w.withdrawn], word c.da, word c.ra,
    [byte c.rank, byte (c.address.getD 0)], tempField p.cool, tempField p.heat, optRh p.dry, [byte r.state.code],
    optTemp r.temp, optRh r.rh, optTemp r.eff, [byte w.call.code, byte w.d, byte w.i, byte w.l], optAge s.now w.waiting,
    [byte (positionCode d.position), byte d.motion.code, byte d.followOn.code, byte d.stalls]]

theorem zoneBody_eq (s : State) (z : ZoneId) : zoneBody s z = (zoneFields s z).flatten := by
  simp [zoneBody, zoneFields]

theorem zoneBody_layout (s : State) (z : ZoneId) :
    let zone := Carries 2 (zoneBody s z)
    let st := s.zst.get z
    let c := s.zcfg.get z
    let p := s.setp.get z
    let r := sensorOf s z
    let w := s.work.get z
    let d := damperOf s z
    (zoneBody s z).length = 32 ∧ zone 2 [byte z.val, byte st.state.code] ∧
      zone 4 [zoneMarks st.unconf p.park w.suspended w.withdrawn] ∧ zone 5 (word c.da) ∧ zone 7 (word c.ra) ∧
      zone 9 [byte c.rank, byte (c.address.getD 0)] ∧ zone 11 (tempField p.cool) ∧ zone 13 (tempField p.heat) ∧
      zone 15 (optRh p.dry) ∧ zone 17 [byte r.state.code] ∧ zone 18 (optTemp r.temp) ∧ zone 20 (optRh r.rh) ∧
      zone 22 (optTemp r.eff) ∧ zone 24 [byte w.call.code, byte w.d, byte w.i, byte w.l] ∧
      zone 28 (optAge s.now w.waiting) ∧
      zone 30 [byte (positionCode d.position), byte d.motion.code, byte d.followOn.code, byte d.stalls] := by
  dsimp only
  rw [zoneBody_eq]
  refine ⟨by simp [zoneFields], .field 0 rfl ?_, .field 1 rfl ?_, .field 2 rfl ?_, .field 3 rfl ?_, .field 4 rfl ?_,
    .field 5 rfl ?_, .field 6 rfl ?_, .field 7 rfl ?_, .field 8 rfl ?_, .field 9 rfl ?_, .field 10 rfl ?_,
    .field 11 rfl ?_, .field 12 rfl ?_, .field 13 rfl ?_, .field 14 rfl ?_⟩
  all_goals simp [zoneFields]

theorem planZone_length (z : PlanZone) : ([byte z.role.code] ++ word z.air ++ [byte z.opening]).length = 4 := rfl

/-- The fields of Table 13.4, the eight zones in one. -/
def planFields (p : Plan) : List (List Byte) :=
  [word p.number, [byte p.mode.code, byte p.factor], [planMarks p], word p.q, [byte p.c], optTemp p.coilTarget,
    (p.zones.toList.map fun z => [byte z.role.code] ++ word z.air ++ [byte z.opening]).flatten]

theorem planRecord_eq (p : Plan) : planRecord p = (planFields p).flatten := by
  simp [planRecord, planFields]

theorem planRecord_layout (p : Plan) (z : ZoneId) :
    let plan := Carries 0 (planRecord p)
    (planRecord p).length = 42 ∧ plan 0 (word p.number) ∧ plan 2 [byte p.mode.code, byte p.factor] ∧
      plan 4 [planMarks p] ∧ plan 5 (word p.q) ∧ plan 7 [byte p.c] ∧ plan 8 (optTemp p.coilTarget) ∧
      plan (10 + 4 * z.val) [byte (p.zones.get z).role.code] ∧ plan (11 + 4 * z.val) (word (p.zones.get z).air) ∧
      plan (13 + 4 * z.val) [byte (p.zones.get z).opening] := by
  have hzones := flatten_blocks_length 4 _ planZone_length p.zones.toList
  have hzone : Carries 0 (planRecord p) (10 + 4 * z.val)
      ([byte (p.zones.get z).role.code] ++ word (p.zones.get z).air ++ [byte (p.zones.get z).opening]) := by
    have hblock := Carries.block 10 4 _ planZone_length p.zones.toList z.val _ (Eight.toList_getElem? p.zones z)
    unfold planRecord
    apply Carries.right
    simpa using hblock
  obtain ⟨hair, hopening⟩ := hzone.split
  obtain ⟨hrole, hair⟩ := hair.split
  have hair' : 11 + 4 * z.val = 10 + 4 * z.val + 1 := by omega
  have hopening' : 13 + 4 * z.val = 10 + 4 * z.val + 3 := by omega
  rw [hair', hopening']
  refine ⟨?_, ?_, ?_, ?_, ?_, ?_, ?_, hrole, hair, hopening⟩ <;> rw [planRecord_eq]
  · simp only [planFields, List.flatten_cons, List.length_append, hzones]
    simp [Eight.toList]
  · exact .field 0 rfl rfl
  · exact .field 1 rfl (by simp [planFields])
  · exact .field 2 rfl (by simp [planFields])
  · exact .field 3 rfl (by simp [planFields])
  · exact .field 4 rfl (by simp [planFields])
  · exact .field 5 rfl (by simp [planFields])

/-- The fields of a GET_PLAN body. -/
def planBodyFields (s : State) (sel : Nat) (o : Option Plan) : List (List Byte) :=
  [[byte sel, byte s.co.phase.code], [changeoverMarks s.co, flagByte o.isSome],
    match o with | some p => planRecord p | none => List.replicate 42 0]

theorem planBody_eq (s : State) (sel : Nat) (o : Option Plan) : planBody s sel o = (planBodyFields s sel o).flatten := by
  cases o <;> simp [planBody, planBodyFields]

theorem planBody_layout (s : State) (sel : Nat) (o : Option Plan) :
    let body := planBody s sel o
    body.length = 46 ∧ Carries 2 body 2 [byte sel, byte s.co.phase.code] ∧
      Carries 2 body 4 [changeoverMarks s.co, flagByte o.isSome] ∧
      (∀ p, o = some p → Carries 2 body 6 (planRecord p)) ∧ (o = none → Carries 2 body 6 (List.replicate 42 0)) := by
  dsimp only
  rw [planBody_eq]
  refine ⟨?_, .field 0 rfl rfl, .field 1 rfl rfl, fun p hp => ?_, fun hn => ?_⟩
  · cases o with
    | none => rfl
    | some p => obtain ⟨hlen, -⟩ := planRecord_layout p 0; simp [planBodyFields, hlen]
  · subst hp; exact .field 2 rfl rfl
  · subst hn; exact .field 2 rfl rfl

/-! ### GET_QUEUE -/

theorem entryBytes_length (e : QueueEntry) : (entryBytes e).length = 2 := by
  unfold entryBytes; split <;> rfl

/-- The 16 bytes of queue entries. -/
def entryField (queue : List QueueEntry) : List Byte :=
  ((queue.map entryBytes).flatten ++ List.replicate 16 0xFF).take 16

theorem entryField_length (queue : List QueueEntry) : (entryField queue).length = 16 := by
  simp [entryField, List.length_take]

theorem Carries.take {base n : Nat} {body : List Byte} {off : Nat} {bytes : List Byte} (h : Carries base body off bytes)
    (hn : off + bytes.length ≤ base + n) : Carries base (body.take n) off bytes := by
  obtain ⟨hle, hb⟩ := h
  refine ⟨hle, ?_⟩
  rw [List.drop_take, List.take_take, Nat.min_eq_left (by omega), hb]

theorem entryField_entry {queue : List QueueEntry} {n : Nat} {e : QueueEntry} (h : queue[n]? = some e) (hn : n < 8) :
    Carries 3 (entryField queue) (3 + 2 * n) (entryBytes e) :=
  Carries.take ((Carries.block 3 2 _ entryBytes_length queue n e h).left _) (by rw [entryBytes_length]; omega)

theorem entryField_unused {queue : List QueueEntry} {n : Nat} (h : queue.length ≤ n) (hn : n < 8) :
    Carries 3 (entryField queue) (3 + 2 * n) [0xFF, 0xFF] := by
  refine Carries.take (Carries.right ?_) (by simp only [List.length_cons, List.length_nil]; omega)
  rw [flatten_blocks_length 2 _ entryBytes_length]
  refine ⟨by omega, ?_⟩
  rw [List.drop_replicate, List.take_replicate, List.length_cons, List.length_cons, List.length_nil,
    Nat.min_eq_left (by omega)]
  rfl

theorem queueBody_eq (s : State) : queueBody s =
    [byte s.drive.queue.length] ++ (entryField s.drive.queue ++ ([slotByte s.drive.slot1, slotByte s.drive.slot2] ++
      (s.drive.dampers.toList.map fun d =>
        [byte (positionCode d.position), byte d.motion.code, byte d.followOn.code, byte d.stalls]).flatten)) := by
  simp only [queueBody, entryField, List.append_assoc]

theorem queueBody_layout (s : State) (z : ZoneId) :
    let queue := Carries 2 (queueBody s)
    let x := damperOf s z
    (queueBody s).length = 51 ∧ queue 2 [byte s.drive.queue.length] ∧
      (∀ (n : Fin 8) (e : QueueEntry), s.drive.queue[n.val]? = some e →
        (∀ u, e.what = .move u → queue (3 + 2 * n.val) [byte e.damper.val, byte u]) ∧
          (e.what = .home → queue (3 + 2 * n.val) [byte (0x80 + e.damper.val), 0])) ∧
      (∀ n : Fin 8, s.drive.queue.length ≤ n.val → queue (3 + 2 * n.val) [0xFF, 0xFF]) ∧
      queue 19 [slotByte s.drive.slot1, slotByte s.drive.slot2] ∧
      queue (21 + 4 * z.val) [byte (positionCode x.position), byte x.motion.code, byte x.followOn.code, byte x.stalls] := by
  have hentry : ∀ (n : Nat) (e : QueueEntry), s.drive.queue[n]? = some e → n < 8 →
      Carries 2 (queueBody s) (3 + 2 * n) (entryBytes e) := by
    intro n e h hn
    rw [queueBody_eq]
    exact Carries.right ((entryField_entry h hn).left _)
  have hafter : ∀ {off : Nat} {bytes rest : List Byte}, Carries 19 rest off bytes →
      Carries 2 ([byte s.drive.queue.length] ++ (entryField s.drive.queue ++ rest)) off bytes := by
    intro off bytes rest h
    refine Carries.right (Carries.right ?_)
    rw [entryField_length]
    exact h
  refine ⟨?_, ?_, ?_, ?_, ?_, ?_⟩
  · rw [queueBody_eq, List.length_append, List.length_append, entryField_length, List.length_append,
      flatten_blocks_length 4 _ fun _ => rfl]
    rfl
  · rw [queueBody_eq]; exact Carries.first 2 _ _
  · refine fun n e h => ⟨fun u hu => ?_, fun hh => ?_⟩
    · have := hentry n.val e h n.isLt
      rwa [entryBytes, hu] at this
    · have := hentry n.val e h n.isLt
      rwa [entryBytes, hh, Nat.add_comm e.damper.val] at this
  · intro n h
    rw [queueBody_eq]
    exact Carries.right ((entryField_unused h n.isLt).left _)
  · rw [queueBody_eq]; exact hafter (Carries.first 19 _ _)
  · rw [queueBody_eq]
    refine hafter (Carries.right ?_)
    exact Carries.block 21 4 _ (fun _ => rfl) s.drive.dampers.toList z.val _ (Eight.toList_getElem? _ z)

/-! ### GET_SYSTEM -/

theorem testBit_packBits (l : List Bool) (n : Nat) : (packBits l).testBit n = l.getD n false := by
  induction l generalizing n with
  | nil => simp [packBits]
  | cons b l ih =>
    cases n with
    | zero => cases b <;> simp [packBits, Nat.testBit_zero]
    | succ n =>
      have hdiv : packBits (b :: l) / 2 = packBits l := by
        rw [packBits]; split <;> omega
      rw [Nat.testBit_succ, hdiv, ih]
      rfl

/-- The word of two bytes laid out most significant first has the bits of the number. -/
theorem getLsbD_word (n i : Nat) (h : i < 16) :
    (BitVec.ofNat 8 (n / 256) ++ BitVec.ofNat 8 n : Word).getLsbD i = n.testBit i := by
  rw [BitVec.getLsbD_append, BitVec.getLsbD_ofNat, BitVec.getLsbD_ofNat]
  split
  · next hi => simp [hi]
  · next hi =>
    have h8 : i - 8 < 8 := by omega
    have h256 : n / 256 = n >>> 8 := (Nat.shiftRight_eq_div_pow n 8).symm
    rw [h256, Nat.testBit_shiftRight]
    simp [h8, Nat.add_sub_cancel' (Nat.not_lt.1 hi)]

/-- Bit n of the set of stopping trips names the kind of number n (13 R183). -/
theorem testBit_stopBits (stops : List TripKind) (k : TripKind) : (stopBits stops).testBit k.code = decide (k ∈ stops) := by
  rw [stopBits, testBit_packBits, ← List.contains_eq_mem]
  cases k <;> rfl

/-- The fields of page 0 of Table 13.6. -/
def page0Fields (s : State) : List (List Byte) :=
  [[byte s.op.state.code, byte s.op.request.code, byte s.op.policy.code, flagByte s.op.frost, flagByte s.op.notice],
    word (ageSeconds s.now (s.op.idleFrom.getD s.now)),
    [match s.op.noticeFrom with | some t => byte (ageSeconds s.now t) | none => 0xFF], [byte s.op.testPhase.code],
    optLeft s.now 1200000 s.op.testFrom,
    [byte s.arb.mode.code, byte (sideCode s.arb.served), byte (targetCode s.arb.restTarget)],
    optLeft s.now (minutes (s.arb.restLength.getD 0)) s.arb.restStart,
    [byte (sideCode s.arb.lastServed), flagByte s.arb.deferral],
    [byte s.seq.state.code, byte (stoppingCode s.seq.stopping), byte (wanted s), byte (commanded s)],
    [byte (minOffLeft s)], optAge s.now s.seq.runStart, [sequencerMarks s.seq],
    [protectionMarks s.prot (decide (s.link.state = .lost))], word (stopBits s.prot.stops), [byte s.prot.limit]]

theorem systemPage0_eq (s : State) : systemPage0 s = (page0Fields s).flatten := by
  simp only [systemPage0, page0Fields, List.flatten_cons, List.flatten_nil, List.append_assoc, List.cons_append,
    List.nil_append, List.append_nil] <;> rfl

theorem systemPage0_layout (s : State) :
    let page := Carries 3 (systemPage0 s)
    let q := s.seq
    (systemPage0 s).length + 1 = 31 ∧
      page 3
        [byte s.op.state.code, byte s.op.request.code, byte s.op.policy.code, flagByte s.op.frost, flagByte s.op.notice] ∧
      page 8 (word (ageSeconds s.now (s.op.idleFrom.getD s.now))) ∧
      page 10 [match s.op.noticeFrom with | some t => byte (ageSeconds s.now t) | none => 0xFF] ∧
      page 11 [byte s.op.testPhase.code] ∧ page 12 (optLeft s.now 1200000 s.op.testFrom) ∧
      page 14 [byte s.arb.mode.code, byte (sideCode s.arb.served), byte (targetCode s.arb.restTarget)] ∧
      page 17 (optLeft s.now (minutes (s.arb.restLength.getD 0)) s.arb.restStart) ∧
      page 19 [byte (sideCode s.arb.lastServed), flagByte s.arb.deferral] ∧
      page 21 [byte q.state.code, byte (stoppingCode q.stopping), byte (wanted s), byte (commanded s)] ∧
      page 25 [byte (minOffLeft s)] ∧ page 26 (optAge s.now q.runStart) ∧
      page 28 [sequencerMarks q] ∧ page 29 [protectionMarks s.prot (decide (s.link.state = .lost))] ∧
      page 30 (word (stopBits s.prot.stops)) ∧ page 32 [byte s.prot.limit] := by
  dsimp only
  rw [systemPage0_eq]
  refine ⟨by simp [page0Fields], .field 0 rfl ?_, .field 1 rfl ?_, .field 2 rfl ?_, .field 3 rfl ?_, .field 4 rfl ?_,
    .field 5 rfl ?_, .field 6 rfl ?_, .field 7 rfl ?_, .field 8 rfl ?_, .field 9 rfl ?_, .field 10 rfl ?_,
    .field 11 rfl ?_, .field 12 rfl ?_, .field 13 rfl ?_, .field 14 rfl ?_⟩
  all_goals simp [page0Fields]

/-- The ten bytes of the last status record, zeros without one. -/
def statusField (status : Option StatRecord) : List Byte :=
  match status with
  | some r => statBytes r
  | none => List.replicate 10 0

@[simp] theorem statusField_length (status : Option StatRecord) : (statusField status).length = 10 := by
  cases status <;> simp [statusField, statBytes]

/-- The fields of page 1 of Table 13.6. -/
def page1Fields (s : State) : List (List Byte) :=
  let b := s.blower
  let k := s.link
  [[byte b.state.code, holdReasons b], word b.given, optWord b.carried, word b.goal, [byte b.speedGoal, byte b.demand],
    word b.expected, word (b.speedNow s.now), optWord b.pressure, word b.qhi,
    [flagByte b.capped, byte k.state.code, byte k.statFailures], [byte (k.collisionsNow s.now)], optAge s.now k.statAgeFrom,
    [byte (failureCode k.lastFailure), flagByte k.diag.isSome, flagByte k.lastStatus.isSome], statusField k.lastStatus]

theorem systemPage1_eq (s : State) : systemPage1 s = (page1Fields s).flatten := by
  simp only [systemPage1, page1Fields, statusField, List.flatten_cons, List.flatten_nil, List.append_assoc, List.cons_append,
    List.nil_append, List.append_nil] <;> rfl

theorem systemPage1_layout (s : State) :
    let page := Carries 3 (systemPage1 s)
    let b := s.blower
    let k := s.link
    (systemPage1 s).length + 1 = 38 ∧ page 3 [byte b.state.code, holdReasons b] ∧
      page 5 (word b.given) ∧ page 7 (optWord b.carried) ∧ page 9 (word b.goal) ∧
      page 11 [byte b.speedGoal, byte b.demand] ∧ page 13 (word b.expected) ∧ page 15 (word (b.speedNow s.now)) ∧
      page 17 (optWord b.pressure) ∧ page 19 (word b.qhi) ∧
      page 21 [flagByte b.capped, byte k.state.code, byte k.statFailures] ∧
      page 24 [byte (k.collisionsNow s.now)] ∧ page 25 (optAge s.now k.statAgeFrom) ∧
      page 27 [byte (failureCode k.lastFailure), flagByte k.diag.isSome, flagByte k.lastStatus.isSome] ∧
      (∀ y, k.lastStatus = some y → page 30 (statBytes y)) ∧ (k.lastStatus = none → page 30 (List.replicate 10 0)) := by
  dsimp only
  rw [systemPage1_eq]
  have hstatus : Carries 3 (page1Fields s).flatten 30 (statusField s.link.lastStatus) :=
    .field 13 rfl (by simp [page1Fields])
  refine ⟨by simp [page1Fields], .field 0 rfl ?_, .field 1 rfl ?_, .field 2 rfl ?_, .field 3 rfl ?_, .field 4 rfl ?_,
    .field 5 rfl ?_, .field 6 rfl ?_, .field 7 rfl ?_, .field 8 rfl ?_, .field 9 rfl ?_, .field 10 rfl ?_,
    .field 11 rfl ?_, .field 12 rfl ?_, fun y h => ?_, fun h => ?_⟩
  case refine_14 => rwa [h] at hstatus
  case refine_15 => rwa [h] at hstatus
  all_goals simp [page1Fields]

theorem allTrips_getElem? (k : TripKind) : allTrips[k.code]? = some k := by cases k <;> rfl

theorem systemPage2_layout (s : State) (k : TripKind) :
    let l := s.prot.hist.get k
    (systemPage2 s).length + 1 = 45 ∧ Carries 3 (systemPage2 s) (3 + 4 * k.code) [byte l.length] ∧
      ∀ n : Fin 3, Carries 3 (systemPage2 s) (4 + 4 * k.code + n.val) [entryAge s l n.val] := by
  have hblock := Carries.block 3 4 (fun k =>
      [byte (s.prot.hist.get k).length, entryAge s (s.prot.hist.get k) 0, entryAge s (s.prot.hist.get k) 1,
        entryAge s (s.prot.hist.get k) 2]) (fun _ => rfl) allTrips k.code k (allTrips_getElem? k)
  have hcount := Carries.split (a := [byte (s.prot.hist.get k).length]) hblock
  have hfirst := Carries.split (a := [entryAge s (s.prot.hist.get k) 0]) hcount.2
  have hsecond := Carries.split (a := [entryAge s (s.prot.hist.get k) 1]) hfirst.2
  have hoff : 4 + 4 * k.code = 3 + 4 * k.code + 1 := by omega
  refine ⟨rfl, hcount.1, fun n => ?_⟩
  rw [hoff]
  fin_cases n
  · exact hfirst.1
  · exact hsecond.1
  · exact hsecond.2

/-! ### The readings of the fields (13 R180) -/

theorem idle_age (now : Nat) (t : Option Nat) :
    ageSeconds now (t.getD now) = t.elim 0 fun t => min ((now - t) / 1000) 65534 := by
  cases t <;> simp [ageSeconds]

theorem notice_age (now : Nat) (t : Option Nat) :
    (match t with | some t => byte (ageSeconds now t) | none => 0xFF) =
      byte (t.elim 0xFF fun t => min ((now - t) / 1000) 65534) := by
  cases t <;> rfl

theorem positionCode_eq (p : Option Nat) : positionCode p = p.getD 0xFF := by cases p <;> rfl

theorem slotByte_eq (x : Option Slot) : slotByte x = byte (x.elim 0xFF fun y => y.damper.val) := by cases x <;> rfl

theorem speedNow_eq (b : Blower) (now : Nat) : b.speedNow now = if b.lastPulse + 1000 ≤ now then 0 else b.measured := by
  simp [Blower.speedNow, Blower.silent]

theorem entryAge_eq (s : State) (l : List Nat) (n : Nat) :
    entryAge s l n = byte (l[n]?.elim 0xFF fun e => min ((s.now / 1000 - e) / 60) 254) := by
  unfold entryAge clockSeconds
  cases l[n]? <;> rfl

/-- Settles O18, by the layout of each body and the readings of its fields. -/
theorem readLayouts : Obligations.ReadLayouts := by
  unfold Obligations.ReadLayouts
  intro s z p sel o
  dsimp only
  refine ⟨infoBody_layout s, ?_, planRecord_layout p z, planBody_layout s sel o, ?_, ?_, ?_, ?_⟩
  · rw [← positionCode_eq]; exact zoneBody_layout s z
  · rw [← positionCode_eq, ← slotByte_eq, ← slotByte_eq]; exact queueBody_layout s z
  · have h := systemPage0_layout s
    dsimp only at h
    rw [idle_age, notice_age] at h
    obtain ⟨hlen, h3, h8, h10, h11, h12, h14, h17, h19, h21, h25, h26, h28, h29, h30, h32⟩ := h
    exact ⟨hlen, h3, h8, h10, h11, h12, h14, h17, h19, h21, h25, h26, h28, h29,
      ⟨_, _, h30, fun t => by rw [getLsbD_word _ _ (by cases t <;> decide), testBit_stopBits]⟩, h32⟩
  · rw [← speedNow_eq]; exact systemPage1_layout s
  · refine ⟨rfl, fun t => ?_⟩
    obtain ⟨-, hcount, hentries⟩ := systemPage2_layout s t
    exact ⟨hcount, fun n => by rw [← entryAge_eq]; exact hentries n⟩

end Sys2Proof.Machine
end

section
/-! What the consequences of a command do to the Operating State Controller's record: nothing but the ends of STARTUP, PREPARING and
OPENING, the opened set and a wake, so that no consequence leads back to STARTUP (11 R162). -/

namespace Sys2Proof.Machine

theorem op_ite (c : Prop) [Decidable c] (a b : State) : (if c then a else b).op = if c then a.op else b.op := by
  split <;> rfl

theorem op_foldl {α : Type} (f : State → α → State) (h : ∀ s a, (f s a).op = s.op) (l : List α) (s : State) :
    (l.foldl f s).op = s.op := by
  induction l generalizing s with
  | nil => rfl
  | cons a l ih => rw [List.foldl_cons, ih, h]

/-! ### Zones, dampers and the air path -/

theorem op_changeSensor (z : ZoneId) (r : SensorRec) (s : State) : (changeSensor z r s).op = s.op := by
  unfold changeSensor; split <;> rfl

theorem op_discardPoll (z : ZoneId) (s : State) : (discardPoll z s).op = s.op := by
  unfold discardPoll; (repeat' split) <;> rfl

theorem op_stopSensing (z : ZoneId) (s : State) : (stopSensing z s).op = s.op :=
  (op_changeSensor z _ _).trans (op_discardPoll z s)

theorem op_releaseZone (z : ZoneId) (s : State) : (releaseZone z s).op = s.op := op_stopSensing z _

theorem op_moveRequest (d : ZoneId) (t : Nat) (s : State) : (moveRequest d t s).op = s.op := by
  unfold moveRequest; split <;> rfl

theorem op_faultDamper (d : ZoneId) (s : State) : (faultDamper d s).op = s.op := by
  unfold faultDamper
  dsimp only
  split
  · split
    · exact op_releaseZone d _
    · rfl
  · split
    · exact op_releaseZone d _
    · rfl
  · rfl

theorem op_airGuard (s : State) : (airGuard s).op = s.op := by unfold airGuard; split <;> rfl

theorem op_offerGoal (g : Nat) (s : State) : (offerGoal g s).op = s.op := by unfold offerGoal; split <;> rfl

theorem op_removeHold (cold : Bool) (s : State) : (removeHold cold s).op = s.op := op_airGuard _

theorem op_grantOne (s : State) : (grantOne s).op = s.op := by
  unfold grantOne
  split
  · rfl
  · dsimp only
    split
    · rw [op_airGuard, op_faultDamper]
    · rw [op_airGuard]

/-! ### The sequencer and the Protection Monitor -/

theorem op_restStartPoint (s : State) : (restStartPoint s).op = s.op := by unfold restStartPoint; split <;> rfl

theorem op_stopReport (s : State) : (stopReport s).op = s.op := by
  unfold stopReport
  dsimp only
  split
  · rw [op_removeHold]; exact op_restStartPoint _
  · exact op_restStartPoint _

theorem op_endRecovery (c : DefrostCause) (s : State) : (endRecovery c s).op = s.op := by
  unfold endRecovery
  dsimp only
  refine (op_removeHold false _).trans ?_
  show (ite _ (stopWait true (seqRest _ s)) (seqRest _ s)).op = s.op
  rw [op_ite]
  exact ite_self _

theorem op_enterRecovery (c : DefrostCause) (s : State) : (enterRecovery c s).op = s.op := by
  unfold enterRecovery
  dsimp only
  split
  · exact op_endRecovery _ _
  · rfl

theorem op_takeStopped (s : State) : (takeStopped s).op = s.op := by
  unfold takeStopped
  split
  · rfl
  · exact op_stopReport s

theorem op_interruptDefrost (c : DefrostCause) (s : State) : (interruptDefrost c s).op = s.op := by
  unfold interruptDefrost
  dsimp only
  split
  · exact op_takeStopped s
  · rw [op_enterRecovery, op_takeStopped]

theorem op_markStop (s : State) : (markStop s).op = s.op := by
  unfold markStop
  dsimp only
  split
  · exact op_enterRecovery _ _
  · rfl

theorem op_immediateStop (s : State) : (immediateStop s).op = s.op := by
  unfold immediateStop; split <;> first | rfl | exact op_markStop s

theorem op_followWanted (s : State) : (followWanted s).op = s.op := by unfold followWanted; split <;> rfl

theorem op_releaseOff (s : State) : (releaseOff s).op = s.op := (op_followWanted _).trans (op_immediateStop _)

theorem op_seqRelease (r : Release) (s : State) : (seqRelease r s).op = s.op := by
  unfold seqRelease
  dsimp only
  split
  · (repeat' split) <;> rfl
  · (repeat' split) <;> rfl
  · exact op_followWanted _
  · exact op_followWanted _
  · rfl

theorem op_startCompressor (s : State) : (startCompressor s).op = s.op := by unfold startCompressor; dsimp only; split <;> rfl

theorem op_stoppingTrip (s : State) : (stoppingTrip s).op = s.op := by
  unfold stoppingTrip
  dsimp only
  split <;> first | rfl | exact op_stopReport _ | exact op_interruptDefrost _ _

theorem op_seqLinkLost (s : State) : (seqLinkLost s).op = s.op := by
  unfold seqLinkLost
  dsimp only
  split <;> first | rfl | exact op_stopReport _ | exact op_interruptDefrost _ _

theorem op_noStoppingTrip (s : State) : (noStoppingTrip s).op = s.op := by unfold noStoppingTrip; split <;> rfl

theorem op_leaveStops (k : TripKind) (s : State) : (leaveStops k s).op = s.op := by
  unfold leaveStops
  dsimp only
  split
  · split
    · exact op_noStoppingTrip _
    · rfl
  · rfl

theorem op_joinStops (k : TripKind) (s : State) : (joinStops k s).op = s.op := by
  unfold joinStops
  split
  · rfl
  · exact op_stoppingTrip _

theorem op_judgeFloat (s : State) : (judgeFloat s).op = s.op := by
  unfold judgeFloat
  split
  · exact op_joinStops _ _
  · exact op_leaveStops _ _

/-! ### The Plan Changeover Controller -/

theorem op_requestFor (p : Plan) (z : ZoneId) (s : State) : (requestFor p z s).op = s.op := by
  unfold requestFor
  split
  · exact op_moveRequest _ _ _
  · rfl

theorem op_requestOpenings (p : Plan) (s : State) : (requestOpenings p s).op = s.op :=
  op_foldl _ (fun s z => by rw [op_ite, op_requestFor, ite_self]) _ s

theorem op_requestClosings (p : Plan) (s : State) : (requestClosings p s).op = s.op :=
  op_foldl _ (fun s z => by rw [op_ite, op_requestFor, ite_self]) _ s

theorem op_releasePlan (p : Plan) (s : State) : (releasePlan p s).op = s.op :=
  (op_judgeFloat _).trans (op_seqRelease _ _)

theorem op_capacityStep (p : Plan) (s : State) : (capacityStep p s).op = s.op := by
  unfold capacityStep
  split
  · exact op_releasePlan _ _
  · rfl

theorem op_openPhase (p : Plan) (s : State) : (openPhase p s).op = s.op :=
  (op_capacityStep p _).trans (op_requestOpenings p _)

theorem op_adjustEntry (p : Plan) (d : ZoneId) (s : State) : (adjustEntry p d s).op = s.op := by
  unfold adjustEntry
  dsimp only
  (repeat' split) <;> rfl

theorem op_clearInMotion (d : ZoneId) (s : State) : (clearInMotion d s).op = s.op := by
  unfold clearInMotion; split <;> rfl

theorem op_removeIntent (p : Plan) (s : State) : (removeIntent p s).op = s.op :=
  op_foldl _ (fun s d => by rw [op_ite, op_clearInMotion, op_adjustEntry, ite_self]) _ s

theorem op_supersede (p : Plan) (reapply : Bool) (s : State) : (supersede p reapply s).op = s.op := by
  unfold supersede
  dsimp only
  rw [op_openPhase]
  dsimp only
  rw [op_removeIntent]

theorem op_takePlan (p : Plan) (s : State) : (takePlan p s).op = s.op := by
  unfold takePlan
  split
  · exact op_openPhase _ _
  · exact op_supersede _ _ _

theorem op_handOn (p : Plan) (s : State) : (handOn p s).op = s.op := by
  unfold handOn
  split
  · rfl
  · exact op_takePlan _ _

theorem op_takeHeld (s : State) : (takeHeld s).op = s.op := by
  unfold takeHeld
  split
  · exact op_takePlan _ _
  · rfl

theorem op_abandonFor (d : ZoneId) (s : State) : (abandonFor d s).op = s.op := by
  unfold abandonFor
  split
  · split
    · exact op_supersede _ _ _
    · rfl
  · rfl

theorem op_restartChangeover (s : State) : (restartChangeover s).op = s.op := by
  unfold restartChangeover
  split
  · exact op_openPhase _ _
  · exact op_supersede _ _ _

theorem op_endOpen (p : Plan) (s : State) : (endOpen p s).op = s.op := by
  unfold endOpen
  split
  · rfl
  · exact op_offerGoal _ _

theorem op_endBlower (p : Plan) (s : State) : (endBlower p s).op = s.op := by
  unfold endBlower
  refine (op_requestClosings p _).trans ?_
  dsimp only
  split
  · rfl
  · exact op_releasePlan _ _

theorem op_finishUnconfigure (p : Plan) (s : State) : (finishUnconfigure p s).op = s.op :=
  op_foldl _ (fun s z => by rw [op_ite, op_releaseZone, ite_self]) _ s

theorem op_endClose (p : Plan) (s : State) : (endClose p s).op = s.op := op_finishUnconfigure p _

theorem op_phaseStep (s : State) : (phaseStep s).op = s.op := by
  unfold phaseStep
  dsimp only
  split
  · rfl
  · split
    · split
      · exact op_endOpen _ _
      · rfl
    · split
      · exact op_endClose _ _
      · rfl
    · rfl

/-! ### A pass -/

theorem op_chooseMode (s : State) : (chooseMode s).op = s.op := by unfold chooseMode; dsimp only; split <;> rfl

theorem op_applyParks (s : State) : (applyParks s).op = s.op :=
  op_foldl _ (fun s z => by dsimp only; split <;> rfl) _ s

theorem op_finishPlan (p : Plan) (s : State) : (finishPlan p s).op = s.op := by
  unfold finishPlan
  split
  · split
    · exact op_finishUnconfigure _ _
    · rfl
  · exact op_handOn _ _

theorem op_passPlan (s : State) : (passPlan s).op = s.op := (op_finishPlan _ _).trans (op_applyParks s)

/-! ### No way back to STARTUP -/

theorem op_leaveResting (s : State) : (leaveResting s).op = s.op := by
  unfold leaveResting wakeLink; split <;> rfl

theorem changeOp_state (new : OpState) (cause : StateCause) (s : State) : (changeOp new cause s).op.state = new := by
  unfold changeOp
  dsimp only
  split
  · next h => exact h.symm
  · split
    · rw [op_leaveResting]; rfl
    · rfl

theorem opOf_ne_startup (r : OpRequest) : opOf r ≠ .startup := by cases r <;> simp [opOf]

theorem wakeEvent_started {s : State} (h : s.op.state ≠ .startup) : (wakeEvent s).op.state ≠ .startup := by
  unfold wakeEvent
  split
  · show (changeOp _ _ s).op.state ≠ .startup
    rw [changeOp_state]; exact opOf_ne_startup _
  · split <;> exact h

theorem beginRound_started {s : State} (h : s.op.state ≠ .startup) : (beginRound s).op.state ≠ .startup := by
  unfold beginRound beginFrame
  split
  · exact h
  · unfold abandonFrame exchangeFailed
    dsimp only
    split
    · apply wakeEvent_started
      rw [op_seqLinkLost]; exact h
    · exact h

theorem markOpened_state (d : ZoneId) (s : State) : (markOpened d s).op.state = s.op.state := by
  unfold markOpened; split <;> rfl

theorem openForTest_state (d : ZoneId) (s : State) : (openForTest d s).op.state = s.op.state := by
  unfold openForTest
  dsimp only
  split
  · rw [markOpened_state, op_moveRequest]
  · rw [op_moveRequest]

theorem beginOpening_state (s : State) : (beginOpening s).op.state = s.op.state := by
  have hfold : ∀ (l : List ZoneId) (s : State), (l.foldl (fun s d => openForTest d s) s).op.state = s.op.state := by
    intro l
    induction l with
    | nil => exact fun _ => rfl
    | cons d l ih => intro s; rw [List.foldl_cons, ih, openForTest_state]
  exact hfold _ _

/-- A consequence of a state that is not STARTUP keeps the fields of `kept`, and does not lead to STARTUP. -/
theorem microStep_started {s t : State} (h : microStep s = some t) (hs : s.op.state ≠ .startup) :
    kept t = kept s ∧ t.op.state ≠ .startup := by
  have hno : startupDone s = false := by simp [startupDone, hs]
  unfold microStep at h
  rw [hno] at h
  split at h
  · obtain rfl := Option.some.inj h; exact ⟨by rw [kept_abandonFor]; rfl, by rwa [op_abandonFor]⟩
  split at h
  · obtain rfl := Option.some.inj h; exact ⟨by rw [kept_restartChangeover]; rfl, by rwa [op_restartChangeover]⟩
  split at h
  · obtain rfl := Option.some.inj h; exact ⟨kept_takeHeld s, by rwa [op_takeHeld]⟩
  split at h
  · obtain rfl := Option.some.inj h; exact ⟨kept_markOpened _ s, by rwa [markOpened_state]⟩
  split at h
  · obtain rfl := Option.some.inj h; exact ⟨kept_grantOne s, by rwa [op_grantOne]⟩
  split at h
  · obtain rfl := Option.some.inj h; exact ⟨kept_phaseStep s, by rwa [op_phaseStep]⟩
  split at h
  · rw [Option.map_eq_some_iff] at h
    obtain ⟨p, -, rfl⟩ := h
    exact ⟨kept_endBlower p s, by rwa [op_endBlower]⟩
  split at h
  · obtain rfl := Option.some.inj h; exact ⟨kept_beginRound s, beginRound_started hs⟩
  split at h
  · obtain rfl := Option.some.inj h; exact ⟨kept_startCompressor s, by rwa [op_startCompressor]⟩
  split at h
  · rename_i hf; exact absurd hf (by simp)
  split at h
  · obtain rfl := Option.some.inj h; exact ⟨kept_beginOpening s, by rwa [beginOpening_state]⟩
  split at h
  · obtain rfl := Option.some.inj h
    refine ⟨kept_enterTest s, ?_⟩
    unfold enterTest
    rw [changeOp_state]; simp
  · exact absurd h (by simp)

theorem runPass_started {s : State} (h : s.op.state ≠ .startup) : (runPass s).op.state ≠ .startup := by
  unfold runPass
  rw [op_passPlan, op_chooseMode]
  show (passCalls (beginPass s)).op.state ≠ .startup
  unfold passCalls
  dsimp only
  split
  · exact wakeEvent_started h
  · exact h

/-- The end of a command keeps the fields of `kept` where the state is not STARTUP. -/
theorem kept_finish_started {s : State} (h : s.op.state ≠ .startup) : kept (finish s) = kept s := by
  refine (finish_keeps (P := fun t => kept t = kept s ∧ t.op.state ≠ .startup) ?_ ?_ ?_ s ⟨rfl, h⟩).1
  · rintro t u hu ⟨hk, ho⟩
    obtain ⟨hk', ho'⟩ := microStep_started hu ho
    exact ⟨hk'.trans hk, ho'⟩
  · rintro t ⟨hk, ho⟩; exact ⟨(kept_runPass t).trans hk, runPass_started ho⟩
  · rintro t ⟨hk, ho⟩; exact ⟨(kept_sync t).trans hk, by rwa [sync_op_state]⟩

end Sys2Proof.Machine
end

section
/-! Host writes that a calm state takes (12 R174, R175; 01 R7, R8): what the action leaves, and its reply. -/

namespace Sys2Proof.Machine

/-! ### Replies and wakes -/

/-- The reply of a request whose action leaves the port and the clock as they are. -/
theorem handReply_of_port {s u : State} (h : PortIdle s) (r : Request) (status : Status) (body : List Byte)
    (hp : u.port = (toStage r .replying s).port) (hn : u.now = s.now) :
    handReply r.kind status body u = { u with port := (answered s r status body).port } := by
  have hport : (toStage r .replying s).port.handReply s.now r.kind status body = (answered s r status body).port :=
    congrArg State.port (handReply_idle h r status body)
  rw [handReply, hp, hn, hport]

/-- A wake event that finds no RESTING only withdraws a notice. -/
theorem wakeIfOn_awake {s : State} (h : Awake s) : ∃ a b c d, wakeIfOn s =
    { s with op := { s.op with idleFrom := a, idleDone := b, notice := c, noticeFrom := d } } := by
  unfold wakeIfOn wakeEvent
  split
  · next hon =>
    have hawake : s.op.state ≠ .resting := by
      rcases h with h | h
      · exact h
      · rw [h] at hon; cases hon
    rw [if_neg hawake]
    split <;> exact ⟨_, _, _, _, rfl⟩
  · exact ⟨_, _, _, _, rfl⟩

theorem wakeIfOn_awake_port {s : State} (h : Awake s) : (wakeIfOn s).port = s.port := by
  obtain ⟨_, _, _, _, he⟩ := wakeIfOn_awake h; rw [he]

theorem wakeIfOn_awake_now {s : State} (h : Awake s) : (wakeIfOn s).now = s.now := by
  obtain ⟨_, _, _, _, he⟩ := wakeIfOn_awake h; rw [he]

/-! ### SET_ZONE (01 R7, R8) -/

theorem carriedByte_of_eq {b : Byte} (h : b = 0xFE) : carriedByte b = none := if_pos h

theorem carriedWord_of_eq {w : Word} (h : w = 0x7FFE) : carriedWord w = none := if_pos h

theorem carriedWord_of_ne {w : Word} (h : w ≠ 0x7FFE) : carriedWord w = some w.toNat := if_neg h

theorem clampNat_eq_max_min {a b : Nat} (x : Nat) (h : a ≤ b) : clampNat x a b = max a (min b x) := by
  unfold clampNat
  split
  · omega
  · split <;> omega

section
variable (old : Setpoints) (unconf : Bool) (coolW heatW dryW : Word) (park : Byte)

theorem setZoneResult_dry : (setZoneResult old unconf coolW heatW dryW park).1.dry =
    if dryW = 0x7FFE then old.dry else if dryW = 0x7FFF then none else some (max 400 (min 700 dryW.toNat)) := by
  by_cases h : dryW = 0x7FFE
  · simp only [setZoneResult, carriedWord_of_eq h, if_pos h]
  · simp only [setZoneResult, carriedWord_of_ne h, if_neg h, clampNat_eq_max_min _ (show 400 ≤ 700 by decide)]

theorem decide_toNat_ne_zero (b : Byte) : decide (b.toNat ≠ 0) = decide (b ≠ 0) := by
  have hb : b.toNat = 0 ↔ b = 0 := by rw [← BitVec.toNat_inj]; rfl
  simp only [ne_eq, hb]

theorem setZoneResult_park : (setZoneResult old unconf coolW heatW dryW park).1.park =
    if park = 0xFE then old.park else decide (park ≠ 0) && !unconf := by
  by_cases h : park = 0xFE
  · simp only [setZoneResult, carriedByte_of_eq h, if_pos h]
    simp
  · simp only [setZoneResult, carriedByte_of_ne h, if_neg h, Option.map_some, orInForce_some, decide_toNat_ne_zero,
      Option.isSome_some, Bool.and_true]
    cases decide (park ≠ 0) <;> cases unconf <;> rfl

/-- The three ways in which a value is not taken as it is asked: a temperature, the dry target and the park request. -/
theorem setZoneResult_adjusted : (setZoneResult old unconf coolW heatW dryW park).2 = true ↔
    ((carriedTemp coolW).map (fun t => clampInt t 160 320) ≠ carriedTemp coolW ∨
        (carriedTemp heatW).map (fun t => clampInt t 100 300) ≠ carriedTemp heatW ∨
        orInForce old.cool ((carriedTemp coolW).map fun t => clampInt t 160 320) <
          orInForce old.heat ((carriedTemp heatW).map fun t => clampInt t 100 300) + 10) ∨
      (dryW ≠ 0x7FFE ∧ dryW ≠ 0x7FFF ∧ max 400 (min 700 dryW.toNat) ≠ dryW.toNat) ∨
      (park ≠ 0xFE ∧ park ≠ 0 ∧ unconf = true) := by
  have hdry : (match carriedWord dryW with
      | none => false
      | some r => decide (dryW ≠ 0x7FFF) && decide (clampNat r 400 700 ≠ r)) = true ↔
      dryW ≠ 0x7FFE ∧ dryW ≠ 0x7FFF ∧ max 400 (min 700 dryW.toNat) ≠ dryW.toNat := by
    by_cases h : dryW = 0x7FFE
    · rw [carriedWord_of_eq h]
      simp only [h, ne_eq, not_true_eq_false, false_and, Bool.false_eq_true]
    · rw [carriedWord_of_ne h]
      simp only [Bool.and_eq_true, decide_eq_true_eq, ne_eq, h, not_false_eq_true, true_and,
        clampNat_eq_max_min _ (show 400 ≤ 700 by decide)]
  have hpark : (unconf && orInForce old.park ((carriedByte park).map fun p => decide (p ≠ 0)) &&
      (carriedByte park).isSome) = true ↔ park ≠ 0xFE ∧ park ≠ 0 ∧ unconf = true := by
    by_cases h : park = 0xFE
    · rw [carriedByte_of_eq h]
      simp only [h, Option.isSome_none, Bool.and_false, Bool.false_eq_true, ne_eq, not_true_eq_false, false_and]
    · simp only [carriedByte_of_ne h, Option.map_some, orInForce_some, decide_toNat_ne_zero, Option.isSome_some,
        Bool.and_true, Bool.and_eq_true, decide_eq_true_eq]
      tauto
  show (_ || _ || _ || _ || _) = true ↔ _
  rw [Bool.or_eq_true, Bool.or_eq_true, Bool.or_eq_true, Bool.or_eq_true, hpark, decide_eq_true_eq,
    decide_eq_true_eq, decide_eq_true_eq]
  constructor
  · rintro ((((h | h) | h) | h) | h)
    · exact .inl (.inl h)
    · exact .inl (.inr (.inl h))
    · exact .inr (.inl (hdry.1 h))
    · exact .inl (.inr (.inr h))
    · exact .inr (.inr h)
  · rintro ((h | h | h) | h | h)
    · exact .inl (.inl (.inl (.inl h)))
    · exact .inl (.inl (.inl (.inr h)))
    · exact .inl (.inr h)
    · exact .inl (.inl (.inr (hdry.2 h)))
    · exact .inr h

variable {old coolW heatW}

/-- The two temperatures are as asked exactly where neither is clamped and the gap between them holds. -/
theorem setZoneResult_temps_asked (h : SetpointsGood old) :
    let new := (setZoneResult old unconf coolW heatW dryW park).1
    (new.cool = orInForce old.cool (carriedTemp coolW) ∧ new.heat = orInForce old.heat (carriedTemp heatW)) ↔
      ¬((carriedTemp coolW).map (fun t => clampInt t 160 320) ≠ carriedTemp coolW ∨
        (carriedTemp heatW).map (fun t => clampInt t 100 300) ≠ carriedTemp heatW ∨
        orInForce old.cool ((carriedTemp coolW).map fun t => clampInt t 160 320) <
          orInForce old.heat ((carriedTemp heatW).map fun t => clampInt t 100 300) + 10) := by
  obtain ⟨clo, chi, hlo, hhi, gap, -⟩ := h
  have coolC := fun c => clampInt_eq_max_min c (show (160 : Int) ≤ 320 by decide)
  have heatC := fun c => clampInt_eq_max_min c (show (100 : Int) ≤ 300 by decide)
  cases hc : carriedTemp coolW with
  | none =>
    cases hh : carriedTemp heatW with
    | none =>
      obtain ⟨hcool, hheat⟩ := setZoneResult_of_neither unconf dryW park hc hh gap
      simp only [hcool, hheat, orInForce_none, Option.map_none, ne_eq, not_true_eq_false, false_or, true_and, true_iff]
      omega
    | some x =>
      obtain ⟨hheat, hcool⟩ := setZoneResult_of_heat_only (old := old) unconf dryW park hc hh
      simp only [hcool, hheat, heatC, orInForce_none, orInForce_some, Option.map_none, Option.map_some, Option.some.injEq,
        ne_eq, not_true_eq_false, false_or]
      omega
  | some c =>
    obtain ⟨hcool, hheat⟩ := setZoneResult_of_cool_carried (old := old) (heatW := heatW) unconf dryW park hc
    cases hh : carriedTemp heatW with
    | none =>
      rw [hh] at hheat
      simp only [hcool, hheat, coolC, orInForce_none, orInForce_some, Option.map_none, Option.map_some, Option.some.injEq,
        ne_eq, not_true_eq_false, false_or]
      omega
    | some x =>
      rw [hh] at hheat
      simp only [hcool, hheat, coolC, heatC, orInForce_some, Option.map_some, Option.some.injEq, ne_eq]
      omega

/-- A SET_ZONE is answered ADJUSTED exactly where a field differs from what the request asks. -/
theorem setZoneResult_asked_iff (h : SetpointsGood old) :
    let new := (setZoneResult old unconf coolW heatW dryW park).1
    (new.cool = (if coolW = 0x7FFE then old.cool else coolW.toInt) ∧
        new.heat = (if heatW = 0x7FFE then old.heat else heatW.toInt) ∧
        new.dry = (if dryW = 0x7FFE then old.dry else if dryW = 0x7FFF then none else some dryW.toNat) ∧
        new.park = (if park = 0xFE then old.park else decide (park ≠ 0))) ↔
      (setZoneResult old unconf coolW heatW dryW park).2 = false := by
  have hcarried : ∀ (x : Int) (w : Word), orInForce x (carriedTemp w) = if w = 0x7FFE then x else w.toInt := by
    intro x w; unfold carriedTemp; split <;> rfl
  have htemps := setZoneResult_temps_asked (coolW := coolW) (heatW := heatW) unconf dryW park h
  have hadj := setZoneResult_adjusted old unconf coolW heatW dryW park
  simp only [hcarried] at htemps
  have hdry : (setZoneResult old unconf coolW heatW dryW park).1.dry =
      (if dryW = 0x7FFE then old.dry else if dryW = 0x7FFF then none else some dryW.toNat) ↔
      ¬(dryW ≠ 0x7FFE ∧ dryW ≠ 0x7FFF ∧ max 400 (min 700 dryW.toNat) ≠ dryW.toNat) := by
    rw [setZoneResult_dry]
    split
    · next h1 => simp only [h1, ne_eq, not_true_eq_false, false_and, not_false_eq_true]
    · next h1 =>
      split
      · next h2 => simp only [h2, ne_eq, not_true_eq_false, false_and, and_false, not_false_eq_true]
      · next h2 => simp only [Option.some.injEq, h1, h2, ne_eq, not_false_eq_true, true_and, not_not]
  have hpark : (setZoneResult old unconf coolW heatW dryW park).1.park =
      (if park = 0xFE then old.park else decide (park ≠ 0)) ↔ ¬(park ≠ 0xFE ∧ park ≠ 0 ∧ unconf = true) := by
    rw [setZoneResult_park]
    split
    · next h1 => simp only [h1, ne_eq, not_true_eq_false, false_and, not_false_eq_true]
    · next h1 =>
      simp only [ne_eq, h1, not_false_eq_true, true_and]
      by_cases h2 : park = 0
      · simp only [h2, not_true_eq_false, decide_false, Bool.false_and, false_and, not_false_eq_true]
      · simp only [h2, not_false_eq_true, decide_true, Bool.true_and, true_and]
        cases unconf <;> decide
  dsimp only at htemps ⊢
  rw [← Bool.not_eq_true, hadj, not_or, ← htemps, not_or, ← hdry, ← hpark, and_assoc]

end

/-- Settles O21: the fields by what the request carries, the status by whether one was adjusted, and the rest by the calm end of the
command. -/
theorem setZoneWritesSetpoints : Obligations.SetZoneWritesSetpoints := by
  unfold Obligations.SetZoneWritesSetpoints
  intro s z coolW heatW dryW park hcalm hidle hawake hgood
  dsimp only
  refine ⟨setZoneResult_dry _ _ _ _ _ _, setZoneResult_park _ _ _ _ _ _, ?_⟩
  have hasked := setZoneResult_asked_iff (coolW := coolW) (heatW := heatW) (s.zst.get z).unconf dryW park hgood
  dsimp only at hasked
  rw [hasked]
  generalize hres : setZoneResult (s.setp.get z) (s.zst.get z).unconf coolW heatW dryW park = new
  let r := Request.setZone (byte z.val) coolW heatW dryW park
  let u : State := { toStage r .replying s with setp := s.setp.set z new.1, eval := { s.eval with early := true } }
  obtain ⟨a, b, c, d, hw⟩ := wakeIfOn_awake (s := u) hawake
  have hperform : perform r (toStage r .replying s) =
      { wakeIfOn u with
        port := (answered s r (if new.2 then .adjusted else .ok) (setpointBody z new.1)).port } := by
    show doSetZone _ _ _ _ _ _ = _
    unfold doSetZone
    dsimp only
    rw [zoneOf_byte]
    have hres' : setZoneResult ((toStage r .replying s).setp.get z) ((toStage r .replying s).zst.get z).unconf coolW heatW
        dryW park = new := hres
    dsimp only
    rw [hres']
    show handReply r.kind (if new.2 then .adjusted else .ok) (setpointBody z new.1) (wakeIfOn u) = _
    exact handReply_of_port hidle r _ _ (wakeIfOn_awake_port hawake) (wakeIfOn_awake_now hawake)
  refine ⟨finish (perform r (toStage r .replying s)), if new.2 then .adjusted else .ok, ?_, ?_, ?_, ?_⟩
  · show Host.Outcome.next (finish (offer r s)) = _
    rw [offer_free hidle.1]
  · intro h; rw [h]; rfl
  · intro h; rw [if_pos (by simpa using h)]
  · rw [hperform, hw]
    exact timeless_finish_calm hcalm

end Sys2Proof.Machine
end

section
/-! A blower goal put in force (07 R109 to R118), and CONFIG_SYSTEM (12 R175): its checks and its effects. -/

namespace Sys2Proof.Machine

/-! ### A goal put in force -/

theorem bandHolds_iff (measured expected : Nat) :
    bandHolds measured expected = true ↔ 10 * measured ≤ 11 * expected ∧ 9 * expected ≤ 10 * measured := by
  simp only [bandHolds, decide_eq_true_eq]
  omega

theorem speedNow_eq_ite (now : Nat) (b : Blower) :
    b.speedNow now = if b.lastPulse + 1000 ≤ now then 0 else b.measured := by
  simp [Blower.speedNow, Blower.silent]

/-- A goal put in force by the blower is a goal put in force (07 R109, R111, R112). -/
theorem GoalPut.setGoal (now : Nat) (table : List BlowerPoint) (q : Nat) (b : Blower) :
    GoalPut now table q b (b.setGoal now table q) := by
  refine ⟨rfl, rfl, rfl, rfl, rfl, ?_, rfl, rfl⟩
  show bandHolds (b.speedNow now) _ = true ↔ _
  rw [bandHolds_iff, speedNow_eq_ite]
  rfl

section
variable {now : Nat} {table : List BlowerPoint} {q : Nat} {b c : Blower}

/-- The renewal of the pressure times leaves a goal put in force as it is. -/
theorem GoalPut.times (h : GoalPut now table q b c) (above below : Option Nat) :
    GoalPut now table q b { c with aboveFrom := above, belowFrom := below } := h

/-- The pressure times before a goal was put in force do not count. -/
theorem GoalPut.fromTimes {above below : Option Nat} (h : GoalPut now table q { b with aboveFrom := above, belowFrom := below } c) :
    GoalPut now table q b c := by
  obtain ⟨hgoal, htable, hramp, hsince, hsettle, hband, hfrom, hrest⟩ := h
  exact ⟨hgoal, htable, hramp, hsince, hsettle, hband, hfrom,
    congrArg (fun x : Blower => { x with aboveFrom := b.aboveFrom, belowFrom := b.belowFrom }) hrest⟩

end

theorem leavePause_eq_unpaused (now : Nat) (b : Blower) : b.leavePause now = unpaused now b := by
  unfold Blower.leavePause unpaused
  cases h : b.retryFrom with
  | none => simp [← h]
  | some t => simp

theorem RampsTo.rampTo (now : Nat) (table : List BlowerPoint) (q : Nat) (b : Blower) :
    RampsTo now table q b (b.rampTo now table q) := GoalPut.setGoal _ _ _ _

theorem TurnsOff.turnOff (now : Nat) (table : List BlowerPoint) (b : Blower) : TurnsOff now table b (b.turnOff now table) := by
  unfold TurnsOff Blower.turnOff
  rw [leavePause_eq_unpaused]
  exact GoalPut.setGoal _ _ _ _

theorem Holds.enterHold (now : Nat) (table : List BlowerPoint) (b : Blower) : Holds now table b (b.enterHold now table) := by
  unfold Holds Blower.enterHold
  rw [leavePause_eq_unpaused]
  exact GoalPut.setGoal _ _ _ _

/-! ### The checks of CONFIG_SYSTEM (12 Table 12.3) -/

theorem tableRises_iff (t : List BlowerPoint) : tableRises t = true ↔
    ∀ (n : Nat) (a b : BlowerPoint), t[n]? = some a → t[n + 1]? = some b →
      a.airflow < b.airflow ∧ a.speed ≤ b.speed ∧ a.rpm ≤ b.rpm := by
  induction t with
  | nil => simp [tableRises]
  | cons x t ih =>
    cases t with
    | nil => simp [tableRises]
    | cons y t =>
      simp only [tableRises, Bool.and_eq_true, decide_eq_true_eq]
      rw [ih]
      constructor
      · rintro ⟨⟨⟨h1, h2⟩, h3⟩, hrest⟩ n a b ha hb
        cases n with
        | zero => cases ha; cases hb; exact ⟨h1, h2, h3⟩
        | succ n => exact hrest n a b ha hb
      · intro h
        obtain ⟨h1, h2, h3⟩ := h 0 x y rfl rfl
        exact ⟨⟨⟨h1, h2⟩, h3⟩, fun n a b ha hb => h (n + 1) a b ha hb⟩

theorem gateGood_iff (g : Option Int) : gateGood g = true ↔ ∀ t, g = some t → -100 ≤ t ∧ t ≤ 150 := by
  cases g <;> simp [gateGood]

/-- The ranges of Table 12.3 and of a blower table, and their consistency. -/
theorem settingsGood_iff (c : Settings) : settingsGood c = true ↔
    300 ≤ c.qrated ∧ c.qrated ≤ 2000 ∧ c.qrated ≤ c.qmax ∧ c.qmax ≤ 2500 ∧ 100 ≤ c.qsysMin ∧ c.qsysMin ≤ c.qmax ∧
      10 ≤ c.minHold ∧ c.minHold ≤ 60 ∧ 2 ≤ c.releaseTime ∧ c.releaseTime ≤ 15 ∧ 3 ≤ c.restTime ∧ c.restTime ≤ 15 ∧
      20 ≤ c.maxWait ∧ c.maxWait ≤ 120 ∧ 50 ≤ c.pressureCap ∧ c.pressureCap ≤ 250 ∧
      (∀ g, c.ambientGate = some g → -100 ≤ g ∧ g ≤ 150) ∧ c.supplyLow ∈ [190, 198, 205, 212] ∧
      11 ≤ c.breakLength ∧ c.breakLength ≤ 14 ∧ 3 ≤ c.buttonHold ∧ c.buttonHold ≤ 10 ∧ c.table.length = 6 ∧
      (∀ p ∈ c.table, 50 ≤ p.airflow ∧ p.airflow ≤ 2500 ∧ 10 ≤ p.speed ∧ p.speed ≤ 100 ∧ 100 ≤ p.rpm ∧ p.rpm ≤ 3000) ∧
      ∀ (n : Nat) (a b : BlowerPoint), c.table[n]? = some a → c.table[n + 1]? = some b →
        a.airflow < b.airflow ∧ a.speed ≤ b.speed ∧ a.rpm ≤ b.rpm := by
  simp only [settingsGood, tableGood, within, Bool.and_eq_true, decide_eq_true_eq, gateGood_iff, tableRises_iff,
    List.all_eq_true, List.contains_iff_mem]
  constructor
  · rintro ⟨⟨⟨⟨⟨⟨⟨⟨⟨⟨⟨⟨⟨a1, a2⟩, b1, b2⟩, c1, c2⟩, d1, d2⟩, e1, e2⟩, f1, f2⟩, g1, g2⟩, h1, h2⟩, hg⟩, hs⟩, i1, i2⟩, j1, j2⟩,
      ⟨hl, hr⟩, hp⟩
    refine ⟨a1, a2, b1, b2, c1, c2, d1, d2, e1, e2, f1, f2, g1, g2, h1, h2, hg, hs, i1, i2, j1, j2, hl, fun p hm => ?_, hr⟩
    obtain ⟨⟨⟨x1, x2⟩, y1, y2⟩, z1, z2⟩ := hp p hm
    exact ⟨x1, x2, y1, y2, z1, z2⟩
  · rintro ⟨a1, a2, b1, b2, c1, c2, d1, d2, e1, e2, f1, f2, g1, g2, h1, h2, hg, hs, i1, i2, j1, j2, hl, hp, hr⟩
    refine ⟨⟨⟨⟨⟨⟨⟨⟨⟨⟨⟨⟨⟨a1, a2⟩, b1, b2⟩, c1, c2⟩, d1, d2⟩, e1, e2⟩, f1, f2⟩, g1, g2⟩, h1, h2⟩, hg⟩, hs⟩, i1, i2⟩, j1, j2⟩,
      ⟨hl, hr⟩, fun p hm => ?_⟩
    obtain ⟨x1, x2, y1, y2, z1, z2⟩ := hp p hm
    exact ⟨⟨⟨x1, x2⟩, y1, y2⟩, z1, z2⟩

theorem orInForce_carriedWord (old : Nat) (w : Word) : orInForce old (carriedWord w) = if w = 0x7FFE then old else w.toNat := by
  unfold carriedWord; split <;> rfl

theorem orInForce_carriedByte (old : Nat) (b : Byte) : orInForce old (carriedByte b) = if b = 0xFE then old else b.toNat := by
  unfold carriedByte; split <;> rfl

/-- The restore policy a request leaves, if its byte has a code. -/
def restoreResult (old : RestorePolicy) (b : Byte) : Option RestorePolicy :=
  match carriedByte b with
  | none => some old
  | some n => restoreOf n

theorem restoreOf_eq_some_iff (n : Nat) (p : RestorePolicy) :
    restoreOf n = some p ↔ n = 0 ∧ p = .resume ∨ n = 1 ∧ p = .stayOff := by
  match n with
  | 0 => simp [restoreOf, eq_comm]
  | 1 => simp [restoreOf, eq_comm]
  | n + 2 => simp [restoreOf]

theorem restoreResult_iff (old p : RestorePolicy) (b : Byte) : restoreResult old b = some p ↔
    b = 0xFE ∧ p = old ∨ b = 0 ∧ p = .resume ∨ b = 1 ∧ p = .stayOff := by
  have h0 : b.toNat = 0 ↔ b = 0 := by rw [← BitVec.toNat_inj]; rfl
  have h1 : b.toNat = 1 ↔ b = 1 := by rw [← BitVec.toNat_inj]; rfl
  unfold restoreResult
  by_cases h : b = 0xFE
  · rw [carriedByte_of_eq h]
    subst h
    simp [eq_comm]
  · rw [carriedByte_of_ne h]
    simp only [restoreOf_eq_some_iff, h0, h1, h, false_and, false_or]

/-- The settings that the fields of a request give, once the restore policy has a code. -/
def fieldsGiven (old : Settings) (f : SettingFields) (table : Option (List PointFields)) (restore : RestorePolicy) : Settings :=
  { qrated := if f.qrated = 0x7FFE then old.qrated else f.qrated.toNat
    qmax := if f.qmax = 0x7FFE then old.qmax else f.qmax.toNat
    qsysMin := if f.qsysMin = 0x7FFE then old.qsysMin else f.qsysMin.toNat
    minHold := if f.minHold = 0xFE then old.minHold else f.minHold.toNat
    releaseTime := if f.releaseTime = 0xFE then old.releaseTime else f.releaseTime.toNat
    restTime := if f.restTime = 0xFE then old.restTime else f.restTime.toNat
    maxWait := if f.maxWait = 0xFE then old.maxWait else f.maxWait.toNat
    pressureCap := if f.pressureCap = 0xFE then old.pressureCap else f.pressureCap.toNat
    restorePolicy := restore
    ambientGate := gateOf old.ambientGate f.ambientGate
    supplyLow := if f.supplyLow = 0xFE then old.supplyLow else f.supplyLow.toNat
    breakLength := if f.breakLength = 0xFE then old.breakLength else f.breakLength.toNat
    buttonHold := if f.buttonHold = 0xFE then old.buttonHold else f.buttonHold.toNat
    table := match table with | none => old.table | some t => tableOf t }

theorem configSystemResult_iff (old c : Settings) (f : SettingFields) (table : Option (List PointFields)) :
    configSystemResult old f table = some c ↔
      ∃ restore, restoreResult old.restorePolicy f.restorePolicy = some restore ∧
        c = fieldsGiven old f table restore ∧ settingsGood c = true := by
  unfold configSystemResult
  simp only [orInForce_carriedWord, orInForce_carriedByte]
  show (match restoreResult old.restorePolicy f.restorePolicy with
    | none => none
    | some restore =>
      if settingsGood (fieldsGiven old f table restore) then some (fieldsGiven old f table restore) else none) = _ ↔ _
  cases restoreResult old.restorePolicy f.restorePolicy with
  | none => simp
  | some restore =>
    simp only [Option.some.injEq, exists_eq_left']
    constructor
    · intro h
      obtain ⟨hg, hc⟩ := Option.ite_none_right_eq_some.mp h
      cases hc
      exact ⟨rfl, hg⟩
    · rintro ⟨rfl, hg⟩
      exact if_pos hg

/-- CONFIG_SYSTEM is accepted exactly where the settings it gives are in their ranges (12 R175). -/
theorem configSystemResult_some_iff (old c : Settings) (f : SettingFields) (table : Option (List PointFields)) :
    configSystemResult old f table = some c ↔
      restoreResult old.restorePolicy f.restorePolicy = some c.restorePolicy ∧
        c = fieldsGiven old f table c.restorePolicy ∧ settingsGood c = true := by
  rw [configSystemResult_iff]
  constructor
  · rintro ⟨restore, hr, rfl, hg⟩; exact ⟨hr, rfl, hg⟩
  · rintro ⟨hr, hc, hg⟩; exact ⟨_, hr, hc, hg⟩

/-! ### The effects of CONFIG_SYSTEM (07 R109, R120; 10 R157) -/

/-- The blower that new settings leave, before its goal is put in force anew. -/
theorem reconfigure_eq (old new : Settings) (b : Blower) :
    let bounds := decide (old.qmax ≠ new.qmax ∨ old.qsysMin ≠ new.qsysMin)
    let times := bounds || decide (old.pressureCap ≠ new.pressureCap)
    b.reconfigure old new =
      { b with
        qhi := if bounds then new.qmax else b.qhi, capped := !bounds && b.capped
        aboveFrom := if times then none else b.aboveFrom, belowFrom := if times then none else b.belowFrom } := by
  unfold Blower.reconfigure
  by_cases hb : old.qmax ≠ new.qmax ∨ old.qsysMin ≠ new.qsysMin
  · have ht : old.qmax ≠ new.qmax ∨ old.qsysMin ≠ new.qsysMin ∨ old.pressureCap ≠ new.pressureCap := by tauto
    simp only [if_pos hb, if_pos ht, decide_eq_true hb, Bool.true_or, Bool.not_true, Bool.false_and, ↓reduceIte]
  · by_cases hp : old.pressureCap ≠ new.pressureCap
    · have ht : old.qmax ≠ new.qmax ∨ old.qsysMin ≠ new.qsysMin ∨ old.pressureCap ≠ new.pressureCap := by tauto
      simp only [if_neg hb, if_pos ht, decide_eq_false hb, decide_eq_true hp, Bool.false_or, Bool.not_false, Bool.true_and,
        ↓reduceIte, Bool.false_eq_true]
    · have ht : ¬(old.qmax ≠ new.qmax ∨ old.qsysMin ≠ new.qsysMin ∨ old.pressureCap ≠ new.pressureCap) := by tauto
      simp only [if_neg hb, if_neg ht, decide_eq_false hb, decide_eq_false hp, Bool.false_or, Bool.not_false, Bool.true_and,
        Bool.false_eq_true, ↓reduceIte]

/-- A new table leaves the pressure times as they are. -/
theorem newTable_times (now : Nat) (table : List BlowerPoint) (b : Blower) :
    (b.newTable now table).aboveFrom = b.aboveFrom ∧ (b.newTable now table).belowFrom = b.belowFrom := by
  unfold Blower.newTable; split <;> exact ⟨rfl, rfl⟩

/-- A new table puts the goal in force anew where its speed goal or expected speed changes, RUN becoming RAMP (07 R109). -/
theorem newTable_put (now : Nat) (table : List BlowerPoint) (b : Blower) :
    if tableOfGoal table b.goal = (b.speedGoal, b.expected) then b.newTable now table = b
    else GoalPut now table b.goal { b with state := if b.state = .run then .ramp else b.state } (b.newTable now table) := by
  unfold Blower.newTable
  split
  · rfl
  · exact GoalPut.setGoal _ _ _ _

/-- The settings that CONFIG_SYSTEM puts in force, record by record. -/
theorem applySettings_eq (c : Settings) (s : State) : applySettings c s =
    { s with
      cfg := c, blower := (s.blower.reconfigure s.cfg c).newTable s.now c.table
      prot := { s.prot with
        lowFrom := if c.supplyLow = s.cfg.supplyLow then s.prot.lowFrom else none
        highFrom := if c.supplyLow = s.cfg.supplyLow then s.prot.highFrom else none } } := by
  unfold applySettings
  dsimp only
  split <;> rfl

/-- A time that runs while its condition holds, as the condition stands. -/
theorem runWhile_true (now : Nat) (t : Option Nat) : runWhile true now t = some (t.getD now) := rfl

theorem runWhile_false (now : Nat) (t : Option Nat) : runWhile false now t = none := rfl

/-- The pressure times at the end of a command. -/
theorem sync_pressure (s : State) :
    (sync s).blower.aboveFrom = runWhile (s.blower.aboveCap s.cfg.pressureCap) s.now s.blower.aboveFrom ∧
      (sync s).blower.belowFrom = runWhile (s.blower.belowRelief s.cfg.pressureCap) s.now s.blower.belowFrom := by
  have h : (sync s).blower = s.blower.syncPressure s.now s.cfg.pressureCap := by
    unfold sync; dsimp only
    obtain ⟨o, ho, -⟩ := standDown_eq (syncStartFail (syncWatches { s with blower := s.blower.syncPressure s.now s.cfg.pressureCap }))
    obtain ⟨q, hq, -⟩ := syncStartFail_eq (syncWatches { s with blower := s.blower.syncPressure s.now s.cfg.pressureCap })
    rw [ho, hq]; rfl
  rw [h]; exact ⟨rfl, rfl⟩

theorem sync_aboveCap (s : State) :
    (sync s).blower.aboveCap (sync s).cfg.pressureCap = s.blower.aboveCap s.cfg.pressureCap := by
  obtain ⟨a, b, h⟩ := sync_blower s
  rw [h, sync_cfg]; rfl

theorem sync_belowRelief (s : State) :
    (sync s).blower.belowRelief (sync s).cfg.pressureCap = s.blower.belowRelief s.cfg.pressureCap := by
  obtain ⟨a, b, h⟩ := sync_blower s
  rw [h, sync_cfg]; rfl

/-- The blower that CONFIG_SYSTEM leaves, whatever its pressure times. -/
theorem newTable_reconfigure_put (now : Nat) (old new : Settings) (b : Blower) (above below : Option Nat) :
    let bounds := decide (old.qmax ≠ new.qmax ∨ old.qsysMin ≠ new.qsysMin)
    let base := { b with qhi := if bounds then new.qmax else b.qhi, capped := !bounds && b.capped }
    let c : Blower := { (b.reconfigure old new).newTable now new.table with aboveFrom := above, belowFrom := below }
    if tableOfGoal new.table b.goal = (b.speedGoal, b.expected) then
      { c with aboveFrom := b.aboveFrom, belowFrom := b.belowFrom } = base
    else GoalPut now new.table b.goal { base with state := if base.state = .run then .ramp else base.state } c := by
  have hput := newTable_put now new.table (b.reconfigure old new)
  dsimp only
  rw [reconfigure_eq] at hput ⊢
  dsimp only at hput
  split
  · next h => rw [if_pos h] at hput; rw [hput]
  · next h => rw [if_neg h] at hput; exact (hput.times above below).fromTimes

/-- The start of a pressure time that CONFIG_SYSTEM leaves, once its condition holds. -/
theorem newTable_reconfigure_time (now : Nat) (old new : Settings) (b : Blower) :
    let times := decide (old.qmax ≠ new.qmax ∨ old.qsysMin ≠ new.qsysMin) || decide (old.pressureCap ≠ new.pressureCap)
    ((b.reconfigure old new).newTable now new.table).aboveFrom.getD now = (if times then now else b.aboveFrom.getD now) ∧
      ((b.reconfigure old new).newTable now new.table).belowFrom.getD now =
        (if times then now else b.belowFrom.getD now) := by
  obtain ⟨habove, hbelow⟩ := newTable_times now new.table (b.reconfigure old new)
  rw [habove, hbelow, reconfigure_eq]
  dsimp only
  constructor <;> split <;> rfl

/-- Settles O22: the checks by the fields a request gives and their ranges, the effects record by record, and the times by their renewal
at the end of the command. -/
theorem configSystemChecksAndWrites : Obligations.ConfigSystemChecksAndWrites := by
  unfold Obligations.ConfigSystemChecksAndWrites
  constructor
  · intro old c f table
    rw [configSystemResult_some_iff, settingsGood_iff, restoreResult_iff, ← and_assoc]
    refine and_congr ?_ Iff.rfl
    obtain ⟨x1, x2, x3, x4, x5, x6, x7, x8, x9, x10, x11, x12, x13, x14⟩ := c
    simp only [fieldsGiven, gateOf, Settings.mk.injEq]
    constructor
    · rintro ⟨hr, h1, h2, h3, h4, h5, h6, h7, h8, -, h10, h11, h12, h13, h14⟩
      exact ⟨h1, h2, h3, h4, h5, h6, h7, h8, hr, h10, h11, h12, h13, h14⟩
    · rintro ⟨h1, h2, h3, h4, h5, h6, h7, h8, hr, h10, h11, h12, h13, h14⟩
      exact ⟨hr, h1, h2, h3, h4, h5, h6, h7, h8, trivial, h10, h11, h12, h13, h14⟩
  · intro s f table c hcalm hidle hawake hc
    let r := Request.configSystem f table
    let u : State := requestPass (applySettings c (toStage r .replying s))
    have hu : u = { toStage r .replying s with
        cfg := c, eval := { s.eval with early := true }
        blower := (s.blower.reconfigure s.cfg c).newTable s.now c.table
        prot := { s.prot with
          lowFrom := if c.supplyLow = s.cfg.supplyLow then s.prot.lowFrom else none
          highFrom := if c.supplyLow = s.cfg.supplyLow then s.prot.highFrom else none } } := by
      show requestPass (applySettings c (toStage r .replying s)) = _
      rw [applySettings_eq]; rfl
    have hawake' : Awake u := by rw [hu]; exact hawake
    have hperform : perform r (toStage r .replying s) =
        { wakeIfOn u with port := (answered s r .ok (settingsBody c)).port } := by
      show doConfigSystem f table _ = _
      unfold doConfigSystem
      rw [show configSystemResult (toStage r .replying s).cfg f table = some c from hc]
      exact handReply_of_port hidle r .ok _ ((wakeIfOn_awake_port hawake').trans (by rw [hu]))
        ((wakeIfOn_awake_now hawake').trans (by rw [hu]; rfl))
    obtain ⟨w1, w2, w3, w4, hw⟩ := wakeIfOn_awake hawake'
    rw [hw, hu] at hperform
    have hexec : exec (.configSystem f table) s = .next (sync (perform r (toStage r .replying s))) := by
      show Host.Outcome.next (finish (offer r s)) = _
      rw [offer_free hidle.1, hperform]
      exact congrArg _ (finish_calm hcalm)
    have hframe : (sync (perform r (toStage r .replying s))).timeless = (perform r (toStage r .replying s)).timeless :=
      timeless_sync _
    rw [hperform] at hexec hframe
    clear hperform hu hawake'
    refine ⟨_, hexec, by rw [sync_cfg], by rw [sync_eval], ?_, ?_, ?_, ?_, ?_, by rw [sync_prot_lowFrom]; simp,
      by rw [sync_prot_highFrom]; simp, by rw [sync_port], ?_⟩
    · obtain ⟨above, below, hblower⟩ := sync_blower _
      rw [hblower]
      exact newTable_reconfigure_put s.now s.cfg c s.blower above below
    · intro habove
      rw [← aboveCap_iff, sync_aboveCap] at habove
      rw [(sync_pressure _).1, habove, runWhile_true]
      exact congrArg some (newTable_reconfigure_time s.now s.cfg c s.blower).1
    · intro habove
      rw [← aboveCap_iff, sync_aboveCap, Bool.not_eq_true] at habove
      rw [(sync_pressure _).1, habove, runWhile_false]
    · intro hbelow
      rw [← belowRelief_iff, sync_belowRelief] at hbelow
      rw [(sync_pressure _).2, hbelow, runWhile_true]
      exact congrArg some (newTable_reconfigure_time s.now s.cfg c s.blower).2
    · intro hbelow
      rw [← belowRelief_iff, sync_belowRelief, Bool.not_eq_true] at hbelow
      rw [(sync_pressure _).2, hbelow, runWhile_false]
    · have hrest := congrArg (fun x : State =>
        ({ x with cfg := s.cfg, eval := s.eval, blower := s.blower, port := s.port
                  prot := { x.prot with lowFrom := s.prot.lowFrom, highFrom := s.prot.highFrom } } : State).timeless) hframe
      exact hrest

end Sys2Proof.Machine
end

section
/-! SET_SYSTEM (12 R174, R177): the values in force, the auto-save, and a change of the operating request (11 R163, 09 R137, R142). -/

namespace Sys2Proof.Machine

/-! ### Values with codes -/

/-- A field of a SET_SYSTEM request reads as no value, or as the value its code names. -/
def ReadsAs {α : Type} (codes : Nat → Option α) (b : Byte) (o : Option α) : Prop :=
  carriedByte b = none ∧ o = none ∨ ∃ n x, carriedByte b = some n ∧ codes n = some x ∧ o = some x

theorem systemValues_of_reads {request policy frost : Byte} {r : Option OpRequest} {p : Option Policy} {f : Option Bool}
    (hr : ReadsAs requestOf request r) (hp : ReadsAs policyOf policy p) (hf : ReadsAs frostOf frost f) :
    systemValues request policy frost = some (r, p, f) := by
  unfold systemValues
  rcases hr with ⟨hr, rfl⟩ | ⟨_, _, hr, hr', rfl⟩ <;> rcases hp with ⟨hp, rfl⟩ | ⟨_, _, hp, hp', rfl⟩ <;>
    rcases hf with ⟨hf, rfl⟩ | ⟨_, _, hf, hf', rfl⟩ <;> simp [*]

theorem readsAs_none {α : Type} (codes : Nat → Option α) : ReadsAs codes 0xFE none := .inl ⟨rfl, rfl⟩

theorem readsAs_some {α : Type} {codes : Nat → Option α} {b : Byte} {x : α} (h : codes b.toNat = some x) (hb : b ≠ 0xFE) :
    ReadsAs codes b (some x) := .inr ⟨_, _, carriedByte_of_ne hb, h, rfl⟩

/-- A field that is unchanged or carries a code gives the value in force after it. -/
theorem readsAs_inForce {α : Type} {codes : Nat → Option α} {b : Byte} {old x : α} (hnone : codes 254 = none)
    (h : b = 0xFE ∧ x = old ∨ codes b.toNat = some x) : ∃ o, ReadsAs codes b o ∧ o.getD old = x := by
  rcases h with ⟨rfl, rfl⟩ | h
  · exact ⟨none, readsAs_none codes, rfl⟩
  · refine ⟨some x, readsAs_some h ?_, rfl⟩
    rintro rfl
    have : codes 254 = some x := h
    rw [hnone] at this; cases this

theorem readsAs_request (new : OpRequest) : ReadsAs requestOf (byte new.code) (some new) := by
  cases new <;> exact readsAs_some rfl (by decide)

theorem readsAs_policy (p : Policy) : ReadsAs policyOf (byte p.code) (some p) := by
  cases p <;> exact readsAs_some rfl (by decide)

theorem readsAs_frost (f : Bool) : ReadsAs frostOf (flagByte f) (some f) := by
  cases f <;> exact readsAs_some rfl (by decide)

theorem ReadsAs.bind {α : Type} {codes : Nat → Option α} {b : Byte} {o : Option α} (h : ReadsAs codes b o) :
    (carriedByte b).bind codes = o := by
  rcases h with ⟨h, rfl⟩ | ⟨n, x, h, hx, rfl⟩
  · rw [h]; rfl
  · rw [h]; exact hx

/-- A SET_SYSTEM that is not refused writes its values and is answered with those in force (12 R174). -/
theorem perform_setSystem {request policy frost : Byte} {r : Option OpRequest} {p : Option Policy} {f : Option Bool}
    (hr : ReadsAs requestOf request r) (hp : ReadsAs policyOf policy p) (hf : ReadsAs frostOf frost f) (s : State)
    (hheat : p = some .heat → s.eval.hpCapable = true) :
    perform (.setSystem request policy frost) s =
      accept (.setSystem request policy frost)
        (operatingBody (writeSystem r (p.getD s.op.policy) (f.getD s.op.frost) s))
        (writeSystem r (p.getD s.op.policy) (f.getD s.op.frost) s) := by
  have hno : ¬((carriedByte policy).bind policyOf = some .heat ∧ s.eval.hpCapable = false) := by
    rintro ⟨h, hc⟩
    rw [hp.bind] at h
    rw [hheat h] at hc; cases hc
  show doSetSystem request policy frost s = _
  unfold doSetSystem
  dsimp only
  rw [if_neg hno, systemValues_of_reads hr hp hf]

/-! ### The auto-save (12 R177) -/

/-- The store that a request for an auto-save leaves. -/
def saved (s : State) : Store :=
  if s.store.writer = .idle then
    { s.store with writer := .auto (autoImage s).1 (autoImage s).2 s.now, autoPending := false }
  else { s.store with autoPending := true }

theorem autoSave_eq (s : State) : autoSave s = { s with store := saved s } := by
  unfold autoSave startAutoSave saved
  by_cases h : s.store.writer = .idle
  · rw [if_pos ⟨h, rfl⟩, if_pos h]; rfl
  · rw [if_neg (fun hh => h hh.1), if_neg h]

theorem autoImage_partial {s : State} {i : Image} (hi : s.store.image = some i) (hd : s.store.defaulted = false) :
    autoImage s = ({ i with request := s.op.request, policy := s.op.policy }, false) := by
  simp [autoImage, hi, hd]

theorem autoImage_whole {s : State} (h : s.store.image = none ∨ s.store.defaulted = true) :
    autoImage s = (imageInForce s, true) := by
  unfold autoImage
  rcases h with h | h
  · rw [h]
  · split
    · rw [if_pos h]
    · rfl

/-! ### Policy and frost protection -/

/-- A SET_SYSTEM without a request changes the policy and frost protection in force, and saves a changed policy. -/
theorem writeSystem_policy {s : State} (h : Awake s) (p : Policy) (f : Bool) : ∃ a b c d, writeSystem none p f s =
    { s with
      op := { s.op with policy := p, frost := f, idleFrom := a, idleDone := b, notice := c, noticeFrom := d }
      store := if p = s.op.policy then s.store else saved { s with op := { s.op with policy := p, frost := f } }
      eval := { s.eval with early := s.eval.early || decide (p ≠ s.op.policy ∨ f ≠ s.op.frost) } } := by
  unfold writeSystem
  dsimp only
  simp only [Option.any_none, Bool.not_false, Bool.and_true, decide_eq_true_eq, autoSave_eq]
  by_cases hp : p = s.op.policy
  · rw [if_neg (not_not.2 hp), if_pos hp]
    by_cases hf : f = s.op.frost
    · have hno : (decide (p ≠ s.op.policy) || decide (f ≠ s.op.frost)) = false := by simp [hp, hf]
      have hno' : decide (p ≠ s.op.policy ∨ f ≠ s.op.frost) = false := by simp [hp, hf]
      rw [hno, hno', Bool.or_false]
      exact ⟨_, _, _, _, rfl⟩
    · have hyes : (decide (p ≠ s.op.policy) || decide (f ≠ s.op.frost)) = true := by simp [hf]
      have hyes' : decide (p ≠ s.op.policy ∨ f ≠ s.op.frost) = true := by simp [hf]
      rw [hyes, hyes', Bool.or_true, if_pos rfl]
      obtain ⟨a, b, c, d, hw⟩ := wakeIfOn_awake (s := requestPass (putPolicy p f s)) h
      exact ⟨a, b, c, d, hw⟩
  · have hyes : (decide (p ≠ s.op.policy) || decide (f ≠ s.op.frost)) = true := by simp [hp]
    have hyes' : decide (p ≠ s.op.policy ∨ f ≠ s.op.frost) = true := by simp [hp]
    rw [if_pos hp, if_neg hp, hyes, hyes', Bool.or_true, if_pos rfl]
    obtain ⟨a, b, c, d, hw⟩ :=
      wakeIfOn_awake (s := requestPass { putPolicy p f s with store := saved (putPolicy p f s) }) h
    exact ⟨a, b, c, d, hw⟩

/-! ### A changed request -/

/-- Whether the compressor runs outside a defrost. -/
def Runs (q : SeqState) : Bool := decide (q = .running) || decide (q = .stopWait)

/-- The release's capacity taken as 0 stops a compressor that runs outside a defrost at once, and starts none (09 R137, R142). -/
theorem releaseOff_eq {s : State} (hd : s.seq.state.defrosting = false) (hw : s.seq.state ≠ .waitStart) :
    ∃ from_, releaseOff s = { s with seq :=
      { s.seq with
        release := s.seq.release.map fun r => { r with c := 0 }
        state := if Runs s.seq.state then .stopWait else s.seq.state
        stopSent := Runs s.seq.state || s.seq.stopSent, startFailFrom := from_ } } := by
  have hwanted : ∀ release : Option Release, wantedOf (release.map fun r => { r with c := 0 }) s.prot.limit = 0 := by
    intro release; cases release <;> simp [wantedOf]
  unfold releaseOff immediateStop
  cases hq : s.seq.state with
  | running => exact ⟨none, by simp [followWanted, stopWait, Runs, hq]⟩
  | stopWait => exact ⟨none, by simp [followWanted, stopWait, Runs, hq]⟩
  | stopped =>
    refine ⟨s.seq.startFailFrom, ?_⟩
    simp [followWanted, restState, wanted, hwanted, seqTo, Runs, hq]
  | waitStart => exact absurd hq hw
  | tripped => exact ⟨s.seq.startFailFrom, by simp [followWanted, Runs, hq]⟩
  | lockout => exact ⟨s.seq.startFailFrom, by simp [followWanted, Runs, hq]⟩
  | defrostPrep => rw [hq] at hd; cases hd
  | defrostActive => rw [hq] at hd; cases hd
  | defrostRecovery => rw [hq] at hd; cases hd

/-- A change of operating state that does not leave RESTING. -/
theorem changeOp_eq {s : State} (h : s.op.state ≠ .resting) (new : OpState) (cause : StateCause) : ∃ p, changeOp new cause s =
    { s with
      op := { s.op with state := new }, port := p
      eval := { s.eval with early := s.eval.early || decide (new ≠ s.op.state) } } := by
  unfold changeOp
  dsimp only
  by_cases hn : new = s.op.state
  · rw [if_pos hn]
    refine ⟨s.port, ?_⟩
    subst hn
    simp
  · rw [if_neg hn, if_neg h]
    exact ⟨s.port.raise s.now (.state new s.op.state cause), by simp [requestPass, raise, hn]⟩

/-- A changed request in OFF or ON is saved, moves the operating state with it and asks for a pass; OFF takes the release as 0. -/
theorem writeRequest_eq {s : State} {new : OpRequest} (hn : new ≠ s.op.request) (ho : s.op.state = .on ∨ s.op.state = .off)
    (hd : s.seq.state.defrosting = false) (hw : s.seq.state ≠ .waitStart) (cause : StateCause) :
    ∃ p from_, writeRequest new cause s =
      { s with
        op := { s.op with request := new, state := opOf new }, port := p, eval := { s.eval with early := true }
        store := saved { s with op := { s.op with request := new } }
        seq := if new = .off then
            { s.seq with
              release := s.seq.release.map fun r => { r with c := 0 }
              state := if Runs s.seq.state then .stopWait else s.seq.state
              stopSent := Runs s.seq.state || s.seq.stopSent, startFailFrom := from_ }
          else s.seq } := by
  have hop : ∀ t : State, t.op.state = s.op.state → (match t.op.state with
      | .off => changeOp (opOf new) cause t
      | .on => changeOp (opOf new) cause t
      | .resting => wake t
      | .startup => t
      | .test => t) = changeOp (opOf new) cause t := by
    intro t ht
    rcases ho with ho | ho <;> rw [ht, ho]
  have hrest : ∀ t : State, t.op.state = s.op.state → t.op.state ≠ .resting := by
    intro t ht
    rcases ho with ho | ho <;> simp [ht, ho]
  unfold writeRequest
  rw [if_neg hn, autoSave_eq]
  generalize hu : requestPass { ({ s with op := { s.op with request := new } } : State) with
    store := saved { s with op := { s.op with request := new } } } = u
  cases new with
  | on =>
    simp only [reduceCtorEq, ↓reduceIte]
    have hstate : u.op.state = s.op.state := by rw [← hu]; rfl
    obtain ⟨p, hp⟩ := changeOp_eq (hrest u hstate) (opOf .on) cause
    refine ⟨p, none, (hop u hstate).trans (hp.trans ?_)⟩
    rw [← hu]; rfl
  | off =>
    obtain ⟨from_, hr⟩ := releaseOff_eq (s := u) (by rw [← hu]; exact hd) (by rw [← hu]; exact hw)
    have hstate : (releaseOff u).op.state = s.op.state := by rw [hr, ← hu]; rfl
    obtain ⟨p, hp⟩ := changeOp_eq (hrest _ hstate) (opOf .off) cause
    refine ⟨p, from_, (hop (releaseOff u) hstate).trans (hp.trans ?_)⟩
    rw [hr, ← hu]; rfl

/-- A request of the host that stands already changes nothing outside TEST and its preparation. -/
theorem hostRequest_same {s : State} {new : OpRequest} (hn : new = s.op.request) (ht : s.op.state ≠ .test)
    (hx : s.op.testPhase = .idle) : hostRequest new s = s := by
  unfold hostRequest endService
  rw [if_neg ht, if_neg ht, if_neg (not_not.2 hx)]
  dsimp only
  rw [if_neg (fun h => h.1 hn), writeRequest, if_pos hn]

/-- A request of the host outside TEST and its preparation is written, a notice perhaps withdrawn. -/
theorem hostRequest_notTest {s : State} (new : OpRequest) (ht : s.op.state ≠ .test)
    (hx : s.op.testPhase = .idle) : ∃ a b c d, hostRequest new s = writeRequest new .request
      { s with op := { s.op with idleFrom := a, idleDone := b, notice := c, noticeFrom := d } } := by
  unfold hostRequest endService
  rw [if_neg ht, if_neg ht, if_neg (not_not.2 hx)]
  dsimp only
  split <;> exact ⟨_, _, _, _, rfl⟩

theorem writeSystem_request (new : OpRequest) (s : State) :
    writeSystem (some new) s.op.policy s.op.frost s = hostRequest new s := by
  unfold writeSystem
  simp only [ne_eq, not_true_eq_false, decide_false, Bool.or_self, Bool.false_and, Bool.false_eq_true, ↓reduceIte]
  rfl

/-- The kept fields of a changed request are those of its save. -/
theorem kept_writeRequest {s : State} {new : OpRequest} (hn : new ≠ s.op.request) (cause : StateCause) :
    kept (writeRequest new cause s) =
      kept { s with op := { s.op with request := new }, store := saved { s with op := { s.op with request := new } } } := by
  unfold writeRequest
  rw [if_neg hn, autoSave_eq]
  split <;> dsimp only <;> split <;> simp only [kept_changeOp, kept_wake, kept_releaseOff, kept_requestPass]

theorem writeRequest_started {s : State} (h : s.op.state = .on ∨ s.op.state = .off) (new : OpRequest) (cause : StateCause) :
    (writeRequest new cause s).op.state ≠ .startup := by
  have hs : ∀ t : State, t.op.state = s.op.state → (match t.op.state with
      | .off => changeOp (opOf new) cause t
      | .on => changeOp (opOf new) cause t
      | .resting => wake t
      | .startup => t
      | .test => t).op.state ≠ .startup := by
    intro t ht
    rcases h with h | h <;> rw [ht, h] <;> dsimp only <;> rw [changeOp_state] <;> exact opOf_ne_startup new
  unfold writeRequest
  split
  · rcases h with h | h <;> rw [h] <;> decide
  · apply hs
    rw [op_ite, op_releaseOff, ite_self, autoSave_eq]
    rfl

/-- A changed request of the host with a policy and frost protection: the values in force and the store at the end of the command. -/
theorem setSystem_kept {s : State} {new : OpRequest} (hx : s.op.testPhase = .idle)
    (ho : s.op.state = .on ∨ s.op.state = .off) (hn : new ≠ s.op.request) (p : Policy) (f : Bool) :
    let t := writeSystem (some new) p f s
    t.op.state ≠ .startup ∧ t.op.request = new ∧ t.op.policy = p ∧ t.op.frost = f ∧
      t.store = saved { s with op := { s.op with request := new, policy := p, frost := f } } := by
  have htest : (putPolicy p f s).op.state ≠ .test := by
    show s.op.state ≠ .test
    rcases ho with ho | ho <;> rw [ho] <;> decide
  obtain ⟨a, b, c, d, hw⟩ := hostRequest_notTest (s := putPolicy p f s) new htest hx
  have hasked : (some new).any (fun x => decide (x ≠ s.op.request)) = true := by simpa using hn
  have hkept := kept_writeRequest (s := { putPolicy p f s with
    op := { (putPolicy p f s).op with idleFrom := a, idleDone := b, notice := c, noticeFrom := d } }) hn .request
  have hstart := writeRequest_started (s := { putPolicy p f s with
    op := { (putPolicy p f s).op with idleFrom := a, idleDone := b, notice := c, noticeFrom := d } }) ho new .request
  rw [← hw] at hkept hstart
  have hfields : ∀ t : State, kept t = kept (hostRequest new (putPolicy p f s)) → t.op.request = new ∧ t.op.policy = p ∧
      t.op.frost = f ∧ t.store = saved { s with op := { s.op with request := new, policy := p, frost := f } } := by
    intro t ht
    have h := ht.trans hkept
    exact ⟨congrArg Kept.request h, congrArg Kept.policy h, congrArg Kept.frost h, congrArg Kept.store h⟩
  unfold writeSystem
  dsimp only
  rw [hasked]
  simp only [Bool.not_true, Bool.and_false, Bool.false_eq_true, ↓reduceIte]
  split
  · refine ⟨?_, hfields _ (by rw [kept_wakeIfOn, kept_requestPass])⟩
    unfold wakeIfOn
    split
    · exact wakeEvent_started hstart
    · exact hstart
  · exact ⟨hstart, hfields _ rfl⟩

/-- In a calm state OFF or ON outside a defrost, a SET_SYSTEM of the request ends calm, with the change of R163 and R137. -/
theorem setSystem_request {s : State} (hc : Calm s) (ho : s.op.state = .on ∨ s.op.state = .off)
    (hd : s.seq.state.defrosting = false) (new : OpRequest) :
    let changes := decide (new ≠ s.op.request)
    let stops := changes && decide (new = .off)
    let running := decide (s.seq.state = .running) || decide (s.seq.state = .stopWait)
    let t := writeSystem (some new) s.op.policy s.op.frost s
    Calm t ∧ t.op.request = new ∧ t.op.state = (if changes then (if new = .on then .on else .off) else s.op.state) ∧
      t.op.policy = s.op.policy ∧ t.op.frost = s.op.frost ∧ t.eval.early = (s.eval.early || changes) ∧
      t.seq.release = (if stops then s.seq.release.map (fun r => { r with c := 0 }) else s.seq.release) ∧
      t.seq.state = (if stops && running then .stopWait else s.seq.state) ∧
      t.seq.stopSent = ((stops && running) || s.seq.stopSent) ∧
      ({ t with port := s.port, op := s.op, seq := s.seq, eval := s.eval, store := s.store } : State) = s := by
  obtain ⟨⟨ht, hp, hi, hh, hs, hx, hr, hl⟩, hq, hw⟩ := hc
  have htest : s.op.state ≠ .test := by rcases ho with ho | ho <;> rw [ho] <;> decide
  have hopOf : opOf new = if new = .on then .on else .off := by cases new <;> rfl
  dsimp only
  rw [writeSystem_request]
  by_cases hn : new = s.op.request
  · rw [hostRequest_same hn htest hx]
    subst hn
    simp only [ne_eq, not_true_eq_false, decide_false, Bool.false_and, Bool.or_false, Bool.false_or, Bool.false_eq_true,
      ↓reduceIte, and_true]
    exact ⟨⟨ht, hp, hi, hh, hs, hx, hr, hl⟩, hq, hw⟩
  · obtain ⟨a, b, c, d, hreq⟩ := hostRequest_notTest new htest hx
    obtain ⟨port, from_, hwrite⟩ := writeRequest_eq (s := { s with
      op := { s.op with idleFrom := a, idleDone := b, notice := c, noticeFrom := d } }) hn ho hd hw .request
    rw [hreq, hwrite]
    simp only [ne_eq, hn, not_false_eq_true, decide_true, Bool.true_and, Bool.or_true, ↓reduceIte, true_and]
    cases new with
    | on =>
      simp only [reduceCtorEq, decide_false, Bool.false_and, Bool.false_or, Bool.false_eq_true, ↓reduceIte, and_true]
      exact ⟨⟨⟨ht, hp, hi, hh, by simp [opOf], hx, hr, hl⟩, hq, hw⟩, rfl⟩
    | off =>
      simp only [reduceCtorEq, decide_true, Bool.true_and, ↓reduceIte, and_true, Runs]
      have hseq : (if (decide (s.seq.state = .running) || decide (s.seq.state = .stopWait)) = true then SeqState.stopWait
          else s.seq.state) ≠ .waitStart := by
        split
        · decide
        · exact hw
      exact ⟨⟨⟨ht, hp, hi, hh, by simp [opOf], hx, hr, hl⟩, hq, hseq⟩, rfl, trivial, rfl⟩

/-- Settles O19: policy and frost protection by the write they make, a changed request by the change of state and the stop it makes, and
the image by the two kinds of auto-save. -/
theorem setSystemWrites : Obligations.SetSystemWrites := by
  unfold Obligations.SetSystemWrites
  refine ⟨?_, ?_, ?_⟩
  · intro s policy frost p f hcalm hidle hawake hpolicy hfrost hheat
    obtain ⟨po, hpo, rfl⟩ := readsAs_inForce rfl hpolicy
    obtain ⟨fo, hfo, rfl⟩ := readsAs_inForce rfl hfrost
    have hcap : po = some .heat → s.eval.hpCapable = true := by
      rintro rfl
      rcases hpo with ⟨-, h⟩ | ⟨n, x, hn, hx, h⟩
      · cases h
      · obtain rfl := Option.some.inj h
        unfold carriedByte at hn
        split at hn
        · cases hn
        · obtain rfl := Option.some.inj hn
          exact hheat (BitVec.eq_of_toNat_eq (policyOf_heat hx))
    let r := Request.setSystem 0xFE policy frost
    obtain ⟨a, b, c, d, hw⟩ := writeSystem_policy (s := toStage r .replying s) hawake (po.getD s.op.policy) (fo.getD s.op.frost)
    have hperform := perform_setSystem (readsAs_none requestOf) hpo hfo (toStage r .replying s) hcap
    have hexec : exec (.setSystem 0xFE policy frost) s = .next (finish (perform r (toStage r .replying s))) :=
      congrArg (fun t => Host.Outcome.next (finish t)) (offer_free hidle.1 r)
    refine ⟨_, hexec, ?_⟩
    have hreply := handReply_of_port hidle r .ok
      (operatingBody (writeSystem none (po.getD s.op.policy) (fo.getD s.op.frost) (toStage r .replying s)))
      (u := writeSystem none (po.getD s.op.policy) (fo.getD s.op.frost) (toStage r .replying s))
      (by rw [hw]) (by rw [hw]; rfl)
    have hfinal := hperform.trans hreply
    rw [hw] at hfinal
    rw [hfinal]
    exact timeless_finish_calm hcalm
  · intro s new hcalm hfree ho
    refine ⟨fun hd => ?_, fun p f hchanges hheat => ?_⟩
    · let r := Request.setSystem (byte new.code) 0xFE 0xFE
      obtain ⟨hc, hrequest, hstate, hpolicy, hfrost, hearly, hrelease, hseq, hsent, hrest⟩ :=
        setSystem_request (s := toStage r .replying s) hcalm ho hd new
      have hperform := perform_setSystem (readsAs_request new) (readsAs_none policyOf) (readsAs_none frostOf)
        (toStage r .replying s) (fun h => by cases h)
      have hexec : exec (.setSystem (byte new.code) 0xFE 0xFE) s = .next (finish (perform r (toStage r .replying s))) :=
        congrArg (fun t => Host.Outcome.next (finish t)) (offer_free hfree r)
      rw [hperform] at hexec
      simp only [Option.getD_none] at hexec
      generalize writeSystem (some new) (toStage r .replying s).op.policy (toStage r .replying s).op.frost
        (toStage r .replying s) = u at *
      have hsync : finish (accept r (operatingBody u) u) = sync (accept r (operatingBody u) u) := finish_calm hc
      rw [hsync] at hexec
      refine ⟨_, hexec, ?_, ?_, ?_, ?_, ?_, ?_, ?_, ?_, ?_⟩
      · rw [sync_op_request]; exact hrequest
      · rw [sync_op_state]; exact hstate
      · rw [sync_op_policy]; exact hpolicy
      · rw [sync_op_frost]; exact hfrost
      · rw [sync_eval]; exact hearly
      · rw [sync_seq_release]; exact hrelease
      · rw [sync_seq_state]; exact hseq
      · rw [sync_seq_stopSent]; exact hsent
      · have hframe := congrArg (fun x : State =>
          ({ x with port := s.port, op := s.op, seq := s.seq, eval := s.eval, store := s.store } : State).timeless)
          (timeless_sync (accept r (operatingBody u) u))
        have hback := congrArg (fun x : State => ({ x with port := s.port } : State).timeless) hrest
        exact hframe.trans hback
    · let r := Request.setSystem (byte new.code) (byte p.code) (flagByte f)
      have hn : new ≠ s.op.request := of_decide_eq_true hchanges
      obtain ⟨hstart, hrequest, hpolicy, hfrost, hstore⟩ :=
        setSystem_kept (s := toStage r .replying s) hcalm.1.2.2.2.2.2.1 ho hn p f
      have hperform := perform_setSystem (readsAs_request new) (readsAs_policy p) (readsAs_frost f)
        (toStage r .replying s) (fun h => hheat (Option.some.inj h))
      have hexec : exec (.setSystem (byte new.code) (byte p.code) (flagByte f)) s =
          .next (finish (perform r (toStage r .replying s))) :=
        congrArg (fun t => Host.Outcome.next (finish t)) (offer_free hfree r)
      rw [hperform] at hexec
      simp only [Option.getD_some] at hexec
      generalize writeSystem (some new) p f (toStage r .replying s) = u at *
      have hkept : kept (finish (accept r (operatingBody u) u)) = kept (accept r (operatingBody u) u) :=
        kept_finish_started hstart
      refine ⟨_, hexec, (congrArg Kept.request hkept).trans hrequest, (congrArg Kept.policy hkept).trans hpolicy,
        (congrArg Kept.frost hkept).trans hfrost, (congrArg Kept.store hkept).trans hstore⟩
  · intro s
    refine ⟨fun i hi hd => autoImage_partial hi hd, fun h => ?_⟩
    exact ⟨imageInForce s, autoImage_whole h, rfl, rfl, rfl, rfl, rfl, fun z => Eight.get_ofFn _ z⟩

end Sys2Proof.Machine
end

section
/-! The transmitter's choice between reply and reports (12 R172, R176), the zone sensing rows (01 R11 to R19), and the rows of the
writer and of the small requests (12 R177). -/

namespace Sys2Proof.Machine

/-! ### The transmitter -/

/-- A report is selected by its mask bit, DIAG_RESULT always. -/
theorem maskSelects_eq (mask : Word) (r : Report) :
    maskSelects mask r = (mask.getLsbD r.index || decide (r.index = 8)) := by
  cases r <;> simp [maskSelects, Report.index]

/-- The flags byte of a report carries REPORTS_DROPPED alone. -/
theorem flagsByte_report (dropped : Bool) : flagsByte false dropped = if dropped then 2 else 0 := by
  cases dropped <;> rfl

/-- A free transmitter sends the oldest report after a reply, and where no reply is ready. -/
theorem Port.pump_report {p : Port} {r : Report} {rest : List Report} (now : Nat) (h : p.tx = none)
    (hr : p.reports = r :: rest) (hc : p.lastSent = .reply ∨ p.reply = none) :
    p.pump now = { p with reports := rest, dropped := false }.send now false
      (hostFrame r.kind (flagsByte false p.dropped :: r.items)) := by
  have hsend : p.sendReport now = { p with reports := rest, dropped := false }.send now false
      (hostFrame r.kind (flagsByte false p.dropped :: r.items)) := by simp [Port.sendReport, hr]
  unfold Port.pump
  rw [if_neg (by simp [h])]
  by_cases hl : p.lastSent = .reply
  · rw [if_pos ⟨hl, by simp [hr]⟩, hsend]
  · have hn : p.reply = none := hc.resolve_left hl
    rw [if_neg (by simp [hl]), if_neg (by simp [hn]), hsend]

/-- A free transmitter sends the reply that is ready where no report waits, or the last frame was none. -/
theorem Port.pump_replyFirst {p : Port} {kind : Byte} {payload : List Byte} (now : Nat) (h : p.tx = none)
    (hk : p.reply = some (kind :: payload)) (hc : p.reports = [] ∨ p.lastSent ≠ .reply) :
    p.pump now = { p with reply := none }.send now true (hostFrame kind payload) := by
  unfold Port.pump
  rw [if_neg (by simp [h]), if_neg (by rintro ⟨h1, h2⟩; exact hc.elim h2 (· h1)), if_pos (by simp [hk])]
  simp [Port.sendReply, hk]

/-- The transmitter only takes reports out of the queue. -/
theorem Port.pump_reports_length (p : Port) (now : Nat) : (p.pump now).reports.length ≤ p.reports.length := by
  have hr : (p.sendReport now).reports.length ≤ p.reports.length := by
    unfold Port.sendReport; split
    · exact le_rfl
    · next h => simp [Port.send, h]
  unfold Port.pump
  split
  · exact le_rfl
  split
  · exact hr
  split
  · unfold Port.sendReply; split <;> exact le_rfl
  · exact hr

/-- Settles O28, by the transmitter's three choices and the report's two tests. -/
theorem transmitterAndReportQueue : Obligations.TransmitterAndReportQueue := by
  unfold Obligations.TransmitterAndReportQueue
  refine ⟨fun p now f r rest kind payload => ⟨fun h => Port.pump_busy now (by simp [h]), fun _ h2 h3 =>
    Port.pump_nothing now h2 h3, fun h1 h2 h3 => ?_, fun h1 h2 h3 => ?_⟩, fun s r => ?_⟩
  · rw [Port.pump_replyFirst now h1 h2 h3]; rfl
  · rw [Port.pump_report now h1 h2 h3, flagsByte_report]; rfl
  · have hsel := maskSelects_eq s.port.mask r
    refine ⟨fun h => raise_masked (hsel.trans h), fun h hl => ?_, fun h hl => ?_, fun hl => ?_, rfl⟩
    · simp only [raise, Port.raise, hsel.trans h, if_true, if_pos hl]
    · simp only [raise, Port.raise, hsel.trans h, if_true, if_neg (Nat.not_lt.2 hl)]
    · show (s.port.raise s.now r).reports.length ≤ 8
      unfold Port.raise
      split
      · split
        · refine (Port.pump_reports_length _ _).trans ?_
          simp only [List.length_append, List.length_singleton]; omega
        · exact hl
      · exact hl

/-! ### Zone sensing -/

/-- The effective temperature of a configured zone: measured in FRESH and STALE, else the return air. -/
theorem effOf_eq (state : SensorState) (temp air : Option Int) :
    effOf state temp air = if state = .fresh ∨ state = .stale then temp else air := by
  cases state <;> rfl

/-- Settles O29, by the sweep slot's and the conversion's own equations. -/
theorem sweepSlotsAndReturnAir : Obligations.SweepSlotsAndReturnAir := by
  unfold Obligations.SweepSlotsAndReturnAir
  refine fun s => ⟨fun h => ?_, fun reading => ⟨_, rfl, rfl, fun z => ?_, rfl⟩⟩
  · show execSweepSlotStart s = _
    have hz : (s.sens.nextSlot.val = 0) = (s.sens.nextSlot = 0) := by
      rw [← Fin.val_eq_zero_iff]
    simp only [execSweepSlotStart, if_pos h, beginSlot, sweepSlotMs, configured, hz]
    by_cases hu : stateOf s s.sens.nextSlot = .unused <;> simp [hu]
  · show (Eight.ofFn (renewEff s _)).get z = _
    rw [Eight.get_ofFn]
    simp only [renewEff, configured, effOf_eq, available]
    by_cases hu : stateOf s z = .unused <;> simp [hu]

/-- Sensing fields replaced: an early pass is requested where the sensor state changes, and nothing else but the port changes. -/
theorem changeSensor_eq (z : ZoneId) (new : SensorRec) (s : State) : ∃ p, changeSensor z new s =
    { s with
      sens := { s.sens with zone := s.sens.zone.set z new }
      eval := { s.eval with early := s.eval.early || decide (new.state ≠ (sensorOf s z).state) }
      port := p } := by
  unfold changeSensor
  split
  · next h => exact ⟨s.port, by simp [h, putSensor]⟩
  · next h => exact ⟨_, by simp [h, requestPass, raise, putSensor]; rfl⟩

/-- The failed poll's record, with its count and state written out. -/
theorem SensorRec.failed_eq (r : SensorRec) : r.failed =
    { r with
      failures := min 3 (r.failures + 1), state := if r.state = .fresh ∧ 2 ≤ r.failures then .stale else r.state } := by
  have : 3 ≤ r.failures + 1 ↔ 2 ≤ r.failures := by omega
  simp [SensorRec.failed, this]

/-- A failed poll changes the sensor state exactly where it makes FRESH STALE. -/
theorem SensorRec.failed_state_ne (r : SensorRec) : r.failed.state ≠ r.state ↔ r.state = .fresh ∧ 2 ≤ r.failures := by
  rw [SensorRec.failed_eq]
  by_cases h : r.state = .fresh ∧ 2 ≤ r.failures
  · simp [h]
  · simp [h]

/-- What a failed attempt leaves: the second attempt, the end of a discarded poll, or the zone's failed poll. -/
def afterFailure (p : Poll) (s : State) : State :=
  let r := sensorOf s p.zone
  if p.attempt = 1 then { s with sens := { s.sens with poll := some { p with attempt := 2, startedAt := s.now } } }
  else if p.discarded = true then { s with sens := { s.sens with poll := none } }
  else
    { s with
      sens := { s.sens with poll := none, zone := s.sens.zone.set p.zone r.failed }
      eval := { s.eval with early := s.eval.early || decide (r.state = .fresh ∧ 2 ≤ r.failures) } }

/-- A failed attempt does what `afterFailure` says, but for the port. -/
theorem failAttempt_eq (p : Poll) (s : State) : ∃ q, failAttempt p s = { afterFailure p s with port := q } := by
  unfold failAttempt afterFailure
  dsimp only
  split
  · exact ⟨s.port, rfl⟩
  · split
    · exact ⟨s.port, rfl⟩
    · obtain ⟨q, hq⟩ := changeSensor_eq p.zone (sensorOf s p.zone).failed { s with sens := { s.sens with poll := none } }
      refine ⟨q, ?_⟩
      erw [hq]
      rw [decide_eq_decide.2 (sensorOf s p.zone).failed_state_ne |>.symm]
      rfl

/-- A calm state stays calm while only the sensing fields, the early-pass request and the port change. -/
theorem Calm.sensed {s : State} (h : Calm s) (x : Sensing) (e : Bool) (q : Port) :
    Calm { s with sens := x, eval := { s.eval with early := e }, port := q } := h

/-- What a command ends in where it changes a calm state in the sensing fields, the early-pass request and the port only. -/
theorem timeless_finish_sensed {s t : State} (h : Calm s) {x : Sensing} {e : Bool} {q : Port}
    (ht : t = { s with sens := x, eval := { s.eval with early := e }, port := q }) :
    ({ finish t with port := s.port } : State).timeless =
      ({ s with sens := x, eval := { s.eval with early := e } } : State).timeless := by
  subst ht
  have hf := timeless_finish_calm (h.sensed x e q)
  have := congrArg (fun y : State => ({ y with port := s.port } : State)) hf
  exact this

/-- The lines' filters after a reply's samples, with all else as it was. -/
def withLines (lines : BusFilter) (s : State) : State := { s with sens := { s.sens with lines := lines } }

/-- The failed attempt of a calm state, at the end of its command. -/
theorem timeless_finish_failAttempt {s : State} (h : Calm s) (p : Poll) (lines : BusFilter) :
    ({ finish (failAttempt p (withLines lines s)) with port := s.port } : State).timeless =
      (afterFailure p (withLines lines s)).timeless := by
  obtain ⟨q, hq⟩ := failAttempt_eq p (withLines lines s)
  rw [hq]
  unfold afterFailure
  dsimp only
  split
  · exact timeless_finish_sensed h rfl
  · split
    · exact timeless_finish_sensed h rfl
    · exact timeless_finish_sensed h rfl

/-- A reply in its window: what its samples' bytes give is judged on the filters they leave. -/
theorem exec_sensorReply {s : State} {p : Poll} {first more : List (List BusSample)} (hp : s.sens.poll = some p)
    (hw : s.now ≤ p.startedAt + 15) :
    exec (.sensorReply first more) s = .next (finish
      (judgeBytes p (bytesOfBits (s.sens.lines.bits (first ++ more)).2)
        (withLines (s.sens.lines.bits (first ++ more)).1 s))) := by
  show execSensorReply first more s = _
  unfold execSensorReply
  rw [hp]
  exact congrArg Host.Outcome.next (if_pos hw)

/-- A reply with a wrong acknowledge, or six bytes that give no reading, fails its attempt. -/
theorem judgeReply_fails {p : Poll} {ack : Byte} {reply : List Byte}
    (h : ack ≠ byte p.address + 0x80 ∨ 6 ≤ reply.length ∧ sensorReading p.address (reply.take 6) = none) (s : State) :
    judgeReply p ack reply s = failAttempt p s := by
  unfold judgeReply
  by_cases hack : ack ≠ acknowledgeOf p.address
  · rw [if_pos hack]
  · obtain ⟨hlen, hread⟩ := h.resolve_left hack
    rw [if_neg hack, if_neg (by omega), hread]

/-- Settles O30: each way an attempt fails is `failAttempt` on the lines' filters, in a calm state. -/
theorem sensorAttemptFails : Obligations.SensorAttemptFails := by
  unfold Obligations.SensorAttemptFails
  intro s p c lines hcalm hp hc r new early
  have hexec : exec c s = .next (finish (failAttempt p (withLines lines s))) := by
    rcases hc with ⟨rfl, rfl⟩ | ⟨rfl, rfl, hw⟩ | ⟨first, more, samples, ack, reply, rfl, rfl, rfl, hbytes, hw, hfail⟩
    · show execSensorNoAcknowledge s = _
      unfold execSensorNoAcknowledge; rw [hp]; rfl
    · show execSensorWindowClose s = _
      have hcl : p.windowClosed s.now = true := decide_eq_true hw
      unfold execSensorWindowClose; rw [hp]; simp only [hcl, if_true]; rfl
    · rw [exec_sensorReply hp hw, hbytes]
      exact congrArg (fun t => Host.Outcome.next (finish t)) (judgeReply_fails hfail _)
  refine ⟨_, hexec, (timeless_finish_failAttempt hcalm p lines).trans ?_⟩
  have hnew : (sensorOf s p.zone).failed = new := SensorRec.failed_eq _
  unfold afterFailure
  dsimp only
  rw [show sensorOf (withLines lines s) p.zone = sensorOf s p.zone from rfl, hnew]
  rfl

/-- The bits of several bits' samples leave the filters that all their samples leave. -/
theorem BusFilter.bits_fst (f : BusFilter) (samples : List (List BusSample)) :
    (f.bits samples).1 = f.through samples.flatten := by
  induction samples generalizing f with
  | nil => rfl
  | cons bit rest ih =>
    show ((f.through bit).bits rest).1 = _
    rw [ih, List.flatten_cons]
    simp [BusFilter.through, List.foldl_append]

/-- A bit whose last two samples agree on its line is read as those, whatever came before. -/
theorem BusFilter.bits_lastAgree (f : BusFilter) (noisy : List (List BusSample × Bool × Bool × Bool)) :
    (f.bits (noisy.map fun x => x.1 ++ [⟨x.2.1, x.2.2.1⟩, ⟨x.2.1, x.2.2.2⟩])).2 = noisy.map fun x => x.2.1 := by
  induction noisy generalizing f with
  | nil => rfl
  | cons x rest ih =>
    have hx : (f.through (x.1 ++ [⟨x.2.1, x.2.2.1⟩, ⟨x.2.1, x.2.2.2⟩])).line.accepted = x.2.1 := by
      simp [BusFilter.through, List.foldl_append, BusFilter.sample, LineFilter.sample_agree]
    simp only [List.map_cons, BusFilter.bits, ih, hx]

/-- Eight bits, the most significant first, make the byte they were taken from. -/
theorem ofBits_getMsb (b : Byte) : BitVec.ofBoolListBE ((List.range 8).map fun k => b.getMsbD k) = b := by
  apply BitVec.eq_of_getMsbD_eq
  intro i hi
  rw [BitVec.getMsbD_ofBoolListBE]
  have h8 : i < 8 := hi
  simp only [List.getD, List.getElem?_map, List.getElem?_range h8, Option.map_some, Option.getD_some]
  rfl

/-- The bits of bytes make those bytes. -/
theorem bytesOfBits_bits (bytes : List Byte) :
    bytesOfBits (bytes.flatMap fun b => (List.range 8).map fun k => b.getMsbD k) = bytes := by
  induction bytes with
  | nil => rfl
  | cons b rest ih => exact congrArg₂ List.cons (ofBits_getMsb b) ih

/-- What a good poll leaves: the end of a discarded poll, or the zone's new reading. -/
theorem passPoll_eq (p : Poll) (t : Int) (rh : Option Nat) (s : State) : ∃ q, passPoll p t rh s =
    { (if p.discarded = true then { s with sens := { s.sens with poll := none } }
      else
        { s with
          sens := { s.sens with poll := none, zone := s.sens.zone.set p.zone ⟨.fresh, some t, rh, some t, 0, some s.now⟩ }
          eval := { s.eval with early := s.eval.early || decide ((sensorOf s p.zone).state ≠ .fresh) } } : State) with
      port := q } := by
  unfold passPoll
  dsimp only
  split
  · exact ⟨s.port, rfl⟩
  · obtain ⟨q, hq⟩ := changeSensor_eq p.zone ((sensorOf s p.zone).good s.now t rh) { s with sens := { s.sens with poll := none } }
    refine ⟨q, hq.trans ?_⟩
    have hne : ((sensorOf s p.zone).good s.now t rh).state ≠ (sensorOf s p.zone).state ↔
        (sensorOf s p.zone).state ≠ .fresh := ne_comm
    rw [← decide_eq_decide.2 hne]
    rfl

/-- Settles O31: the filters by their folds, a reply by its judgment, and an expired age by the change of the sensor state. -/
theorem sensorRepliesAndAge : Obligations.SensorRepliesAndAge := by
  unfold Obligations.SensorRepliesAndAge
  have hack : ∀ p : Poll, byte p.address + 0x80 = acknowledgeOf p.address := fun _ => rfl
  refine ⟨fun f level => ⟨fun h => ?_, fun h => ?_, rfl⟩, fun f samples noisy bytes => ⟨?_, f.bits_lastAgree noisy,
    bytesOfBits_bits bytes⟩, fun s p first more samples reply temp rh hcalm hsamples hp hw hbytes => ⟨fun hlen => ?_,
    fun hlen hread => ?_⟩, fun s z since hcalm hage hdue => ?_⟩
  · simp [LineFilter.sample, h]
  · simp [LineFilter.sample, Ne.symm h]
  · rw [BusFilter.bits_fst, BusFilter.through_eq]
  · subst hsamples
    have hjudge : ∀ t, judgeReply p (byte p.address + 0x80) reply t = t := fun t => by
      unfold judgeReply; rw [if_neg (not_not.2 (hack p)), if_pos hlen]
    refine ⟨_, exec_sensorReply hp hw, ?_⟩
    rw [hbytes]
    show (finish (judgeReply p _ reply _)).timeless = _
    rw [hjudge]
    exact timeless_finish_calm (s := withLines _ s) hcalm
  · subst hsamples
    refine ⟨_, exec_sensorReply hp hw, ?_⟩
    rw [hbytes]
    have hjudge : ∀ t, judgeReply p (byte p.address + 0x80) reply t = passPoll p temp rh t := fun t => by
      unfold judgeReply; rw [if_neg (not_not.2 (hack p)), if_neg (by omega), hread]
    show ({ finish (judgeReply p _ reply _) with port := s.port } : State).timeless = _
    rw [hjudge]
    obtain ⟨q, hq⟩ := passPoll_eq p temp rh (withLines (s.sens.lines.bits (first ++ more)).1 s)
    rw [hq]
    split
    · exact timeless_finish_sensed hcalm rfl
    · exact timeless_finish_sensed hcalm rfl
  · have hdue' : (sensorOf s z).ageDue s.now = true := by
      unfold SensorRec.ageDue; rw [hage]; exact decide_eq_true hdue
    refine ⟨finish (changeSensor z ((sensorOf s z).expired s.sens.returnAir) s), ?_, ?_⟩
    · show execSensorAgeExpiry z s = _
      unfold execSensorAgeExpiry; rw [if_pos hdue']
    · obtain ⟨q, hq⟩ := changeSensor_eq z ((sensorOf s z).expired s.sens.returnAir) s
      have hne : ((sensorOf s z).expired s.sens.returnAir).state ≠ (sensorOf s z).state ↔ (sensorOf s z).state ≠ .lost :=
        ne_comm
      rw [decide_eq_decide.2 hne] at hq
      exact timeless_finish_sensed hcalm hq

end Sys2Proof.Machine
end

section
/-! The small requests, the ends of store writes, and the end of a frame in the transmitter (12 R171, R172, R176, R177). -/

namespace Sys2Proof.Machine

/-! ### Replies from a free transmitter -/

/-- A reply handed to a free transmitter with nothing else to send is under way at once, at whatever stage its request is. -/
theorem handReply_stage {s : State} (htx : s.port.tx = none) (hreply : s.port.reply = none) (hreports : s.port.reports = [])
    (r : Request) (stage : ServiceStage) (status : Status) (body : List Byte) :
    handReply r.kind status body (toStage r stage s) =
      { answered s r status body with
        port := { (answered s r status body).port with service := some ⟨r, stage⟩ } } := by
  have hf : ∀ b, flagsByte b false = flagByte b := by decide
  unfold handReply Port.handReply toStage answered
  simp [Port.pump, Port.sendReply, Port.send, htx, hreports, hf, replyKind]
  exact hreply.symm

/-- The OK reply of a request that is left in service as any other. -/
theorem accept_free {s : State} (htx : s.port.tx = none) (hreply : s.port.reply = none) (hreports : s.port.reports = [])
    (r : Request) (body : List Byte) : accept r body (toStage r .replying s) = answered s r .ok body :=
  handReply_stage htx hreply hreports r .replying .ok body

/-! ### The writer -/

/-- No auto-save begins where none is pending. -/
theorem startAutoSave_none {s : State} (h : s.store.autoPending = false) : startAutoSave s = s := by
  unfold startAutoSave; rw [if_neg]; rintro ⟨-, h'⟩; rw [h] at h'; cases h'

/-- A pending auto-save begins where the writer is idle. -/
theorem startAutoSave_begins {s : State} (hw : s.store.writer = .idle) (h : s.store.autoPending = true) :
    startAutoSave s =
      { s with store := { s.store with writer := .auto (autoImage s).1 (autoImage s).2 s.now, autoPending := false } } :=
  if_pos ⟨hw, h⟩

/-- The end of a full write runs what follows it on the stored image. -/
theorem exec_fullWriteEnd {s : State} {i : Image} {t0 : Nat} (h : s.store.writer = .full i t0) :
    exec .fullWriteEnd s = .next (afterWrite (storeImage i true s)) := by
  show execFullWriteEnd s = _
  unfold execFullWriteEnd; rw [h]

/-- The end of an auto-save runs what follows it on the stored image. -/
theorem exec_autoSaveEnd {s : State} {i : Image} {whole : Bool} {t0 : Nat} (h : s.store.writer = .auto i whole t0) :
    exec .autoSaveEnd s = .next (afterWrite (storeImage i whole s)) := by
  show execAutoSaveEnd s = _
  unfold execAutoSaveEnd; rw [h]

/-- With no request that waits for the writer, a pending auto-save is all that can follow a write. -/
theorem afterWrite_free {s : State} (h : s.port.service = none) : afterWrite s = startAutoSave s := by
  unfold afterWrite; rw [h]

theorem afterWrite_saving {s : State} {r : Request} (h : s.port.service = some ⟨r, .saving⟩) :
    afterWrite s = startAutoSave (accept r [] (toStage r .replying s)) := by
  unfold afterWrite; rw [h]

theorem afterWrite_saveWaiting {s : State} {r : Request} (h : s.port.service = some ⟨r, .saveWaiting⟩) :
    afterWrite s = startFullWrite (toStage r .saving s) := by
  unfold afterWrite; rw [h]

theorem afterWrite_restartWaiting {s : State} {r : Request} (h : s.port.service = some ⟨r, .restartWaiting⟩)
    (hp : s.store.autoPending = false) : afterWrite s = accept r [] (toStage r .restarting s) := by
  unfold afterWrite; rw [h]; simp only [hp, Bool.false_eq_true, if_false]

/-! ### The small requests -/

/-- SET_REPORTS with a mask of reports that exist. -/
theorem perform_setReports {s : State} (h : PortIdle s) {mask : Word} (hm : mask.toNat < 1024) :
    perform (.setReports mask) (toStage (.setReports mask) .replying s) =
      answered { s with port := { s.port with mask := mask } } (.setReports mask) .ok [] := by
  show doSetReports mask _ = _
  unfold doSetReports
  rw [if_pos hm]
  exact accept_idle (s := { s with port := { s.port with mask := mask } }) h _ _

/-- OUTDOOR_DIAG in range, with the slot empty. -/
theorem perform_outdoorDiag {s : State} (h : PortIdle s) (read : Bool) {kind length : Byte} {data : List Byte}
    (hlow : 0xE0 ≤ kind.toNat) (hhigh : kind.toNat ≤ 0xEF) (hlen : length.toNat ≤ 8) (hdata : data.length = length.toNat)
    (hslot : s.link.diag = none) :
    perform (.outdoorDiag (flagByte read) kind length data)
        (toStage (.outdoorDiag (flagByte read) kind length data) .replying s) =
      answered
        { s with link :=
          { s.link with diag := some ⟨read, kind, length.toNat, if read then [] else data, s.now, false, false⟩ } }
        (.outdoorDiag (flagByte read) kind length data) .ok [] := by
  have hrange : diagInRange (flagByte read) kind length = true := by
    have h1 : (flagByte read).toNat ≤ 1 := by cases read <;> decide
    simp only [diagInRange, within, h1, hlow, hhigh, hlen, decide_true, Bool.and_self]
  show doOutdoorDiag _ _ _ _ _ = _
  unfold doOutdoorDiag
  dsimp only
  rw [hrange, if_neg (by decide), if_neg (not_not.2 hdata), if_neg (by simp [toStage, hslot])]
  cases read
  · exact accept_idle
      (s := { s with link := { s.link with diag := some ⟨false, kind, length.toNat, data, s.now, false, false⟩ } }) h _ _
  · exact accept_idle
      (s := { s with link := { s.link with diag := some ⟨true, kind, length.toNat, [], s.now, false, false⟩ } }) h _ _

/-- SAVE_CONFIG begins the full write, or waits for the writer. -/
theorem perform_saveConfig (s : State) :
    perform .saveConfig (toStage .saveConfig .replying s) =
      if s.store.writer = .idle then startFullWrite (toStage .saveConfig .saving s)
      else toStage .saveConfig .saveWaiting s := rfl

/-- RESTART is answered, or waits for the writer. -/
theorem perform_restart (s : State) :
    perform .restart (toStage .restart .replying s) =
      if s.store.writer = .idle ∧ s.store.autoPending = false then accept .restart [] (toStage .restart .restarting s)
      else toStage .restart .restartWaiting s := rfl

/-- Settles O26: the requests on an idle port, then the ends of writes by the request that waits for them. -/
theorem smallRequestsAndStoreWrites : Obligations.SmallRequestsAndStoreWrites := by
  unfold Obligations.SmallRequestsAndStoreWrites
  refine ⟨fun s hidle => ⟨fun mask hm => ?_, fun read kind length data hlow hhigh hlen hdata hslot => ?_, ?_, ?_⟩, ?_⟩
  · show Host.Outcome.next (offer _ s) = _
    rw [offer_free hidle.1, perform_setReports hidle hm]
  · show Host.Outcome.next (offer _ s) = _
    rw [offer_free hidle.1, perform_outdoorDiag hidle read hlow hhigh hlen hdata hslot]
  · show Host.Outcome.next (offer _ s) = _
    rw [offer_free hidle.1, perform_saveConfig]
    by_cases hw : s.store.writer = .idle
    · rw [if_pos hw, if_pos hw, if_pos hw]; rfl
    · rw [if_neg hw, if_neg hw, if_neg hw]; rfl
  · show Host.Outcome.next (offer _ s) = _
    rw [offer_free hidle.1, perform_restart]
    by_cases hw : s.store.writer = .idle ∧ s.store.autoPending = false
    · rw [if_pos hw, if_pos hw]
      exact congrArg Host.Outcome.next (handReply_stage hidle.2.1 hidle.2.2.1 hidle.2.2.2 .restart .restarting .ok [])
    · rw [if_neg hw, if_neg hw]; rfl
  intro s i whole t0 htx hreply hreports stored
  refine ⟨fun hw hsv hp => ?_, fun hw hsv hp => ?_, fun hw hsv hp => ?_, fun hw hsv => ?_, fun hw hsv hp => ?_⟩
  · rw [exec_fullWriteEnd hw, afterWrite_saving (s := storeImage i true s) hsv,
      accept_free (s := storeImage i true s) htx hreply hreports,
      startAutoSave_none (s := answered (storeImage i true s) _ _ _) hp]
    rfl
  · rw [exec_autoSaveEnd hw, afterWrite_free (s := storeImage i whole s) hsv,
      startAutoSave_none (s := storeImage i whole s) hp]
    rfl
  · rw [exec_autoSaveEnd hw, afterWrite_free (s := storeImage i whole s) hsv,
      startAutoSave_begins (s := storeImage i whole s) rfl hp]
    rfl
  · rw [exec_autoSaveEnd hw, afterWrite_saveWaiting (s := storeImage i whole s) hsv]
    rfl
  · rw [exec_autoSaveEnd hw, afterWrite_restartWaiting (s := storeImage i whole s) hsv hp]
    exact congrArg Host.Outcome.next
      (handReply_stage (s := storeImage i whole s) htx hreply hreports .restart .restarting .ok [])

/-! ### The end of a frame -/

/-- A transmitter that has chosen has nothing more to choose. -/
theorem Port.pump_pump (p : Port) (now : Nat) : (p.pump now).pump now = p.pump now := by
  have hbusy : ∀ q : Port, q.tx.isSome → q.pump now = q := fun q h => Port.pump_busy now h
  by_cases htx : p.tx.isSome
  · rw [hbusy p htx, hbusy p htx]
  · have hreport : ∀ r rest, p.reports = r :: rest → (p.sendReport now).tx.isSome := fun r rest h => by
      simp [Port.sendReport, h, Port.send]
    cases hr : p.reports with
    | nil =>
      cases hk : p.reply with
      | none => rw [Port.pump_nothing now hk hr, Port.pump_nothing now hk hr]
      | some bytes =>
        cases bytes with
        | nil =>
          have h : p.pump now = p := by
            unfold Port.pump; simp only [htx, hr, hk, Port.sendReply, Port.sendReport]; simp
          rw [h, h]
        | cons kind payload =>
          apply hbusy
          rw [Port.pump_replyFirst now (by simpa using htx) hk (.inl hr)]; rfl
    | cons r rest =>
      by_cases hl : p.lastSent = .reply ∨ p.reply = none
      · apply hbusy
        rw [Port.pump_report now (by simpa using htx) hr hl]; rfl
      · push Not at hl
        cases hk : p.reply with
        | none => exact absurd hk hl.2
        | some bytes =>
          cases bytes with
          | nil =>
            have h : p.pump now = p := by unfold Port.pump; simp [htx, hl.1, hk, Port.sendReply]
            rw [h, h]
          | cons kind payload =>
            apply hbusy
            rw [Port.pump_replyFirst now (by simpa using htx) hk (.inr hl.1)]; rfl

/-- A reply has been offered to the transmitter already. -/
theorem pumpPort_handReply (kind : Byte) (status : Status) (body : List Byte) (s : State) :
    pumpPort (handReply kind status body s) = handReply kind status body s :=
  congrArg (fun q => ({ s with port := q } : State)) (Port.pump_pump _ s.now)

/-- A port with nothing to send is left as it is. -/
theorem pumpPort_nothing {s : State} (hreply : s.port.reply = none) (hreports : s.port.reports = []) : pumpPort s = s := by
  unfold pumpPort; rw [Port.pump_nothing s.now hreply hreports]

/-- A request performed on a port with nothing to send leaves the transmitter no further choice. -/
theorem pumpPort_perform {s : State} (hreply : s.port.reply = none) (hreports : s.port.reports = []) (r : Request) :
    pumpPort (perform r s) = perform r s := by
  have hreplied := pumpPort_handReply
  cases r with
  | unknownKind k => exact hreplied ..
  | badLength k => exact hreplied ..
  | getInfo => exact hreplied ..
  | getQueue => exact hreplied ..
  | badAction z => exact hreplied ..
  | clearLockout => exact hreplied ..
  | getSystem page => show pumpPort (doGetSystem _ _) = doGetSystem _ _; unfold doGetSystem; split <;> exact hreplied ..
  | getZone z => show pumpPort (doGetZone _ _) = doGetZone _ _; unfold doGetZone; split <;> exact hreplied ..
  | getPlan p => show pumpPort (doGetPlan _ _) = doGetPlan _ _; unfold doGetPlan; split <;> exact hreplied ..
  | setSystem a b c =>
    show pumpPort (doSetSystem _ _ _ _) = doSetSystem _ _ _ _
    unfold doSetSystem; dsimp only; (repeat' split) <;> exact hreplied ..
  | setZone a b c d e =>
    show pumpPort (doSetZone _ _ _ _ _ _) = doSetZone _ _ _ _ _ _
    unfold doSetZone; dsimp only; split <;> exact hreplied ..
  | configSystem f t =>
    show pumpPort (doConfigSystem _ _ _) = doConfigSystem _ _ _
    unfold doConfigSystem; dsimp only; split <;> exact hreplied ..
  | configure a b c d e =>
    show pumpPort (doConfigure _ _ _ _ _ _) = doConfigure _ _ _ _ _ _
    unfold doConfigure; dsimp only; (repeat' split) <;> exact hreplied ..
  | unconfigure z =>
    show pumpPort (doUnconfigure _ _) = doUnconfigure _ _
    unfold doUnconfigure; dsimp only; split <;> exact hreplied ..
  | clearZoneFault z =>
    show pumpPort (doClearZoneFault _ _) = doClearZoneFault _ _
    unfold doClearZoneFault; dsimp only; split <;> exact hreplied ..
  | setReports m => show pumpPort (doSetReports _ _) = doSetReports _ _; unfold doSetReports; split <;> exact hreplied ..
  | outdoorDiag a b c d =>
    show pumpPort (doOutdoorDiag _ _ _ _ _) = doOutdoorDiag _ _ _ _ _
    unfold doOutdoorDiag; dsimp only; (repeat' split) <;> exact hreplied ..
  | saveConfig =>
    show pumpPort (doSaveConfig s) = doSaveConfig s
    unfold doSaveConfig; split <;> exact pumpPort_nothing hreply hreports
  | restart =>
    show pumpPort (doRestart s) = doRestart s
    unfold doRestart; split
    · exact hreplied ..
    · exact pumpPort_nothing hreply hreports

/-- Settles O27, by what waits after the frame: nothing, the host restart, or a request that enters by its own offer. -/
theorem hostFrameSentFreesTransmitter : Obligations.HostFrameSentFreesTransmitter := by
  unfold Obligations.HostFrameSentFreesTransmitter
  intro s f r hcalm htx hend hreports hreply
  have hexec : exec .hostFrameSent s = .next (finish (frameSent f s)) := by
    show execHostFrameSent s = _
    have hended : endedFrame s = some f := by simp [endedFrame, htx, hend]
    unfold execHostFrameSent; rw [hended]
  have hquiet : ∀ {p : Port}, p.reply = none → p.reports = [] →
      (finish (pumpPort ({ s with port := p } : State))).timeless = ({ s with port := p } : State).timeless :=
    fun h1 h2 => by rw [pumpPort_nothing h1 h2]; exact timeless_finish_calm hcalm
  have hreplied : f.isReply = true → frameSent f s = pumpPort (replySent { s with port := { s.port with tx := none } }) :=
    fun h => by unfold frameSent; simp only [h, if_true]
  refine ⟨_, hexec, fun hf => ?_, fun hf hsv hwait => ?_, fun hf hsv => ?_, fun c next hf hsv hwait hc => ?_⟩
  · have : frameSent f s = pumpPort { s with port := { s.port with tx := none } } := by
      unfold frameSent; simp only [hf, Bool.false_eq_true, if_false]
    rw [this]
    exact hquiet hreply hreports
  · have : replySent { s with port := { s.port with tx := none } } =
        { s with port := { s.port with tx := none, service := none } } := by
      unfold replySent takeWaiting; simp only [hsv, hwait]
    rw [hreplied hf, this]
    exact hquiet hreply hreports
  · have : replySent { s with port := { s.port with tx := none } } =
        { s with port := { s.port with tx := none, restartDue := true } } := by
      unfold replySent; simp only [hsv]
    rw [hreplied hf, this]
    exact hquiet hreply hreports
  · have htaken : replySent { s with port := { s.port with tx := none } } =
        offer next { s with port := { s.port with tx := none, service := none, waiting := none } } := by
      rw [offer_free rfl]
      unfold replySent takeWaiting takeRequest; simp only [hsv, hwait]
    obtain ⟨u, hu, hsame⟩ := exec_request_finish
      (s := { s with port := { s.port with tx := none, service := none, waiting := none } }) hcalm hc
    refine ⟨u, hu, ?_⟩
    have hpumped : pumpPort (offer next { s with port := { s.port with tx := none, service := none, waiting := none } }) =
        offer next { s with port := { s.port with tx := none, service := none, waiting := none } } := by
      rw [offer_free rfl]
      exact pumpPort_perform (s := toStage next .replying
        { s with port := { s.port with tx := none, service := none, waiting := none } }) hreply hreports next
    rw [hreplied hf, htaken, hpumped]
    exact hsame

end Sys2Proof.Machine
end

section
/-! How a command ends where a few consequences follow: dampers told of as faulted, a phase to be judged, and one waiting move. -/

namespace Sys2Proof.Machine

/-! ### Chains of consequences -/

/-- One state leads to another by so many consequences. -/
def Leads (n : Nat) (s t : State) : Prop := ∀ k, settle (k + n) s = settle k t

theorem Leads.refl (s : State) : Leads 0 s s := fun _ => rfl

theorem Leads.cons {n : Nat} {s t u : State} (h : microStep s = some t) (ht : Leads n t u) : Leads (n + 1) s u := fun k => by
  rw [← ht k, ← Nat.add_assoc]
  show (match microStep s with | some t => settle (k + n) t | none => s) = _
  rw [h]

theorem Leads.one {s t : State} (h : microStep s = some t) : Leads 1 s t := .cons h (.refl t)

theorem Leads.trans {m n : Nat} {s t u : State} (h : Leads m s t) (h' : Leads n t u) : Leads (n + m) s u := fun k => by
  rw [← Nat.add_assoc, h, h']

/-- A command whose consequences lead to a calm state ends with that state's times renewed. -/
theorem finish_of_leads {n : Nat} {s t : State} (h : Leads n s t) (hn : n ≤ 64) (ht : Calm t) : finish s = sync t := by
  have hs : settle settleFuel s = t := by
    have := h (64 - n)
    rw [Nat.sub_add_cancel hn] at this
    exact this.trans (settle_of_none (microStep_calm ht) _)
  unfold finish passStep
  rw [hs, passDue_calm ht]
  rfl

/-! ### Dampers told of, and the phase to be judged -/

/-- A state calm but for faulted dampers told to the changeover and a phase that is to be judged. -/
def Told (s : State) : Prop :=
  Calm { s with todo := Todo.clear } ∧ s.todo.restart = false ∧ s.todo.holdReport = false ∧ s.todo.faulted.length ≤ 8

/-- Outside OPENING no damper counts as opened for having left. -/
theorem leftActive_idle {s : State} (h : s.op.testPhase = .idle) : leftActive s = [] := if_neg (by rw [h]; decide)

/-- A waiting move that can be granted is the first consequence where the changeover has been told nothing urgent. -/
theorem microStep_grants {s : State} (hf : s.todo.faulted = []) (hrestart : s.todo.restart = false) (hheld : s.co.held = none)
    (htest : s.op.testPhase = .idle) (hgrant : canGrant s = true) : microStep s = some (grantOne s) := by
  unfold microStep
  simp only [hf, hrestart, hheld, leftActive_idle htest, hgrant, Option.isSome_none, Bool.false_and, Bool.false_eq_true,
    if_false, if_true]

/-- The phase is judged where nothing comes before it. -/
theorem microStep_judges {s : State} (hf : s.todo.faulted = []) (hrestart : s.todo.restart = false) (hheld : s.co.held = none)
    (htest : s.op.testPhase = .idle) (hgrant : canGrant s = false) (hcheck : s.todo.phaseCheck = true) :
    microStep s = some (phaseStep s) := by
  unfold microStep
  simp only [hf, hrestart, hheld, leftActive_idle htest, hgrant, hcheck, Option.isSome_none, Bool.false_and,
    Bool.false_eq_true, if_false, if_true]

/-- With no plan incoming, the changeover has nothing to do for what it is told. -/
theorem Told.leads {s : State} (h : Told s) : ∃ n ≤ 9, Leads n s { s with todo := Todo.clear } := by
  obtain ⟨hcalm, hrestart, hhold, hlen⟩ := h
  have hin : s.co.incoming = none := hcalm.1.2.2.1
  suffices key : ∀ l : List ZoneId, ∃ n ≤ l.length + 1, Leads n { s with todo := { s.todo with faulted := l } }
      { s with todo := Todo.clear } by
    obtain ⟨n, hn, hleads⟩ := key s.todo.faulted
    exact ⟨n, by omega, hleads⟩
  intro l
  induction l with
  | nil =>
    cases hphase : s.todo.phaseCheck with
    | false =>
      have htodo : ({ s.todo with faulted := [] } : Todo) = Todo.clear := by
        simp only [Todo.clear, hrestart, hhold, hphase]
      exact ⟨0, by simp, by rw [htodo]; exact .refl _⟩
    | true =>
      refine ⟨1, by simp, .one ?_⟩
      obtain ⟨⟨-, -, -, hheld, -, htest, -⟩, hq, -⟩ := hcalm
      have hgrant : canGrant { s with todo := { s.todo with faulted := [] } } = false := by
        simp [canGrant, show s.drive.queue = [] from hq]
      refine (microStep_judges (s := { s with todo := { s.todo with faulted := [] } }) rfl hrestart hheld htest hgrant
        hphase).trans ?_
      unfold phaseStep
      simp only [hin, Todo.clear, hrestart, hhold]
  | cons d rest ih =>
    obtain ⟨n, hn, hleads⟩ := ih
    refine ⟨n + 1, by simpa using hn, .cons ?_ hleads⟩
    show some (abandonFor d { s with todo := { s.todo with faulted := rest } }) = _
    unfold abandonFor
    simp only [hin]

/-- A calm state, told or not, ends a command with its times renewed. -/
theorem Told.finish {s : State} (h : Told s) : finish s = sync { s with todo := Todo.clear } := by
  obtain ⟨n, hn, hleads⟩ := h.leads
  exact finish_of_leads hleads (by omega) h.1

/-! ### The air path guard -/

/-- The guard leaves a goal of 0, and one with an air path. -/
theorem airGuard_safe {s : State} (h : s.blower.goal = 0 ∨ s.drive.airPath = true) : airGuard s = s := by
  unfold airGuard
  rw [if_neg]
  rintro ⟨hg, ha⟩
  rcases h with h | h
  · exact hg h
  · rw [h] at ha; cases ha

/-! ### A waiting move -/

/-- The drive with its queue worked off. -/
abbrev Drive.dequeued (v : Drive) : Drive := { v with queue := [] }

/-- The one move that waits is granted before the phase is judged. -/
theorem microStep_grant {s : State} {e : QueueEntry} (h : Told { s with drive := s.drive.dequeued }) (hq : s.drive.queue = [e])
    (hfree : s.drive.slotFree = true) (hf : s.todo.faulted = []) : microStep s = some (grantOne s) := by
  obtain ⟨⟨⟨-, -, -, hheld, -, htest, -⟩, -⟩, hrestart, -⟩ := h
  exact microStep_grants hf hrestart hheld htest (by simp [canGrant, hq, hfree])

/-- The one move that waits begins where its winding is closed. -/
theorem finish_starts {s : State} {e : QueueEntry} (h : Told { s with drive := s.drive.dequeued }) (hq : s.drive.queue = [e])
    (hfree : s.drive.slotFree = true) (hf : s.todo.faulted = []) (hw : s.inp.windingOpen.get e.damper = false)
    (hair : s.blower.goal = 0 ∨ (s.drive.dequeued.start s.now e).airPath = true) :
    finish s = sync { s with drive := s.drive.dequeued.start s.now e, todo := Todo.clear } := by
  have hgrant : grantOne s = { s with drive := s.drive.dequeued.start s.now e } := by
    unfold grantOne
    simp only [hq, hw, Bool.false_eq_true, if_false]
    exact airGuard_safe (s := { s with drive := s.drive.dequeued.start s.now e }) hair
  have hqueue : (s.drive.dequeued.start s.now e).queue = [] := by unfold Drive.start; dsimp only; split <;> rfl
  have htold : Told (grantOne s) := by
    rw [hgrant]
    exact ⟨⟨h.1.1, hqueue, h.1.2.2⟩, h.2.1, h.2.2.1, h.2.2.2⟩
  obtain ⟨n, hn, hleads⟩ := htold.leads
  rw [finish_of_leads ((Leads.one (microStep_grant h hq hfree hf)).trans hleads) (by omega) htold.1, hgrant]

/-- The one move that waits faults its damper where its winding is open. -/
theorem finish_openWinding {s : State} {e : QueueEntry} (h : Told { s with drive := s.drive.dequeued })
    (hq : s.drive.queue = [e]) (hfree : s.drive.slotFree = true) (hf : s.todo.faulted = [])
    (hw : s.inp.windingOpen.get e.damper = true)
    (htold : Told (faultDamper e.damper { s with drive := s.drive.dequeued }))
    (hair : (faultDamper e.damper { s with drive := s.drive.dequeued }).blower.goal = 0 ∨
      (faultDamper e.damper { s with drive := s.drive.dequeued }).drive.airPath = true) :
    finish s = sync { faultDamper e.damper { s with drive := s.drive.dequeued } with todo := Todo.clear } := by
  have hgrant : grantOne s = faultDamper e.damper { s with drive := s.drive.dequeued } := by
    unfold grantOne
    simp only [hq, hw, if_true]
    exact airGuard_safe hair
  obtain ⟨n, hn, hleads⟩ := htold.leads
  rw [← hgrant] at hleads htold ⊢
  exact finish_of_leads ((Leads.one (microStep_grant h hq hfree hf)).trans hleads) (by omega) htold.1

/-- A move that no slot is free for goes on waiting. -/
theorem finish_waits {s : State} (h : Told { s with drive := s.drive.dequeued }) (hfree : s.drive.slotFree = false)
    (htodo : s.todo = Todo.clear) : finish s = sync s := by
  obtain ⟨⟨⟨-, hphase, hin, hheld, hstart, htest, hround, hlast⟩, -, hwait⟩, -⟩ := h
  have hround' : wakeRoundDue s = false := hround
  have h1 : leftActive s = [] := if_neg (by rw [show s.op.testPhase = .idle from htest]; decide)
  have h2 : canGrant s = false := by simp [canGrant, hfree]
  have h3 : startDue s = false := by simp [startDue, show s.seq.state ≠ .waitStart from hwait]
  have h4 : startupDone s = false := by simp [startupDone, show s.op.state ≠ .startup from hstart]
  have h5 : preparingDone s = false := by simp [preparingDone, show s.op.testPhase = .idle from htest]
  have h6 : openingDone s = false := by simp [openingDone, show s.op.testPhase = .idle from htest]
  have hphase' : s.co.phase = .applied := hphase
  have hheld' : s.co.held = none := hheld
  apply finish_of_none
  · simp [microStep, htodo, Todo.clear, hheld', hround', h1, h2, h3, h4, h5, h6, hphase']
  · obtain ⟨p, hp, hn⟩ := hlast
    have hp' : s.eval.lastPass = some p := hp
    have : ¬ (p + 5000 ≤ s.now) := Nat.not_le.2 hn
    simp [passDue, hp', this]

/-! ### Zones that leave, dampers that fault -/

/-- A poll of a zone with its outcome discarded. -/
def polledOff (z : ZoneId) (poll : Option Poll) : Option Poll :=
  poll.map fun p => if p.zone = z then { p with discarded := true } else p

/-- The poll in progress is discarded where it is the zone's. -/
theorem discardPoll_eq (z : ZoneId) (s : State) :
    discardPoll z s = { s with sens := { s.sens with poll := polledOff z s.sens.poll } } := by
  have hsame : ∀ {x : Option Poll}, s.sens.poll = x → s = { s with sens := { s.sens with poll := x } } := fun h => by rw [← h]
  unfold discardPoll polledOff
  split
  · next p hp =>
    split
    · next hz => rw [hp, Option.map_some, if_pos hz]
    · next hz => rw [hp, Option.map_some, if_neg hz]; exact hsame hp
  · next hp => rw [hp]; exact hsame hp

/-- Sensing fields set anew for a zone with its poll discarded. -/
theorem changeSensor_discardPoll (z : ZoneId) (new : SensorRec) (s : State) : ∃ p, changeSensor z new (discardPoll z s) =
    { s with
      sens := { s.sens with zone := s.sens.zone.set z new, poll := polledOff z s.sens.poll }
      eval := { s.eval with early := s.eval.early || decide (new.state ≠ (sensorOf s z).state) }
      port := p } := by
  rw [discardPoll_eq]
  exact changeSensor_eq z new { s with sens := { s.sens with poll := polledOff z s.sens.poll } }

/-- All that a zone becoming UNUSED changes. -/
theorem releaseZone_eq (z : ZoneId) (s : State) : ∃ p, releaseZone z s =
    { s with
      zst := s.zst.set z ⟨.unused, false⟩
      sens := { s.sens with zone := s.sens.zone.set z SensorRec.zero, poll := polledOff z s.sens.poll }
      work := s.work.set z ZoneWork.zero, eval := { s.eval with early := true }, drive := s.drive.withdrawAll z
      port := p } := by
  unfold releaseZone stopSensing
  dsimp only
  obtain ⟨p, hp⟩ := changeSensor_discardPoll z SensorRec.zero
    { requestPass (setZoneState z .unused s) with
      zst := (requestPass (setZoneState z .unused s)).zst.modify z fun x => { x with unconf := false } }
  rw [hp]
  have hset : ((s.zst.set z { s.zst.get z with state := .unused }).modify z fun x => { x with unconf := false }) =
      s.zst.set z ⟨.unused, false⟩ := by
    apply Eight.ext_get; intro j
    rw [Eight.get_modify, Eight.get_set, Eight.get_set, Eight.get_set]
    by_cases hj : j = z <;> simp [hj]
  refine ⟨p, ?_⟩
  show ({ s with
      zst := (s.zst.set z { s.zst.get z with state := .unused }).modify z fun x => { x with unconf := false }
      sens := { s.sens with zone := s.sens.zone.set z SensorRec.zero, poll := polledOff z s.sens.poll }
      work := s.work.set z ZoneWork.zero, eval := { s.eval with early := true || _ }, drive := s.drive.withdrawAll z
      port := p } : State) = _
  rw [hset, Bool.true_or]

/-- A damper that faults takes its ACTIVE or PARKED zone with it. -/
theorem faultDamper_stays {d : ZoneId} {s : State} (hs : stateOf s d = .active ∨ stateOf s d = .parked)
    (hu : (s.zst.get d).unconf = false) : ∃ p, faultDamper d s =
    { s with
      drive := s.drive.fault d, zst := s.zst.set d ⟨.fault, false⟩, eval := { s.eval with early := true }, port := p
      todo := { s.todo with faulted := s.todo.faulted ++ [d], phaseCheck := true } } := by
  have hset : (s.zst.set d { s.zst.get d with state := .fault }) = s.zst.set d ⟨.fault, false⟩ := by simp only [hu]
  have hnew : (((s.zst.modify d fun x => { x with state := ZoneState.fault }).get d).unconf) = false := by
    rw [Eight.get_modify_same]; exact hu
  rcases hs with hs | hs
  all_goals
    have hs' : stateOf { s with
        drive := s.drive.fault d
        todo := { s.todo with faulted := s.todo.faulted ++ [d], phaseCheck := true } } d = _ := hs
    unfold faultDamper
    dsimp only
    rw [hs']
    dsimp only
    rw [if_neg (by
      show ¬ ((s.zst.modify d fun x => { x with state := ZoneState.fault }).get d).unconf = true
      rw [hnew]; decide)]
    rw [← hset]
    exact ⟨_, rfl⟩

/-- A damper that faults while unconfigure is pending: its zone goes on to UNUSED. -/
theorem faultDamper_leaves {d : ZoneId} {s : State} (hs : stateOf s d = .active ∨ stateOf s d = .parked)
    (hu : (s.zst.get d).unconf = true) : ∃ p, faultDamper d s =
    { s with
      drive := (s.drive.fault d).withdrawAll d, zst := s.zst.set d ⟨.unused, false⟩
      sens := { s.sens with zone := s.sens.zone.set d SensorRec.zero, poll := polledOff d s.sens.poll }
      work := s.work.set d ZoneWork.zero, eval := { s.eval with early := true }, port := p
      todo := { s.todo with faulted := s.todo.faulted ++ [d], phaseCheck := true } } := by
  have hnew : (((s.zst.modify d fun x => { x with state := ZoneState.fault }).get d).unconf) = true := by
    rw [Eight.get_modify_same]; exact hu
  have hset : (s.zst.modify d fun x => { x with state := ZoneState.fault }).set d ⟨.unused, false⟩ =
      s.zst.set d ⟨.unused, false⟩ := by
    apply Eight.ext_get; intro j
    rw [Eight.get_set, Eight.get_set, Eight.get_modify]
    by_cases hj : j = d <;> simp [hj]
  rcases hs with hs | hs
  all_goals
    have hs' : stateOf { s with
        drive := s.drive.fault d
        todo := { s.todo with faulted := s.todo.faulted ++ [d], phaseCheck := true } } d = _ := hs
    unfold faultDamper
    dsimp only
    rw [hs']
    dsimp only
    rw [if_pos (by
      show ((s.zst.modify d fun x => { x with state := ZoneState.fault }).get d).unconf = true
      exact hnew)]
    obtain ⟨p, hp⟩ := releaseZone_eq d (requestPass (setZoneState d .fault { s with
        drive := s.drive.fault d
        todo := { s.todo with faulted := s.todo.faulted ++ [d], phaseCheck := true } }))
    refine ⟨p, hp.trans ?_⟩
    rw [← hset]
    rfl

end Sys2Proof.Machine
end

section
/-! Zones configured, released and cleared (01 R4 to R6, 06 R97, R103, R105), each with the home request that follows. -/

namespace Sys2Proof.Machine

/-! ### The drive after a zone has left, and after a home request -/

section
variable (v : Drive) (d x : ZoneId)

/-- Withdrawal for UNUSED, part by part. -/
theorem Drive.withdrawAll_eq : v.withdrawAll d =
    { v with
      queue := v.queue.filter fun e => decide (e.damper ≠ d)
      resetHomes := if v.slotOf d = none then v.resetHomes.filter (fun z => decide (z ≠ d)) else v.resetHomes
      passedOver := if (v.dampers.get d).motion = .fault then v.passedOver ++ [d] else v.passedOver
      dampers := v.dampers.modify d fun y =>
        { y with
          followOn := .nothing
          motion := if y.motion = .queued ∨ y.motion = .fault then .idle else y.motion
          stalls := if y.motion = .fault then 0 else y.stalls } } := by
  unfold Drive.withdrawAll
  dsimp only
  by_cases hslot : v.slotOf d = none <;> by_cases hmotion : (v.dampers.get d).motion = .fault <;>
    simp [hslot, hmotion, Drive.drained, Drive.unqueue, Drive.onDamper]

theorem Drive.mem_passedOver_append {l : List ZoneId} {d x : ZoneId} (h : x ≠ d) : x ∈ l ++ [d] ↔ x ∈ l := by simp [h]

/-- Withdrawal for UNUSED passes over no other damper. -/
theorem Drive.withdrawAll_passedOver_ne (h : x ≠ d) : x ∈ (v.withdrawAll d).passedOver ↔ x ∈ v.passedOver := by
  rw [Drive.withdrawAll_eq]
  show x ∈ (if _ then _ else _) ↔ _
  split
  · exact Drive.mem_passedOver_append h
  · exact Iff.rfl

theorem Drive.slotOf_congr {v w : Drive} {x : ZoneId} (h : w.slotsOf x = v.slotsOf x) : w.slotOf x = v.slotOf x := by
  rw [Drive.slotOf_eq, Drive.slotOf_eq, h]

end

/-- A home request to an idle damper joins the queue at its tail, and the damper is passed over no longer. -/
theorem Drive.requestHome_idle {v : Drive} {d : ZoneId} (h : (v.dampers.get d).motion = .idle) :
    v.requestHome d = (v.tookUp d).append d .home := by unfold Drive.requestHome; rw [h]

/-- An air path past other dampers stays when only one damper changes. -/
theorem Drive.airPath_of_ne {v w : Drive} {d : ZoneId} (h : ∀ x, x ≠ d → w.dampers.get x = v.dampers.get x)
    (ha : ∃ x, x ≠ d ∧ passes (v.dampers.get x).position = true) : w.airPath = true := by
  obtain ⟨x, hx, hp⟩ := ha
  exact w.airPath_iff.2 ⟨x, by rw [h x hx]; exact hp⟩

/-! ### Damper faults in a calm state -/

/-- A fault in a calm state is told, and leaves nothing else to follow. -/
theorem faultDamper_told {d : ZoneId} {s : State} (hcalm : Calm s) (hs : stateOf s d = .active ∨ stateOf s d = .parked) :
    Told (faultDamper d s) := by
  have hq : s.drive.queue = [] := hcalm.2.1
  have hqueue : (s.drive.fault d).queue = [] := by
    show s.drive.queue.filter _ = []
    rw [hq]; rfl
  have hleft : ((s.drive.fault d).withdrawAll d).queue = [] := by
    rw [Drive.withdrawAll_eq]
    show (s.drive.fault d).queue.filter _ = []
    rw [hqueue]; rfl
  have htodo : s.todo = Todo.clear := hcalm.1.1
  cases hu : (s.zst.get d).unconf with
  | false =>
    obtain ⟨p, hp⟩ := faultDamper_stays hs hu
    rw [hp]
    exact ⟨⟨⟨rfl, hcalm.1.2⟩, hqueue, hcalm.2.2⟩, by simp [htodo, Todo.clear], by simp [htodo, Todo.clear],
      by simp [htodo, Todo.clear]⟩
  | true =>
    obtain ⟨p, hp⟩ := faultDamper_leaves hs hu
    rw [hp]
    exact ⟨⟨⟨rfl, hcalm.1.2⟩, hleft, hcalm.2.2⟩, by simp [htodo, Todo.clear], by simp [htodo, Todo.clear],
      by simp [htodo, Todo.clear]⟩

/-- A fault changes no other damper, and not the blower. -/
theorem faultDamper_others {d : ZoneId} {s : State} (hs : stateOf s d = .active ∨ stateOf s d = .parked) :
    (faultDamper d s).blower = s.blower ∧
      ∀ x, x ≠ d → (faultDamper d s).drive.dampers.get x = s.drive.dampers.get x := by
  cases hu : (s.zst.get d).unconf with
  | false =>
    obtain ⟨p, hp⟩ := faultDamper_stays hs hu
    rw [hp]
    exact ⟨rfl, fun x hx => (Drive.fault_get ..).trans (if_neg hx)⟩
  | true =>
    obtain ⟨p, hp⟩ := faultDamper_leaves hs hu
    rw [hp]
    refine ⟨rfl, fun x hx => ?_⟩
    show ((s.drive.fault d).withdrawAll d).dampers.get x = _
    rw [Drive.withdrawAll_eq]
    exact (Eight.get_modify_ne _ _ hx).trans ((Drive.fault_get ..).trans (if_neg hx))

/-- A fault leaves an air path past other dampers. -/
theorem faultDamper_air {d : ZoneId} {s : State} (hs : stateOf s d = .active ∨ stateOf s d = .parked)
    (hair : s.blower.goal = 0 ∨ ∃ x, x ≠ d ∧ passes (damperOf s x).position = true) :
    (faultDamper d s).blower.goal = 0 ∨ (faultDamper d s).drive.airPath = true := by
  obtain ⟨hblower, hdampers⟩ := faultDamper_others hs
  exact hair.imp (fun h => by rw [hblower]; exact h) fun h => Drive.airPath_of_ne hdampers h

/-! ### An idle damper homed -/

/-- The drive with a home request of an idle damper taken from the queue again. -/
def Drive.homeTaken (v : Drive) (d : ZoneId) : Drive := (v.tookUp d).onDamper d fun y => { y with motion := .queued }

/-- The drive that a home request of an idle damper ends in: the HOME in a free slot, or waiting. -/
def Drive.homed (v : Drive) (now : Nat) (d : ZoneId) : Drive :=
  if v.slotFree then (v.homeTaken d).start now ⟨d, .home⟩ else v.requestHome d

section
variable {v : Drive} {d : ZoneId}

theorem Drive.requestHome_dequeued (hq : v.queue = []) (hd : (v.dampers.get d).motion = .idle) :
    (v.requestHome d).queue = [⟨d, .home⟩] ∧ (v.requestHome d).dequeued = v.homeTaken d := by
  rw [Drive.requestHome_idle hd]
  constructor
  · show v.queue ++ _ = _
    rw [hq]; rfl
  · unfold Drive.homeTaken Drive.dequeued Drive.append Drive.tookUp Drive.onDamper
    simp only [hq]

theorem Drive.homed_queue (now : Nat) (hq : v.queue = []) (hd : (v.dampers.get d).motion = .idle) :
    (v.homed now d).queue = if v.slotFree then [] else [⟨d, .home⟩] := by
  unfold Drive.homed
  split
  · show ((v.homeTaken d).start now ⟨d, .home⟩).queue = []
    unfold Drive.start; dsimp only; split <;> exact hq
  · exact (Drive.requestHome_dequeued hq hd).1

theorem Drive.homed_get (now : Nat) (hd : (v.dampers.get d).motion = .idle) (x : ZoneId) :
    (v.homed now d).dampers.get x =
      if x = d then
        (if v.slotFree then { v.dampers.get d with motion := .homing, position := none }
        else { v.dampers.get d with motion := .queued })
      else v.dampers.get x := by
  unfold Drive.homed
  split
  · rw [Drive.start_get]
    by_cases hx : x = d
    · subst hx; simp [Drive.homeTaken]
    · simp [Drive.homeTaken, hx, Drive.onDamper_get]
  · rw [Drive.requestHome_idle hd]
    show ((v.tookUp d).onDamper d _).dampers.get x = _
    rw [Drive.onDamper_get]; rfl

theorem Drive.homed_slotOf (now : Nat) (hd : (v.dampers.get d).motion = .idle) (hs : v.slotOf d = none) (x : ZoneId) :
    (v.homed now d).slotOf x =
      if x = d then (if v.slotFree then some ⟨d, .home, 0, now, false⟩ else none) else v.slotOf x := by
  unfold Drive.homed
  split
  · next hfree =>
    have hnone : (v.homeTaken d).slotsOf d = [] := Drive.slotsOf_nil.2 hs
    rw [Drive.slotOf_eq, Drive.start_slotsOf (v.homeTaken d) x now ⟨d, .home⟩ hfree hnone]
    split
    · rfl
    · exact (Drive.slotOf_eq v x).symm
  · have hslots : (v.requestHome d).slotOf x = v.slotOf x := by
      rw [Drive.requestHome_idle hd]
      exact Drive.slotOf_congr rfl
    rw [hslots]
    split
    · next hx => rw [hx, hs]
    · rfl

theorem Drive.homed_passedOver (now : Nat) (hd : (v.dampers.get d).motion = .idle) (x : ZoneId) :
    x ∈ (v.homed now d).passedOver ↔ x ∈ v.passedOver ∧ x ≠ d := by
  have hmem : x ∈ (v.tookUp d).passedOver ↔ x ∈ v.passedOver ∧ x ≠ d := by simp [Drive.tookUp]
  unfold Drive.homed
  split
  · rw [show ((v.homeTaken d).start now ⟨d, .home⟩).passedOver = (v.tookUp d).passedOver by
      unfold Drive.start; dsimp only; split <;> rfl]
    exact hmem
  · rw [Drive.requestHome_idle hd]; exact hmem

theorem Drive.homed_resetHomes (now : Nat) (hd : (v.dampers.get d).motion = .idle) :
    (v.homed now d).resetHomes = v.resetHomes := by
  unfold Drive.homed
  split
  · unfold Drive.start; dsimp only; split <;> rfl
  · rw [Drive.requestHome_idle hd]; rfl

end

section
variable {s : State} {d : ZoneId} (hcalm : Calm s) (hd : (damperOf s d).motion = .idle)
  (hair : s.blower.goal = 0 ∨ ∃ x, x ≠ d ∧ passes (damperOf s x).position = true)
include hcalm hd hair

/-- An idle damper that is to be homed, with no open winding at a free slot: it is homed at once, or waits. -/
theorem finish_homes (hw : s.drive.slotFree = true → s.inp.windingOpen.get d = false) :
    finish (homeRequest d s) = sync { s with drive := s.drive.homed s.now d } := by
  have htodo : s.todo = Todo.clear := hcalm.1.1
  obtain ⟨hqueue, hdequeued⟩ := Drive.requestHome_dequeued hcalm.2.1 hd
  have hq0 : (s.drive.homeTaken d).queue = [] := hcalm.2.1
  have htold : Told { homeRequest d s with drive := (homeRequest d s).drive.dequeued } := by
    show Told { s with drive := (s.drive.requestHome d).dequeued }
    rw [hdequeued]
    exact ⟨⟨⟨rfl, hcalm.1.2⟩, hq0, hcalm.2.2⟩, by simp [htodo, Todo.clear], by simp [htodo, Todo.clear],
      by simp [htodo, Todo.clear]⟩
  have hslots : (s.drive.requestHome d).slotFree = s.drive.slotFree := by rw [Drive.requestHome_idle hd]; rfl
  unfold Drive.homed
  split
  · next hfree =>
    have hstart := finish_starts (s := homeRequest d s) (e := ⟨d, .home⟩) htold hqueue (hslots.trans hfree)
      (by show s.todo.faulted = []; rw [htodo]; rfl) (hw hfree)
      (by
        show s.blower.goal = 0 ∨ ((s.drive.requestHome d).dequeued.start s.now ⟨d, .home⟩).airPath = true
        rw [hdequeued]
        refine hair.imp id fun h => Drive.airPath_of_ne (fun x hx => ?_) h
        rw [Drive.start_get, if_neg hx]
        exact (Drive.onDamper_get ..).trans (if_neg hx))
    rw [hstart]
    show sync { s with drive := (s.drive.requestHome d).dequeued.start s.now ⟨d, .home⟩, todo := Todo.clear } = _
    rw [hdequeued, ← htodo]
  · next hfree =>
    exact finish_waits htold (hslots.trans (by simpa using hfree)) htodo

/-- An idle damper that is to be homed, with a free slot and its winding open, faults. -/
theorem finish_homes_open (hs : stateOf s d = .active ∨ stateOf s d = .parked) (hfree : s.drive.slotFree = true)
    (hw : s.inp.windingOpen.get d = true) :
    finish (homeRequest d s) =
      sync { faultDamper d { s with drive := s.drive.homeTaken d } with todo := Todo.clear } := by
  have htodo : s.todo = Todo.clear := hcalm.1.1
  obtain ⟨hqueue, hdequeued⟩ := Drive.requestHome_dequeued hcalm.2.1 hd
  have hcalm' : Calm { s with drive := s.drive.homeTaken d } := ⟨hcalm.1, hcalm.2.1, hcalm.2.2⟩
  have hsame : ({ homeRequest d s with drive := (homeRequest d s).drive.dequeued } : State) =
      { s with drive := s.drive.homeTaken d } := by
    show ({ s with drive := (s.drive.requestHome d).dequeued } : State) = _
    rw [hdequeued]
  have hslots : (s.drive.requestHome d).slotFree = s.drive.slotFree := by rw [Drive.requestHome_idle hd]; rfl
  have hair' : s.blower.goal = 0 ∨ ∃ x, x ≠ d ∧
      passes (damperOf { s with drive := s.drive.homeTaken d } x).position = true := by
    refine hair.imp id fun ⟨x, hx, hp⟩ => ⟨x, hx, ?_⟩
    show passes ((s.drive.homeTaken d).dampers.get x).position = true
    rw [show (s.drive.homeTaken d).dampers.get x = s.drive.dampers.get x from
      (Drive.onDamper_get ..).trans (if_neg hx)]
    exact hp
  have htold : Told { s with drive := s.drive.homeTaken d } :=
    ⟨⟨⟨rfl, hcalm.1.2⟩, hcalm.2.1, hcalm.2.2⟩, by simp [htodo, Todo.clear], by simp [htodo, Todo.clear],
      by simp [htodo, Todo.clear]⟩
  have h := finish_openWinding (s := homeRequest d s) (e := ⟨d, .home⟩) (by rw [hsame]; exact htold) hqueue
    (hslots.trans hfree) (by show s.todo.faulted = []; rw [htodo]; rfl) hw
    (by rw [hsame]; exact faultDamper_told hcalm' hs)
    (by rw [hsame]; exact faultDamper_air hs hair')
  rw [hsame] at h
  exact h

end

/-- What a home request of the idle damper `d` comes to in state `s`: the HOME begins in a free slot, waits behind the slots, or finds its
winding open and faults the damper and its zone. -/
structure HomeOutcome (s : State) (d : ZoneId) (t : State) (faults : Bool) : Prop where
  zst : t.zst = if faults then s.zst.set d ⟨.fault, false⟩ else s.zst
  eval : t.eval = { s.eval with early := s.eval.early || faults }
  damper : damperOf t d =
    if faults then { damperOf s d with motion := .fault, position := none, followOn := .nothing }
    else if s.drive.slotFree then { damperOf s d with motion := .homing, position := none }
    else { damperOf s d with motion := .queued }
  queue : t.drive.queue = if s.drive.slotFree then [] else [⟨d, .home⟩]
  slot : t.drive.slotOf d = if s.drive.slotFree && !faults then some ⟨d, .home, 0, s.now, false⟩ else none
  passed : ∀ x, x ∈ t.drive.passedOver ↔ x ∈ s.drive.passedOver ∧ x ≠ d
  resetHomes : t.drive.resetHomes =
    if faults then s.drive.resetHomes.filter (fun z => decide (z ≠ d)) else s.drive.resetHomes
  others : ∀ x, x ≠ d → damperOf t x = damperOf s x ∧ t.drive.slotOf x = s.drive.slotOf x
  frame : ({ t with zst := s.zst, eval := s.eval, drive := s.drive, port := s.port } : State).timeless = s.timeless

/-- The fault of an idle damper whose HOME had just been taken, damper by damper. -/
theorem Drive.homeTaken_fault_get (v : Drive) (d x : ZoneId) : ((v.homeTaken d).fault d).dampers.get x = if x = d then
    { v.dampers.get d with motion := .fault, position := none, followOn := .nothing } else v.dampers.get x := by
  rw [Drive.fault_get]
  by_cases hx : x = d
  · rw [if_pos hx, if_pos hx]
    show ({ ((v.tookUp d).onDamper d _).dampers.get d with
      motion := MotionState.fault, position := none, followOn := .nothing } : Damper) = _
    rw [Drive.onDamper_get_same]; rfl
  · rw [if_neg hx, if_neg hx]
    exact (Drive.onDamper_get ..).trans (if_neg hx)

/-- What a home request of an idle damper comes to. -/
theorem finish_homeRequest {s : State} {d : ZoneId} (hcalm : Calm s) (hd : (damperOf s d).motion = .idle)
    (hslot : s.drive.slotOf d = none) (hair : s.blower.goal = 0 ∨ ∃ x, x ≠ d ∧ passes (damperOf s x).position = true)
    (hzone : (s.drive.slotFree && s.inp.windingOpen.get d) = true →
      (stateOf s d = .active ∨ stateOf s d = .parked) ∧ (s.zst.get d).unconf = false) :
    HomeOutcome s d (finish (homeRequest d s)) (s.drive.slotFree && s.inp.windingOpen.get d) := by
  cases hf : s.drive.slotFree && s.inp.windingOpen.get d with
  | false =>
    have hw : s.drive.slotFree = true → s.inp.windingOpen.get d = false := fun h => by simpa [h] using hf
    rw [finish_homes hcalm hd hair hw]
    have hdrive : (sync { s with drive := s.drive.homed s.now d }).drive = s.drive.homed s.now d := sync_drive _
    have hframe := congrArg (fun y : State => ({ y with
      zst := s.zst, eval := s.eval, drive := s.drive, port := s.port } : State))
      (timeless_sync { s with drive := s.drive.homed s.now d })
    refine ⟨sync_zst _, ?_, ?_, ?_, ?_, ?_, ?_, fun x hx => ?_, hframe⟩
    · rw [sync_eval, Bool.or_false]
    · rw [damperOf, hdrive, Drive.homed_get s.now hd, if_pos rfl]; rfl
    · rw [hdrive]; exact Drive.homed_queue s.now hcalm.2.1 hd
    · rw [hdrive, Drive.homed_slotOf s.now hd hslot, if_pos rfl, Bool.not_false, Bool.and_true]
    · rw [hdrive]; exact Drive.homed_passedOver s.now hd
    · rw [hdrive]; exact Drive.homed_resetHomes s.now hd
    · rw [damperOf, hdrive, Drive.homed_get s.now hd, if_neg hx, Drive.homed_slotOf s.now hd hslot, if_neg hx]
      exact ⟨rfl, rfl⟩
  | true =>
    obtain ⟨hfree, hopen⟩ : s.drive.slotFree = true ∧ s.inp.windingOpen.get d = true := by simpa using hf
    obtain ⟨hs, hu⟩ := hzone hf
    rw [finish_homes_open hcalm hd hair hs hfree hopen]
    obtain ⟨p, hp⟩ := faultDamper_stays (s := { s with drive := s.drive.homeTaken d }) hs hu
    rw [hp]
    have htodo : s.todo = Todo.clear := hcalm.1.1
    obtain ⟨t, ht⟩ : ∃ t : State, t =
        { s with
          drive := (s.drive.homeTaken d).fault d, zst := s.zst.set d ⟨.fault, false⟩
          eval := { s.eval with early := true }, port := p } := ⟨_, rfl⟩
    have hend : ({ ({ s with
        drive := (s.drive.homeTaken d).fault d, zst := s.zst.set d ⟨.fault, false⟩
        eval := { s.eval with early := true }, port := p
        todo := { s.todo with faulted := s.todo.faulted ++ [d], phaseCheck := true } } : State) with
        todo := Todo.clear } : State) = t := by rw [ht, ← htodo]
    have hdrive : (sync t).drive = (s.drive.homeTaken d).fault d := by rw [sync_drive, ht]
    have hframe := congrArg (fun y : State => ({ y with
      zst := s.zst, eval := s.eval, drive := s.drive, port := s.port } : State)) (timeless_sync t)
    refine Eq.subst (motive := fun y => HomeOutcome s d (sync y) true) hend.symm
      ⟨?_, ?_, ?_, ?_, ?_, fun x => ?_, ?_, fun x hx => ?_, hframe.trans (by rw [ht]; rfl)⟩
    · rw [sync_zst, ht]; rfl
    · rw [sync_eval, ht, Bool.or_true]
    · rw [damperOf, hdrive, Drive.homeTaken_fault_get, if_pos rfl]; rfl
    · rw [hdrive, if_pos hfree]
      show s.drive.queue.filter _ = []
      rw [show s.drive.queue = [] from hcalm.2.1]; rfl
    · rw [hdrive, Drive.slotOf_eq, Drive.fault_slotsOf, if_pos rfl, Bool.not_true, Bool.and_false]; rfl
    · rw [hdrive]
      show x ∈ s.drive.passedOver.filter _ ↔ _
      simp
    · rw [hdrive]; rfl
    · rw [damperOf, hdrive, Drive.homeTaken_fault_get, if_neg hx, Drive.slotOf_eq, Drive.fault_slotsOf, if_neg hx,
        Drive.slotOf_eq]
      exact ⟨rfl, rfl⟩

end Sys2Proof.Machine
end

section
/-! The zone requests of the host: unconfigure, configure and CLEAR_ZONE_FAULT (01 R4 to R6, 06 R105). -/

namespace Sys2Proof.Machine

/-! ### Requests of a free port -/

/-- A reply changes the port alone. -/
theorem accept_eq (r : Request) (body : List Byte) (s : State) : ∃ p, accept r body s = { s with port := p } := ⟨_, rfl⟩

/-- What a command that ends in a calm state leaves but for the times and the port. -/
theorem timeless_finish_port {s : State} (h : Calm s) (p : Port) :
    ({ finish s with port := p } : State).timeless = ({ s with port := p } : State).timeless := by
  have := congrArg (fun y : State => ({ y with port := p } : State)) (timeless_finish_calm h)
  exact this

/-- What a reply in a calm state ends in. -/
theorem finish_replied (r : Request) (body : List Byte) {u : State} (h : Calm u) :
    ∃ p, finish (accept r body u) = sync { u with port := p } := ⟨_, finish_calm (s := accept r body u) h⟩

/-! ### Unconfigure -/

/-- A zone with nothing to release is left as it is. -/
theorem unconfigureZone_same {s : State} {z : ZoneId}
    (h : stateOf s z = .unused ∨ (s.zst.get z).unconf = true ∧ stateOf s z ≠ .fault) : unconfigureZone z s = s := by
  unfold unconfigureZone
  rcases h with h | ⟨hu, hf⟩
  · rw [h]
  · split
    · rfl
    · next hs => exact absurd hs hf
    · rw [if_pos hu]

/-- An ACTIVE or PARKED zone gets its pending mark. -/
theorem unconfigureZone_pending {s : State} {z : ZoneId} (hawake : Awake s) (hs : stateOf s z = .active ∨ stateOf s z = .parked)
    (hu : (s.zst.get z).unconf = false) : ∃ a b c d, unconfigureZone z s =
    { s with
      zst := s.zst.set z ⟨stateOf s z, true⟩, setp := s.setp.set z { s.setp.get z with park := false }
      sens := { s.sens with poll := polledOff z s.sens.poll }, eval := { s.eval with early := true }
      op := { s.op with idleFrom := a, idleDone := b, notice := c, noticeFrom := d } } := by
  have hmarked : unconfigureZone z s = wakeIfOn (requestPass (discardPoll z
      { s with
        zst := s.zst.modify z fun x => { x with unconf := true }
        setp := s.setp.modify z fun x => { x with park := false } })) := by
    unfold unconfigureZone
    rcases hs with hs | hs <;> rw [hs] <;> simp only [hu, Bool.false_eq_true, if_false]
  rw [hmarked, discardPoll_eq]
  obtain ⟨a, b, c, d, h⟩ := wakeIfOn_awake (s := requestPass
    { s with
      zst := s.zst.modify z fun x => { x with unconf := true }
      setp := s.setp.modify z fun x => { x with park := false }
      sens := { s.sens with poll := polledOff z s.sens.poll } }) hawake
  exact ⟨a, b, c, d, h⟩

/-- A FAULT zone is released. -/
theorem unconfigureZone_fault {s : State} {z : ZoneId} (hawake : Awake s) (hs : stateOf s z = .fault) :
    ∃ a b c d p, unconfigureZone z s =
      { s with
        zst := s.zst.set z ⟨.unused, false⟩
        sens := { s.sens with zone := s.sens.zone.set z SensorRec.zero, poll := polledOff z s.sens.poll }
        work := s.work.set z ZoneWork.zero, eval := { s.eval with early := true }, drive := s.drive.withdrawAll z
        port := p, op := { s.op with idleFrom := a, idleDone := b, notice := c, noticeFrom := d } } := by
  have hreleased : unconfigureZone z s = wakeIfOn (releaseZone z s) := by unfold unconfigureZone; rw [hs]
  obtain ⟨p, hp⟩ := releaseZone_eq z s
  rw [hreleased, hp]
  obtain ⟨a, b, c, d, h⟩ := wakeIfOn_awake (s := { s with
    zst := s.zst.set z ⟨.unused, false⟩
    sens := { s.sens with zone := s.sens.zone.set z SensorRec.zero, poll := polledOff z s.sens.poll }
    work := s.work.set z ZoneWork.zero, eval := { s.eval with early := true }, drive := s.drive.withdrawAll z
    port := p }) hawake
  exact ⟨a, b, c, d, p, h⟩

/-- CONFIG_ZONE unconfigure on a free port. -/
theorem exec_unconfigure {s : State} (z : ZoneId) (h : s.port.service = none) :
    exec (.configZoneUnconfigure (byte z.val)) s =
      .next (finish (accept (.unconfigure (byte z.val)) []
        (unconfigureZone z (toStage (.unconfigure (byte z.val)) .replying s)))) := by
  show Host.Outcome.next (finish (offer _ s)) = _
  rw [offer_free h]
  show Host.Outcome.next (finish (doUnconfigure _ _)) = _
  unfold doUnconfigure
  simp only [zoneOf_byte]

/-- A damper in FAULT whose zone becomes UNUSED is IDLE with stall count 0, and passed over. -/
theorem Drive.withdrawAll_fault {v : Drive} {d : ZoneId} (h : (v.dampers.get d).motion = .fault) :
    (v.withdrawAll d).dampers.get d = ⟨(v.dampers.get d).position, .idle, .nothing, 0⟩ ∧ d ∈ (v.withdrawAll d).passedOver := by
  rw [Drive.withdrawAll_eq]
  constructor
  · show (v.dampers.modify d _).get d = _
    rw [Eight.get_modify_same]
    simp [h]
  · show d ∈ (if _ then _ else _)
    rw [if_pos h]; simp

theorem Drive.withdrawAll_get_ne (v : Drive) {d x : ZoneId} (h : x ≠ d) :
    (v.withdrawAll d).dampers.get x = v.dampers.get x := by
  rw [Drive.withdrawAll_eq]; exact Eight.get_modify_ne _ _ h

theorem Drive.withdrawAll_queue {v : Drive} {d : ZoneId} (h : v.queue = []) : (v.withdrawAll d).queue = [] := by
  rw [Drive.withdrawAll_eq]
  show v.queue.filter _ = []
  rw [h]; rfl

/-- Settles O24, by the zone's state: nothing to do, the pending mark, or the release of a FAULT zone. -/
theorem unconfigureReleasesZone : Obligations.UnconfigureReleasesZone := by
  unfold Obligations.UnconfigureReleasesZone
  intro s z hcalm hawake hfree st polls
  refine ⟨_, exec_unconfigure z hfree, fun h => ?_, fun ⟨hs, hu⟩ => ?_, fun hs => ?_⟩
  · rw [unconfigureZone_same (s := toStage _ .replying s) h]
    exact timeless_finish_port (s := accept _ [] (toStage _ .replying s)) hcalm s.port
  · obtain ⟨a, b, c, d, h⟩ := unconfigureZone_pending (s := toStage (.unconfigure (byte z.val)) .replying s) hawake hs hu
    rw [h]
    refine (timeless_finish_port ?_ s.port).trans rfl
    exact hcalm
  · obtain ⟨a, b, c, d, p, h⟩ := unconfigureZone_fault (s := toStage (.unconfigure (byte z.val)) .replying s) hawake hs
    have hqueue := Drive.withdrawAll_queue (v := s.drive) (d := z) hcalm.2.1
    obtain ⟨u, hu⟩ : ∃ u, unconfigureZone z (toStage (.unconfigure (byte z.val)) .replying s) = u := ⟨_, rfl⟩
    rw [hu] at h ⊢
    obtain ⟨q, hend⟩ := finish_replied (.unconfigure (byte z.val)) [] (u := u)
      (by rw [h]; exact ⟨hcalm.1, hqueue, hcalm.2.2⟩)
    have hdrive : (sync { u with port := q }).drive = s.drive.withdrawAll z := by
      rw [sync_drive, h]; rfl
    have hframe := congrArg (fun y : State => ({ y with
      zst := s.zst, sens := s.sens, work := s.work, eval := s.eval, drive := s.drive, port := s.port } : State))
      (timeless_sync { u with port := q })
    rw [hend]
    refine ⟨by rw [sync_zst, h]; rfl, by rw [sync_sens, h]; rfl, by rw [sync_work, h]; rfl, by rw [sync_eval, h]; rfl,
      by rw [hdrive]; exact hqueue, fun hm => ?_, fun x hx => ?_, hframe.trans (by rw [h]; rfl)⟩
    · obtain ⟨hdamper, hpassed⟩ := Drive.withdrawAll_fault hm
      rw [damperOf, hdrive]
      exact ⟨hdamper, hpassed⟩
    · rw [damperOf, hdrive]
      exact ⟨s.drive.withdrawAll_get_ne hx, s.drive.withdrawAll_passedOver_ne z x hx⟩

/-! ### CLEAR_ZONE_FAULT -/

/-- CLEAR_ZONE_FAULT on a free port. -/
theorem exec_clearZoneFault {s : State} (z : ZoneId) (h : s.port.service = none) :
    exec (.clearZoneFault (byte z.val)) s =
      .next (finish (accept (.clearZoneFault (byte z.val)) []
        (clearFault z (toStage (.clearZoneFault (byte z.val)) .replying s)))) := by
  show Host.Outcome.next (finish (offer _ s)) = _
  rw [offer_free h]
  show Host.Outcome.next (finish (doClearZoneFault _ _)) = _
  unfold doClearZoneFault
  simp only [zoneOf_byte]

/-- The drive with the fault of a damper cleared. -/
def Drive.cleared (v : Drive) (d : ZoneId) : Drive := v.onDamper d fun x => { x with stalls := 0, motion := .idle }

/-- A FAULT zone becomes ACTIVE with I at 0, and its damper is to be homed. -/
theorem clearFault_eq {s : State} {z : ZoneId} (h : stateOf s z = .fault) : ∃ p, clearFault z s = homeRequest z
    { s with
      drive := s.drive.cleared z, work := s.work.set z { s.work.get z with i := 0 }
      zst := s.zst.set z { s.zst.get z with state := .active }, eval := { s.eval with early := true }, port := p } := by
  unfold clearFault
  rw [if_pos h]
  exact ⟨_, rfl⟩

/-- With a safe air path, a damper without a known position is not what passes the air. -/
theorem AirSafe.past {s : State} (h : AirSafe s) {z : ZoneId} (hz : (damperOf s z).position = none) :
    s.blower.goal = 0 ∨ ∃ x, x ≠ z ∧ passes (damperOf s x).position = true := by
  by_cases hg : s.blower.goal = 0
  · exact .inl hg
  · obtain ⟨x, hx⟩ := s.drive.airPath_iff.1 (h.1 hg)
    refine .inr ⟨x, ?_, hx⟩
    rintro rfl
    have hx : passes (damperOf s x).position = true := hx
    rw [hz] at hx; cases hx

/-- CLEAR_ZONE_FAULT of a zone in another state only asks for an early pass. -/
theorem clearZoneFault_none {s : State} {z : ZoneId} (hcalm : Calm s) (hfree : s.port.service = none)
    (hs : stateOf s z ≠ .fault) : ∃ t, exec (.clearZoneFault (byte z.val)) s = .next t ∧
      ({ t with port := s.port } : State).timeless =
        ({ s with eval := { s.eval with early := true } } : State).timeless := by
  refine ⟨_, exec_clearZoneFault z hfree, ?_⟩
  have hnone : clearFault z (toStage (.clearZoneFault (byte z.val)) .replying s) =
      requestPass (toStage (.clearZoneFault (byte z.val)) .replying s) := if_neg hs
  rw [hnone]
  refine (timeless_finish_port ?_ s.port).trans rfl
  exact hcalm

/-- The clearing of a FAULT zone: its damper is homed, waits, or faults again. -/
theorem clearZoneFault_fault {s : State} {z : ZoneId} (hcalm : Calm s) (hfree : s.port.service = none)
    (hs : stateOf s z = .fault) (hpos : (damperOf s z).position = none) (hslot : s.drive.slotOf z = none)
    (hu : (s.zst.get z).unconf = false) (hair : AirSafe s) :
    ∃ q t, exec (.clearZoneFault (byte z.val)) s = .next t ∧
      HomeOutcome
        { s with
          drive := s.drive.cleared z, work := s.work.set z { s.work.get z with i := 0 }
          zst := s.zst.set z { s.zst.get z with state := .active }, eval := { s.eval with early := true }, port := q }
        z t (s.drive.slotFree && s.inp.windingOpen.get z) := by
  obtain ⟨p, hp⟩ := clearFault_eq (s := toStage (.clearZoneFault (byte z.val)) .replying s) hs
  obtain ⟨q, hq⟩ : ∃ q, accept (.clearZoneFault (byte z.val)) []
      (clearFault z (toStage (.clearZoneFault (byte z.val)) .replying s)) = homeRequest z
        { s with
          drive := s.drive.cleared z, work := s.work.set z { s.work.get z with i := 0 }
          zst := s.zst.set z { s.zst.get z with state := .active }, eval := { s.eval with early := true }, port := q } := by
    refine ⟨(accept (.clearZoneFault (byte z.val)) []
      (clearFault z (toStage (.clearZoneFault (byte z.val)) .replying s))).port, ?_⟩
    rw [hp]; rfl
  refine ⟨q, _, exec_clearZoneFault z hfree, ?_⟩
  rw [hq]
  refine finish_homeRequest (d := z) ?_ ?_ ?_ ?_ fun _ => ⟨.inl ?_, ?_⟩
  · exact hcalm
  · exact congrArg Damper.motion (Drive.onDamper_get_same ..)
  · exact hslot
  · refine (hair.past hpos).imp id fun ⟨x, hx, hxp⟩ => ⟨x, hx, ?_⟩
    have hget : (s.drive.cleared z).dampers.get x = damperOf s x := (Drive.onDamper_get ..).trans (if_neg hx)
    show passes ((s.drive.cleared z).dampers.get x).position = true
    rw [hget]; exact hxp
  · exact congrArg ZoneStatus.state (Eight.get_set_same ..)
  · exact (congrArg ZoneStatus.unconf (Eight.get_set_same ..)).trans hu

end Sys2Proof.Machine
end

section
/-! Ends of commands that may start the compressor, and the two clearing requests (01 R5, R6; 06 R105; 10 R159). -/

namespace Sys2Proof.Machine

/-! ### A start that may be due -/

/-- Without a changeover in its BLOWER phase a hold reason tells the changeover nothing. -/
theorem addHold_applied {s : State} (h : s.co.phase = .applied) (cold : Bool) :
    addHold cold s = { s with blower := s.blower.addHold s.now s.cfg.table cold } := by
  unfold addHold
  rw [if_neg]
  rintro ⟨hb, -⟩
  rw [h] at hb; cases hb

/-- All that the start command changes where no changeover is in progress. -/
theorem startCompressor_eq {s : State} (h : s.co.phase = .applied) : ∃ b, startCompressor s =
    { s with
      seq := { s.seq with state := .running, startFailMs := 0, startFailFrom := none, runStart := none, stopSent := false }
      blower := b } := by
  unfold startCompressor
  dsimp only
  split
  · refine ⟨_, addHold_applied ?_ true⟩
    exact h
  · exact ⟨s.blower, rfl⟩

/-- A settled state with no waiting move has a start as its only consequence. -/
theorem microStep_settled {s : State} (h : Settled s) (hq : s.drive.queue = []) :
    microStep s = if startDue s then some (startCompressor s) else none := by
  obtain ⟨ht, hp, -, hh, ho, hx, hr, -⟩ := h
  have h1 : leftActive s = [] := leftActive_idle hx
  have h2 : canGrant s = false := by simp [canGrant, hq]
  have h4 : startupDone s = false := by simp [startupDone, ho]
  have h5 : preparingDone s = false := by simp [preparingDone, hx]
  have h6 : openingDone s = false := by simp [openingDone, hx]
  simp [microStep, ht, Todo.clear, hh, hr, h1, h2, h4, h5, h6, hp]

/-- A settled state with no waiting move ends a command with the start that is due, if any. -/
theorem finish_settled {s : State} (h : Settled s) (hq : s.drive.queue = []) :
    finish s = sync (if startDue s then startCompressor s else s) := by
  by_cases hd : startDue s = true
  · rw [if_pos hd]
    obtain ⟨b, hb⟩ := startCompressor_eq h.2.1
    have hcalm : Calm (startCompressor s) := by
      rw [hb]
      exact ⟨h, hq, fun hw => by cases hw⟩
    exact finish_of_leads (.one ((microStep_settled h hq).trans (if_pos hd))) (by omega) hcalm
  · rw [if_neg hd]
    exact finish_quiet h hq (by simpa using hd)

/-! ### CLEAR_LOCKOUT -/

/-- CLEAR_LOCKOUT on a free port. -/
theorem exec_clearLockout {s : State} (h : s.port.service = none) :
    exec .clearLockout s =
      .next (finish (accept .clearLockout [] (clearLockout (toStage .clearLockout .replying s)))) := by
  show Host.Outcome.next (finish (offer _ s)) = _
  rw [offer_free h]; rfl

theorem kept_clearLockout (s : State) :
    (kept (clearLockout s)).hist = Histories.empty ∧ (kept (clearLockout s)).lockout = false := by
  unfold clearLockout
  dsimp only
  split
  · rw [kept_requestPass, kept_raise, kept_lockoutEnds]; exact ⟨rfl, rfl⟩
  · exact ⟨rfl, rfl⟩

/-- Without LOCKOUT the histories are emptied and an early pass is requested. -/
theorem clearLockout_clear {s : State} (h : s.prot.lockout = false) : clearLockout s =
    { s with prot := { s.prot with hist := Histories.empty, lockout := false }, eval := { s.eval with early := true } } := by
  unfold clearLockout; simp only [h, Bool.false_eq_true, if_false, requestPass]

/-- The state in which the sequencer leaves LOCKOUT. -/
def lockoutLeft (s : State) : SeqState := if s.prot.stops ≠ [] then .tripped else restState s

/-- With LOCKOUT the sequencer leaves LOCKOUT too. -/
theorem clearLockout_set {s : State} (h : s.prot.lockout = true) (hq : s.seq.state = .lockout) :
    ∃ p, clearLockout s =
      { s with
        prot := { s.prot with hist := Histories.empty, lockout := false }, seq := { s.seq with state := lockoutLeft s }
        eval := { s.eval with early := true }, port := p } := by
  unfold clearLockout lockoutEnds
  simp only [h, if_true, hq]
  exact ⟨_, rfl⟩

/-- The clearing of a LOCKOUT that is set, at the end of its command. -/
theorem finish_clearLockout {s : State} (hcalm : Calm s) (h : s.prot.lockout = true) (hq : s.seq.state = .lockout) :
    let t := finish (accept .clearLockout [] (clearLockout (toStage .clearLockout .replying s)))
    (s.prot.stops ≠ [] → t.seq.state = .tripped) ∧ (s.prot.stops = [] → wanted s = 0 → t.seq.state = .stopped) ∧
      (s.prot.stops = [] → wanted s ≠ 0 → startHeld s = true → t.seq.state = .waitStart) ∧ t.eval.early = true ∧
      (s.prot.stops ≠ [] ∨ wanted s = 0 ∨ startHeld s = true →
        ({ t with seq := s.seq, prot := s.prot, eval := s.eval, port := s.port } : State).timeless = s.timeless) := by
  intro t
  obtain ⟨p, hp⟩ := clearLockout_set (s := toStage .clearLockout .replying s) h hq
  obtain ⟨u, hu⟩ : ∃ u, accept .clearLockout [] (clearLockout (toStage .clearLockout .replying s)) = u := ⟨_, rfl⟩
  obtain ⟨q, heq⟩ : ∃ q, u =
      { s with
        prot := { s.prot with hist := Histories.empty, lockout := false }, seq := { s.seq with state := lockoutLeft s }
        eval := { s.eval with early := true }, port := q } :=
    ⟨u.port, by rw [← hu, hp]; rfl⟩
  have hstate : u.seq.state = lockoutLeft s := by rw [heq]
  have hdue : startDue u = (decide (lockoutLeft s = .waitStart) && decide (wanted s ≠ 0) && !startHeld s) := by
    rw [heq]; rfl
  have hend : t = sync (if startDue u then startCompressor u else u) := by
    show finish (accept .clearLockout [] _) = _
    rw [hu]
    exact finish_settled (by rw [heq]; exact hcalm.1) (by rw [heq]; exact hcalm.2.1)
  have hrest : startDue u = false → t = sync u := fun hd => by rw [hend, hd]; rfl
  have hleft : (s.prot.stops ≠ [] → lockoutLeft s = .tripped) ∧
      (s.prot.stops = [] → wanted s = 0 → lockoutLeft s = .stopped) ∧
      (s.prot.stops = [] → wanted s ≠ 0 → lockoutLeft s = .waitStart) := by
    unfold lockoutLeft restState
    exact ⟨fun h => if_pos h, fun h1 h2 => by rw [if_neg (not_not.2 h1), if_pos h2],
      fun h1 h2 => by rw [if_neg (not_not.2 h1), if_neg h2]⟩
  have hno : s.prot.stops ≠ [] ∨ wanted s = 0 ∨ startHeld s = true → startDue u = false := by
    rw [hdue]
    rintro (h | h | h)
    · simp [hleft.1 h]
    · simp [h]
    · simp [h]
  refine ⟨fun h => ?_, fun h1 h2 => ?_, fun h1 h2 h3 => ?_, ?_, fun h => ?_⟩
  · rw [hrest (hno (.inl h)), sync_seq_state, hstate, hleft.1 h]
  · rw [hrest (hno (.inr (.inl h2))), sync_seq_state, hstate, hleft.2.1 h1 h2]
  · rw [hrest (hno (.inr (.inr h3))), sync_seq_state, hstate, hleft.2.2 h1 h2]
  · rw [hend, sync_eval]
    split
    · obtain ⟨b, hb⟩ := startCompressor_eq (s := u) (by rw [heq]; exact hcalm.1.2.1)
      rw [hb, heq]
    · rw [heq]
  · rw [hrest (hno h)]
    have hframe := congrArg (fun y : State => ({ y with
      seq := s.timeless.seq, prot := s.timeless.prot, eval := s.eval, port := s.port } : State)) (timeless_sync u)
    refine Eq.trans hframe ?_
    rw [heq]; rfl

/-- Settles O25: the home request of a cleared FAULT zone, and the ways out of LOCKOUT. -/
theorem clearsAct : Obligations.ClearsAct := by
  unfold Obligations.ClearsAct
  refine ⟨fun s z hcalm hfree => ?_, fun s hfree => ?_⟩
  · intro open_ faults
    refine ⟨clearZoneFault_none hcalm hfree, fun hs hmotion hpos hslot hfollow hu hair => ?_⟩
    obtain ⟨q, t, hexec, hout⟩ := clearZoneFault_fault hcalm hfree hs hpos hslot hu hair
    have hget : ∀ x, (s.drive.cleared z).dampers.get x =
        if x = z then { damperOf s z with stalls := 0, motion := .idle } else damperOf s x := fun x => Drive.onDamper_get ..
    have hfaults : (s.drive.slotFree && s.inp.windingOpen.get z) = faults := rfl
    rw [hfaults] at hout
    refine ⟨t, hexec, ?_, hout.eval, ?_, ?_, hout.queue, hout.slot, fun x hx => ?_, ?_⟩
    · refine hout.zst.trans ?_
      cases faults
      · rfl
      · show (s.zst.set z _).set z _ = s.zst.set z { s.zst.get z with state := ZoneState.fault }
        apply Eight.ext_get; intro j
        rw [Eight.get_set, Eight.get_set, Eight.get_set]
        by_cases hj : j = z
        · simp only [hj, if_true, hu]
        · simp only [hj, if_false]
    · exact congrArg State.work hout.frame
    · refine hout.damper.trans ?_
      show (if faults = true then
          ({ (s.drive.cleared z).dampers.get z with motion := .fault, position := none, followOn := .nothing } : Damper)
        else if s.drive.slotFree = true then
          { (s.drive.cleared z).dampers.get z with motion := .homing, position := none }
        else { (s.drive.cleared z).dampers.get z with motion := .queued }) = _
      rw [hget, if_pos rfl]
      by_cases hf : faults = true
      · simp only [hf, if_true, hpos, hfollow]
      · by_cases hs : s.drive.slotFree = true <;> simp only [hf, hs, if_true, hpos, Bool.false_eq_true, if_false]
    · refine ⟨(hout.others x hx).1.trans ((hget x).trans (if_neg hx)), (hout.others x hx).2⟩
    · have hframe := congrArg (fun y : State => ({ y with
        zst := s.zst, eval := s.eval, work := s.work, drive := s.drive, port := s.port } : State)) hout.frame
      exact hframe
  · have hcore := core_finish (accept .clearLockout [] (clearLockout (toStage .clearLockout .replying s)))
    obtain ⟨hhist, hlock⟩ := kept_clearLockout (toStage .clearLockout .replying s)
    refine ⟨_, exec_clearLockout hfree, (congrArg Kept.hist hcore).trans hhist, (congrArg Kept.lockout hcore).trans hlock,
      fun hcalm hno => ?_, fun hcalm hset hq => finish_clearLockout hcalm hset hq⟩
    obtain ⟨u, hu⟩ : ∃ u, accept .clearLockout [] (clearLockout (toStage .clearLockout .replying s)) = u := ⟨_, rfl⟩
    have heq : u = { s with
        prot := { s.prot with hist := Histories.empty, lockout := false }, eval := { s.eval with early := true }
        port := u.port } := by
      rw [← hu, clearLockout_clear (s := toStage .clearLockout .replying s) hno]; rfl
    rw [hu, finish_calm (s := u) (by rw [heq]; exact hcalm)]
    have hframe := congrArg (fun y : State => ({ y with port := s.port, prot := { y.prot with hist := s.prot.hist } } : State))
      (timeless_sync u)
    refine Eq.trans hframe ?_
    rw [heq, ← hno]; rfl

end Sys2Proof.Machine
end

section
/-! CONFIG_ZONE configure (01 R5, R6): a zone's values, its sensing restarted for a new address, and a new zone homed. -/

namespace Sys2Proof.Machine

/-- Sensing that restarts for an address, written out. -/
theorem SensorRec.restarted_eq (now : Nat) (air : Option Int) (address : Option Nat) :
    SensorRec.restarted now air address =
      ⟨if address = none then .noSensor else .waiting, none, none, air, 0, address.map fun _ => now⟩ := by
  cases address <;> rfl

/-- Sensing restarted or stopped for an address: the zone's fields and the poll in progress. -/
theorem restartSensing_eq (z : ZoneId) (address : Option Nat) (s : State) : ∃ p, restartSensing z address s =
    { s with
      sens :=
        { s.sens with
          zone := s.sens.zone.set z (SensorRec.restarted s.now s.sens.returnAir address)
          poll := polledOff z s.sens.poll }
      eval :=
        { s.eval with
          early := s.eval.early ||
            decide ((SensorRec.restarted s.now s.sens.returnAir address).state ≠ (sensorOf s z).state) }
      port := p } := changeSensor_discardPoll ..

/-- A configured zone that keeps its sensor address. -/
theorem configureZone_kept {s : State} {z : ZoneId} {c : ZoneConfig} (hs : stateOf s z ≠ .unused)
    (ha : c.address = (s.zcfg.get z).address) : configureZone z c s =
    { s with
      zcfg := s.zcfg.set z c, zst := s.zst.set z ⟨stateOf s z, false⟩, eval := { s.eval with early := true } } := by
  unfold configureZone
  dsimp only
  rw [if_neg hs, if_pos ha]
  rfl

/-- A configured zone with a new sensor address. -/
theorem configureZone_moved {s : State} {z : ZoneId} {c : ZoneConfig} (hs : stateOf s z ≠ .unused)
    (ha : c.address ≠ (s.zcfg.get z).address) : ∃ p, configureZone z c s =
    { s with
      zcfg := s.zcfg.set z c, zst := s.zst.set z ⟨stateOf s z, false⟩, eval := { s.eval with early := true }
      sens := { s.sens with
        zone := s.sens.zone.set z (SensorRec.restarted s.now s.sens.returnAir c.address)
        poll := polledOff z s.sens.poll }
      port := p } := by
  unfold configureZone
  dsimp only
  rw [if_neg hs, if_neg ha]
  obtain ⟨p, hp⟩ := restartSensing_eq z c.address (requestPass
    { s with zcfg := s.zcfg.set z c, zst := s.zst.modify z fun x => { x with unconf := false } })
  exact ⟨p, hp.trans (by simp only [requestPass, Bool.true_or]; rfl)⟩

/-- An UNUSED zone becomes ACTIVE, with its sensing restarted and its damper to be homed. -/
theorem configureZone_new {s : State} {z : ZoneId} {c : ZoneConfig} (hs : stateOf s z = .unused) :
    ∃ p, configureZone z c s = homeRequest z
    { s with
      zcfg := s.zcfg.set z c, zst := s.zst.set z ⟨.active, false⟩, eval := { s.eval with early := true }
      sens := { s.sens with
        zone := s.sens.zone.set z (SensorRec.restarted s.now s.sens.returnAir c.address)
        poll := polledOff z s.sens.poll }
      port := p } := by
  have hset : ((s.zst.modify z fun x => { x with unconf := false }).modify z fun x => { x with state := ZoneState.active }) =
      s.zst.set z ⟨.active, false⟩ := by
    apply Eight.ext_get; intro j
    rw [Eight.get_modify, Eight.get_modify, Eight.get_modify, Eight.get_set]
    by_cases hj : j = z <;> simp [hj]
  unfold configureZone
  dsimp only
  rw [if_pos hs]
  obtain ⟨p, hp⟩ := restartSensing_eq z c.address (homeRequest z (setZoneState z .active (requestPass
    { s with zcfg := s.zcfg.set z c, zst := s.zst.modify z fun x => { x with unconf := false } })))
  refine ⟨p, hp.trans ?_⟩
  rw [← hset]
  simp only [homeRequest, setZoneState, requestPass, raise, Bool.true_or]

/-- CONFIG_ZONE configure on a free port, with values in range and an address of its own. -/
theorem exec_configure {s : State} {z : ZoneId} {da ra : Word} {rank a : Byte} {c : ZoneConfig}
    (h : s.port.service = none) (hc : zoneConfigOf da ra rank a = some c) (ha : addressTaken s z c.address = false) :
    exec (.configZoneConfigure (byte z.val) da ra rank a) s =
      .next (finish (accept (.configure (byte z.val) da ra rank a) []
        (wakeIfOn (configureZone z c (toStage (.configure (byte z.val) da ra rank a) .replying s))))) := by
  have ha' : addressTaken (toStage (.configure (byte z.val) da ra rank a) .replying s) z c.address = false := ha
  show Host.Outcome.next (finish (offer _ s)) = _
  rw [offer_free h]
  show Host.Outcome.next (finish (doConfigure _ _ _ _ _ _)) = _
  unfold doConfigure
  simp only [zoneOf_byte, hc, ha', Bool.false_eq_true, if_false]

/-- The reply to a wake event that only changes the idle time and the notice, after a home request or none. -/
theorem accept_wakeIfOn {u : State} (h : Awake u) (r : Request) : ∃ a b c d p, accept r [] (wakeIfOn u) =
    { u with op := { u.op with idleFrom := a, idleDone := b, notice := c, noticeFrom := d }, port := p } := by
  obtain ⟨a, b, c, d, he⟩ := wakeIfOn_awake h
  rw [he]
  exact ⟨a, b, c, d, _, rfl⟩

/-- A zone that was configured before: its values, and its sensing where its address is new. -/
theorem configure_configured {s : State} {z : ZoneId} {c : ZoneConfig} (r : Request) (hcalm : Calm s) (hawake : Awake s)
    (hs : stateOf s z ≠ .unused) :
    let restarts := decide (c.address ≠ (s.zcfg.get z).address)
    let t := finish (accept r [] (wakeIfOn (configureZone z c (toStage r .replying s))))
    t.timeless = ({ s with
      zcfg := s.zcfg.set z c, zst := s.zst.set z ⟨stateOf s z, false⟩, eval := { s.eval with early := true }
      sens := { s.sens with
        zone := s.sens.zone.set z
          (if restarts then SensorRec.restarted s.now s.sens.returnAir c.address else sensorOf s z)
        poll := if restarts then polledOff z s.sens.poll else s.sens.poll }
      port := t.port } : State).timeless := by
  intro restarts t
  have htdef : t = finish (accept r [] (wakeIfOn (configureZone z c (toStage r .replying s)))) := rfl
  clear_value t
  obtain ⟨p, hp⟩ : ∃ p, configureZone z c (toStage r .replying s) = { s with
      zcfg := s.zcfg.set z c, zst := s.zst.set z ⟨stateOf s z, false⟩, eval := { s.eval with early := true }
      sens := { s.sens with
        zone := s.sens.zone.set z
          (if restarts then SensorRec.restarted s.now s.sens.returnAir c.address else sensorOf s z)
        poll := if restarts then polledOff z s.sens.poll else s.sens.poll }
      port := p } := by
    by_cases ha : c.address = (s.zcfg.get z).address
    · have hr : restarts = false := decide_eq_false (not_not.2 ha)
      refine ⟨(toStage r .replying s).port, (configureZone_kept (s := toStage r .replying s) hs ha).trans ?_⟩
      have hself : s.sens.zone.set z (sensorOf s z) = s.sens.zone := Eight.set_get_self ..
      simp only [hr, Bool.false_eq_true, if_false, hself]
      rfl
    · have hr : restarts = true := decide_eq_true ha
      obtain ⟨p, hp⟩ := configureZone_moved (s := toStage r .replying s) hs ha
      refine ⟨p, hp.trans ?_⟩
      simp only [hr, if_true]
      rfl
  obtain ⟨u, hu⟩ : ∃ u, configureZone z c (toStage r .replying s) = u := ⟨_, rfl⟩
  rw [hu] at hp
  have hawake' : Awake u := by rw [hp]; exact hawake
  obtain ⟨a, b, e, d, q, ht⟩ := accept_wakeIfOn hawake' r
  have hfinish : t = finish
      { u with op := { u.op with idleFrom := a, idleDone := b, notice := e, noticeFrom := d }, port := q } := by
    rw [htdef, hu, ht]
  have htimeless := timeless_finish_calm (s :=
      { u with op := { u.op with idleFrom := a, idleDone := b, notice := e, noticeFrom := d }, port := q })
    (by rw [hp]; exact hcalm)
  rw [← hfinish] at htimeless
  have hport : t.port = q := by
    have := congrArg State.port htimeless; exact this
  rw [htimeless, hport, hp]
  rfl

/-- A zone that was UNUSED: the outcome of its damper's home request. -/
theorem configure_unused {s : State} {z : ZoneId} {c : ZoneConfig} (r : Request) (hcalm : Calm s) (hawake : Awake s)
    (hs : stateOf s z = .unused) (hidle : (damperOf s z).motion = .idle) (hslot : s.drive.slotOf z = none)
    (hair : s.blower.goal = 0 ∨ ∃ x, x ≠ z ∧ passes (damperOf s x).position = true) :
    ∃ i j k l q, HomeOutcome
      { s with
        zcfg := s.zcfg.set z c, zst := s.zst.set z ⟨.active, false⟩, eval := { s.eval with early := true }
        sens := { s.sens with
          zone := s.sens.zone.set z (SensorRec.restarted s.now s.sens.returnAir c.address)
          poll := polledOff z s.sens.poll }
        op := { s.op with idleFrom := i, idleDone := j, notice := k, noticeFrom := l }, port := q }
      z (finish (accept r [] (wakeIfOn (configureZone z c (toStage r .replying s)))))
      (s.drive.slotFree && s.inp.windingOpen.get z) := by
  obtain ⟨p, hp⟩ := configureZone_new (c := c) (s := toStage r .replying s) hs
  obtain ⟨u, hu⟩ : ∃ u, configureZone z c (toStage r .replying s) = u := ⟨_, rfl⟩
  rw [hu] at hp
  have hawake' : Awake u := by rw [hp]; exact hawake
  obtain ⟨a, b, e, d, q, ht⟩ := accept_wakeIfOn hawake' r
  refine ⟨a, b, e, d, q, ?_⟩
  rw [hu, ht, hp]
  refine finish_homeRequest (d := z) ?_ hidle hslot hair fun _ => ⟨.inl ?_, ?_⟩
  · exact hcalm
  · exact congrArg ZoneStatus.state (Eight.get_set_same ..)
  · exact congrArg ZoneStatus.unconf (Eight.get_set_same ..)

/-- Settles O23, by the zone's state before: a configured zone has its values written, a new one has its damper homed too. -/
theorem configureWritesZone : Obligations.ConfigureWritesZone := by
  unfold Obligations.ConfigureWritesZone
  intro s z da ra rank a c hcalm hawake hfree hc ha was restarts sensor polls homes starts faults hhomes
  refine ⟨_, exec_configure hfree hc ha, ?_⟩
  have hsensor : SensorRec.restarted s.now s.sens.returnAir c.address =
      ⟨if c.address = none then .noSensor else .waiting, none, none, s.sens.returnAir, 0, c.address.map fun _ => s.now⟩ :=
    SensorRec.restarted_eq ..
  by_cases hs : was = .unused
  · have hhomes1 : homes = true := decide_eq_true hs
    have hrestarts : restarts = true := by simp [restarts, hs]
    have hpolls : polls = polledOff z s.sens.poll := by
      simp only [polls, hrestarts, Bool.true_and, decide_eq_true_eq]; rfl
    have hsens : sensor = SensorRec.restarted s.now s.sens.returnAir c.address := by
      rw [hsensor]; simp only [sensor, hrestarts, if_true]
    obtain ⟨hidle, hslot, hair⟩ := hhomes hs
    obtain ⟨_, _, _, _, q, hout⟩ := configure_unused (c := c) (.configure (byte z.val) da ra rank a) hcalm hawake hs hidle hslot hair
    generalize finish (accept (.configure (byte z.val) da ra rank a) [] (wakeIfOn (configureZone z c
      (toStage (.configure (byte z.val) da ra rank a) .replying s)))) = t at hout ⊢
    have hstarts : starts = s.drive.slotFree := by simp only [starts, hhomes1, Bool.true_and]
    have hfaults : faults = (s.drive.slotFree && s.inp.windingOpen.get z) := by simp only [faults, hstarts]
    rw [← hfaults] at hout
    have hzcfg : t.zcfg = s.zcfg.set z c := congrArg State.zcfg hout.frame
    have hsensAll := congrArg State.sens hout.frame
    refine ⟨hzcfg, ?_, ?_, hout.eval, ?_, ?_, ?_, fun _ h => ?_, fun x hx => ?_, hout.others, ?_⟩
    · refine hout.zst.trans ?_
      cases faults
      · simp only [Bool.false_eq_true, if_false, hs, if_true]
      · show (s.zst.set z _).set z _ = _
        apply Eight.ext_get; intro j
        rw [Eight.get_set, Eight.get_set, Eight.get_set]
        split <;> rfl
    · rw [hsens, hpolls]; exact hsensAll
    · refine hout.queue.trans ?_
      rw [hhomes1, hstarts]
      show (if s.drive.slotFree = true then _ else _) = _
      cases s.drive.slotFree <;> rfl
    · refine hout.slot.trans ?_
      rw [hstarts]
      show (if (s.drive.slotFree && !faults) = true then _ else _) = _
      rw [hslot]
    · refine hout.damper.trans ?_
      rw [hstarts, hhomes1]
      rfl
    · exact ((hout.passed z).1 h).2 rfl
    · have hx : x ≠ z := hx.elim id fun h => by rw [hhomes1] at h; cases h
      exact (hout.passed x).trans ⟨fun h => h.1, fun h => ⟨h, hx⟩⟩
    · have hframe := congrArg (fun y : State => ({ y with
        zcfg := s.zcfg, zst := s.zst, sens := s.sens, eval := s.eval, drive := s.drive, port := s.port } : State))
        hout.frame
      exact hframe
  · have hhomes0 : homes = false := decide_eq_false hs
    have hrestarts : restarts = decide (c.address ≠ (s.zcfg.get z).address) := by simp [restarts, hs]
    have hpolls : polls = if restarts then polledOff z s.sens.poll else s.sens.poll := by
      cases hr : restarts
      · simp only [polls, hr, Bool.false_and, Bool.false_eq_true, if_false, Option.map_id']
      · simp only [polls, hr, Bool.true_and, decide_eq_true_eq, if_true]; rfl
    have hsens : sensor = if restarts then SensorRec.restarted s.now s.sens.returnAir c.address else sensorOf s z := by
      rw [hsensor]
    have hstarts : starts = false := by simp only [starts, hhomes0, Bool.false_and]
    have hfaults : faults = false := by simp only [faults, hstarts, Bool.false_and]
    have hout := configure_configured (c := c) (.configure (byte z.val) da ra rank a) hcalm hawake hs
    dsimp only at hout
    rw [← hrestarts, ← hpolls, ← hsens] at hout
    generalize finish (accept (.configure (byte z.val) da ra rank a) [] (wakeIfOn (configureZone z c
      (toStage (.configure (byte z.val) da ra rank a) .replying s)))) = t at hout ⊢
    have hdrive := congrArg State.drive hout
    have hzcfg := congrArg State.zcfg hout
    have hsensAll := congrArg State.sens hout
    have heval := congrArg State.eval hout
    have hzst := congrArg State.zst hout
    replace hdrive : t.drive = s.drive := hdrive
    refine ⟨hzcfg, ?_, hsensAll, heval, ?_, ?_, ?_, fun h => ?_,
      fun x _ => ?_, fun x _ => ?_, ?_⟩
    · rw [hfaults]; refine hzst.trans ?_
      rw [if_neg hs]; rfl
    · rw [hdrive, hhomes0]; exact hcalm.2.1
    · rw [hdrive, hstarts]; rfl
    · rw [damperOf, hdrive, hfaults, hstarts, hhomes0]; rfl
    · rw [hhomes0] at h; cases h
    · rw [hdrive]
    · rw [damperOf, hdrive]; exact ⟨rfl, rfl⟩
    · have hframe := congrArg (fun y : State => ({ y with
        zcfg := s.zcfg, zst := s.zst, sens := s.sens, eval := s.eval, drive := s.drive, port := s.port } : State)) hout
      exact hframe

end Sys2Proof.Machine
end

section
/-! Damper steps, stalls and completed motions (06 R94, R100 to R103; 04 R71). -/

namespace Sys2Proof.Machine

/-! ### DAMPER_STEP -/

section
variable {v : Drive} {d : ZoneId} {slot : Slot}

/-- A step counts in the slot of its damper and in no other. -/
theorem Drive.stepMotion_slotOf (h : v.slotOf d = some slot) (x : ZoneId) : (v.stepMotion d).slotOf x =
    if x = d then some { slot with steps := slot.steps + 1, lastStep := slot.lastStep + 20 } else v.slotOf x := by
  rw [Drive.slotOf_eq, Drive.stepMotion_slotsOf, List.head?_map, ← Drive.slotOf_eq]
  by_cases hx : x = d
  · subst hx
    rw [if_pos rfl, h]
    simp only [Option.map_some, Slot.stepped, Drive.slotOf_damper h, if_true]
  · rw [if_neg hx]
    cases hs : v.slotOf x with
    | none => rfl
    | some y =>
      have hy : y.damper ≠ d := by rw [Drive.slotOf_damper hs]; exact hx
      simp only [Option.map_some, Slot.stepped, hy, if_false]

/-- A step toward a target that is not reached. -/
theorem towards_ne {p t : Nat} (h : p ≠ t) : towards p t = if p < t then p + 1 else p - 1 := by
  unfold towards
  by_cases hlt : p < t
  · rw [if_pos hlt, if_pos hlt]
  · rw [if_neg hlt, if_neg hlt, if_pos (by omega)]

/-- A MOVE that has not reached its target: its step is due, and takes the position one nearer. -/
theorem Drive.stepMotion_move {now p u : Nat} (h : v.slotOf d = some slot) (hw : slot.what = .move u)
    (hdue : slot.lastStep + 20 ≤ now) (hp : (v.dampers.get d).position = some p) (hne : p ≠ u) :
    v.stepDue now d = true ∧ ∀ x, (v.stepMotion d).dampers.get x = if x = d then
      { v.dampers.get d with position := some (if p < u then p + 1 else p - 1) } else v.dampers.get x := by
  refine ⟨?_, fun x => ?_⟩
  · obtain ⟨e, w, n, l, o⟩ := slot
    cases hw
    unfold Drive.stepDue Drive.motionDone
    simp only [h, hp, Option.some.injEq, hne, decide_false, Bool.not_false, Bool.and_true]
    exact decide_eq_true hdue
  · rw [Drive.stepMotion_get_move v d x h hw, hp, Option.map_some, towards_ne hne]

/-- A HOME that has not issued its last step: its step is due, and no record changes. -/
theorem Drive.stepMotion_home {now : Nat} (h : v.slotOf d = some slot) (hw : slot.what = .home)
    (hdue : slot.lastStep + 20 ≤ now) (hn : slot.steps < 220) :
    v.stepDue now d = true ∧ (v.stepMotion d).dampers = v.dampers := by
  constructor
  · obtain ⟨e, w, n, l, o⟩ := slot
    cases hw
    unfold Drive.stepDue Drive.motionDone
    have hn : ¬ 220 ≤ n := Nat.not_le.2 hn
    simp only [h, hn, decide_false, Bool.not_false, Bool.and_true]
    exact decide_eq_true hdue
  · refine Drive.stepMotion_dampers_home v d fun y t hy ht => ?_
    rw [h] at hy
    obtain rfl := Option.some.inj hy
    rw [hw] at ht; cases ht

theorem Drive.stepMotion_rest (v : Drive) (d : ZoneId) : (v.stepMotion d).queue = v.queue ∧
    (v.stepMotion d).resetHomes = v.resetHomes ∧ (v.stepMotion d).passedOver = v.passedOver := by
  unfold Drive.stepMotion; dsimp only; split <;> exact ⟨rfl, rfl, rfl⟩

end

/-- A due step that leaves an air path changes the drive alone. -/
theorem exec_damperStep {s : State} {d : ZoneId} (hdue : s.drive.stepDue s.now d = true)
    (hair : s.blower.goal = 0 ∨ (s.drive.stepMotion d).airPath = true) :
    exec (.damperStep d) s = .next { s with drive := s.drive.stepMotion d } := by
  show execDamperStep d s = _
  unfold execDamperStep
  rw [if_pos hdue]
  dsimp only
  rw [if_neg]
  rintro ⟨hg, ha⟩
  rcases hair with h | h
  · exact hg h
  · rw [h] at ha; cases ha

/-! ### The outcome of a fault -/

/-- What a fault of damper `d` of an ACTIVE or PARKED zone comes to in a calm state; with unconfigure pending the zone goes on to UNUSED. -/
structure FaultOutcome (s : State) (d : ZoneId) (t : State) (leaves : Bool) : Prop where
  damper : damperOf t d =
    if leaves then ⟨none, .idle, .nothing, 0⟩
    else { damperOf s d with motion := .fault, position := none, followOn := .nothing }
  slot : t.drive.slotOf d = none
  zst : t.zst = s.zst.set d ⟨if leaves then .unused else .fault, false⟩
  stays : leaves = false → t.sens = s.sens ∧ t.work = s.work
  left : leaves = true →
    t.sens = { s.sens with zone := s.sens.zone.set d SensorRec.zero, poll := polledOff d s.sens.poll } ∧
      t.work = s.work.set d ZoneWork.zero ∧ d ∈ t.drive.passedOver
  passed : ∀ x, x ≠ d → (x ∈ t.drive.passedOver ↔ x ∈ s.drive.passedOver)
  eval : t.eval = { s.eval with early := true }
  queue : t.drive.queue = []
  resetHomes : t.drive.resetHomes = s.drive.resetHomes.filter fun z => decide (z ≠ d)
  others : ∀ x, x ≠ d → damperOf t x = damperOf s x ∧ t.drive.slotOf x = s.drive.slotOf x
  frame : ({ t with
    drive := s.drive, zst := s.zst, sens := s.sens, work := s.work, eval := s.eval, port := s.port } : State).timeless =
      s.timeless

theorem Drive.fault_slotOf (v : Drive) (d x : ZoneId) : (v.fault d).slotOf x = if x = d then none else v.slotOf x := by
  rw [Drive.slotOf_eq, Drive.fault_slotsOf]
  split
  · rfl
  · exact (Drive.slotOf_eq v x).symm

theorem Drive.fault_queue {v : Drive} (h : v.queue = []) (d : ZoneId) : (v.fault d).queue = [] := by
  show v.queue.filter _ = []
  rw [h]; rfl

theorem Drive.withdrawAll_slotOf (v : Drive) (d x : ZoneId) : (v.withdrawAll d).slotOf x = v.slotOf x := by
  rw [Drive.withdrawAll_eq]; rfl

/-- The end of a fault in a calm state whose zone stays configured. -/
theorem fault_stays {s : State} {d : ZoneId} (hcalm : Calm s) (hs : stateOf s d = .active ∨ stateOf s d = .parked)
    (hu : (s.zst.get d).unconf = false) :
    FaultOutcome s d (sync { faultDamper d s with todo := Todo.clear }) false := by
  have htodo : s.todo = Todo.clear := hcalm.1.1
  obtain ⟨p, hp⟩ := faultDamper_stays hs hu
  obtain ⟨t, ht⟩ : ∃ t : State, { faultDamper d s with todo := Todo.clear } = t := ⟨_, rfl⟩
  have heq : t = { s with
      drive := s.drive.fault d, zst := s.zst.set d ⟨.fault, false⟩, eval := { s.eval with early := true }, port := p } := by
    rw [← ht, hp, ← htodo]
  have hdrive : (sync t).drive = s.drive.fault d := by rw [sync_drive, heq]
  have hframe := congrArg (fun y : State => ({ y with
    drive := s.drive, zst := s.zst, sens := s.sens, work := s.work, eval := s.eval, port := s.port } : State))
    (timeless_sync t)
  rw [ht]
  refine ⟨?_, ?_, ?_, fun _ => ⟨?_, ?_⟩, fun h => (by cases h), fun x _ => ?_, ?_, ?_, ?_, fun x hx => ?_,
    hframe.trans (by rw [heq]; rfl)⟩
  · rw [damperOf, hdrive, Drive.fault_get, if_pos rfl]; rfl
  · rw [hdrive, Drive.fault_slotOf, if_pos rfl]
  · rw [sync_zst, heq]; rfl
  · rw [sync_sens, heq]
  · rw [sync_work, heq]
  · rw [hdrive]; exact Iff.rfl
  · rw [sync_eval, heq]
  · rw [hdrive]; exact Drive.fault_queue hcalm.2.1 d
  · rw [hdrive]; rfl
  · rw [damperOf, hdrive, Drive.fault_get, if_neg hx, Drive.fault_slotOf, if_neg hx]
    exact ⟨rfl, rfl⟩

/-- The end of a fault in a calm state whose zone goes on to UNUSED. -/
theorem fault_leaves {s : State} {d : ZoneId} (hcalm : Calm s) (hs : stateOf s d = .active ∨ stateOf s d = .parked)
    (hu : (s.zst.get d).unconf = true) :
    FaultOutcome s d (sync { faultDamper d s with todo := Todo.clear }) true := by
  have htodo : s.todo = Todo.clear := hcalm.1.1
  obtain ⟨p, hp⟩ := faultDamper_leaves hs hu
  obtain ⟨t, ht⟩ : ∃ t : State, { faultDamper d s with todo := Todo.clear } = t := ⟨_, rfl⟩
  have heq : t = { s with
      drive := (s.drive.fault d).withdrawAll d, zst := s.zst.set d ⟨.unused, false⟩
      sens := { s.sens with zone := s.sens.zone.set d SensorRec.zero, poll := polledOff d s.sens.poll }
      work := s.work.set d ZoneWork.zero, eval := { s.eval with early := true }, port := p } := by
    rw [← ht, hp, ← htodo]
  have hdrive : (sync t).drive = (s.drive.fault d).withdrawAll d := by rw [sync_drive, heq]
  have hmotion : ((s.drive.fault d).dampers.get d).motion = .fault := by rw [Drive.fault_get, if_pos rfl]
  have hpos : ((s.drive.fault d).dampers.get d).position = none := by rw [Drive.fault_get, if_pos rfl]
  have hslot : (s.drive.fault d).slotOf d = none := by rw [Drive.fault_slotOf, if_pos rfl]
  obtain ⟨hdamper, hpassed⟩ := Drive.withdrawAll_fault hmotion
  have hframe := congrArg (fun y : State => ({ y with
    drive := s.drive, zst := s.zst, sens := s.sens, work := s.work, eval := s.eval, port := s.port } : State))
    (timeless_sync t)
  rw [ht]
  refine ⟨?_, ?_, ?_, fun h => (by cases h), fun _ => ⟨?_, ?_, ?_⟩, fun x hx => ?_, ?_, ?_, ?_, fun x hx => ?_,
    hframe.trans (by rw [heq]; rfl)⟩
  · rw [damperOf, hdrive, hdamper, hpos]; rfl
  · rw [hdrive, Drive.withdrawAll_slotOf, hslot]
  · rw [sync_zst, heq]; rfl
  · rw [sync_sens, heq]
  · rw [sync_work, heq]
  · rw [hdrive]; exact hpassed
  · rw [hdrive]; exact Drive.withdrawAll_passedOver_ne _ d x hx
  · rw [sync_eval, heq]
  · rw [hdrive]; exact Drive.withdrawAll_queue (Drive.fault_queue hcalm.2.1 d)
  · rw [hdrive, Drive.withdrawAll_eq]
    show (if _ then (s.drive.fault d).resetHomes.filter _ else _) = _
    rw [if_pos hslot]
    show (s.drive.resetHomes.filter _).filter _ = _
    rw [List.filter_filter]
    simp only [Bool.and_self]
  · rw [damperOf, hdrive, Drive.withdrawAll_get_ne _ hx, Drive.fault_get, if_neg hx, Drive.withdrawAll_slotOf,
      Drive.fault_slotOf, if_neg hx]
    exact ⟨rfl, rfl⟩

/-- The end of a fault in a calm state, whether its zone stays or leaves. -/
theorem fault_outcome {s : State} {d : ZoneId} (hcalm : Calm s) (hs : stateOf s d = .active ∨ stateOf s d = .parked) :
    FaultOutcome s d (sync { faultDamper d s with todo := Todo.clear }) (s.zst.get d).unconf := by
  cases hu : (s.zst.get d).unconf with
  | false => exact fault_stays hcalm hs hu
  | true => exact fault_leaves hcalm hs hu

/-! ### DAMPER_STALL -/

/-- The drive with a damper's MOVE ended by a stall, and its stall count set. -/
def Drive.stalled (v : Drive) (d : ZoneId) (n : Nat) : Drive := (v.onDamper d fun x => { x with stalls := n }).stallStop d

section
variable (v : Drive) (d : ZoneId) (n : Nat)

theorem Drive.stalled_get (x : ZoneId) : (v.stalled d n).dampers.get x =
    if x = d then ⟨none, .idle, .nothing, n⟩ else v.dampers.get x := by
  unfold Drive.stalled Drive.stallStop
  rw [Drive.onDamper_get]
  by_cases hx : x = d
  · subst hx; simp
  · simp only [hx, if_false, Drive.free_dampers, Drive.onDamper_get]

theorem Drive.stalled_slotOf (x : ZoneId) : (v.stalled d n).slotOf x = if x = d then none else v.slotOf x := by
  have h : (v.stalled d n).slotsOf x = if x = d then [] else v.slotsOf x := Drive.free_slotsOf v d x
  rw [Drive.slotOf_eq, h]
  split
  · rfl
  · exact (Drive.slotOf_eq v x).symm

/-- A damper that held a slot leaves one free. -/
theorem Drive.free_slotFree {v : Drive} {d : ZoneId} {slot : Slot} (h : v.slotOf d = some slot) : (v.free d).slotFree = true := by
  have hd := Drive.slotOf_damper h
  unfold Drive.slotOf at h
  unfold Drive.slotFree Drive.free
  cases h1 : v.slot1 with
  | none => simp
  | some y =>
    by_cases hy : y.damper = d
    · simp [hy]
    · simp only [h1, hy, if_false] at h
      cases h2 : v.slot2 with
      | none => simp
      | some z =>
        rw [h2, Option.filter_some] at h
        have hz : z.damper = d := by by_contra hz; simp [hz] at h
        simp [hz]

theorem Drive.stalled_slotFree {slot : Slot} (h : v.slotOf d = some slot) : (v.stalled d n).slotFree = true :=
  Drive.free_slotFree h

end

/-- DAMPER_STALL of a MOVE in progress that leaves an air path. -/
theorem exec_damperStall {s : State} {d : ZoneId} (hm : s.drive.isMove d = true)
    (hair : (stall d s).blower.goal = 0 ∨ (stall d s).drive.airPath = true) :
    exec (.damperStall d) s = .next (finish (stall d s)) := by
  show execDamperStall d s = _
  unfold execDamperStall
  rw [if_pos hm, airGuard_safe hair]

/-- A stall with no zone to count for leaves the damper idle. -/
theorem stall_idle {s : State} {d : ZoneId} (h : stateOf s d ≠ .active ∧ stateOf s d ≠ .parked) :
    stall d s = { s with drive := s.drive.stalled d (damperOf s d).stalls } := by
  have hsame : s.drive.stallStop d = s.drive.stalled d (damperOf s d).stalls := by
    unfold Drive.stalled Drive.stallStop Drive.free Drive.onDamper
    dsimp only
    congr 1
    apply Eight.ext_get; intro x
    rw [Eight.get_modify, Eight.get_modify, Eight.get_modify, Eight.get_modify]
    by_cases hx : x = d
    · simp only [hx, if_true]; rfl
    · simp only [hx, if_false]
  unfold stall
  dsimp only
  rw [hsame]
  split
  · rfl
  · rfl
  · next h1 h2 =>
    cases hz : stateOf s d
    · exact absurd hz h1
    · exact absurd hz h.1
    · exact absurd hz h.2
    · exact absurd hz h2

/-- A stall of a zone's damper: the first two are homed, the third faults. -/
theorem stall_counts {s : State} {d : ZoneId} (h : stateOf s d = .active ∨ stateOf s d = .parked) :
    stall d s =
      if (damperOf s d).stalls + 1 < 3 then homeRequest d { s with drive := s.drive.stalled d ((damperOf s d).stalls + 1) }
      else faultDamper d { s with drive := s.drive.stalled d 3 } := by
  unfold stall
  rcases h with h | h <;> rw [h] <;> rfl

/-- The air path of a state in which a stall has changed one damper. -/
theorem stall_air {s : State} {d : ZoneId} (hair : s.blower.goal = 0 ∨ ∃ y, y ≠ d ∧ passes (damperOf s y).position = true) :
    (stall d s).blower.goal = 0 ∨ (stall d s).drive.airPath = true := by
  have hothers : ∀ n y, y ≠ d → (s.drive.stalled d n).dampers.get y = s.drive.dampers.get y := fun n y hy => by
    rw [Drive.stalled_get, if_neg hy]
  by_cases hs : stateOf s d = .active ∨ stateOf s d = .parked
  · rw [stall_counts hs]
    split
    · refine hair.imp id fun h => Drive.airPath_of_ne (v := s.drive) (d := d) (fun y hy => ?_) h
      have hidle : ((s.drive.stalled d ((damperOf s d).stalls + 1)).dampers.get d).motion = .idle := by
        rw [Drive.stalled_get, if_pos rfl]
      show ((s.drive.stalled d _).requestHome d).dampers.get y = _
      rw [Drive.requestHome_idle hidle]
      show ((s.drive.stalled d _).onDamper d _).dampers.get y = _
      rw [Drive.onDamper_get, if_neg hy, hothers _ y hy]
    · refine faultDamper_air (s := { s with drive := s.drive.stalled d 3 }) hs (hair.imp id fun ⟨y, hy, hp⟩ => ⟨y, hy, ?_⟩)
      show passes ((s.drive.stalled d 3).dampers.get y).position = true
      rw [hothers 3 y hy]; exact hp
  · push Not at hs
    rw [stall_idle hs]
    exact hair.imp id fun h => Drive.airPath_of_ne (v := s.drive) (d := d) (hothers _) h

/-- A stall that faults its damper: the third, or one whose HOME finds an open winding. -/
theorem finish_stall_faults {s : State} {d : ZoneId} {slot : Slot} (hcalm : Calm s) (hslot : s.drive.slotOf d = some slot)
    (hair : s.blower.goal = 0 ∨ ∃ y, y ≠ d ∧ passes (damperOf s y).position = true)
    (hs : stateOf s d = .active ∨ stateOf s d = .parked)
    (hf : 2 ≤ (damperOf s d).stalls ∨ s.inp.windingOpen.get d = true) :
    ∃ w m, FaultOutcome { s with drive := w } d (finish (stall d s)) (s.zst.get d).unconf ∧
      w.dampers.get d = ⟨none, m, .nothing, min 3 ((damperOf s d).stalls + 1)⟩ ∧
      (∀ y, y ≠ d → w.dampers.get y = damperOf s y ∧ w.slotOf y = s.drive.slotOf y) ∧
      (∀ y, y ≠ d → (y ∈ w.passedOver ↔ y ∈ s.drive.passedOver)) ∧ w.resetHomes = s.drive.resetHomes := by
  rw [stall_counts hs]
  split
  · next hlt =>
    obtain ⟨n, hn⟩ : ∃ n, (damperOf s d).stalls + 1 = n := ⟨_, rfl⟩
    rw [hn] at hlt ⊢
    have hget := s.drive.stalled_get d n
    have hidle : ((s.drive.stalled d n).dampers.get d).motion = .idle := by rw [hget, if_pos rfl]
    have hcalm' : Calm { s with drive := s.drive.stalled d n } := hcalm
    have hair' : s.blower.goal = 0 ∨ ∃ y, y ≠ d ∧ passes ((s.drive.stalled d n).dampers.get y).position = true :=
      hair.imp id fun ⟨y, hy, hp⟩ => ⟨y, hy, by rw [hget, if_neg hy]; exact hp⟩
    have hopen : s.inp.windingOpen.get d = true := hf.resolve_left (by omega)
    have htaken : ∀ y, ((s.drive.stalled d n).homeTaken d).dampers.get y =
        if y = d then ⟨none, .queued, .nothing, n⟩ else s.drive.dampers.get y := fun y => by
      unfold Drive.homeTaken
      rw [Drive.onDamper_get]
      by_cases hy : y = d
      · rw [if_pos hy, if_pos hy]
        show ({ (s.drive.stalled d n).dampers.get d with motion := MotionState.queued } : Damper) = _
        rw [hget, if_pos rfl]
      · rw [if_neg hy, if_neg hy]
        show (s.drive.stalled d n).dampers.get y = _
        rw [hget, if_neg hy]
    refine ⟨(s.drive.stalled d n).homeTaken d, .queued, ?_, ?_, fun y hy => ⟨?_, ?_⟩, fun y hy => ?_, rfl⟩
    · rw [finish_homes_open (s := { s with drive := s.drive.stalled d n }) hcalm' hidle hair' hs
        (s.drive.stalled_slotFree d n hslot) hopen]
      exact fault_outcome (s := { s with drive := (s.drive.stalled d n).homeTaken d }) hcalm hs
    · rw [htaken, if_pos rfl, Nat.min_eq_right (by omega)]
    · rw [htaken, if_neg hy]; rfl
    · have hsame : ((s.drive.stalled d n).homeTaken d).slotOf y = (s.drive.stalled d n).slotOf y := rfl
      rw [hsame, Drive.stalled_slotOf, if_neg hy]
    · show y ∈ s.drive.passedOver.filter _ ↔ _
      simp [hy]
  · next hge =>
    have hcalm' : Calm { s with drive := s.drive.stalled d 3 } := hcalm
    refine ⟨s.drive.stalled d 3, .idle, ?_, ?_, fun y hy => ⟨?_, ?_⟩, fun y hy => Iff.rfl, rfl⟩
    · rw [(faultDamper_told (d := d) hcalm' hs).finish]
      exact fault_outcome (s := { s with drive := s.drive.stalled d 3 }) hcalm' hs
    · rw [Drive.stalled_get, if_pos rfl, Nat.min_eq_left (by omega)]
    · rw [Drive.stalled_get, if_neg hy]; rfl
    · rw [Drive.stalled_slotOf, if_neg hy]

/-- Settles O42: the step by its slot's kind, and the stall by what its zone counts: nothing, a HOME, or a fault. -/
theorem damperStepsAndStalls : Obligations.DamperStepsAndStalls := by
  unfold Obligations.DamperStepsAndStalls
  refine ⟨fun s d slot hslot hdue => ?_, fun s d slot u hcalm hslot hw hair => ?_⟩
  · intro x pos hwhat hair
    have hstep : s.drive.stepDue s.now d = true ∧ ∀ y, (s.drive.stepMotion d).dampers.get y =
        if y = d then { x with position := pos } else damperOf s y := by
      cases hw : slot.what with
      | move u =>
        simp only [hw] at hwhat
        obtain ⟨p, hp⟩ := Option.ne_none_iff_exists'.1 hwhat.1
        have hne : p ≠ u := fun h => hwhat.2 (hp.trans (congrArg some h))
        have hpos : pos = some (if p < u then p + 1 else p - 1) := by
          simp only [pos, hw, hp, Option.map_some]
        rw [hpos]
        exact Drive.stepMotion_move hslot hw hdue hp hne
      | home =>
        simp only [hw] at hwhat
        have hpos : pos = x.position := by simp only [pos, hw]
        obtain ⟨hdue', hsame⟩ := Drive.stepMotion_home hslot hw hdue hwhat
        refine ⟨hdue', fun y => ?_⟩
        rw [hsame, hpos]
        split
        · next hy => rw [hy]; rfl
        · rfl
    obtain ⟨hdue', hget⟩ := hstep
    obtain ⟨hqueue, hreset, hpassed⟩ := s.drive.stepMotion_rest d
    have hair' : s.blower.goal = 0 ∨ (s.drive.stepMotion d).airPath = true := by
      refine hair.imp id fun h => (Drive.airPath_iff _).2 ?_
      rcases h with h | ⟨y, hy, hp⟩
      · exact ⟨d, by rw [hget, if_pos rfl]; exact h⟩
      · exact ⟨y, by rw [hget, if_neg hy]; exact hp⟩
    refine ⟨_, exec_damperStep hdue' hair', ?_, ?_, fun y hy => ⟨?_, ?_⟩, hqueue, hreset, hpassed, rfl⟩
    · exact (hget d).trans (if_pos rfl)
    · exact (Drive.stepMotion_slotOf hslot d).trans (if_pos rfl)
    · exact (hget y).trans (if_neg hy)
    · exact (Drive.stepMotion_slotOf hslot y).trans (if_neg hy)
  · intro x st counts faults leaves
    have hm : s.drive.isMove d = true := by
      obtain ⟨e, w, n, l, o⟩ := slot
      cases hw
      unfold Drive.isMove; rw [hslot]
    refine ⟨_, exec_damperStall hm (stall_air hair), ?_⟩
    have hcounts : counts = true ↔ stateOf s d = .active ∨ stateOf s d = .parked := by
      simp only [counts, Bool.or_eq_true, decide_eq_true_eq]; rfl
    cases hc : counts with
    | false =>
      have hfaults : faults = false := by simp only [faults, hc, Bool.false_and]
      have hleaves : leaves = false := by simp only [leaves, hfaults, Bool.false_and]
      have hno : stateOf s d ≠ .active ∧ stateOf s d ≠ .parked := by
        refine not_or.1 fun h => ?_
        rw [hcounts.2 h] at hc; cases hc
      rw [hfaults, hleaves, stall_idle hno]
      have hend := finish_calm (s := { s with drive := s.drive.stalled d (damperOf s d).stalls }) hcalm
      have hdrive : (finish { s with drive := s.drive.stalled d (damperOf s d).stalls }).drive =
          s.drive.stalled d (damperOf s d).stalls := by rw [hend, sync_drive]
      have hframe := congrArg (fun y : State => ({ y with
        drive := s.drive, zst := s.zst, sens := s.sens, work := s.work, eval := s.eval, port := s.port } : State))
        (timeless_finish_calm (s := { s with drive := s.drive.stalled d (damperOf s d).stalls }) hcalm)
      refine ⟨?_, ?_, by rw [hend, sync_zst]; rfl, fun _ => ⟨by rw [hend, sync_sens], by rw [hend, sync_work]⟩,
        fun h => (by cases h), fun y _ => ?_, by rw [hend, sync_eval, Bool.or_false], ?_, ?_, fun y hy => ?_, hframe⟩
      · rw [damperOf, hdrive, Drive.stalled_get, if_pos rfl]; rfl
      · rw [hdrive, Drive.stalled_slotOf, if_pos rfl]; rfl
      · rw [hdrive]; exact Iff.rfl
      · rw [hdrive]; exact hcalm.2.1
      · rw [hdrive]; rfl
      · rw [damperOf, hdrive, Drive.stalled_get, if_neg hy, Drive.stalled_slotOf, if_neg hy]
        exact ⟨rfl, rfl⟩
    | true =>
      have hs := hcounts.1 hc
      cases hf : faults with
      | false =>
        have hleaves : leaves = false := by simp only [leaves, hf, Bool.false_and]
        have hboth : ¬ 2 ≤ (damperOf s d).stalls ∧ s.inp.windingOpen.get d = false := by
          have h : (counts && (decide (2 ≤ (damperOf s d).stalls) || s.inp.windingOpen.get d)) = false := hf
          simpa only [hc, Bool.true_and, Bool.or_eq_false_iff, decide_eq_false_iff_not] using h
        rw [hleaves, stall_counts hs, if_pos (by omega)]
        obtain ⟨n, hn⟩ : ∃ n, (damperOf s d).stalls + 1 = n := ⟨_, rfl⟩
        rw [hn]
        have hget := s.drive.stalled_get d n
        have hfree := s.drive.stalled_slotFree d n hslot
        have hout := finish_homeRequest (s := { s with drive := s.drive.stalled d n }) (d := d) hcalm
          (by rw [damperOf, hget, if_pos rfl]) (by rw [Drive.stalled_slotOf, if_pos rfl])
          (hair.imp id fun ⟨y, hy, hp⟩ => ⟨y, hy, by rw [damperOf, hget, if_neg hy]; exact hp⟩)
          (fun h => by rw [hboth.2, Bool.and_false] at h; cases h)
        rw [hboth.2, Bool.and_false] at hout
        generalize finish (homeRequest d { s with drive := s.drive.stalled d n }) = t at hout ⊢
        have hwork := congrArg State.work hout.frame
        have hsens := congrArg State.sens hout.frame
        have hframe := congrArg (fun y : State => ({ y with
          drive := s.drive, zst := s.zst, sens := s.sens, work := s.work, eval := s.eval, port := s.port } : State)) hout.frame
        refine ⟨?_, ?_, hout.zst, fun _ => ⟨hsens, hwork⟩, fun h => (by cases h), fun y hy => ?_, hout.eval, ?_,
          hout.resetHomes, fun y hy => ?_, hframe⟩
        · refine hout.damper.trans ?_
          rw [if_neg (by decide), if_pos hfree]
          show ({ (s.drive.stalled d n).dampers.get d with motion := MotionState.homing, position := none } : Damper) = _
          rw [hget, if_pos rfl]; rfl
        · exact hout.slot.trans (by rw [show ({ s with drive := s.drive.stalled d n } : State).drive.slotFree = true from hfree])
        · exact (hout.passed y).trans ⟨fun h => h.1, fun h => ⟨h, hy⟩⟩
        · exact hout.queue.trans (if_pos hfree)
        · refine ⟨(hout.others y hy).1.trans ?_, (hout.others y hy).2.trans ?_⟩
          · rw [damperOf, hget, if_neg hy]; rfl
          · rw [Drive.stalled_slotOf, if_neg hy]
      | true =>
        have hleaves : leaves = (s.zst.get d).unconf := by simp only [leaves, hf, Bool.true_and]
        have heither : 2 ≤ (damperOf s d).stalls ∨ s.inp.windingOpen.get d = true := by
          have h : (counts && (decide (2 ≤ (damperOf s d).stalls) || s.inp.windingOpen.get d)) = true := hf
          simpa only [hc, Bool.true_and, Bool.or_eq_true, decide_eq_true_eq] using h
        obtain ⟨w, m, hout, hd, hothers, hpassed, hreset⟩ := finish_stall_faults hcalm hslot hair hs heither
        rw [← hleaves] at hout
        generalize finish (stall d s) = t at hout ⊢
        have hframe := congrArg (fun y : State => ({ y with
          drive := s.drive, zst := s.zst, sens := s.sens, work := s.work, eval := s.eval, port := s.port } : State)) hout.frame
        refine ⟨?_, hout.slot, hout.zst, hout.stays, hout.left, fun y hy => (hout.passed y hy).trans (hpassed y hy), ?_,
          hout.queue, ?_, fun y hy => ?_, hframe⟩
        · refine hout.damper.trans ?_
          show (if leaves = true then _ else
            ({ w.dampers.get d with motion := .fault, position := none, followOn := .nothing } : Damper)) = _
          rw [hd]; rfl
        · rw [Bool.or_true]; exact hout.eval
        · exact hout.resetHomes.trans (by rw [hreset]; rfl)
        · exact ⟨(hout.others y hy).1.trans (hothers y hy).1, (hout.others y hy).2.trans (hothers y hy).2⟩

end Sys2Proof.Machine
end

section
/-! Move requests to dampers (06 R96, Table 6.2). -/

namespace Sys2Proof.Machine

section
variable {v : Drive} {d : ZoneId} {n u : Nat}

/-! ### The cells of Table 6.2 -/

theorem Drive.requestMove_there (hm : (v.dampers.get d).motion = .idle) (hp : (v.dampers.get d).position = some n) :
    v.requestMove d n = v := by
  unfold Drive.requestMove; simp only [hm, hp, if_true]

theorem Drive.requestMove_elsewhere {p : Nat} (hm : (v.dampers.get d).motion = .idle)
    (hp : (v.dampers.get d).position = some p) (hne : p ≠ n) : v.requestMove d n = v.append d (.move n) := by
  unfold Drive.requestMove; simp only [hm, hp, Ne.symm hne, if_false]

theorem Drive.requestMove_unknown (hm : (v.dampers.get d).motion = .idle) (hp : (v.dampers.get d).position = none) :
    v.requestMove d n = (v.append d .home).onDamper d fun y => { y with followOn := followTarget n } := by
  unfold Drive.requestMove; simp only [hm, hp]

theorem Drive.requestMove_retargets (hm : (v.dampers.get d).motion = .queued) (he : v.entryOf d = some ⟨d, .move u⟩)
    (hp : (v.dampers.get d).position ≠ some n) : v.requestMove d n = v.retarget d (.move n) := by
  unfold Drive.requestMove; simp only [hm, he, hp, if_false]

theorem Drive.requestMove_withdraws (hm : (v.dampers.get d).motion = .queued) (he : v.entryOf d = some ⟨d, .move u⟩)
    (hp : (v.dampers.get d).position = some n) :
    v.requestMove d n = (v.unqueue d).onDamper d fun y => { y with motion := .idle } := by
  unfold Drive.requestMove; simp only [hm, he, hp, if_true]

theorem Drive.requestMove_behindHome (hm : (v.dampers.get d).motion = .queued) (he : v.entryOf d = some ⟨d, .home⟩) :
    v.requestMove d n = v.onDamper d fun y => { y with followOn := followTarget n } := by
  unfold Drive.requestMove; simp only [hm, he]

theorem Drive.requestMove_moving {slot : Slot} (hm : (v.dampers.get d).motion = .moving) (hs : v.slotOf d = some slot)
    (hw : slot.what = .move u) :
    v.requestMove d n = v.onDamper d fun y => { y with followOn := if n = u then .nothing else .target n } := by
  obtain ⟨e, w, k, l, o⟩ := slot
  cases hw
  unfold Drive.requestMove; simp only [hm, hs]

theorem Drive.requestMove_homing (hm : (v.dampers.get d).motion = .homing) :
    v.requestMove d n = v.onDamper d fun y => { y with followOn := followTarget n } := by
  unfold Drive.requestMove; simp only [hm]

theorem Drive.requestMove_inFault (hm : (v.dampers.get d).motion = .fault) : v.requestMove d n = v := by
  unfold Drive.requestMove; simp only [hm]

/-- A move request leaves the reset HOMEs and the dampers passed over. -/
theorem Drive.requestMove_rest (v : Drive) (d : ZoneId) (n : Nat) :
    (v.requestMove d n).resetHomes = v.resetHomes ∧ (v.requestMove d n).passedOver = v.passedOver := by
  unfold Drive.requestMove
  dsimp only
  (repeat' split) <;> exact ⟨rfl, rfl⟩

/-- A damper with one record replaced. -/
theorem Drive.append_get (w : Drift) : (v.append d w).dampers.get d = { v.dampers.get d with motion := .queued } :=
  Drive.onDamper_get_same ..

end

theorem moveRequest_active {s : State} {d : ZoneId} {n : Nat} (h : stateOf s d = .active) :
    moveRequest d n s = { s with drive := s.drive.requestMove d n } := if_pos h

theorem moveRequest_other {s : State} {d : ZoneId} {n : Nat} (h : stateOf s d ≠ .active) : moveRequest d n s = s := if_neg h

/-- Settles O44, cell by cell of Table 6.2. -/
theorem moveRequestsAreTaken : Obligations.MoveRequestsAreTaken := by
  unfold Obligations.MoveRequestsAreTaken
  intro s d n u t x follow
  have hfollow : follow = followTarget n := rfl
  by_cases hs : stateOf s d = .active
  · have ht : t = { s with drive := s.drive.requestMove d n } := moveRequest_active hs
    obtain ⟨hreset, hpassed⟩ := s.drive.requestMove_rest d n
    have hasks := Drive.asks_requestMove (v := s.drive) (d := d) n
    rw [ht]
    have hget : ∀ f : Damper → Damper, ∀ v : Drive, v.dampers.get d = x → (v.onDamper d f).dampers.get d = f x :=
      fun f v h => by rw [Drive.onDamper_get_same, h]
    refine ⟨fun h => absurd hs h, rfl, hasks.slot1, hasks.slot2, hreset, hpassed, fun y hy => ⟨(hasks.others y hy).1, ?_⟩,
      fun _ => ⟨fun hm hp => ?_, fun hm ⟨p, hp, hne⟩ => ?_, fun hm hp => ?_, fun hm he hp => ?_, fun hm he hp => ?_,
        fun hm he => ?_, fun hm ⟨slot, hslot, hw⟩ => ?_, fun hm => ?_, fun hm => ?_⟩⟩
    · rw [Drive.entryOf_eq, Drive.entryOf_eq, (hasks.others y hy).2]
    · rw [Drive.requestMove_there hm hp]
    · rw [Drive.requestMove_elsewhere hm hp hne]
      exact ⟨rfl, Drive.append_get _⟩
    · rw [Drive.requestMove_unknown hm hp]
      refine ⟨rfl, ?_⟩
      show ((s.drive.append d .home).onDamper d _).dampers.get d = _
      rw [Drive.onDamper_get_same, Drive.append_get, hfollow]; rfl
    · rw [Drive.requestMove_retargets hm he hp]
      refine ⟨?_, rfl, ?_⟩
      · show (s.drive.retarget d (.move n)).entryOf d = _
        rw [Drive.entryOf_eq, Drive.retarget_entriesOf, if_pos rfl, List.head?_map, ← Drive.entryOf_eq, he]; rfl
      · show (s.drive.queue.map fun e => if e.damper = d then { e with what := Drift.move n } else e).map _ = _
        rw [List.map_map]
        refine List.map_congr_left fun e _ => ?_
        show (if e.damper = d then ({ e with what := Drift.move n } : QueueEntry) else e).damper = e.damper
        split <;> rfl
    · rw [Drive.requestMove_withdraws hm he hp]
      refine ⟨?_, hget _ _ rfl⟩
      rw [Drive.entryOf_eq, Drive.onDamper_entriesOf, Drive.unqueue_entriesOf, if_pos rfl]; rfl
    · rw [Drive.requestMove_behindHome hm he]
      exact ⟨rfl, hget _ _ rfl⟩
    · rw [Drive.requestMove_moving hm hslot hw]
      exact ⟨rfl, hget _ _ rfl⟩
    · rw [Drive.requestMove_homing hm]
      exact ⟨rfl, hget _ _ rfl⟩
    · rw [Drive.requestMove_inFault hm]
  · have ht : t = s := moveRequest_other hs
    rw [ht]
    exact ⟨fun _ => rfl, rfl, rfl, rfl, rfl, rfl, fun _ _ => ⟨rfl, rfl⟩, fun h => absurd h hs⟩

end Sys2Proof.Machine
end

section
/-! The blower: goals, ramp and settle, hold, run-on and rest, and the pressure cap (07 R108 to R120). -/

namespace Sys2Proof.Machine

/-! ### Goals given and holds (07 R110, R114) -/

section
variable {now q : Nat} {table : List BlowerPoint} {running : Bool} {b : Blower}

/-- In HOLD a goal given waits, and in OFF and RUN_ON a goal of 0 does nothing more. -/
theorem Blower.give_stays (h : b.state = .hold ∨ q = 0 ∧ (b.state = .off ∨ b.state = .runOn)) :
    b.give now table running q = { b with given := q } := by
  unfold Blower.give
  dsimp only
  rcases h with h | ⟨hq, h | h⟩ <;> simp only [*, if_true]

/-- In OFF and RUN_ON a goal above 0 ramps the blower toward it. -/
theorem Blower.give_resting (h : b.state = .off ∨ b.state = .runOn) (hq : q ≠ 0) :
    b.give now table running q = ({ b with given := q } : Blower).rampTo now table q := by
  unfold Blower.give
  dsimp only
  rcases h with h | h <;> simp only [h, hq, if_false]

/-- In RAMP and RUN the goal decides: carried or off at 0, kept where in force, else ramped to. -/
theorem Blower.give_blowing (h : b.state = .ramp ∨ b.state = .run) :
    b.give now table running q =
      if q = 0 then
        (if running then { b with given := q, carried := some b.goal }
        else ({ b with given := q } : Blower).turnOff now table)
      else if q = b.goal then { b with given := q, carried := none }
      else ({ b with given := q } : Blower).rampTo now table q := by
  unfold Blower.give
  dsimp only
  rcases h with h | h <;> rw [h]

end

/-- A goal offered with an air path, or of 0, is given as it is. -/
theorem offerGoal_given {s : State} {q : Nat} (h : q = 0 ∨ s.drive.airPath = true) : offerGoal q s = giveBlower q s := by
  unfold offerGoal
  rw [if_neg]
  rintro ⟨hq, ha⟩
  rcases h with h | h
  · exact hq h
  · rw [h] at ha; cases ha

/-- A goal offered without an air path is given as 0, with the guard's early pass and restart. -/
theorem offerGoal_guarded {s : State} {q : Nat} (hq : q ≠ 0) (ha : s.drive.airPath = false) :
    offerGoal q s = tellRestart (requestPass (giveBlower 0 s)) := if_pos ⟨hq, ha⟩

/-- The hold reasons once one of them has arisen. -/
def Blower.reasonAdded (cold : Bool) (b : Blower) : Blower :=
  { b with coldBlow := b.coldBlow || cold, defrostHold := b.defrostHold || !cold }

/-- The hold reasons once one of them is gone. -/
def Blower.reasonGone (cold : Bool) (b : Blower) : Blower :=
  { b with coldBlow := b.coldBlow && !cold, defrostHold := b.defrostHold && cold }

theorem Blower.addHold_eq (now : Nat) (table : List BlowerPoint) (cold : Bool) (b : Blower) : b.addHold now table cold =
    if b.state = .hold then b.reasonAdded cold else (b.reasonAdded cold).enterHold now table := by
  cases cold
  · have h : b.reasonAdded false = { b with defrostHold := true } := by
      simp only [Blower.reasonAdded, Bool.or_false, Bool.not_false, Bool.or_true]
    rw [h]; rfl
  · have h : b.reasonAdded true = { b with coldBlow := true } := by
      simp only [Blower.reasonAdded, Bool.or_false, Bool.not_true, Bool.or_true]
    rw [h]; rfl

theorem Blower.removeHold_eq (now : Nat) (table : List BlowerPoint) (cold : Bool) (b : Blower) : b.removeHold now table cold =
    let less := b.reasonGone cold
    if b.state = .hold ∧ less.coldBlow = false ∧ less.defrostHold = false then
      (if b.given = 0 then less.turnOff now table else less.rampTo now table b.given)
    else less := by
  cases cold
  · have h : b.reasonGone false = { b with defrostHold := false } := by
      simp only [Blower.reasonGone, Bool.not_false, Bool.and_true, Bool.and_false]
    rw [h]; rfl
  · have h : b.reasonGone true = { b with coldBlow := false } := by
      simp only [Blower.reasonGone, Bool.not_true, Bool.and_true, Bool.and_false]
    rw [h]; rfl

/-- Settles O47, by the blower's state for a goal, by the air path for an offer, and by the reasons left for a hold. -/
theorem blowerTakesGoals : Obligations.BlowerTakesGoals := by
  unfold Obligations.BlowerTakesGoals
  refine ⟨fun now q table running b => ?_, fun s q => ?_, fun now table cold b => ?_⟩
  · intro c given stays
    refine ⟨Blower.give_stays, fun h hq => ?_, fun h => ⟨fun hq hg => ?_, fun hq hg => ?_, fun hq hr => ?_, fun hq hr => ?_⟩⟩
    · have : c = given.rampTo now table q := Blower.give_resting h hq
      rw [this]; exact RampsTo.rampTo ..
    · exact (Blower.give_blowing h).trans (by rw [if_neg hq, if_pos hg])
    · have : c = given.rampTo now table q := (Blower.give_blowing h).trans (by rw [if_neg hq, if_neg hg])
      rw [this]; exact RampsTo.rampTo ..
    · exact (Blower.give_blowing h).trans (by rw [if_pos hq, if_pos hr])
    · have : c = given.turnOff now table :=
        (Blower.give_blowing h).trans (by rw [if_pos hq, hr, if_neg (by decide)])
      rw [this]; exact TurnsOff.turnOff ..
  · exact ⟨offerGoal_given, offerGoal_guarded⟩
  · intro more less last
    have hadd := b.addHold_eq now table cold
    have hrem := b.removeHold_eq now table cold
    refine ⟨fun h => hadd.trans (if_pos h), fun h => ?_, fun h => hrem.trans (if_neg h), fun h hg => ?_, fun h hg => ?_⟩
    · rw [hadd, if_neg h]; exact Holds.enterHold ..
    · have : b.removeHold now table cold = less.turnOff now table := hrem.trans ((if_pos h).trans (if_pos hg))
      rw [this]; exact TurnsOff.turnOff ..
    · have : b.removeHold now table cold = less.rampTo now table b.given := hrem.trans ((if_pos h).trans (if_neg hg))
      rw [this]; exact RampsTo.rampTo ..

/-! ### Ramp, settle and retry (07 R111 to R113) -/

/-- The settle timeout after a ramp that begins with the demand at the speed goal and no retry pause. -/
theorem Blower.rampTo_settleFrom {now q : Nat} {table : List BlowerPoint} {b : Blower} (hr : b.retryFrom = none)
    (hd : b.demand = b.speedGoal) : (b.rampTo now table q).settleFrom =
      if (b.rampTo now table q).speedGoal = b.speedGoal then some (b.settleFrom.getD now) else none := by
  show (if b.demand = (tableOfGoal table q).1 ∧ b.retryFrom = none ∧ BlowerState.ramp = .ramp then
      some (if (tableOfGoal table q).1 = b.speedGoal then b.settleFrom.getD now else now) else none) =
    if (tableOfGoal table q).1 = b.speedGoal then some (b.settleFrom.getD now) else none
  by_cases h : (tableOfGoal table q).1 = b.speedGoal
  · rw [if_pos h, if_pos h, if_pos ⟨hd.trans h.symm, hr, rfl⟩]
  · rw [if_neg h, if_neg h, if_neg fun h' => h (h'.1.symm.trans hd)]

/-- Settles O48: each row by the condition that makes it due, and what it writes. -/
theorem blowerRampsAndSettles : Obligations.BlowerRampsAndSettles := by
  unfold Obligations.BlowerRampsAndSettles
  intro s b silent
  have hsilent : b.silent s.now = silent := rfl
  refine ⟨fun hne hr hdue => ?_, fun g hcalm hstate hr hg hin hs hdue hband => ?_, fun hcalm hstate hband => ?_,
    fun t0 hcalm hr hdue => ?_, fun table q => ?_, fun rpm => ?_⟩
  · intro d
    show execBlowerRampTick s = _
    have hd : towards b.demand b.speedGoal = d := towards_ne hne
    have hdue' : s.blower.rampDue s.now = true := by
      show (decide (b.demand ≠ b.speedGoal) && b.retryFrom.isNone && decide (b.rampFrom + 250 ≤ s.now)) = true
      simp only [hne, hr, hdue, ne_eq, not_false_eq_true, decide_true, Option.isNone_none, Bool.and_self]
    unfold execBlowerRampTick Blower.ramp
    rw [if_pos hdue', hd]
  · have hdue' : s.blower.settledDue s.now = true := by
      show b.settledDue s.now = true
      have hmax : max g b.bandFrom + 3000 ≤ s.now := by omega
      unfold Blower.settledDue Blower.bandNow Blower.bandSince
      simp only [hg, hsilent, hs, hin, hstate, hr, hmax, Bool.and_false, Bool.false_eq_true, if_false, decide_true,
        Option.isNone_none, Bool.not_false, Bool.and_self]
    refine ⟨finish { s with blower := s.blower.settle }, ?_, timeless_finish_calm (s := { s with blower := s.blower.settle }) hcalm⟩
    show execBlowerSettled s = _
    unfold execBlowerSettled; rw [if_pos hdue']
  · have hdue' : s.blower.unsettledDue s.now = true := by
      show b.unsettledDue s.now = true
      unfold Blower.unsettledDue Blower.bandNow Blower.bandSince
      rcases hband with ⟨hin, hfrom⟩ | ⟨hin, hlast⟩
      · simp only [hstate, hin, hfrom, decide_true, Bool.false_and, Bool.not_false, Bool.false_eq_true, if_false,
          Bool.and_self]
      · have hs : b.silent s.now = true := decide_eq_true (by omega)
        have hfrom : b.lastPulse + 1000 + 3000 ≤ s.now := by omega
        simp only [hstate, hin, hs, hfrom, decide_true, Bool.not_true, Bool.and_false, Bool.not_false, Bool.and_self, if_true]
    refine ⟨finish { s with blower := s.blower.unsettle s.now }, ?_,
      timeless_finish_calm (s := { s with blower := s.blower.unsettle s.now }) hcalm⟩
    show execBlowerUnsettled s = _
    unfold execBlowerUnsettled; rw [if_pos hdue']
  · have hdue' : s.blower.retryDue s.now = true := by
      show b.retryDue s.now = true
      unfold Blower.retryDue; simp only [hr, hdue, decide_true]
    refine ⟨finish { s with blower := s.blower.endRetry s.now }, ?_,
      timeless_finish_calm (s := { s with blower := s.blower.endRetry s.now }) hcalm⟩
    show execRetryPauseEnd s = _
    unfold execRetryPauseEnd; rw [if_pos hdue']
  · exact ⟨RampsTo.rampTo .., Blower.rampTo_settleFrom⟩
  · refine ⟨_, rfl, rfl, rfl, bandHolds_iff rpm b.expected, fun hs => ?_, rfl⟩
    show (if bandHolds rpm b.expected = b.bandNow s.now then b.bandSince s.now else s.now) =
      if bandHolds rpm b.expected = b.inBand then b.bandFrom else s.now
    have hnow : b.bandNow s.now = b.inBand := by unfold Blower.bandNow; rw [hsilent, hs]; simp
    have hsince : b.bandSince s.now = b.bandFrom := by unfold Blower.bandSince; rw [hsilent, hs]; simp
    rw [hnow, hsince]

/-! ### Run-on, cold blow and rest (07 R115 to R118) -/

/-- A blower that does not blow, or carries nothing, takes no notice of a stop. -/
theorem Blower.stopReported_same {now : Nat} {table : List BlowerPoint} {m : Option Mode} {b : Blower}
    (h : ¬(b.state = .ramp ∨ b.state = .run) ∨ b.carried = none) : b.stopReported now table m = b := by
  unfold Blower.stopReported
  split
  · next hb => rw [h.resolve_left (not_not.2 hb)]
  · rfl

/-- A blower that carries an airflow runs on with half of it, or is turned off. -/
theorem Blower.stopReported_carried {now q : Nat} {table : List BlowerPoint} {m : Option Mode} {b : Blower}
    (hb : b.state = .ramp ∨ b.state = .run) (hq : b.carried = some q) : b.stopReported now table m =
      match runOnMs m with
      | none => b.turnOff now table
      | some t =>
        Blower.setGoal now table (q / 2) { b.leavePause now with state := .runOn, runOnUntil := some (now + t) } := by
  unfold Blower.stopReported
  rw [if_pos hb, hq] <;> rfl

/-- Settles O49: the stop report by what is carried, and the three rows by the condition that makes them due. -/
theorem blowerRunsOnHoldsAndRests : Obligations.BlowerRunsOnHoldsAndRests := by
  unfold Obligations.BlowerRunsOnHoldsAndRests
  refine ⟨fun b now table m => ?_, fun s hcalm => ?_⟩
  · intro c blows
    refine ⟨Blower.stopReported_same, fun q hb hq => ⟨fun ms hms => ?_, fun hm => ?_⟩⟩
    · have hrun : runOnMs m = some ms := by
        rcases hms with ⟨rfl | rfl, rfl⟩ | ⟨rfl, rfl⟩ <;> rfl
      have hc : c = Blower.setGoal now table (q / 2) { b.leavePause now with state := .runOn, runOnUntil := some (now + ms) } :=
        (Blower.stopReported_carried hb hq).trans (by rw [hrun])
      rw [hc, leavePause_eq_unpaused]
      exact GoalPut.setGoal ..
    · have hrun : runOnMs m = none := by rcases hm with rfl | rfl <;> rfl
      have hc : c = b.turnOff now table := (Blower.stopReported_carried hb hq).trans (by rw [hrun])
      rw [hc]; exact TurnsOff.turnOff ..
  · intro b
    have hputs : ∀ {x : Blower} {P : Blower → Prop}, (∀ above below, P { x with aboveFrom := above, belowFrom := below }) →
        P (finish { s with blower := x }).blower := fun {x P} h => by
      obtain ⟨above, below, he⟩ := sync_blower { s with blower := x }
      rw [finish_calm (s := { s with blower := x }) hcalm, he]
      exact h above below
    have hframe : ∀ x : Blower, ({ finish { s with blower := x } with blower := b } : State).timeless = s.timeless := fun x => by
      have := congrArg (fun y : State => ({ y with blower := s.timeless.blower } : State))
        (timeless_finish_calm (s := { s with blower := x }) hcalm)
      exact this
    refine ⟨fun u hstate hu hdue => ?_, fun t0 hcold hstart hdue hair => ?_, fun z0 hstate hsent hhold hreason hdemand hzero hrest => ?_⟩
    · refine ⟨_, ?_, hputs fun above below => (TurnsOff.turnOff s.now s.cfg.table b).times above below, hframe _⟩
      show execRunOnExpiry s = _
      have hdue' : s.blower.runOnDue s.now = true := by
        show b.runOnDue s.now = true
        unfold Blower.runOnDue; simp only [hu, hstate, hdue, decide_true, Bool.and_self]
      unfold execRunOnExpiry; rw [if_pos hdue']
    · intro leaves less
      have hdue' : coldBlowDue s = true := by
        have hcold' : s.blower.coldBlow = true := hcold
        unfold coldBlowDue reached; simp only [hcold', hstart, hdue, decide_true, Bool.and_self]
      have hless : b.reasonGone true = less := by
        simp only [Blower.reasonGone, Bool.not_true, Bool.and_false, Bool.and_true]; rfl
      have hremove := b.removeHold_eq s.now s.cfg.table true
      rw [hless] at hremove
      have hlast : leaves ↔ b.state = .hold ∧ less.coldBlow = false ∧ less.defrostHold = false :=
        ⟨fun h => ⟨h.1, rfl, h.2⟩, fun h => ⟨h.1, h.2.2⟩⟩
      dsimp only at hremove
      have hsafe : (b.removeHold s.now s.cfg.table true).goal = 0 ∨ s.drive.airPath = true := by
        rcases hair with ha | ⟨hgiven, hgoal⟩
        · exact .inr ha
        · left
          rw [hremove]
          by_cases h : b.state = .hold ∧ less.coldBlow = false ∧ less.defrostHold = false
          · rw [if_pos h, if_pos hgiven]; rfl
          · rw [if_neg h]; exact hgoal
      have hexec : exec .coldBlowTimeout s =
          .next (finish { s with blower := b.removeHold s.now s.cfg.table true }) := by
        show execColdBlowTimeout s = _
        unfold execColdBlowTimeout removeHold
        rw [if_pos hdue', airGuard_safe (s := { s with blower := s.blower.removeHold s.now s.cfg.table true }) hsafe]
      refine ⟨_, hexec, fun h => ?_, fun h hg => ?_, fun h hg => ?_, hframe _⟩
      · rw [hremove, if_neg fun h' => h (hlast.2 h')]
        exact hputs (P := fun y => { y with aboveFrom := b.aboveFrom, belowFrom := b.belowFrom } = less) fun _ _ => rfl
      · rw [hremove, if_pos (hlast.1 h), if_pos hg]
        exact hputs fun above below => (TurnsOff.turnOff s.now s.cfg.table less).times above below
      · rw [hremove, if_pos (hlast.1 h), if_neg hg]
        exact hputs fun above below => (RampsTo.rampTo s.now s.cfg.table b.given less).times above below
    · have hdue' : atRestDue s = true := by
        have hrests : s.blower.atRest s.now = true := by
          show b.atRest s.now = true
          have hsilent : (b.silent s.now || decide (z0 + 30000 ≤ s.now)) = true := by
            simp only [Blower.silent, Bool.or_eq_true, decide_eq_true_eq]; exact hrest
          unfold Blower.atRest; simp only [hzero, hdemand, hsilent, decide_true, Bool.and_self]
        have hhold' : s.blower.state = .hold := hhold
        have hreason' : s.blower.defrostHold = true := hreason
        unfold atRestDue
        simp only [hstate, hsent, hhold', hreason', hrests, decide_true, Bool.not_false, Bool.and_self]
      refine ⟨finish (grantDefrost s), ?_, ?_⟩
      · show execBlowerAtRest s = _
        unfold execBlowerAtRest; rw [if_pos hdue']
      · have hseq : s.seq.state ≠ .waitStart := by rw [hstate]; decide
        exact timeless_finish_port (s := grantDefrost s) ⟨hcalm.1, hcalm.2.1, hseq⟩ s.port

/-! ### The pressure cap (07 R119, R120) -/

/-- A time restarted in a command counts from it, or has stopped with its condition. -/
theorem runWhile_restarted (holds : Bool) (now : Nat) :
    runWhile holds now (some now) = none ∨ runWhile holds now (some now) = some now := by
  cases holds
  · exact .inl rfl
  · exact .inr rfl

/-- Settles O50, by the two readings' conditions and the two steps of Qhi. -/
theorem pressureCapSteps : Obligations.PressureCapSteps := by
  unfold Obligations.PressureCapSteps
  intro s b tenth
  refine ⟨fun reading => ?_, fun t0 hcalm hfrom hdue => ?_, fun t0 hcalm hfrom hdue hlow => ?_⟩
  · intro p above belowRelief
    have habove := aboveCap_iff (s := { s with blower := { b with pressure := p } })
    have hbelow := belowRelief_iff (s := { s with blower := { b with pressure := p } })
    refine ⟨_, rfl, rfl, fun h => ?_, fun h => ?_, fun h => ?_, fun h => ?_, rfl⟩
    · show runWhile _ s.now b.aboveFrom = _
      exact congrArg (runWhile · s.now b.aboveFrom) (habove.2 h)
    · show runWhile _ s.now b.aboveFrom = _
      exact congrArg (runWhile · s.now b.aboveFrom) (Bool.eq_false_iff.2 fun h' => h (habove.1 h'))
    · show runWhile _ s.now b.belowFrom = _
      exact congrArg (runWhile · s.now b.belowFrom) (hbelow.2 h)
    · show runWhile _ s.now b.belowFrom = _
      exact congrArg (runWhile · s.now b.belowFrom) (Bool.eq_false_iff.2 fun h' => h (hbelow.1 h'))
  · intro steps
    obtain ⟨u, hu⟩ : ∃ u, u = { s with
        blower := { b with
          qhi := if steps then max (b.qhi - tenth) s.cfg.qsysMin else b.qhi, capped := b.capped || steps
          aboveFrom := some s.now }
        eval := { s.eval with early := s.eval.early || steps } } := ⟨_, rfl⟩
    have hcalm' : Calm u := by rw [hu]; exact hcalm
    have hexec : exec .aboveCapTimeExpiry s = .next (finish u) := by
      show execAboveCapTimeExpiry s = _
      have hreached : reached s.blower.aboveFrom 10000 s.now = true := by
        have : s.blower.aboveFrom = some t0 := hfrom
        unfold reached; simp only [this, hdue, decide_true]
      unfold execAboveCapTimeExpiry Blower.stepDown
      rw [if_pos hreached, hu]
      dsimp only
      by_cases h : s.cfg.qsysMin < s.blower.qhi
      · have hsteps : steps = true := decide_eq_true h
        rw [if_pos h, if_pos h, hsteps, if_pos rfl, Bool.or_true, Bool.or_true]; rfl
      · have hsteps : steps = false := decide_eq_false h
        rw [if_neg h, if_neg h, hsteps, if_neg (by decide), Bool.or_false, Bool.or_false]
    refine ⟨_, hexec, ?_, (timeless_finish_calm hcalm').trans (by rw [hu]; rfl)⟩
    rw [finish_calm hcalm', (sync_pressure u).1, hu]
    exact runWhile_restarted ..
  · intro q
    obtain ⟨u, hu⟩ : ∃ u, u = { s with
        blower := { b with qhi := q, capped := if q = s.cfg.qmax then false else b.capped, belowFrom := some s.now }
        eval := { s.eval with early := true } } := ⟨_, rfl⟩
    have hcalm' : Calm u := by rw [hu]; exact hcalm
    have hexec : exec .belowReliefTimeExpiry s = .next (finish u) := by
      show execBelowReliefTimeExpiry s = _
      have hreached : belowReliefDue s = true := by
        have h1 : s.blower.belowFrom = some t0 := hfrom
        have h2 : s.blower.qhi < s.cfg.qmax := hlow
        unfold belowReliefDue reached; simp only [h1, h2, hdue, decide_true, Bool.and_self]
      unfold execBelowReliefTimeExpiry
      rw [if_pos hreached, hu]; rfl
    have hcapped : (if q = s.cfg.qmax then false else b.capped) = (b.capped && decide (q ≠ s.cfg.qmax)) := by
      by_cases h : q = s.cfg.qmax <;> simp [h]
    refine ⟨_, hexec, ?_, (timeless_finish_calm hcalm').trans (by rw [hu, hcapped]; rfl)⟩
    rw [finish_calm hcalm', (sync_pressure u).2, hu]
    exact runWhile_restarted ..

end Sys2Proof.Machine
end

section
/-! Calls and demand, relief withdrawal, the mode and the coil target of an evaluation pass (02 R23 to R37; 03 R61 to R63; 05 R80 to
R88). -/

namespace Sys2Proof.Machine

/-! ### Clamps -/

theorem clampInt_eq (x : Int) {lo hi : Int} (h : lo ≤ hi) : clampInt x lo hi = max lo (min hi x) := by
  unfold clampInt
  split
  · omega
  · split <;> omega

theorem integral_eq (before : Nat) (e : Int) : (integral before e : Int) = max 0 (min 50 (before + e.tdiv 5)) := by
  unfold integral
  rw [clampInt_eq _ (by decide)]
  exact Int.toNat_of_nonneg (by omega)

theorem sensibleDemand_eq (e : Int) (i : Nat) : (sensibleDemand e i : Int) = max 10 (min 100 ((e * 5).tdiv 2 + i)) := by
  unfold sensibleDemand
  rw [clampInt_eq _ (by decide)]
  exact Int.toNat_of_nonneg (by omega)

/-! ### Calls (02 R23 to R27) -/

theorem CallSetting.cools_iff (c : CallSetting) :
    c.cools = true ↔ c.request = .on ∧ (c.policy = .auto ∨ c.policy = .cool) := by
  simp [CallSetting.cools]

theorem CallSetting.heats_iff (c : CallSetting) :
    c.heats = true ↔ c.request = .on ∧ (c.policy = .auto ∨ c.policy = .heat) ∧ c.hpCapable = true := by
  simp [CallSetting.heats, and_assoc]

theorem CallSetting.dries_iff (c : CallSetting) :
    c.dries = true ↔ c.request = .on ∧ (c.policy = .auto ∨ c.policy = .cool ∨ c.policy = .dry) := by
  simp [CallSetting.dries, or_assoc]

theorem CallSetting.frosts_iff (c : CallSetting) :
    c.frosts = true ↔ c.request = .off ∧ c.frost = true ∧ c.hpCapable = true := by
  simp [CallSetting.frosts, and_assoc]

theorem sensibleHolds_iff (held : Bool) (e : Int) : sensibleHolds held e = true ↔ 3 ≤ e ∨ held = true ∧ -2 < e := by
  unfold sensibleHolds
  cases held
  · simp
  · simp; omega

theorem SensorState.own_iff (st : SensorState) : st.own = true ↔ st = .fresh ∨ st = .stale := by
  cases st <;> simp [SensorState.own]

theorem ownTemp_eq_some_iff (r : SensorRec) (t : Int) :
    ownTemp r = some t ↔ (r.state = .fresh ∨ r.state = .stale) ∧ r.temp = some t := by
  unfold ownTemp
  rw [← SensorState.own_iff]
  cases r.state.own <;> simp

theorem frostHolds_iff (held : Bool) (r : SensorRec) : frostHolds held r = true ↔
    (r.state = .fresh ∨ r.state = .stale) ∧ ∃ t, r.temp = some t ∧ (t < 50 ∨ held = true ∧ t < 80) := by
  have key : frostHolds held r = true ↔ ∃ t, ownTemp r = some t ∧ (t < 50 ∨ held = true ∧ t < 80) := by
    unfold frostHolds
    cases ownTemp r with
    | none => simp
    | some t =>
      simp only [Option.some.injEq, exists_eq_left']
      cases held
      · simp
      · simp; omega
  rw [key]
  simp only [ownTemp_eq_some_iff]
  exact ⟨fun ⟨t, ⟨hs, ht⟩, h⟩ => ⟨hs, t, ht, h⟩, fun ⟨hs, t, ht, h⟩ => ⟨t, ⟨hs, ht⟩, h⟩⟩

/-- A record without a sensible or FROST call holds a DRY call or none. -/
theorem dryOrSatisfied_cases (c : CallSetting) (p : Setpoints) (r : SensorRec) (w : ZoneWork) :
    (∃ t rh target, dryReadings p r = some (t, rh, target) ∧ c.dries = true ∧
      dryHolds (decide (w.call = .dry)) p.heat t rh target = true ∧ dryOrSatisfied c p r w =
        dryWork (drySuspends (decide (w.call = .dry) && w.suspended) p.heat t) rh target w) ∨
      dryOrSatisfied c p r w = satisfiedWork w ∧
        ∀ t rh target, dryReadings p r = some (t, rh, target) →
          ¬(c.dries = true ∧ dryHolds (decide (w.call = .dry)) p.heat t rh target = true) := by
  unfold dryOrSatisfied
  cases hr : dryReadings p r with
  | none => exact .inr ⟨rfl, fun _ _ _ h => by cases h⟩
  | some x =>
    obtain ⟨t, rh, target⟩ := x
    dsimp only
    by_cases h : c.dries = true ∧ dryHolds (decide (w.call = .dry)) p.heat t rh target = true
    · exact .inl ⟨t, rh, target, rfl, h.1, h.2, if_pos (by simpa using h)⟩
    · refine .inr ⟨if_neg (by simpa using h), fun t' rh' target' h' => ?_⟩
      cases h'
      exact h

theorem dryReadings_eq_some_iff (p : Setpoints) (r : SensorRec) (t : Int) (rh target : Nat) :
    dryReadings p r = some (t, rh, target) ↔
      (r.state = .fresh ∨ r.state = .stale) ∧ r.temp = some t ∧ r.rh = some rh ∧ p.dry = some target := by
  rw [← and_assoc, ← ownTemp_eq_some_iff]
  unfold dryReadings
  cases ownTemp r <;> cases r.rh <;> cases p.dry <;> simp

/-- The four ways of an ACTIVE zone with an effective temperature. -/
theorem activeWork_cases (c : CallSetting) (p : Setpoints) (r : SensorRec) (w : ZoneWork) {t : Int} (h : r.eff = some t) :
    let cool := c.cools = true ∧ sensibleHolds (decide (w.call = .cool)) (t - p.cool) = true
    let heat := c.heats = true ∧ sensibleHolds (decide (w.call = .heat)) (p.heat - t) = true
    let frost := c.frosts = true ∧ frostHolds (decide (w.call = .frost)) r = true
    cool ∧ activeWork c p r w = sensibleWork .cool (t - p.cool) w ∨
      ¬cool ∧ heat ∧ activeWork c p r w = sensibleWork .heat (p.heat - t) w ∨
      ¬cool ∧ ¬heat ∧ frost ∧ activeWork c p r w = frostWork w ∨
      ¬cool ∧ ¬heat ∧ ¬frost ∧ activeWork c p r w = dryOrSatisfied c p r w := by
  intro cool heat frost
  unfold activeWork
  rw [h]
  dsimp only
  simp only [Bool.and_eq_true]
  by_cases hc : cool
  · exact .inl ⟨hc, if_pos hc⟩
  · rw [if_neg hc]
    by_cases hh : heat
    · exact .inr (.inl ⟨hc, hh, if_pos hh⟩)
    · rw [if_neg hh]
      by_cases hf : frost
      · exact .inr (.inr (.inl ⟨hc, hh, hf, if_pos hf⟩))
      · exact .inr (.inr (.inr ⟨hc, hh, hf, if_neg hf⟩))

/-- A DRY or SATISFIED record is of no other call. -/
theorem dryOrSatisfied_call (c : CallSetting) (p : Setpoints) (r : SensorRec) (w : ZoneWork) :
    (dryOrSatisfied c p r w).call = .dry ∨ (dryOrSatisfied c p r w).call = .satisfied := by
  rcases dryOrSatisfied_cases c p r w with ⟨_, _, _, -, -, -, h⟩ | ⟨h, -⟩
  · rw [h]; exact .inl rfl
  · rw [h]; exact .inr rfl

/-- The demand of a sensible call. -/
theorem sensibleWork_demand (k : Call) (e : Int) (w : ZoneWork) :
    let new := sensibleWork k e w
    let i := max 0 (min 50 ((if decide (w.call = k) then (w.i : Int) else 0) + e.tdiv 5))
    (new.i : Int) = i ∧ (new.d : Int) = max 10 (min 100 ((e * 5).tdiv 2 + i)) ∧ new.l = 0 ∧ new.suspended = false := by
  intro new i
  have hi : (new.i : Int) = i := by
    refine (integral_eq _ e).trans ?_
    simp only [i, decide_eq_true_eq]
    split <;> rfl
  exact ⟨hi, by rw [← hi]; exact sensibleDemand_eq e _, rfl, rfl⟩

/-- Settles O33: the four ways of an ACTIVE zone, and the two ways of one that forms no sensible or FROST call. -/
theorem callsAndDemand : Obligations.CallsAndDemand := by
  unfold Obligations.CallsAndDemand
  refine ⟨fun s z => ?_, fun c p r w hgap => ?_, fun c p r w t rh target => ?_⟩
  · intro st w
    refine ⟨fun hs hu => if_pos ?_, fun h => if_neg ?_⟩
    · show (decide (st.state = .active) && !st.unconf) = true
      rw [hs, hu]; rfl
    · show ¬(decide (st.state = .active) && !st.unconf) = true
      rcases h with h | h <;> simp [h]
  · intro new cools heats frosts demand
    refine ⟨fun h => ?_, fun t h => ?_⟩
    · have : new = satisfiedWork w := by show activeWork c p r w = _; unfold activeWork; rw [h]
      rw [this]; exact ⟨rfl, rfl, rfl, rfl⟩
    · have hcool : c.cools = true ∧ sensibleHolds (decide (w.call = .cool)) (t - p.cool) = true ↔
          cools ∧ (3 ≤ t - p.cool ∨ w.call = .cool ∧ -2 < t - p.cool) := by
        rw [c.cools_iff, sensibleHolds_iff, decide_eq_true_eq]
      have hheat : c.heats = true ∧ sensibleHolds (decide (w.call = .heat)) (p.heat - t) = true ↔
          heats ∧ (3 ≤ p.heat - t ∨ w.call = .heat ∧ -2 < p.heat - t) := by
        rw [c.heats_iff, sensibleHolds_iff, decide_eq_true_eq]
      have hfrost : c.frosts = true ∧ frostHolds (decide (w.call = .frost)) r = true ↔
          frosts ∧ (r.state = .fresh ∨ r.state = .stale) ∧
            ∃ own, r.temp = some own ∧ (own < 50 ∨ w.call = .frost ∧ own < 80) := by
        rw [c.frosts_iff, frostHolds_iff, decide_eq_true_eq]
      have hcases := activeWork_cases c p r w h
      dsimp only at hcases
      rw [hcool, hheat, hfrost] at hcases
      have hnotBoth : ∀ x y : Prop, cools ∧ (3 ≤ t - p.cool ∨ x ∧ -2 < t - p.cool) →
          heats ∧ (3 ≤ p.heat - t ∨ y ∧ -2 < p.heat - t) → False := fun x y h1 h2 => by
        have e1 : -2 < t - p.cool := h1.2.elim (fun h => by omega) fun h => h.2
        have e2 : -2 < p.heat - t := h2.2.elim (fun h => by omega) fun h => h.2
        omega
      have hoff : frosts → ¬cools ∧ ¬heats := fun hf => by
        have hr : c.request = .off := hf.1
        have hne : c.request ≠ .on := by rw [hr]; decide
        exact ⟨fun hc => hne hc.1, fun hc => hne hc.1⟩
      rcases hcases with ⟨hc, he⟩ | ⟨hc, hh, he⟩ | ⟨hc, hh, hf, he⟩ | ⟨hc, hh, hf, he⟩
      · have hnew : new = sensibleWork .cool (t - p.cool) w := he
        have hcall : new.call = .cool := by rw [hnew]; rfl
        refine ⟨⟨fun _ => hc, fun _ => hcall⟩, ⟨fun h' => ?_, fun h' => (hnotBoth _ _ hc h').elim⟩, fun _ => ?_, fun h' => ?_,
          ⟨fun h' => ?_, fun h' => absurd hc.1 (hoff h'.1).1⟩, fun h' => ?_, fun h' => absurd hcall h'⟩
        · rw [hcall] at h'; cases h'
        · show _ ∧ _
          rw [hnew]; exact sensibleWork_demand .cool (t - p.cool) w
        · rw [hcall] at h'; cases h'
        · rw [hcall] at h'; cases h'
        · rw [hcall] at h'; cases h'
      · have hnew : new = sensibleWork .heat (p.heat - t) w := he
        have hcall : new.call = .heat := by rw [hnew]; rfl
        refine ⟨⟨fun h' => ?_, fun h' => absurd h' hc⟩, ⟨fun _ => hh, fun _ => hcall⟩, fun h' => ?_, fun _ => ?_,
          ⟨fun h' => ?_, fun h' => absurd hh.1 (hoff h'.1).2⟩, fun h' => ?_, fun _ h' => absurd hcall h'⟩
        · rw [hcall] at h'; cases h'
        · rw [hcall] at h'; cases h'
        · show _ ∧ _
          rw [hnew]; exact sensibleWork_demand .heat (p.heat - t) w
        · rw [hcall] at h'; cases h'
        · rw [hcall] at h'; cases h'
      · have hnew : new = frostWork w := he
        have hcall : new.call = .frost := by rw [hnew]; rfl
        refine ⟨⟨fun h' => ?_, fun h' => absurd h' hc⟩, ⟨fun h' => ?_, fun h' => absurd h' hh⟩, fun h' => ?_, fun h' => ?_,
          ⟨fun _ => hf, fun _ => hcall⟩, fun _ => ?_, fun _ _ h' => absurd hcall h'⟩
        · rw [hcall] at h'; cases h'
        · rw [hcall] at h'; cases h'
        · rw [hcall] at h'; cases h'
        · rw [hcall] at h'; cases h'
        · rw [hnew]; exact ⟨rfl, rfl, rfl⟩
      · have hnew : new = dryOrSatisfied c p r w := he
        have hcall : new.call ≠ .cool ∧ new.call ≠ .heat ∧ new.call ≠ .frost := by
          rw [hnew]
          rcases dryOrSatisfied_call c p r w with h' | h' <;> rw [h'] <;> decide
        exact ⟨⟨fun h' => absurd h' hcall.1, fun h' => absurd h' hc⟩, ⟨fun h' => absurd h' hcall.2.1, fun h' => absurd h' hh⟩,
          fun h' => absurd h' hcall.1, fun h' => absurd h' hcall.2.1,
          ⟨fun h' => absurd h' hcall.2.2, fun h' => absurd h' hf⟩, fun h' => absurd h' hcall.2.2, fun _ _ _ => hnew⟩
  · intro new may reads
    have hmay : c.dries = true ↔ may := c.dries_iff
    have hreads : dryReadings p r = some (t, rh, target) ↔ reads := dryReadings_eq_some_iff p r t rh target
    rcases dryOrSatisfied_cases c p r w with ⟨t', rh', target', hread, hdry, hholds, he⟩ | ⟨he, hno⟩
    · have hnew : new = dryWork (drySuspends (decide (w.call = .dry) && w.suspended) p.heat t') rh' target' w := he
      have hcall : new.call = .dry := by rw [hnew]; rfl
      obtain ⟨hown, -, hrh, htarget⟩ := (dryReadings_eq_some_iff p r t' rh' target').1 hread
      refine ⟨.inl hcall, fun h' => ?_, fun _ hr => ?_⟩
      · exfalso
        rcases h' with h' | h' | h' | ⟨h1, h2⟩
        · exact h' (hmay.1 hdry)
        · rw [hrh] at h'; cases h'
        · rw [htarget] at h'; cases h'
        · exact hown.elim h1 h2
      · have hsame := hread.symm.trans (hreads.2 hr)
        cases hsame
        have hsusp : new.suspended = drySuspends (decide (w.call = .dry) && w.suspended) p.heat t := by rw [hnew]; rfl
        refine ⟨fun hw => ?_, fun hw => ?_, fun _ hw => ?_, fun _ hw hs => ?_, fun _ hw hs => ?_, fun _ => ⟨?_, fun hs => ?_,
          fun hs => ?_⟩⟩
        · refine ⟨fun _ => ?_, fun _ => hcall⟩
          simpa [dryHolds, hw] using hholds
        · refine ⟨fun _ => ?_, fun _ => hcall⟩
          simpa [dryHolds, hw] using hholds
        · have hbegun : target + 30 ≤ rh ∧ p.heat + 20 ≤ t := by simpa [dryHolds, hw] using hholds
          have hwarm : ¬ t ≤ p.heat + 10 := by omega
          rw [hsusp]; simp [drySuspends, hw, hwarm]
        · rw [hsusp]; simp [drySuspends, hw, hs]
        · rw [hsusp]; simp [drySuspends, hw, hs]
        · rw [hnew]; rfl
        · rw [hsusp] at hs; rw [hnew]; simp [dryWork, hs]
        · rw [hsusp] at hs
          rw [hnew]
          simp only [dryWork, hs, Bool.false_eq_true, if_false, true_and]
          unfold clampNat
          split <;> [omega; (split <;> omega)]
    · have hnew : new = satisfiedWork w := he
      have hcall : new.call = .satisfied := by rw [hnew]; rfl
      have hnot : new.call ≠ .dry := by rw [hcall]; decide
      refine ⟨.inr ⟨hcall, by rw [hnew]; exact ⟨rfl, rfl, rfl, rfl⟩⟩, fun _ => hcall, fun hm hr => ?_⟩
      have hholds := fun h' => hno t rh target (hreads.2 hr) ⟨hmay.2 hm, h'⟩
      refine ⟨fun hw => ⟨fun h' => absurd h' hnot, fun h' => absurd ?_ hholds⟩, fun hw => ⟨fun h' => absurd h' hnot,
        fun h' => absurd ?_ hholds⟩, fun h' => absurd h' hnot, fun h' => absurd h' hnot, fun h' => absurd h' hnot,
        fun h' => absurd h' hnot⟩
      · simpa [dryHolds, hw] using h'
      · simpa [dryHolds, hw] using h'

end Sys2Proof.Machine
end

section
/-! The relief band of step 2, the arbiter's decision and the coil target as rules about the definitions they speak of (02 R31 to
R38, 03 R61 to R63, 05 R85 and R86). -/

namespace Sys2Proof.Machine

/-! ### Step 2 -/

theorem withdrawn_cooling_iff (p : Setpoints) (t : Int) (was : Bool) :
    withdrawn .cooling p t was = true ↔ t ≤ p.heat + 10 ∨ was = true ∧ t < p.heat + 20 := by
  by_cases h₁ : t ≤ p.heat + 10
  · simp [withdrawn, h₁]
  · by_cases h₂ : p.heat + 20 ≤ t
    · simp [withdrawn, h₁, h₂, Int.not_lt.mpr h₂]
    · simp [withdrawn, h₁, h₂, Int.not_le.mp h₂]

theorem withdrawn_heating_iff (p : Setpoints) (t : Int) (was : Bool) :
    withdrawn .heating p t was = true ↔ p.cool - 10 ≤ t ∨ was = true ∧ p.cool - 20 < t := by
  by_cases h₁ : p.cool - 10 ≤ t
  · simp [withdrawn, h₁]
  · by_cases h₂ : t ≤ p.cool - 20
    · simp [withdrawn, h₁, h₂, Int.not_lt.mpr h₂]
    · simp [withdrawn, h₁, h₂, Int.not_le.mp h₂]

theorem reliefTemp_eq_some_iff (s : State) (z : ZoneId) (t : Int) :
    reliefTemp s z = some t ↔
      ((s.zst.get z).state = .active ∧ (s.zst.get z).unconf = false ∧ 0 < (s.zcfg.get z).ra ∧
        ((sensorOf s z).state = .fresh ∨ (sensorOf s z).state = .stale)) ∧ (sensorOf s z).temp = some t := by
  have key := ownTemp_eq_some_iff (sensorOf s z) t
  unfold reliefTemp
  dsimp only
  split
  next h =>
    simp only [Bool.and_eq_true, decide_eq_true_eq, Bool.not_eq_true'] at h
    obtain ⟨⟨hactive, hunconf⟩, hra⟩ := h
    simp [key, hactive, hunconf, hra]
  next h =>
    simp only [Bool.and_eq_true, decide_eq_true_eq, Bool.not_eq_true'] at h
    simp only [reduceCtorEq, false_iff]
    rintro ⟨⟨hactive, hunconf, hra, -⟩, -⟩
    exact h ⟨⟨hactive, hunconf⟩, hra⟩

theorem stepTwo_none (s : State) (z : ZoneId) : stepTwo s none z = false := rfl

theorem stepTwo_iff (s : State) (side : Side) (z : ZoneId) :
    stepTwo s (some side) z = true ↔ ∃ t, reliefTemp s z = some t ∧
      (withdrawn side (s.setp.get z) t (decide (some side = s.app.bandSide) && (s.work.get z).withdrawn) = true ∨
        side = .cooling ∧ (s.work.get z).call = .dry ∧ (s.work.get z).suspended = true) := by
  unfold stepTwo
  dsimp only
  cases reliefTemp s z with
  | none => simp
  | some t => simp [and_assoc]

/-- Settles O36, by the cases of the band held: the bounds act from the mark held exactly where the side is the band's own. -/
theorem reliefWithdrawn : Obligations.ReliefWithdrawn := by
  unfold Obligations.ReliefWithdrawn
  intro s z t st p was own eligible dried new
  refine ⟨fun h => (nomatch (stepTwo_none s z).symm.trans h), fun hne side hnew => ?_, fun hel htemp => ?_⟩
  · cases side with
    | none => exact nomatch (stepTwo_none s z).symm.trans hnew
    | some side =>
      obtain ⟨u, hu, -⟩ := (stepTwo_iff s side z).mp hnew
      exact hne ((reliefTemp_eq_some_iff s z u).mp hu).1
  · have hrelief : reliefTemp s z = some t := (reliefTemp_eq_some_iff s z t).mpr ⟨hel, htemp⟩
    have hnew : ∀ side : Side, new (some side) ↔
        withdrawn side p t (decide (some side = s.app.bandSide) && was) = true ∨ side = .cooling ∧ dried := fun side =>
      (stepTwo_iff s side z).trans ⟨fun ⟨u, hu, h⟩ => by cases hrelief.symm.trans hu; exact h, fun h => ⟨t, hrelief, h⟩⟩
    have hcool : new (some .cooling) ↔
        (t ≤ p.heat + 10 ∨ (decide (some Side.cooling = s.app.bandSide) && was) = true ∧ t < p.heat + 20) ∨ dried := by
      rw [hnew, withdrawn_cooling_iff]; simp
    have hheat : new (some .heating) ↔
        p.cool - 10 ≤ t ∨ (decide (some Side.heating = s.app.bandSide) && was) = true ∧ p.cool - 20 < t := by
      rw [hnew, withdrawn_heating_iff]; simp
    refine ⟨fun hb => ?_, fun hb => ?_, fun hb => ?_⟩
    · rw [hb] at hcool hheat
      refine ⟨hcool.trans ?_, hheat.trans (by simp)⟩
      rw [decide_eq_true rfl, Bool.true_and, or_assoc]
      exact or_congr_right or_comm
    · rw [hb] at hcool hheat
      exact ⟨hheat.trans (by simp), hcool.trans (by simp)⟩
    · rw [hb] at hcool hheat
      exact ⟨hcool.trans (by simp), hheat.trans (by simp)⟩

/-! ### Step 3 -/

theorem reached_iff (since : Option Nat) (ms now : Nat) : reached since ms now = true ↔ ∃ t0, since = some t0 ∧ t0 + ms ≤ now := by
  cases since <;> simp [reached]

theorem not_reached_iff (since : Option Nat) (ms now : Nat) :
    reached since ms now = false ↔ ∀ t0, since = some t0 → now < t0 + ms := by
  cases since <;> simp [reached]

theorem SideView.candidate_iff (v : SideView) (side : Side) : v.candidate side = true ↔ 0 < v.w side ∧ v.isBlocked side = false := by
  simp [SideView.candidate]

theorem leavesSide_iff (v : SideView) (side : Side) (nc : Option Nat) : leavesSide v side nc = true ↔
    v.isBlocked side = true ∨ v.w side = 0 ∧
      (v.request = .off ∨ v.forms side = false ∨ reached nc (minutes v.releaseTime) v.now = true) := by
  simp [leavesSide, or_assoc]

theorem yieldsSide_iff (a : Arbiter) (v : SideView) (side : Side) : yieldsSide a v side = true ↔
    0 < v.w side ∧ v.isBlocked side.other = false ∧
      (reached a.sideStart (minutes v.minHold) v.now = true ∧ v.w side < v.w side.other ∨
        reached (a.waitOf side.other) (minutes v.maxWait) v.now = true) := by
  simp [yieldsSide, and_assoc]

/-- The arbiter passes the deferral, TEST, an unfinished REST and FAN on to the side served, or to NONE. -/
theorem Arbiter.decideMode_ordinary (a : Arbiter) (v : SideView) (hd : a.deferral = false) (ht : v.inTest = false)
    (hr : a.mode = .rest → a.restOver v.now = true) (hf : ¬(v.request = .on ∧ v.policy = .fan)) :
    a.decideMode v = match a.served with
      | some side => a.serve v side
      | none => a.fromNone v (decide (a.mode = .rest)) := by
  have hrest : (decide (a.mode = .rest) && !a.restOver v.now) = false := by
    cases hm : decide (a.mode = .rest) with
    | false => rfl
    | true => rw [hr (of_decide_eq_true hm)]; rfl
  have hfan : (decide (v.request = .on) && decide (v.policy = .fan)) = false := by
    rw [← Bool.decide_and]; exact decide_eq_false hf
  unfold Arbiter.decideMode
  rw [hd, ht, hrest, hfan]
  rfl

theorem Arbiter.serve_yields {a : Arbiter} {v : SideView} {side : Side} (h : yieldsSide a v side = true) :
    a.serve v side = a.enterRest v side.other := by
  simp only [Arbiter.serve, h, if_true]

theorem Arbiter.serve_leaves {a : Arbiter} {v : SideView} {side : Side} (h : yieldsSide a v side = false)
    (hl : leavesSide v side (noCallersOf a v side) = true) : a.serve v side = a.leave v side := by
  simp only [Arbiter.serve, h, hl, if_true, Bool.false_eq_true, if_false]

/-- The mode of a side that is kept (02 R33). -/
def servedMode (v : SideView) (was : Mode) : Side → Mode
  | .heating => .heat
  | .cooling => coolingMode v was

theorem Arbiter.serve_stays {a : Arbiter} {v : SideView} {side : Side} (h : yieldsSide a v side = false)
    (hl : leavesSide v side (noCallersOf a v side) = false) :
    a.serve v side =
      { a with noCallers := noCallersOf a v side, mode := servedMode v a.mode side } := by
  simp only [Arbiter.serve, h, hl, Bool.false_eq_true, if_false]
  cases side <;> rfl

theorem Arbiter.leave_toRest {a : Arbiter} {v : SideView} {side : Side} (h : v.candidate side.other = true) :
    a.leave v side = a.enterRest v side.other := by
  simp only [Arbiter.leave, h, if_true]

theorem Arbiter.leave_toNone {a : Arbiter} {v : SideView} {side : Side} (h : v.candidate side.other = false) :
    a.leave v side = a.clear .idle := by
  simp only [Arbiter.leave, h, Bool.false_eq_true, if_false]

theorem Arbiter.start_mode_cooling (a : Arbiter) (v : SideView) :
    (a.start v .cooling).mode = if v.anyCool || !v.anyDry then .cool else .dry := by
  show coolingMode v .cool = _
  unfold coolingMode
  cases v.anyCool <;> cases v.anyDry <;> rfl

/-- No side has callers that may be served. -/
theorem chosenSide_none (a : Arbiter) {v : SideView} (hc : v.candidate .cooling = false) (hh : v.candidate .heating = false) :
    chosenSide a v = none := by
  simp only [chosenSide, hc, hh, Bool.false_and, Bool.false_eq_true, if_false]

/-- A side with callers is chosen where it is the only candidate, has the larger aggregate, or is next at equality. -/
theorem chosenSide_side (a : Arbiter) {v : SideView} {side : Side} (hc : v.candidate side = true)
    (h : v.w side.other < v.w side ∨ v.isBlocked side.other = true ∨
      v.w side.other = v.w side ∧ (a.lastServed = some side.other ∨ a.lastServed = none ∧ side = .cooling)) :
    chosenSide a v = some side := by
  by_cases ho : v.candidate side.other = true
  · have hfree : v.isBlocked side.other = false := ((v.candidate_iff _).mp ho).2
    rw [hfree] at h
    cases side with
    | cooling =>
      have h' : v.wHeat < v.wCool ∨ v.wHeat = v.wCool ∧ (a.lastServed = some .heating ∨ a.lastServed = none) := by
        simpa [SideView.w, Side.other] using h
      have hho : v.candidate .heating = true := ho
      simp only [chosenSide, hc, hho, Bool.and_self, if_true]
      rcases h' with h' | ⟨h', hl | hl⟩
      · rw [if_pos h']
      · simp [h', hl, Side.other]
      · simp [h', hl]
    | heating =>
      have h' : v.wCool < v.wHeat ∨ v.wCool = v.wHeat ∧ a.lastServed = some .cooling := by
        simpa [SideView.w, Side.other] using h
      have hco : v.candidate .cooling = true := ho
      simp only [chosenSide, hc, hco, Bool.and_self, if_true]
      rcases h' with h' | ⟨h', hl⟩
      · rw [if_neg (Nat.not_lt.mpr (Nat.le_of_lt h')), if_pos h']
      · simp [h', hl, Side.other]
  · have ho' : v.candidate side.other = false := by simpa using ho
    cases side with
    | cooling =>
      have hho : v.candidate .heating = false := ho'
      simp only [chosenSide, hc, hho, Bool.and_false, Bool.false_eq_true, if_false, if_true]
    | heating =>
      have hco : v.candidate .cooling = false := ho'
      simp only [chosenSide, hc, hco, Bool.false_and, Bool.false_eq_true, if_false, if_true]

/-- Settles O37, by the cases of the decision: the cases before the side, then the side served by whether it yields, is left or
stays, then the start from NONE. -/
theorem modeIsDecidedInOrder : Obligations.ModeIsDecidedInOrder := by
  unfold Obligations.ModeIsDecidedInOrder
  intro a v side b other ordinary serves waits waited outlasted restTo starts kept
  have hrestTo : ∀ x, b = a.enterRest v x → restTo x := fun x hb => by
    show b.mode = _ ∧ _
    rw [hb]
    exact ⟨rfl, rfl, rfl, rfl, rfl, rfl, rfl⟩
  have hidle : b = a.clear .idle → b.mode = .idle ∧ b.served = none ∧ b.sideStart = none ∧ b.noCallers = none := fun hb => by
    rw [hb]
    exact ⟨rfl, rfl, rfl, rfl⟩
  have hwaited : ∀ since min, waited since min ↔ reached since (minutes min) v.now = true := fun since min =>
    (reached_iff since _ _).symm
  have hwaits : ∀ since min, waits since min ↔ reached since (minutes min) v.now = false := fun since min =>
    (not_reached_iff since _ _).symm
  have hordinary : ordinary → b = match a.served with
      | some side => a.serve v side
      | none => a.fromNone v (decide (a.mode = .rest)) := fun ⟨hd, ht, hr, hf⟩ => a.decideMode_ordinary v hd ht hr hf
  have hserves : serves → b = a.serve v side := fun ⟨ho, hs⟩ => by
    have h := hordinary ho
    rw [hs] at h
    exact h
  have hnone : ordinary → a.served = none → b = a.fromNone v (decide (a.mode = .rest)) := fun ho hs => by
    have h := hordinary ho
    rw [hs] at h
    exact h
  have hkept : serves → yieldsSide a v side = false → leavesSide v side (noCallersOf a v side) = false →
      kept ∧ b.noCallers = noCallersOf a v side := fun hs hy hl => by
    have hb := (hserves hs).trans (Arbiter.serve_stays hy hl)
    refine ⟨?_, congrArg Arbiter.noCallers hb⟩
    show (b.served = _ ∧ _)
    rw [hb]
    refine ⟨hs.2, rfl, rfl, fun hside => ?_, fun hside hcool => ?_, fun hside hcool => ?_⟩
    · rw [hside]; rfl
    · rw [hside]; exact if_pos hcool
    · rw [hside]; exact if_neg (by rw [hcool]; decide)
  refine ⟨fun hd => ?_, fun hd ht => ?_, fun hd ht hr hn => ?_, fun hd ht hr hon hfan => ?_, fun hs hleave => ?_,
    fun hs hfree hw hon hforms hrel hwait => ?_, fun hs hw hfree hout => ?_, fun hs hfree hw hstay => ?_, fun ho hs hc hh => ?_,
    fun ho hs hw hfree hchoice => ?_⟩
  · show (a.decideMode v).mode = a.mode ∧ (a.decideMode v).served = a.served
    unfold Arbiter.decideMode
    rw [hd, if_pos rfl]
    cases hserved : a.served with
    | none => exact ⟨rfl, hserved⟩
    | some x => exact ⟨rfl, rfl⟩
  · have hb : b = a.clear .test := by
      show a.decideMode v = _
      simp only [Arbiter.decideMode, hd, ht, Bool.false_eq_true, if_false, if_true]
    rw [hb]
    exact ⟨rfl, rfl⟩
  · show a.decideMode v = a
    simp [Arbiter.decideMode, hd, ht, hr, hn]
  · have hrest : (decide (a.mode = .rest) && !a.restOver v.now) = false := by
      cases hm : decide (a.mode = .rest) with
      | false => rfl
      | true => rw [hr (of_decide_eq_true hm)]; rfl
    have hb : b = a.clear .fan := by
      show a.decideMode v = _
      simp [Arbiter.decideMode, hd, ht, hrest, hon, hfan]
    rw [hb]
    exact ⟨rfl, rfl⟩
  · cases hy : yieldsSide a v side with
    | true =>
      obtain ⟨hw, hfree, hyield⟩ := (yieldsSide_iff a v side).mp hy
      refine ⟨fun _ _ => hrestTo _ ((hserves hs).trans (Arbiter.serve_yields hy)), fun hno => ?_⟩
      rcases hno with hblocked | ⟨hother, hno⟩
      · exact nomatch hfree.symm.trans hblocked
      · rcases hyield with ⟨-, hlt⟩ | hreached
        · exact absurd hlt (by rw [show v.w side.other = 0 from hother]; exact Nat.not_lt_zero _)
        · rcases hno with hzero | hnot
          · omega
          · exact absurd ((hwaited _ _).mpr hreached) hnot
    | false =>
      have hl : leavesSide v side (noCallersOf a v side) = true := by
        rw [leavesSide_iff]
        rcases hleave with hb | ⟨hw, hoff | hforms | hgone⟩
        · exact .inl hb
        · exact .inr ⟨hw, .inl hoff⟩
        · exact .inr ⟨hw, .inr (.inl hforms)⟩
        · obtain ⟨t0, hsince, hle⟩ := hgone
          refine .inr ⟨hw, .inr (.inr ?_)⟩
          rw [reached_iff]
          exact ⟨t0, by simp [noCallersOf, hw, hsince], hle⟩
      have hb := (hserves hs).trans (Arbiter.serve_leaves hy hl)
      refine ⟨fun hfree hcallers => hrestTo _ (hb.trans (Arbiter.leave_toRest ?_)),
        fun hno => hidle (hb.trans (Arbiter.leave_toNone ?_))⟩
      · rw [SideView.candidate_iff]
        refine ⟨hcallers.elim id fun ⟨hw, hout⟩ => ?_, hfree⟩
        have hyes := (yieldsSide_iff a v side).mpr ⟨hw, hfree, .inr ((hwaited _ _).mp hout)⟩
        exact nomatch hy.symm.trans hyes
      · rw [← Bool.not_eq_true, SideView.candidate_iff]
        rintro ⟨hother, hfree⟩
        rcases hno with hblocked | ⟨hzero, -⟩
        · exact nomatch hfree.symm.trans hblocked
        · exact absurd hzero (Nat.ne_of_gt hother)
  · have hnc : noCallersOf a v side = some (a.noCallers.getD v.now) := by simp [noCallersOf, hw]
    have hy : yieldsSide a v side = false := by
      rw [← Bool.not_eq_true, yieldsSide_iff]
      rintro ⟨hpos, -⟩
      omega
    have hl : leavesSide v side (noCallersOf a v side) = false := by
      rw [← Bool.not_eq_true, leavesSide_iff, hnc, reached_iff]
      rintro (hb | ⟨-, hoff | hno | ⟨t0, ht0, hle⟩⟩)
      · exact nomatch hfree.symm.trans hb
      · exact nomatch hon.symm.trans hoff
      · exact nomatch hforms.symm.trans hno
      · cases ht0
        unfold minutes at hle
        cases hn : a.noCallers with
        | none =>
          rw [hn] at hle
          change v.now + v.releaseTime * 60000 ≤ v.now at hle
          omega
        | some t0 =>
          rw [hn] at hle
          have hlt := hwait t0 hn
          change t0 + v.releaseTime * 60000 ≤ v.now at hle
          omega
    obtain ⟨hk, hn⟩ := hkept hs hy hl
    exact ⟨hk, hn.trans hnc⟩
  · refine hrestTo _ ((hserves hs).trans (Arbiter.serve_yields ((yieldsSide_iff a v side).mpr ⟨hw, hfree, ?_⟩)))
    exact hout.imp (fun ⟨h, hlt⟩ => ⟨(hwaited _ _).mp h, hlt⟩) (hwaited _ _).mp
  · have hnc : noCallersOf a v side = none := by simp [noCallersOf, hw]
    have hy : yieldsSide a v side = false := by
      rw [← Bool.not_eq_true, yieldsSide_iff]
      rintro ⟨-, hopen, hyield⟩
      rcases hstay with hblocked | ⟨hkeep, hnot⟩
      · exact nomatch hopen.symm.trans hblocked
      · rcases hyield with ⟨hheld, hlt⟩ | hreached
        · rcases hkeep with hle | hnotHeld
          · exact absurd hlt (Nat.not_lt.mpr hle)
          · exact nomatch ((hwaits _ _).mp hnotHeld).symm.trans hheld
        · exact nomatch ((hwaits _ _).mp hnot).symm.trans hreached
    have hl : leavesSide v side (noCallersOf a v side) = false := by
      rw [← Bool.not_eq_true, leavesSide_iff]
      rintro (hb | ⟨hzero, -⟩)
      · exact nomatch hfree.symm.trans hb
      · omega
    obtain ⟨hk, hn⟩ := hkept hs hy hl
    exact ⟨hk, hn.trans hnc⟩
  · have hcool : v.candidate .cooling = false := by
      rw [← Bool.not_eq_true, SideView.candidate_iff]
      rintro ⟨hpos, hopen⟩
      rcases hc with hzero | hblocked
      · omega
      · exact nomatch hopen.symm.trans hblocked
    have hheat : v.candidate .heating = false := by
      rw [← Bool.not_eq_true, SideView.candidate_iff]
      rintro ⟨hpos, -⟩
      omega
    have hb := hnone ho hs
    unfold Arbiter.fromNone at hb
    rw [chosenSide_none a hcool hheat] at hb
    rw [hb]
    exact ⟨rfl, rfl⟩
  · have hchosen := chosenSide_side a ((v.candidate_iff side).mpr ⟨hw, hfree⟩) hchoice
    have hb := hnone ho hs
    unfold Arbiter.fromNone at hb
    rw [hchosen] at hb
    dsimp only at hb
    refine ⟨fun hnot hlast => hrestTo _ (hb.trans (if_pos ?_)), fun hor => ?_⟩
    · simp [hnot, show a.lastServed = some side.other from hlast]
    · have hstart : b = a.start v side := hb.trans (if_neg ?_)
      · show (b.served = _ ∧ _)
        rw [hstart]
        refine ⟨rfl, rfl, rfl, rfl, fun hside => ?_, fun hside => ?_⟩
        · rw [hside]; rfl
        · rw [hside]; exact a.start_mode_cooling v
      · simp only [Bool.and_eq_true, Bool.not_eq_true', decide_eq_false_iff_not, decide_eq_true_eq, not_and]
        intro hnot hlast
        exact hor.elim hnot fun h => h hlast

/-! ### The coil target -/

theorem smallest_eq_some {l : List Int} {m : Int} (h : smallest l = some m) : m ∈ l ∧ ∀ x ∈ l, m ≤ x := by
  have heq : smallest l = l.min? := by cases l <;> rfl
  rw [heq] at h
  exact List.min?_eq_some_iff.mp h

theorem smallest_ne_none {l : List Int} {x : Int} (h : x ∈ l) : ∃ m, smallest l = some m := by
  cases l with
  | nil => exact absurd h List.not_mem_nil
  | cons y rest => exact ⟨_, rfl⟩

theorem dewPoint_eq (t : Int) {rh : Nat} (h : rh ≤ 1000) : dewPoint t rh = t - (1000 - max (rh : Int) 500) / 5 := by
  unfold dewPoint
  omega

/-- The zones whose contributions the coil target is the smallest of (05 R86). -/
def PlanView.drying (v : PlanView) : List ZoneId := v.members.filter fun z => (v.zones.get z).dries

theorem PlanView.mem_drying (v : PlanView) (z : ZoneId) : z ∈ v.drying ↔
    v.k z = true ∧ (v.zones.get z).call = .dry ∧ (v.zones.get z).suspended = false := by
  simp [PlanView.drying, PlanView.members, ZoneView.dries, and_comm]

/-- The contribution of a zone to the coil target (05 R85, R86). -/
def PlanView.contribution (v : PlanView) (z : ZoneId) : Int := dewPoint (v.zones.get z).temp (v.zones.get z).rh - 60

theorem buildPlan_coilTarget (v : PlanView) : (buildPlan v).coilTarget = v.coilTarget := by
  unfold buildPlan
  split
  next h =>
    have ht : PlanView.coilTarget.target v = none := by
      unfold PlanView.coilTarget.target
      rw [h]; rfl
    show none = v.coilTarget
    unfold PlanView.coilTarget
    rw [ht]
    cases v.mode <;> rfl
  next => rfl

theorem PlanView.coilTarget_eq_some_iff (v : PlanView) (c : Int) : v.coilTarget = some c ↔
    (v.mode = .cool ∨ v.mode = .dry) ∧ ∃ m, smallest (v.drying.map v.contribution) = some m ∧ c = clampInt m 40 140 := by
  have htarget : PlanView.coilTarget.target v = some c ↔
      ∃ m, smallest (v.drying.map v.contribution) = some m ∧ c = clampInt m 40 140 := by
    show (smallest (v.drying.map v.contribution)).map _ = some c ↔ _
    rw [Option.map_eq_some_iff]
    simp only [eq_comm]
  unfold PlanView.coilTarget
  cases v.mode <;> simp [htarget]

/-- Settles O41, by the least contribution of the zones that dry. -/
theorem coilTargetFollowsDriestRoom : Obligations.CoilTargetFollowsDriestRoom := by
  unfold Obligations.CoilTargetFollowsDriestRoom
  intro v hrh p dries raw
  have hcoil : p.coilTarget = v.coilTarget := buildPlan_coilTarget v
  have hdries : ∀ z, dries z ↔ (v.mode = .cool ∨ v.mode = .dry) ∧ z ∈ v.drying := fun z =>
    and_congr_right fun _ => (v.mem_drying z).symm
  have hraw : ∀ z, v.contribution z = raw z := fun z => by
    show dewPoint _ _ - 60 = _
    rw [dewPoint_eq _ (hrh z)]
  have hclamp : ∀ m : Int, clampInt m 40 140 = max 40 (min 140 m) := fun m => clampInt_eq m (by decide)
  refine ⟨⟨fun ⟨c, hc⟩ => ?_, fun ⟨z, hz⟩ => ?_⟩, fun c hc => ?_⟩
  · obtain ⟨hmode, m, hm, -⟩ := (v.coilTarget_eq_some_iff c).mp (hcoil.symm.trans hc)
    obtain ⟨z, hz, -⟩ := List.mem_map.mp (smallest_eq_some hm).1
    exact ⟨z, (hdries z).mpr ⟨hmode, hz⟩⟩
  · obtain ⟨hmode, hmem⟩ := (hdries z).mp hz
    obtain ⟨m, hm⟩ := smallest_ne_none (List.mem_map_of_mem (f := v.contribution) hmem)
    exact ⟨_, hcoil.trans ((v.coilTarget_eq_some_iff _).mpr ⟨hmode, m, hm, rfl⟩)⟩
  · obtain ⟨hmode, m, hm, he⟩ := (v.coilTarget_eq_some_iff c).mp (hcoil.symm.trans hc)
    obtain ⟨hmem, hleast⟩ := smallest_eq_some hm
    obtain ⟨z, hz, hzm⟩ := List.mem_map.mp hmem
    rw [hclamp] at he
    refine ⟨by omega, by omega, ⟨z, (hdries z).mpr ⟨hmode, hz⟩, ?_⟩, fun y hy => ?_⟩
    · rw [he, ← hzm, hraw]
    · have hle := hleast _ (List.mem_map_of_mem (f := v.contribution) ((hdries y).mp hy).2)
      rw [hraw] at hle
      omega

end Sys2Proof.Machine
end

section
/-! A timer command whose time has not come, or whose thing is not in progress, changes nothing (00, Conventions; log 3): what
keeps each row from being due. -/

namespace Sys2Proof.Machine

theorem skips {due : Bool} {t s : State} (h : due = false) : (.next (if due = true then t else s) : Result) = .next s := by
  rw [h]; rfl

theorem skips_of_not {due : Prop} [Decidable due] {t s : State} (h : ¬due) :
    (.next (if due then t else s) : Result) = .next s := by
  rw [if_neg h]

theorem reached_before {since : Option Nat} {ms now : Nat} (h : ∀ t, since = some t → now < t + ms) :
    reached since ms now = false := (not_reached_iff since ms now).mpr h

theorem and_false_of {a b : Bool} (h : a = false ∨ b = false) : (a && b) = false := by
  rcases h with h | h
  · rw [h]; rfl
  · rw [h]; exact Bool.and_false a

/-! ### Dampers -/

theorem Drive.stepDue_early {v : Drive} {now : Nat} {d : ZoneId}
    (h : (∀ y, v.slotOf d = some y → now < y.lastStep + 20) ∨
      (∃ y u, v.slotOf d = some y ∧ y.what = .move u ∧ (v.dampers.get d).position = some u) ∨
        (∃ y, v.slotOf d = some y ∧ y.what = .home ∧ 220 ≤ y.steps)) : v.stepDue now d = false := by
  unfold Drive.stepDue
  cases hx : v.slotOf d with
  | none => rfl
  | some y =>
    obtain ⟨e, what, n, last, r⟩ := y
    rw [hx] at h
    rcases h with h | ⟨y, u, hy, hwhat, hpos⟩ | ⟨y, hy, hwhat, hn⟩
    · have hlt := h _ rfl
      simp only [Bool.and_eq_false_iff, decide_eq_false_iff_not]
      exact .inl (Nat.not_le.mpr hlt)
    · cases hy
      obtain rfl : what = .move u := hwhat
      simp [Drive.motionDone, hx, hpos]
    · cases hy
      obtain rfl : what = .home := hwhat
      have hn' : 220 ≤ n := hn
      simp [Drive.motionDone, hx, hn']

theorem Drive.moveDone_early {v : Drive} {d : ZoneId}
    (h : ∀ y u, v.slotOf d = some y → y.what = .move u → (v.dampers.get d).position ≠ some u) :
    (v.isMove d && v.motionDone d) = false := by
  unfold Drive.isMove Drive.motionDone
  cases hx : v.slotOf d with
  | none => rfl
  | some y =>
    obtain ⟨e, what, n, last, r⟩ := y
    cases what with
    | home => rfl
    | move u => simpa using h _ u hx rfl

theorem Drive.homeDone_early {v : Drive} {d : ZoneId} (h : ∀ y, v.slotOf d = some y → y.what = .home → y.steps < 220) :
    (!v.isMove d && v.motionDone d) = false := by
  unfold Drive.isMove Drive.motionDone
  cases hx : v.slotOf d with
  | none => rfl
  | some y =>
    obtain ⟨e, what, n, last, r⟩ := y
    cases what with
    | home => simpa using h _ hx rfl
    | move u => rfl

theorem Drive.isMove_homing {v : Drive} {d : ZoneId} (h : ∀ y, v.slotOf d = some y → y.what = .home) : v.isMove d = false := by
  unfold Drive.isMove
  cases hx : v.slotOf d with
  | none => rfl
  | some y =>
    obtain ⟨e, what, n, last, r⟩ := y
    obtain rfl : what = .home := h _ hx
    rfl

/-! ### Blower -/

theorem Blower.settledDue_early {b : Blower} {now : Nat}
    (h : b.state ≠ .ramp ∨ b.retryFrom ≠ none ∨ b.inBand = false ∨ (∀ t, b.goalSince = some t → now < t + 3000) ∨
      now < b.bandFrom + 3000 ∨ b.lastPulse + 1000 ≤ now) : b.settledDue now = false := by
  unfold Blower.settledDue
  cases hg : b.goalSince with
  | none => rfl
  | some g =>
    rw [← Bool.not_eq_true]
    simp only [Bool.and_eq_true, decide_eq_true_eq, Option.isNone_iff_eq_none, Blower.bandNow, Blower.bandSince, Blower.silent,
      Bool.not_eq_true', decide_eq_false_iff_not, Nat.not_le]
    rintro ⟨⟨⟨hramp, hpause⟩, hband, hheard⟩, htime⟩
    rw [if_neg (fun hsilent => Nat.not_le.mpr hheard hsilent.2)] at htime
    rcases h with h | h | h | h | h | h
    · exact h hramp
    · exact h hpause
    · exact nomatch h.symm.trans hband
    · have hlt := h g hg
      omega
    · omega
    · omega

theorem Blower.unsettledDue_early {b : Blower} {now : Nat}
    (h : b.state ≠ .run ∨ b.inBand = true ∧ now < b.lastPulse + 4000 ∨ b.inBand = false ∧ now < b.bandFrom + 3000) :
    b.unsettledDue now = false := by
  rw [← Bool.not_eq_true]
  simp only [Blower.unsettledDue, Blower.bandNow, Blower.bandSince, Blower.silent, Bool.and_eq_true, decide_eq_true_eq,
    Bool.not_eq_true']
  rintro ⟨⟨hrun, hout⟩, htime⟩
  rcases h with h | ⟨hband, h⟩ | ⟨hband, h⟩
  · exact h hrun
  · rw [hband, Bool.true_and, Bool.not_eq_false', decide_eq_true_eq] at hout
    rw [if_pos ⟨hband, hout⟩] at htime
    omega
  · rw [if_neg (fun hsilent => Bool.false_ne_true (hband.symm.trans hsilent.1))] at htime
    omega

theorem Blower.timeoutDue_early {b : Blower} {now : Nat}
    (h : b.state ≠ .ramp ∨ b.retryFrom ≠ none ∨ ∀ t, b.settleFrom = some t → now < t + 30000) : b.timeoutDue now = false := by
  unfold Blower.timeoutDue
  cases hs : b.settleFrom with
  | none => rfl
  | some t =>
    rw [← Bool.not_eq_true]
    simp only [Bool.and_eq_true, decide_eq_true_eq, Option.isNone_iff_eq_none]
    rintro ⟨⟨hramp, hpause⟩, htime⟩
    rcases h with h | h | h
    · exact h hramp
    · exact h hpause
    · exact Nat.not_le.mpr (h t hs) htime

theorem Blower.runOnDue_early {b : Blower} {now : Nat}
    (h : b.state ≠ .runOn ∨ ∀ t, b.runOnUntil = some t → now < t + 0) : b.runOnDue now = false := by
  unfold Blower.runOnDue
  cases hs : b.runOnUntil with
  | none => rfl
  | some t =>
    refine and_false_of (h.imp (fun h => decide_eq_false h) fun h => decide_eq_false (Nat.not_le.mpr (h t hs)))

theorem Blower.atRest_early {b : Blower} {now : Nat}
    (h : b.demand ≠ 0 ∨ b.zeroFrom = none ∨ now < b.lastPulse + 1000 ∧ ∀ t, b.zeroFrom = some t → now < t + 30000) :
    b.atRest now = false := by
  unfold Blower.atRest
  cases hz : b.zeroFrom with
  | none => rfl
  | some t =>
    rcases h with h | h | ⟨hheard, h⟩
    · rw [decide_eq_false h]; rfl
    · exact nomatch hz.symm.trans h
    · refine and_false_of (.inr ?_)
      rw [Bool.or_eq_false_iff]
      exact ⟨decide_eq_false (Nat.not_le.mpr hheard), decide_eq_false (Nat.not_le.mpr (h t hz))⟩

/-! ### Link -/

theorem endingByte_past {now : Nat} {f : LinkFrame} (h : f.sentBy < now) : endingByte now f = none := by
  unfold endingByte
  rw [List.find?_eq_none]
  intro n _ hn
  have := of_decide_eq_true hn
  omega

theorem collidedFrame_past {s : State} (h : ∀ f, s.link.frame = some f → f.sentBy < s.now) : collidedFrame s = none := by
  unfold collidedFrame
  rw [Option.filter_eq_none_iff]
  intro f hf
  unfold readsOtherwise
  rw [endingByte_past (h f hf)]
  exact Bool.false_ne_true

theorem lineQuiet_of {s : State} (h : ∀ t, s.link.lowAt = some t → t + 2 ≤ s.now) : lineQuiet s = true := by
  unfold lineQuiet
  cases hl : s.link.lowAt with
  | none => rfl
  | some t => exact decide_eq_true (h t hl)

theorem sentFrame_filter_none {s : State} {p : LinkFrame → Bool} (h : ∀ f, s.link.frame = some f → s.now < f.sentBy ∨ p f = false) :
    (sentFrame s).filter p = none := by
  rw [Option.filter_eq_none_iff]
  intro f hf hp
  obtain ⟨hframe, hdue⟩ := Option.filter_eq_some_iff.mp hf
  have hsent : f.sentBy ≤ s.now := of_decide_eq_true (Bool.and_eq_true_iff.mp hdue).1
  rcases h f hframe with hlt | hno
  · omega
  · exact nomatch hno.symm.trans hp

theorem windowFrame_closed {s : State} (h : ∀ f, s.link.frame = some f → s.now < f.sentBy ∨ f.sentBy + 40 < s.now)
    (kind : FrameKind) : windowFrame s kind = none :=
  sentFrame_filter_none fun f hf => (h f hf).imp_right fun hlt =>
    and_false_of (.inr (decide_eq_false (Nat.not_le.mpr hlt)))

theorem exec_linkByteError_closed {s : State} (h : ∀ f, s.link.frame = some f → s.now < f.sentBy ∨ f.sentBy + 40 < s.now)
    (samples : BitVec 33) : exec (.linkByteError samples) s = .next s := by
  show execLinkByteError samples s = _
  unfold execLinkByteError
  cases ha : awaitingResponse s with
  | none => rfl
  | some f =>
    obtain ⟨hsent, -⟩ := Option.filter_eq_some_iff.mp ha
    obtain ⟨hframe, hdue⟩ := Option.filter_eq_some_iff.mp hsent
    have hle : f.sentBy ≤ s.now := of_decide_eq_true (Bool.and_eq_true_iff.mp hdue).1
    have hlt : f.sentBy + 40 < s.now := (h f hframe).resolve_left (Nat.not_lt.mpr hle)
    cases byteFailure samples with
    | none => rfl
    | some kind => exact skips_of_not (Nat.not_le.mpr hlt)

theorem closedWindow_open {s : State} (h : ∀ f, s.link.frame = some f → s.now < f.sentBy + 40) : closedWindow s = none := by
  unfold closedWindow
  rw [Option.filter_eq_none_iff]
  intro f hf hle
  obtain ⟨hsent, -⟩ := Option.filter_eq_some_iff.mp hf
  obtain ⟨hframe, -⟩ := Option.filter_eq_some_iff.mp hsent
  exact Nat.not_le.mpr (h f hframe) (of_decide_eq_true hle)

theorem requestDue_early {s : State}
    (h : s.link.frame ≠ none ∨ ∀ r, s.link.round = some r → r.requestBegun = true ∨ s.now < r.tick + 50) :
    requestDue s = none := by
  unfold requestDue
  cases hr : s.link.round with
  | none => rfl
  | some r =>
    refine if_neg ?_
    simp only [Bool.and_eq_true, Bool.not_eq_true', decide_eq_true_eq, Option.isNone_iff_eq_none]
    rintro ⟨⟨hbegun, htick⟩, hframe⟩
    rcases h with h | h
    · exact h hframe
    · rcases h r hr with hb | hlt
      · exact nomatch hbegun.symm.trans hb
      · omega

theorem slowDiagDue_early {s : State}
    (h : s.link.frame ≠ none ∨ ∀ r, s.link.round = some r → r.slowDiag = false ∨ s.now < r.tick + 150) :
    slowDiagDue s = none := by
  unfold slowDiagDue
  cases hr : s.link.round with
  | none => rfl
  | some r =>
    refine if_neg ?_
    simp only [Bool.and_eq_true, decide_eq_true_eq, Option.isNone_iff_eq_none]
    rintro ⟨⟨hslow, htick⟩, hframe⟩
    rcases h with h | h
    · exact h hframe
    · rcases h r hr with hb | hlt
      · exact nomatch hb.symm.trans hslow
      · omega

theorem statAgeDue_early {s : State}
    (h : s.link.state = .start ∨ s.link.state = .lost ∨
      ∀ t, s.link.statAgeFrom = some t → s.now < t + (if s.link.state = .slow then 30000 else 10000)) :
    statAgeDue s = false := by
  unfold statAgeDue
  cases hk : s.link.state with
  | start => rfl
  | lost => rfl
  | active => simpa [ageLimit, hk, not_reached_iff] using h
  | degraded => simpa [ageLimit, hk, not_reached_iff] using h
  | slow => simpa [ageLimit, hk, not_reached_iff] using h

theorem diagTimeoutDue_early {s : State} (h : ∀ d, s.link.diag = some d → d.begun = true ∨ s.now < d.enteredAt + 10000) :
    diagTimeoutDue s = false := by
  unfold diagTimeoutDue
  cases hw : waitingDiag s.link with
  | none => rfl
  | some d =>
    obtain ⟨hdiag, hnot⟩ := Option.filter_eq_some_iff.mp hw
    refine decide_eq_false (Nat.not_le.mpr ((h d hdiag).resolve_left fun hb => ?_))
    rw [hb] at hnot
    exact nomatch hnot

theorem wakeRoundDue_early {s : State} (h : s.link.wakeRound = false ∨ s.link.frame ≠ none ∨ s.now < s.link.windowEnd) :
    wakeRoundDue s = false := by
  refine and_false_of (h.imp_right fun h => and_false_of (h.imp (fun hf => ?_) fun hlt => decide_eq_false (Nat.not_le.mpr hlt)))
  exact Option.isNone_eq_false_iff.mpr (Option.isSome_iff_ne_none.mpr hf)

/-! ### Passes -/

theorem passDue_early {s : State}
    (h : s.op.state = .startup ∨ s.eval.lastPass ≠ none ∧
      (s.eval.early = false ∨ ∀ t, s.eval.lastPass = some t → s.now < t + 5000)) : passDue s = false := by
  unfold passDue
  rcases h with h | ⟨hpass, h⟩
  · rw [h]; rfl
  · refine and_false_of (.inr ?_)
    cases hl : s.eval.lastPass with
    | none => exact absurd hl hpass
    | some t => exact and_false_of (h.imp_right fun h => decide_eq_false (Nat.not_le.mpr (h t hl)))

theorem restEndDue_early {s : State}
    (h : s.arb.mode ≠ .rest ∨ s.arb.restEnded = true ∨
      ∀ t, s.arb.restStart = some t → s.now < t + s.arb.restLength.getD 0 * 60000) : restEndDue s = false := by
  unfold restEndDue Arbiter.restOver
  rcases h with h | h | h
  · rw [decide_eq_false h]; rfl
  · rw [h, Bool.not_true, Bool.and_false]; rfl
  · refine and_false_of ?_
    cases s.arb.restEnded with
    | true => exact .inl (Bool.and_false _)
    | false => exact .inr (reached_before h)

/-! ### The rows -/

/-- The rows of the host port, the store and the zone sensors. -/
theorem hostRows_early (s : State) :
    (s.port.restartDue = false → exec .hostRestart s = .next s) ∧
    ((∀ got last, s.port.receiver = .collecting got last → s.now ≤ last + 20) → exec .hostFrameAbandon s = .next s) ∧
    ((∀ f, s.port.tx = some f → s.now < f.endsAt) → exec .hostFrameSent s = .next s) ∧
    ((∀ i t, s.store.writer ≠ .full i t) → exec .fullWriteEnd s = .next s) ∧
    ((∀ i w t, s.store.writer ≠ .auto i w t) → exec .autoSaveEnd s = .next s) := by
  refine ⟨fun h => skips h, fun h => skips ?_, fun h => ?_, fun h => ?_, fun h => ?_⟩
  · unfold Receiver.gapOver
    cases hr : s.port.receiver with
    | hunting => rfl
    | collecting got last => exact decide_eq_false (Nat.not_lt.mpr (h got last hr))
  · have hnone : endedFrame s = none := by
      unfold endedFrame
      rw [Option.filter_eq_none_iff]
      exact fun f hf hle => Nat.not_le.mpr (h f hf) (of_decide_eq_true hle)
    show execHostFrameSent s = _
    unfold execHostFrameSent
    rw [hnone]
  · show execFullWriteEnd s = _
    unfold execFullWriteEnd
    cases hw : s.store.writer with
    | idle => rfl
    | full i t => exact absurd hw (h i t)
    | auto i w t => rfl
  · show execAutoSaveEnd s = _
    unfold execAutoSaveEnd
    cases hw : s.store.writer with
    | idle => rfl
    | full i t => rfl
    | auto i w t => exact absurd hw (h i w t)

theorem sensorRows_early (s : State) :
    (s.sens.poll = none → exec .sensorNoAcknowledge s = .next s) ∧
    ((∀ x, s.sens.poll = some x → s.now < x.startedAt + 15) → exec .sensorWindowClose s = .next s) ∧
    ((∀ x, s.sens.poll = some x → x.startedAt + 15 < s.now) → ∀ ack reply, exec (.sensorReply ack reply) s = .next s) := by
  refine ⟨fun h => ?_, fun h => ?_, fun h ack reply => ?_⟩
  · show execSensorNoAcknowledge s = _
    unfold execSensorNoAcknowledge
    rw [h]
  · show execSensorWindowClose s = _
    unfold execSensorWindowClose
    cases hp : s.sens.poll with
    | none => rfl
    | some x => exact skips (decide_eq_false (Nat.not_le.mpr (h x hp)))
  · show execSensorReply ack reply s = _
    unfold execSensorReply
    cases hp : s.sens.poll with
    | none => rfl
    | some x => exact skips_of_not (Nat.not_le.mpr (h x hp))

/-- The rows of the link that answer with what a frame under way or due leads to. -/
theorem linkRows_early (s : State) :
    (s.link.frame ≠ none ∨ (∀ r, s.link.round = some r → r.requestBegun = true ∨ s.now < r.tick + 50) →
      exec .linkRequestFrameStart s = .next s) ∧
    (s.link.frame ≠ none ∨ (∀ r, s.link.round = some r → r.slowDiag = false ∨ s.now < r.tick + 150) →
      exec .linkDiagFrameStart s = .next s) ∧
    ((∀ f, s.link.frame = some f → f.sentBy < s.now) → (∀ t, s.link.lowAt = some t → t + 2 ≤ s.now) →
      exec .linkCollision s = .next s) ∧
    ((∀ f, s.link.frame = some f → s.now < f.sentBy ∨ f.kind.isRequest = true) → exec .linkCommandFrameSent s = .next s) ∧
    ((∀ f, s.link.frame = some f → s.now < f.sentBy ∨ f.sentBy + 40 < s.now) → ∀ x, exec (.statResponse x) s = .next s ∧
      exec (.infoResponse x) s = .next s ∧ exec (.diagReadResponse x) s = .next s) ∧
    ((∀ f, s.link.frame = some f → s.now < f.sentBy + 40) → ∀ n, exec (.responseWindowClose n) s = .next s) := by
  refine ⟨fun h => ?_, fun h => ?_, fun h hquiet => ?_, fun h => ?_, fun h x => ⟨?_, ?_, ?_⟩, fun h n => ?_⟩
  · show execLinkRequestFrameStart s = _
    unfold execLinkRequestFrameStart
    rw [requestDue_early h]
  · show execLinkDiagFrameStart s = _
    unfold execLinkDiagFrameStart
    rw [slowDiagDue_early h]
  · show execLinkCollision s = _
    unfold execLinkCollision
    rw [collidedFrame_past h, lineQuiet_of hquiet]
    rfl
  · have hnone : sentCommand s = none := sentFrame_filter_none fun f hf => (h f hf).imp_right fun h => by rw [h]; rfl
    show execLinkCommandFrameSent s = _
    unfold execLinkCommandFrameSent
    rw [hnone]
  · show execStatResponse x s = _
    unfold execStatResponse
    rw [windowFrame_closed h]
  · show execInfoResponse x s = _
    unfold execInfoResponse
    rw [windowFrame_closed h]
  · show execDiagReadResponse x s = _
    unfold execDiagReadResponse
    rw [windowFrame_closed h]
  · show execResponseWindowClose n s = _
    unfold execResponseWindowClose
    rw [closedWindow_open h]

/-- Settles O11, by what keeps each row from being due. -/
theorem eventsNotDueDoNothing : Obligations.EventsNotDueDoNothing := by
  unfold Obligations.EventsNotDueDoNothing
  intro s idle before b k q p o
  obtain ⟨hrestart, habandon, hsent, hfull, hauto⟩ := hostRows_early s
  obtain ⟨hnoAck, hwindow, hreply⟩ := sensorRows_early s
  obtain ⟨hrequest, hdiag, hcollision, hcommand, hresponse, hclose⟩ := linkRows_early s
  have hunless : ∀ {a c : Bool}, a = true ∨ c = false → (!a && c) = false := fun h =>
    and_false_of (h.imp_left fun h => by rw [h]; rfl)
  refine ⟨hrestart, habandon, hsent, hfull, hauto, hnoAck, hwindow, hreply, fun h => skips_of_not (Nat.not_le.mpr h),
    fun z h => skips (reached_before h), fun h => skips (and_false_of ?_), fun h => skips (passDue_early h),
    fun h => skips (restEndDue_early h), fun d => ⟨fun h => skips (Drive.stepDue_early h), fun h =>
      skips (Drive.moveDone_early h), fun h => skips (Drive.homeDone_early h), fun h => skips (Drive.isMove_homing h)⟩,
    fun h => skips (and_false_of ?_), fun h => skips (Blower.settledDue_early h), fun h => skips (Blower.unsettledDue_early h),
    fun h => skips (Blower.timeoutDue_early h), fun h => skips (reached_before h), fun h => skips (Blower.runOnDue_early h),
    fun h => skips (and_false_of (h.imp_right reached_before)), fun h => skips ?_, fun h => skips (reached_before h),
    fun h => ?_, fun h => skips_of_not (Nat.not_le.mpr h), hrequest, hdiag, hcollision, hcommand,
    fun h => ⟨hresponse h, exec_linkByteError_closed h⟩, hclose, fun h => skips (statAgeDue_early h),
    fun h => skips (diagTimeoutDue_early h), fun h => skips (wakeRoundDue_early h),
    fun h => skips (and_false_of (.inl (decide_eq_false (Nat.not_le.mpr h)))), fun h => skips ?_, fun h => skips ?_,
    fun h => skips ?_, fun h => skips (and_false_of (h.imp decide_eq_false reached_before)),
    fun h => skips (and_false_of (h.imp decide_eq_false reached_before)),
    fun h => skips (and_false_of (.inl (reached_before h))), fun h => skips (and_false_of (.inl (reached_before h))),
    fun h => skips (and_false_of (.inl (reached_before h))), fun h => skips (and_false_of (h.imp ?_ reached_before)),
    fun h => skips (and_false_of (.inr (reached_before h))), fun h => skips (reached_before h), fun h => skips (reached_before h),
    fun h => skips (hunless (h.imp_right fun h => and_false_of (h.imp (fun h => ?_) fun h => ?_))),
    fun h => skips (and_false_of (h.imp_right fun h => and_false_of (h.imp (fun h => ?_) fun h => ?_))),
    fun h => skips (hunless (h.imp_right reached_before)), fun h => skips (and_false_of (h.imp_right reached_before)),
    fun h => skips (hunless (h.imp_right reached_before)), fun h => skips (and_false_of (h.imp_right reached_before)),
    fun h => skips ?_, fun h => skips ?_, fun h => skips (and_false_of (h.imp decide_eq_false reached_before)),
    fun h => skips (and_false_of (h.imp decide_eq_false reached_before))⟩
  · exact h.imp (fun h => decide_eq_false (not_not.mpr h)) reached_before
  · rcases h with h | h | h
    · exact .inl (and_false_of (.inl (decide_eq_false (not_not.mpr h))))
    · exact .inl (and_false_of (.inr (Option.isNone_eq_false_iff.mpr (Option.isSome_iff_ne_none.mpr h))))
    · exact .inr (decide_eq_false (Nat.not_le.mpr h))
  · rcases h with h | h | h
    · refine and_false_of (.inl (and_false_of (.inl (and_false_of (.inl (and_false_of (.inl (decide_eq_false h))))))))
    · refine and_false_of (.inl (and_false_of (.inl (and_false_of (.inl (and_false_of (.inr ?_)))))))
      exact congrArg not h
    · exact and_false_of (.inr (Blower.atRest_early h))
  · refine skips (and_false_of (h.symm.imp reached_before fun h => decide_eq_false ?_))
    rw [show s.blower.qhi = s.cfg.qmax from h]
    exact Nat.lt_irrefl _
  · rcases h with h | h | h
    · exact and_false_of (.inl (and_false_of (.inl (decide_eq_false h))))
    · exact and_false_of (.inl (and_false_of (.inr (Option.isNone_eq_false_iff.mpr (Option.isSome_iff_ne_none.mpr h)))))
    · exact and_false_of (.inr (decide_eq_false (Nat.not_le.mpr h)))
  · rcases h with h | h | h
    · exact and_false_of (.inl (and_false_of (.inl (decide_eq_false h))))
    · exact and_false_of (.inl (and_false_of (.inr (congrArg not h))))
    · exact and_false_of (.inr (reached_before h))
  · rcases h with h | h
    · exact and_false_of (.inl (and_false_of (.inl (decide_eq_false h))))
    · exact and_false_of (.inr (reached_before h))
  · rintro ⟨hf, hs⟩
    show (p.freezeLim || p.supplyLim) = false
    rw [hf, hs]; rfl
  · rcases h with h | h | h
    · exact and_false_of (.inl (and_false_of (.inl (decide_eq_false (by rw [h]; decide)))))
    · exact and_false_of (.inl (and_false_of (.inr (decide_eq_false (not_not.mpr h)))))
    · exact and_false_of (.inr (decide_eq_false (Nat.not_le.mpr h)))
  · rcases h with h | h | h
    · exact and_false_of (.inl (and_false_of (.inl (decide_eq_false (by rw [h]; decide)))))
    · exact and_false_of (.inl (and_false_of (.inr (decide_eq_false (not_not.mpr h)))))
    · exact and_false_of (.inr (decide_eq_false (Nat.not_le.mpr h)))
  · exact decide_eq_false (by rw [h]; decide)
  · exact decide_eq_false (Nat.not_le.mpr h)
  · exact decide_eq_false (by rw [h]; decide)
  · exact decide_eq_false (Nat.not_le.mpr h)

end Sys2Proof.Machine
end

section
/-! The state after a power-on reset with no stored image: its values, and the invariants at it (11 R162; logs 5, 6, 34). -/

namespace Sys2Proof.Machine

theorem exec_powerOnReset_reset : exec .powerOnReset State.reset = .next State.reset := by rfl

theorem sync_reset : sync State.reset = State.reset := by rfl

theorem configurationGood_reset : ConfigurationGood State.reset := by
  refine ⟨by decide, fun z => ⟨?_, ?_⟩, fun i h => (nomatch h), fun i h => (nomatch h)⟩
  · fin_cases z <;> exact ⟨by decide, by decide, by decide, by decide, by decide, fun a h => (nomatch h)⟩
  · fin_cases z <;> exact ⟨by decide, by decide, by decide, by decide, by decide, fun a h => (nomatch h)⟩

theorem historiesGood_reset : HistoriesGood State.reset := fun k => by
  cases k <;> exact ⟨Nat.zero_le _, fun h => (nomatch h)⟩

theorem airSafe_reset : AirSafe State.reset := by
  refine ⟨fun h => absurd rfl h, fun h => ?_, fun x hx hw => ?_⟩
  · rcases h with h | h <;> exact nomatch h
  · rcases hx with hx | hx
    · cases hx; rfl
    · exact nomatch hx

theorem timesInStep_reset : TimesInStep State.reset :=
  sync_reset ▸ timesInStep_sync (s := State.reset)
    ⟨fun h => h.elim (fun h => (nomatch h)) fun h => (nomatch h), Iff.intro (fun h => absurd rfl h) fun h => (nomatch h)⟩

theorem driveAgrees_reset : DriveAgrees State.reset where
  position d n h := by fin_cases d <;> exact nomatch h
  followOn d n h := by fin_cases d <;> exact nomatch h
  entry e n h _ := nomatch h
  slot x n h hw := by
    rcases h with h | h
    · cases h; exact nomatch hw
    · exact nomatch h
  motion d := by
    unfold MotionAgrees
    fin_cases d <;> exact ⟨rfl, rfl⟩
  fault d h := by fin_cases d <;> exact nomatch h
  plan p z h := by
    rcases h with rfl | h | h
    · fin_cases z <;> exact Nat.zero_le _
    · exact nomatch h
    · exact nomatch h

/-- Settles O4, by evaluation of the reset state and the invariants at it. -/
theorem stateAfterReset : Obligations.StateAfterReset := by
  unfold Obligations.StateAfterReset
  refine ⟨rfl, rfl, rfl, rfl, rfl, rfl, rfl, rfl, fun z hz => ?_, fun z => ?_, rfl, rfl, rfl, rfl, rfl, rfl, rfl, rfl, rfl, rfl,
    rfl, rfl, rfl, rfl, rfl, rfl, rfl, rfl, rfl, rfl, rfl, rfl, rfl, rfl, rfl, rfl, rfl, rfl, rfl, rfl, rfl,
    rfl, exec_powerOnReset_reset, configurationGood_reset, historiesGood_reset, ⟨by decide, by decide⟩, airSafe_reset,
    timesInStep_reset, driveAgrees_reset⟩
  · fin_cases z
    · exact absurd rfl hz
    all_goals rfl
  · fin_cases z <;> rfl

end Sys2Proof.Machine
end

section
/-! What the consequences of a command leave of what an evaluation pass has decided: the pass times, the mode and the side served,
the waiting starts, the work of the zones, and, where nothing wakes or fails, the link, the sweep and the operating state. -/

namespace Sys2Proof.Machine

/-- What the drive, the blower, the sequencer, the Protection Monitor and the Plan Changeover Controller leave alone. -/
structure Steady where
  now : Nat
  inp : Inputs
  zst : Eight ZoneStatus
  work : Eight ZoneWork
  timerFrom : Option Nat
  lastPass : Option Nat
  mode : Mode
  served : Option Side
  waitCool : Option Nat
  waitHeat : Option Nat
  app : Apportion
  link : Link
  limit : Nat
  nextSlot : ZoneId
  nextSlotAt : Nat
  slotMs : Nat
  op : Operating

/-- The steady fields of a state. -/
def steady (s : State) : Steady :=
  { now := s.now, inp := s.inp, zst := s.zst, work := s.work, timerFrom := s.eval.timerFrom, lastPass := s.eval.lastPass
    mode := s.arb.mode, served := s.arb.served, waitCool := s.arb.waitCool, waitHeat := s.arb.waitHeat, app := s.app
    link := s.link, limit := s.prot.limit, nextSlot := s.sens.nextSlot, nextSlotAt := s.sens.nextSlotAt, slotMs := s.sens.slotMs, op := s.op }

theorem steady_mk (now : Nat) (inp : Inputs) (zcfg : Eight ZoneConfig) (zst : Eight ZoneStatus) (setp : Eight Setpoints)
    (sens : Sensing) (work : Eight ZoneWork) (eval : Evaluator) (arb : Arbiter) (app : Apportion) (co : Changeover)
    (drive : Drive) (blower : Blower) (link : Link) (seq : Sequencer) (prot : Protection) (op : Operating) (port : Port)
    (store : Store) (cfg : Settings) (todo : Todo) (pending : List Instr) :
    steady ⟨now, inp, zcfg, zst, setp, sens, work, eval, arb, app, co, drive, blower, link, seq, prot, op, port, store, cfg,
      todo, pending⟩ =
    ⟨now, inp, zst, work, eval.timerFrom, eval.lastPass, arb.mode, arb.served, arb.waitCool, arb.waitHeat, app,
      link, prot.limit, sens.nextSlot, sens.nextSlotAt, sens.slotMs, op⟩ := rfl

theorem steady_eta (s : State) :
    (⟨s.now, s.inp, s.zst, s.work, s.eval.timerFrom, s.eval.lastPass, s.arb.mode, s.arb.served, s.arb.waitCool, s.arb.waitHeat,
      s.app, s.link, s.prot.limit, s.sens.nextSlot, s.sens.nextSlotAt, s.sens.slotMs, s.op⟩ : Steady) = steady s := rfl

theorem steady_ite (c : Prop) [Decidable c] (a b : State) : steady (if c then a else b) = if c then steady a else steady b := by
  split <;> rfl

theorem steady_foldl {α : Type} (f : State → α → State) (h : ∀ s a, steady (f s a) = steady s) (l : List α) (s : State) :
    steady (l.foldl f s) = steady s := by
  induction l generalizing s with
  | nil => rfl
  | cons a l ih => rw [List.foldl_cons, ih, h]

/-! ### Reports, requests, the blower and the air path -/

theorem steady_raise (r : Report) (s : State) : steady (raise r s) = steady s := rfl

theorem steady_requestPass (s : State) : steady (requestPass s) = steady s := rfl

theorem steady_changeSensor (z : ZoneId) (r : SensorRec) (s : State) : steady (changeSensor z r s) = steady s := by
  unfold changeSensor; split <;> rfl

theorem steady_discardPoll (z : ZoneId) (s : State) : steady (discardPoll z s) = steady s := by
  unfold discardPoll; (repeat' split) <;> rfl

theorem steady_moveRequest (d : ZoneId) (t : Nat) (s : State) : steady (moveRequest d t s) = steady s := by
  unfold moveRequest; split <;> rfl

theorem steady_tellPhase (s : State) : steady (tellPhase s) = steady s := rfl

theorem steady_airGuard (s : State) : steady (airGuard s) = steady s := by
  unfold airGuard; split <;> rfl

theorem steady_offerGoal (g : Nat) (s : State) : steady (offerGoal g s) = steady s := by
  unfold offerGoal; split <;> rfl

theorem steady_removeHold (c : Bool) (s : State) : steady (removeHold c s) = steady s := steady_airGuard _

/-! ### The sequencer and the Protection Monitor -/

theorem steady_seqTo (q : SeqState) (s : State) : steady (seqTo q s) = steady s := rfl
theorem steady_restartMinOff (s : State) : steady (restartMinOff s) = steady s := rfl
theorem steady_seqRest (q : SeqState) (s : State) : steady (seqRest q s) = steady s := rfl
theorem steady_stopWait (b : Bool) (s : State) : steady (stopWait b s) = steady s := rfl

theorem steady_restStartPoint (s : State) : steady (restStartPoint s) = steady s := by
  unfold restStartPoint; split <;> rfl

theorem steady_stopReport (s : State) : steady (stopReport s) = steady s := by
  simp only [stopReport, steady_ite, steady_removeHold, steady_mk, steady_eta, steady_restStartPoint, steady_restartMinOff, ite_self]

theorem steady_endRecovery (c : DefrostCause) (s : State) : steady (endRecovery c s) = steady s := by
  simp only [endRecovery, steady_raise, steady_removeHold, steady_requestPass, steady_mk, steady_eta, steady_ite, steady_stopWait,
    steady_seqRest, ite_self]

theorem steady_enterRecovery (c : DefrostCause) (s : State) : steady (enterRecovery c s) = steady s := by
  simp only [enterRecovery, steady_ite, steady_endRecovery, steady_raise, steady_mk, steady_eta, ite_self]

theorem steady_takeStopped (s : State) : steady (takeStopped s) = steady s := by
  simp only [takeStopped, steady_ite, steady_mk, steady_eta, steady_stopReport, ite_self]

theorem steady_interruptDefrost (c : DefrostCause) (s : State) : steady (interruptDefrost c s) = steady s := by
  simp only [interruptDefrost, steady_ite, steady_enterRecovery, steady_takeStopped, ite_self]

theorem steady_followWanted (s : State) : steady (followWanted s) = steady s := by
  unfold followWanted; split <;> rfl

theorem steady_seqRelease (r : Release) (s : State) : steady (seqRelease r s) = steady s := by
  unfold seqRelease
  dsimp only
  split <;> simp only [steady_ite, steady_stopWait, steady_seqTo, steady_followWanted, steady_mk, steady_eta, ite_self]

theorem steady_startCompressor (s : State) : steady (startCompressor s) = steady s := by
  unfold startCompressor; dsimp only; split <;> rfl

theorem steady_stoppingTrip (s : State) : steady (stoppingTrip s) = steady s := by
  unfold stoppingTrip
  dsimp only
  split <;> simp only [steady_seqRest, steady_stopReport, steady_interruptDefrost, steady_restartMinOff]

theorem steady_seqLinkLost (s : State) : steady (seqLinkLost s) = steady s := by
  unfold seqLinkLost
  dsimp only
  split <;> simp only [steady_seqRest, steady_stopReport, steady_interruptDefrost, steady_restartMinOff]

theorem steady_leaveStops (k : TripKind) (s : State) : steady (leaveStops k s) = steady s := by
  simp only [leaveStops, noStoppingTrip, steady_seqTo, steady_ite, steady_raise, steady_mk, steady_eta, ite_self]

theorem steady_joinStops (k : TripKind) (s : State) : steady (joinStops k s) = steady s := by
  simp only [joinStops, steady_ite, steady_stoppingTrip, steady_mk, steady_eta, ite_self]

theorem steady_judgeFloat (s : State) : steady (judgeFloat s) = steady s := by
  simp only [judgeFloat, steady_ite, steady_joinStops, steady_leaveStops, ite_self]

/-! ### The Plan Changeover Controller -/

theorem steady_requestFor (p : Plan) (z : ZoneId) (s : State) : steady (requestFor p z s) = steady s := by
  simp only [requestFor, steady_ite, steady_moveRequest, ite_self]

theorem steady_requestOpenings (p : Plan) (s : State) : steady (requestOpenings p s) = steady s :=
  steady_foldl _ (fun s z => by simp only [steady_ite, steady_requestFor, ite_self]) _ s

theorem steady_requestClosings (p : Plan) (s : State) : steady (requestClosings p s) = steady s :=
  steady_foldl _ (fun s z => by simp only [steady_ite, steady_requestFor, ite_self]) _ s

theorem steady_releasePlan (p : Plan) (s : State) : steady (releasePlan p s) = steady s :=
  (steady_judgeFloat _).trans (steady_seqRelease _ _)

theorem steady_capacityStep (p : Plan) (s : State) : steady (capacityStep p s) = steady s := by
  simp only [capacityStep, steady_ite, steady_releasePlan, steady_mk, steady_eta, ite_self]

theorem steady_openPhase (p : Plan) (s : State) : steady (openPhase p s) = steady s := by
  simp only [openPhase, steady_tellPhase, steady_capacityStep, steady_requestOpenings, steady_mk, steady_eta]

theorem steady_adjustEntry (p : Plan) (d : ZoneId) (s : State) : steady (adjustEntry p d s) = steady s := by
  unfold adjustEntry; dsimp only; (repeat' split) <;> rfl

theorem steady_clearInMotion (d : ZoneId) (s : State) : steady (clearInMotion d s) = steady s := by
  unfold clearInMotion; split <;> rfl

theorem steady_removeIntent (p : Plan) (s : State) : steady (removeIntent p s) = steady s :=
  steady_foldl _ (fun s d => by simp only [steady_ite, steady_clearInMotion, steady_adjustEntry, ite_self]) _ s

theorem steady_supersede (p : Plan) (b : Bool) (s : State) : steady (supersede p b s) = steady s := by
  simp only [supersede, steady_openPhase, steady_mk, steady_eta, steady_removeIntent]

theorem steady_takePlan (p : Plan) (s : State) : steady (takePlan p s) = steady s := by
  simp only [takePlan, steady_ite, steady_openPhase, steady_supersede, steady_mk, steady_eta, ite_self]

theorem steady_handOn (p : Plan) (s : State) : steady (handOn p s) = steady s := by
  simp only [handOn, steady_ite, steady_takePlan, steady_mk, steady_eta, ite_self]

theorem steady_takeHeld (s : State) : steady (takeHeld s) = steady s := by
  unfold takeHeld; split <;> simp only [steady_takePlan, steady_mk, steady_eta]

theorem steady_abandonFor (d : ZoneId) (s : State) : steady (abandonFor d s) = steady s := by
  unfold abandonFor; split <;> simp only [steady_ite, steady_supersede, steady_requestPass, ite_self]

theorem steady_restartChangeover (s : State) : steady (restartChangeover s) = steady s := by
  unfold restartChangeover; split <;> simp only [steady_openPhase, steady_supersede]

theorem steady_endOpen (p : Plan) (s : State) : steady (endOpen p s) = steady s := by
  simp only [endOpen, steady_ite, steady_requestPass, steady_offerGoal, steady_mk, steady_eta, ite_self]

theorem steady_endBlower (p : Plan) (s : State) : steady (endBlower p s) = steady s := by
  simp only [endBlower, steady_tellPhase, steady_requestClosings, steady_ite, steady_releasePlan, steady_mk, steady_eta, ite_self]

/-! ### Zones that are released or in FAULT -/

/-- The steady fields but for the zones. -/
def Steady.unzoned (k : Steady) : Steady := { k with zst := Eight.all ⟨.unused, false⟩, work := Eight.all ZoneWork.zero }

/-- The zones follow: a zone's work stands, or the zone had unconfigure pending and is at its values after reset; with closed windings
and no unconfigure pending the zone states stand too. -/
structure ZonesFollow (s t : State) : Prop where
  unconf : ∀ z : ZoneId, (t.zst.get z).unconf = true → (s.zst.get z).unconf = true
  work : ∀ z : ZoneId, t.work.get z = s.work.get z ∨ (s.zst.get z).unconf = true ∧ t.work.get z = ZoneWork.zero
  same : (∀ z : ZoneId, s.inp.windingOpen.get z = false ∧ (s.zst.get z).unconf = false) → t.zst = s.zst ∧ t.work = s.work

theorem ZonesFollow.of_eq {s t : State} (hz : t.zst = s.zst) (hw : t.work = s.work) : ZonesFollow s t where
  unconf z h := by rwa [hz] at h
  work z := .inl (by rw [hw])
  same _ := ⟨hz, hw⟩

theorem ZonesFollow.of_steady {s t : State} (h : steady t = steady s) : ZonesFollow s t :=
  .of_eq (congrArg Steady.zst h) (congrArg Steady.work h)

theorem ZonesFollow.trans {s t u : State} (h : ZonesFollow s t) (hi : t.inp = s.inp) (h' : ZonesFollow t u) : ZonesFollow s u where
  unconf z hu := h.unconf z (h'.unconf z hu)
  work z := by
    rcases h'.work z with e | ⟨hu, e⟩
    · rw [e]; exact h.work z
    · exact .inr ⟨h.unconf z hu, e⟩
  same hs := by
    obtain ⟨hz, hw⟩ := h.same hs
    obtain ⟨hz', hw'⟩ := h'.same fun z => by rw [hi, hz]; exact hs z
    exact ⟨hz'.trans hz, hw'.trans hw⟩

theorem unzoned_releaseZone (z : ZoneId) (s : State) : (steady (releaseZone z s)).unzoned = (steady s).unzoned := by
  have h : ∀ u : State, steady (stopSensing z u) = steady u := fun u => (steady_changeSensor _ _ _).trans (steady_discardPoll _ _)
  have key := congrArg Steady.unzoned (h { requestPass (setZoneState z .unused s) with
    zst := (requestPass (setZoneState z .unused s)).zst.modify z fun x => { x with unconf := false } })
  exact key

theorem releaseZone_zst (z : ZoneId) (s : State) :
    (releaseZone z s).zst = (s.zst.modify z fun x => { x with state := .unused }).modify z fun x => { x with unconf := false } := by
  have h : ∀ u : State, steady (stopSensing z u) = steady u := fun u => (steady_changeSensor _ _ _).trans (steady_discardPoll _ _)
  exact congrArg Steady.zst (h _)

theorem releaseZone_work (z : ZoneId) (s : State) : (releaseZone z s).work = s.work.set z ZoneWork.zero := by
  have h : ∀ u : State, steady (stopSensing z u) = steady u := fun u => (steady_changeSensor _ _ _).trans (steady_discardPoll _ _)
  exact congrArg (fun k => k.work.set z ZoneWork.zero) (h _)

/-- A zone with unconfigure pending is released. -/
theorem releaseZone_follows {z : ZoneId} {s : State} (h : (s.zst.get z).unconf = true) : ZonesFollow s (releaseZone z s) where
  unconf y hy := by
    rw [releaseZone_zst] at hy
    by_cases e : y = z
    · rw [e]; exact h
    · simpa [e] using hy
  work y := by
    rw [releaseZone_work]
    by_cases e : y = z
    · rw [e]; exact .inr ⟨h, by simp⟩
    · exact .inl (by simp [e])
  same hs := nomatch (hs z).2.symm.trans h

/-- A damper enters FAULT: its zone's work stands, or goes with its unconfiguring. -/
theorem faultDamper_follows {d : ZoneId} {s : State} (hw : s.inp.windingOpen.get d = true) :
    (steady (faultDamper d s)).unzoned = (steady s).unzoned ∧ ZonesFollow s (faultDamper d s) := by
  obtain ⟨u, hu⟩ : ∃ u : State, u = { s with
      drive := s.drive.fault d, todo := { s.todo with faulted := s.todo.faulted ++ [d], phaseCheck := true } } := ⟨_, rfl⟩
  have hsteady : steady u = steady s := by rw [hu]; rfl
  have hmark : (steady (requestPass (setZoneState d .fault u))).unzoned = (steady s).unzoned := by
    have key := congrArg Steady.unzoned hsteady
    exact key
  have hfollow : ZonesFollow s (requestPass (setZoneState d .fault u)) := by
    refine ⟨fun z hz => ?_, fun z => .inl (by rw [hu]; rfl), fun hs => nomatch (hs d).1.symm.trans hw⟩
    have hz' : ((s.zst.modify d fun x => { x with state := .fault }).get z).unconf = true := by rw [hu] at hz; exact hz
    by_cases e : z = d
    · rw [e] at hz' ⊢; simpa using hz'
    · simpa [e] using hz'
  have hinp : (requestPass (setZoneState d .fault u)).inp = s.inp := by rw [hu]; rfl
  have hleave : (steady (if ((requestPass (setZoneState d .fault u)).zst.get d).unconf = true then
      releaseZone d (requestPass (setZoneState d .fault u)) else requestPass (setZoneState d .fault u))).unzoned =
        (steady s).unzoned ∧ ZonesFollow s (if ((requestPass (setZoneState d .fault u)).zst.get d).unconf = true then
      releaseZone d (requestPass (setZoneState d .fault u)) else requestPass (setZoneState d .fault u)) := by
    split
    next h => exact ⟨(unzoned_releaseZone _ _).trans hmark, hfollow.trans hinp (releaseZone_follows h)⟩
    next h => exact ⟨hmark, hfollow⟩
  unfold faultDamper
  dsimp only
  rw [← hu]
  split
  · exact hleave
  · exact hleave
  · exact ⟨congrArg Steady.unzoned hsteady, .of_steady hsteady⟩

/-- Everything but the zones stands, and the zones follow. -/
structure Stays (s t : State) : Prop where
  rest : (steady t).unzoned = (steady s).unzoned
  zones : ZonesFollow s t

theorem Stays.of_steady {s t : State} (h : steady t = steady s) : Stays s t := ⟨congrArg Steady.unzoned h, .of_steady h⟩

theorem Stays.inp {s t : State} (h : Stays s t) : t.inp = s.inp := congrArg Steady.inp h.rest

theorem Stays.refl (s : State) : Stays s s := .of_steady rfl

theorem Stays.trans {s t u : State} (h : Stays s t) (h' : Stays t u) : Stays s u :=
  ⟨h'.rest.trans h.rest, h.zones.trans h.inp h'.zones⟩

theorem grantOne_stays (s : State) : Stays s (grantOne s) := by
  unfold grantOne
  split
  · exact .refl s
  · dsimp only
    split
    next e rest _ h =>
      have htaken : Stays s { s with drive := { s.drive with queue := rest } } := .of_steady rfl
      obtain ⟨hr, hz⟩ := faultDamper_follows (d := e.damper) (s := { s with drive := { s.drive with queue := rest } }) h
      exact (htaken.trans (Stays.mk hr hz)).trans (.of_steady (steady_airGuard _))
    next => exact .of_steady (steady_airGuard _)

theorem finishUnconfigure_stays (p : Plan) (s : State) : Stays s (finishUnconfigure p s) := by
  have hfold : ∀ (l : List ZoneId) (s : State), Stays s (l.foldl
      (fun s z => if (s.zst.get z).unconf && decide ((p.zones.get z).role = .closed) then releaseZone z s else s) s) := by
    intro l
    induction l with
    | nil => exact Stays.refl
    | cons z l ih =>
      intro s
      refine .trans (t := if (s.zst.get z).unconf && decide ((p.zones.get z).role = .closed) then releaseZone z s else s) ?_ (ih _)
      split
      next h =>
        obtain ⟨hu, -⟩ := Bool.and_eq_true_iff.mp h
        exact ⟨unzoned_releaseZone z s, releaseZone_follows hu⟩
      next => exact .refl s
  exact hfold _ s

theorem endClose_stays (p : Plan) (s : State) : Stays s (endClose p s) := by
  have h : ∀ c : Changeover, Stays s (finishUnconfigure p (raise (.plan p) { s with co := c })) := fun c => by
    have hraise : Stays s (raise (.plan p) { s with co := c }) := .of_steady (steady_raise _ _)
    exact hraise.trans (finishUnconfigure_stays p _)
  exact h _

theorem phaseStep_stays (s : State) : Stays s (phaseStep s) := by
  obtain ⟨u, hu⟩ : ∃ u : State, u = { s with todo := { s.todo with phaseCheck := false } } := ⟨_, rfl⟩
  have hsteady : Stays s u := .of_steady (by rw [hu]; rfl)
  unfold phaseStep
  dsimp only
  rw [← hu]
  split
  · exact hsteady
  · split
    · split
      · exact hsteady.trans (.of_steady (steady_endOpen _ _))
      · exact hsteady
    · split
      · exact hsteady.trans (endClose_stays _ _)
      · exact hsteady
    · exact hsteady

/-! ### The link, the sweep and the operating state -/

/-- The steady fields but for the link, the sweep and the operating state. -/
def Steady.decided (k : Steady) : Steady :=
  { k with
    link := Link.afterReset 0, nextSlot := 0, nextSlotAt := 0, slotMs := 0
    op := Operating.afterReset .off .auto false .powerOn }

/-- What a pass has decided, and the zones. -/
def decided (s : State) : Steady := (steady s).decided

theorem decided_of_steady {s t : State} (h : steady t = steady s) : decided t = decided s := congrArg Steady.decided h

theorem decided_leaveResting (s : State) : decided (leaveResting s) = decided s := by
  unfold leaveResting wakeLink; split <;> rfl

theorem decided_changeOp (n : OpState) (c : StateCause) (s : State) : decided (changeOp n c s) = decided s := by
  unfold changeOp
  dsimp only
  split
  · rfl
  · split
    · exact decided_leaveResting _
    · rfl

theorem decided_wakeEvent (s : State) : decided (wakeEvent s) = decided s := by
  unfold wakeEvent
  split
  · exact decided_changeOp _ _ s
  · split <;> rfl

theorem decided_markOpened (d : ZoneId) (s : State) : decided (markOpened d s) = decided s := by
  unfold markOpened; split <;> rfl

theorem decided_openForTest (d : ZoneId) (s : State) : decided (openForTest d s) = decided s := by
  have h := decided_of_steady (steady_moveRequest d 200 s)
  unfold openForTest
  dsimp only
  split
  · exact (decided_markOpened _ _).trans h
  · exact h

theorem decided_beginOpening (s : State) : decided (beginOpening s) = decided s := by
  have hfold : ∀ (l : List ZoneId) (s : State), decided (l.foldl (fun s d => openForTest d s) s) = decided s := by
    intro l
    induction l with
    | nil => exact fun _ => rfl
    | cons d l ih => intro s; rw [List.foldl_cons, ih, decided_openForTest]
  exact hfold _ _

theorem decided_enterTest (s : State) : decided (enterTest s) = decided s := decided_changeOp _ _ _

theorem decided_linkLost (c : LinkCause) (s : State) : decided (linkLost c s) = decided s :=
  (decided_wakeEvent _).trans ((decided_of_steady (steady_seqLinkLost _)).trans rfl)

theorem decided_beginRound (s : State) : decided (beginRound s) = decided s := by
  unfold beginRound beginFrame
  split
  · rfl
  · unfold abandonFrame exchangeFailed
    dsimp only
    split
    · exact decided_linkLost _ _
    · rfl

/-- The steady fields but for the round in progress. -/
def Steady.unround (k : Steady) : Steady :=
  { k with link := { k.link with frame := none, round := none, nextRound := 0, wakeRound := false, diag := none } }

/-- A round that begins on a quiet line leaves the steady fields but for the round. -/
theorem unround_beginRound {s : State} (h : lineQuiet s = true) : (steady (beginRound s)).unround = (steady s).unround := by
  have hq : lineQuiet (planRound s) = true := h
  unfold beginRound beginFrame
  rw [if_pos hq]
  rfl

/-- Everything but the zones and the round in progress stands, and the zones follow. -/
structure Follows (s t : State) : Prop where
  rest : (steady t).unzoned.unround = (steady s).unzoned.unround
  zones : ZonesFollow s t

theorem Stays.follows {s t : State} (h : Stays s t) : Follows s t := ⟨congrArg Steady.unround h.rest, h.zones⟩

theorem Follows.of_steady {s t : State} (h : steady t = steady s) : Follows s t := (Stays.of_steady h).follows

theorem Follows.inp {s t : State} (h : Follows s t) : t.inp = s.inp := congrArg Steady.inp h.rest

theorem Follows.refl (s : State) : Follows s s := .of_steady rfl

theorem Follows.trans {s t u : State} (h : Follows s t) (h' : Follows t u) : Follows s u :=
  ⟨h'.rest.trans h.rest, h.zones.trans h.inp h'.zones⟩

/-! ### Consequences -/

/-- What a pass has decided stands, and the zones follow. -/
structure Keeps (s t : State) : Prop where
  rest : (decided t).unzoned = (decided s).unzoned
  zones : ZonesFollow s t

theorem Keeps.of_decided {s t : State} (h : decided t = decided s) : Keeps s t :=
  ⟨congrArg Steady.unzoned h, .of_eq (congrArg Steady.zst h) (congrArg Steady.work h)⟩

theorem Follows.keeps {s t : State} (h : Follows s t) : Keeps s t := ⟨congrArg Steady.decided h.rest, h.zones⟩

theorem Keeps.refl (s : State) : Keeps s s := .of_decided rfl

theorem Keeps.trans {s t u : State} (h : Keeps s t) (h' : Keeps t u) : Keeps s u :=
  ⟨h'.rest.trans h.rest, h.zones.trans (congrArg Steady.inp h.rest) h'.zones⟩

/-- A consequence outside STARTUP. -/
theorem microStep_keeps {s t : State} (h : microStep s = some t) (hs : s.op.state ≠ .startup) : Keeps s t := by
  have hno : startupDone s = false := by simp [startupDone, hs]
  unfold microStep at h
  rw [hno] at h
  split at h
  · obtain rfl := Option.some.inj h; exact .of_decided (decided_of_steady (steady_abandonFor _ _))
  split at h
  · obtain rfl := Option.some.inj h; exact .of_decided (decided_of_steady (steady_restartChangeover _))
  split at h
  · obtain rfl := Option.some.inj h; exact .of_decided (decided_of_steady (steady_takeHeld s))
  split at h
  · obtain rfl := Option.some.inj h; exact .of_decided (decided_markOpened _ s)
  split at h
  · obtain rfl := Option.some.inj h; exact (grantOne_stays s).follows.keeps
  split at h
  · obtain rfl := Option.some.inj h; exact (phaseStep_stays s).follows.keeps
  split at h
  · rw [Option.map_eq_some_iff] at h
    obtain ⟨p, -, rfl⟩ := h
    exact .of_decided (decided_of_steady (steady_endBlower p s))
  split at h
  · obtain rfl := Option.some.inj h; exact .of_decided (decided_beginRound s)
  split at h
  · obtain rfl := Option.some.inj h; exact .of_decided (decided_of_steady (steady_startCompressor s))
  split at h
  · rename_i hf; exact absurd hf (by simp)
  split at h
  · obtain rfl := Option.some.inj h; exact .of_decided (decided_beginOpening s)
  split at h
  · obtain rfl := Option.some.inj h; exact .of_decided (decided_enterTest s)
  · exact absurd h (by simp)

/-- A consequence outside STARTUP and the test phases, but for a round that a wake has asked for. -/
theorem microStep_stays {s t : State} (h : microStep s = some t) (hs : s.op.state ≠ .startup) (hp : s.op.testPhase = .idle) :
    Stays s t ∨ s.link.wakeRound = true ∧ t = beginRound s := by
  have hno : startupDone s = false := by simp [startupDone, hs]
  have hleft : leftActive s = [] := leftActive_idle hp
  have hpre : preparingDone s = false := by simp [preparingDone, hp]
  have hopen : openingDone s = false := by simp [openingDone, hp]
  unfold microStep at h
  rw [hno, hleft, hpre, hopen] at h
  split at h
  · obtain rfl := Option.some.inj h; exact .inl (.of_steady (steady_abandonFor _ _))
  split at h
  · obtain rfl := Option.some.inj h; exact .inl (.of_steady (steady_restartChangeover _))
  split at h
  · obtain rfl := Option.some.inj h; exact .inl (.of_steady (steady_takeHeld s))
  dsimp only at h
  split at h
  · obtain rfl := Option.some.inj h; exact .inl (grantOne_stays s)
  split at h
  · obtain rfl := Option.some.inj h; exact .inl (phaseStep_stays s)
  split at h
  · rw [Option.map_eq_some_iff] at h
    obtain ⟨p, -, rfl⟩ := h
    exact .inl (.of_steady (steady_endBlower p s))
  split at h
  next hdue => obtain rfl := Option.some.inj h; exact .inr ⟨(Bool.and_eq_true_iff.mp hdue).1, rfl⟩
  split at h
  · obtain rfl := Option.some.inj h; exact .inl (.of_steady (steady_startCompressor s))
  · simp at h

/-- A consequence outside STARTUP and the test phases, on a quiet line. -/
theorem microStep_follows {s t : State} (h : microStep s = some t) (hs : s.op.state ≠ .startup) (hp : s.op.testPhase = .idle)
    (hq : lineQuiet s = true) : Follows s t := by
  rcases microStep_stays h hs hp with hstays | ⟨-, rfl⟩
  · exact hstays.follows
  · have hround := unround_beginRound hq
    exact ⟨congrArg Steady.unzoned hround, .of_eq (congrArg Steady.zst hround) (congrArg Steady.work hround)⟩

/-- With no wake's round asked for, the consequences outside STARTUP and the test phases leave the link alone. -/
theorem settle_stays {s : State} (hs : s.op.state ≠ .startup) (hp : s.op.testPhase = .idle) (hw : s.link.wakeRound = false) (n : Nat) :
    Stays s (settle n s) := by
  refine (settle_keeps (P := fun t => Stays s t) ?_ n s (.refl s))
  intro t u hu hf
  have hop : t.op = s.op := congrArg Steady.op hf.rest
  have hlink : t.link = s.link := congrArg Steady.link hf.rest
  rcases microStep_stays hu (by rw [hop]; exact hs) (by rw [hop]; exact hp) with hstays | ⟨hround, -⟩
  · exact hf.trans hstays
  · rw [hlink, hw] at hround
    exact nomatch hround

theorem settle_keepsAll {s : State} (hs : s.op.state ≠ .startup) (n : Nat) : Keeps s (settle n s) := by
  refine (settle_keeps (P := fun t => Keeps s t ∧ t.op.state ≠ .startup) ?_ n s ⟨.refl s, hs⟩).1
  rintro t u hu ⟨hk, ho⟩
  exact ⟨hk.trans (microStep_keeps hu ho), (microStep_started hu ho).2⟩

theorem settle_follows {s : State} (hs : s.op.state ≠ .startup) (hp : s.op.testPhase = .idle) (hq : lineQuiet s = true) (n : Nat) :
    Follows s (settle n s) := by
  refine (settle_keeps (P := fun t => Follows s t) ?_ n s (.refl s))
  intro t u hu hf
  have hop : t.op = s.op := congrArg Steady.op hf.rest
  have hlow : t.link.lowAt = s.link.lowAt := congrArg (fun k => k.link.lowAt) hf.rest
  have hnow : t.now = s.now := congrArg Steady.now hf.rest
  have hq' : lineQuiet t = true := by
    unfold lineQuiet at hq ⊢
    rw [hlow, hnow]; exact hq
  exact hf.trans (microStep_follows hu (by rw [hop]; exact hs) (by rw [hop]; exact hp) hq')

end Sys2Proof.Machine
end

section
/-! An evaluation pass step by step: what it reads, what it decides, and that the consequences of its command leave that (02 R20 to
R40, 01 R3, 11 R164). -/

namespace Sys2Proof.Machine

/-! ### The wake of a call -/

theorem leaveResting_eq (s : State) : ∃ l e p, leaveResting s =
      { s with
        link := l, eval := e, port := p
        sens := { s.sens with nextSlot := 0, nextSlotAt := s.now, slotMs := 1250, poll := none } } ∧
    e = { s.eval with early := e.early } ∧ l.lowAt = s.link.lowAt ∧ l.state = if s.link.state = .slow then .active else s.link.state := by
  unfold leaveResting wakeLink
  split
  next h => exact ⟨_, _, _, rfl, rfl, rfl, rfl⟩
  next h => exact ⟨s.link, s.eval, s.port, rfl, rfl, rfl, rfl⟩

/-- A wake changes the operating state, the link, the sweep, the early-pass mark and the port. -/
theorem wakeEvent_eq (s : State) : ∃ o l n e p, wakeEvent s = { s with op := o, link := l, sens := n, eval := e, port := p } ∧
    e = { s.eval with early := e.early } ∧ n.zone = s.sens.zone ∧ l.lowAt = s.link.lowAt ∧
      o = { s.op with state := o.state, idleFrom := o.idleFrom, idleDone := o.idleDone, notice := o.notice, noticeFrom := o.noticeFrom } ∧
      (s.op.state = .resting → o.state = opOf s.op.request ∧ n.nextSlot = 0 ∧ n.nextSlotAt = s.now ∧ n.slotMs = 1250 ∧
        (s.link.state = .slow → l.state = .active)) ∧
      (s.op.state ≠ .resting → o.state = s.op.state ∧ (s.op.notice = false → o = s.op)) := by
  unfold wakeEvent
  split
  next h =>
    have hne : opOf s.op.request ≠ .resting := by cases s.op.request <;> decide
    obtain ⟨l, e, p, heq, he, hlow, hl⟩ := leaveResting_eq
      (requestPass (raise (.state (opOf s.op.request) s.op.state .wake)
        { s with op := { s.op with state := opOf s.op.request } }))
    have hchange : changeOp (opOf s.op.request) .wake s = leaveResting
        (requestPass (raise (.state (opOf s.op.request) s.op.state .wake)
          { s with op := { s.op with state := opOf s.op.request } })) := by
      unfold changeOp
      dsimp only
      rw [if_neg (by rw [h]; exact hne), if_pos h]
    unfold wake
    rw [hchange, heq]
    refine ⟨_, l, _, e, p, rfl, he.trans rfl, rfl, hlow, rfl, fun _ => ⟨rfl, rfl, rfl, rfl, fun hs => ?_⟩, fun hn => absurd h hn⟩
    exact hl.trans (if_pos hs)
  next h =>
    split
    next hn =>
      exact ⟨_, s.link, s.sens, s.eval, s.port, rfl, rfl, rfl, rfl, rfl, fun hr => absurd hr h, fun _ => ⟨rfl, fun hf =>
        nomatch hn.symm.trans hf⟩⟩
    next hn =>
      exact ⟨s.op, s.link, s.sens, s.eval, s.port, rfl, rfl, rfl, rfl, rfl, fun hr => absurd hr h, fun _ => ⟨rfl, fun _ => rfl⟩⟩

theorem anyCalls_iff (s : State) : anyCalls s = true ↔ ∃ z : ZoneId, (s.work.get z).call ≠ .satisfied := by
  simp [anyCalls, ZoneWork.calls]

/-! ### Steps 1 to 3 -/

/-- The state whose calls a pass has formed. -/
def formedAt (s : State) : State := { s with work := Eight.ofFn (stepOne s) }

/-- The state that a pass plans from: its calls, relief and mode stand. -/
def decidedAt (s : State) : State := chooseMode (judgeRelief (passCalls (beginPass s)))

theorem passCalls_eq (s : State) : ∃ o l n e p,
    passCalls (beginPass s) = { s with work := Eight.ofFn (stepOne s), op := o, link := l, sens := n, eval := e, port := p } ∧
    e.timerFrom = some s.now ∧ e.lastPass = some s.now ∧ e.hpCapable = s.eval.hpCapable ∧ n.zone = s.sens.zone ∧
      l.lowAt = s.link.lowAt ∧
      o = { s.op with state := o.state, idleFrom := o.idleFrom, idleDone := o.idleDone, notice := o.notice, noticeFrom := o.noticeFrom } ∧
      (s.op.state = .resting → (∃ z : ZoneId, (stepOne s z).call ≠ .satisfied) → o.state = opOf s.op.request ∧ n.nextSlot = 0 ∧
        n.nextSlotAt = s.now ∧ n.slotMs = 1250 ∧ (s.link.state = .slow → l.state = .active)) ∧
      ((∀ z : ZoneId, (stepOne s z).call = .satisfied) → o = s.op) ∧
      (s.op.state ≠ .resting → o.state = s.op.state ∧ (s.op.notice = false → o = s.op)) := by
  have hform : formCalls (beginPass s) = { beginPass s with work := Eight.ofFn (stepOne s) } := rfl
  have hany := anyCalls_iff (formCalls (beginPass s))
  have hget : ∀ z : ZoneId, ((formCalls (beginPass s)).work.get z).call = (stepOne s z).call := fun z => by
    rw [hform]; exact congrArg ZoneWork.call (Eight.get_ofFn _ z)
  simp only [hget] at hany
  unfold passCalls
  dsimp only
  split
  next h =>
    obtain ⟨o, l, n, e, p, heq, he, hn, hl, ho, hrest, hno⟩ := wakeEvent_eq (formCalls (beginPass s))
    have hcalls := hany.mp h
    refine ⟨o, l, n, e, p, heq.trans rfl, by rw [he]; rfl, by rw [he]; rfl, by rw [he]; rfl, hn, hl, ho, fun hr _ => hrest hr,
      fun hsat => ?_, hno⟩
    obtain ⟨z, hz⟩ := hcalls
    exact absurd (hsat z) hz
  next h =>
    exact ⟨s.op, s.link, s.sens, { s.eval with timerFrom := some s.now, early := false, lastPass := some s.now }, s.port, rfl, rfl, rfl,
      rfl, rfl, rfl, rfl, fun _ hc => absurd (hany.mpr hc) h, fun _ => rfl, fun _ => ⟨rfl, fun _ => rfl⟩⟩

/-- What the arbiter decides by reads the work, the inputs of the arbiter and whether the state is TEST. -/
theorem sideView_congr {s t : State} (hnow : t.now = s.now)
    (hw : ∀ side : Side, aggregate t side = aggregate s side)
    (hc : (t.work.toList.any fun w => decide (w.call = .cool)) = s.work.toList.any fun w => decide (w.call = .cool))
    (hd : (t.work.toList.any fun w => decide (w.call = .dry) && !w.suspended) =
      s.work.toList.any fun w => decide (w.call = .dry) && !w.suspended)
    (hf : t.prot.floatHeld = s.prot.floatHeld) (hr : t.op.request = s.op.request) (hp : t.op.policy = s.op.policy)
    (hcap : t.eval.hpCapable = s.eval.hpCapable) (ht : t.op.state = .test ↔ s.op.state = .test) (hq : t.seq.state = s.seq.state)
    (hcfg : t.cfg = s.cfg) : sideView t = sideView s := by
  unfold sideView
  simp only [hnow, hw, hc, hd, hf, hr, hp, hcap, ht, hq, hcfg]

theorem stepOne_waiting (s : State) (z : ZoneId) : (stepOne s z).waiting = (s.work.get z).waiting := by
  unfold stepOne activeWork dryOrSatisfied
  dsimp only
  (repeat' split) <;> rfl

/-- The work of the zones as a pass leaves it. -/
def passWork (s : State) (z : ZoneId) : ZoneWork :=
  let a := s.arb.decideMode (sideView (formedAt s))
  { stepOne s z with
    withdrawn := stepTwo (formedAt s) (bandSideOf s.arb) z
    waiting := renewWait (zoneWaits a (s.zcfg.get z).da (decide (stateOf s z = .active)) (stepOne s z)) s.now
      (s.work.get z).waiting }

/-- What a pass has decided before it plans. -/
theorem decidedAt_eq (s : State) : ∃ o l n e p,
    decidedAt s =
      { s with
        work := Eight.ofFn (passWork s), app := { s.app with bandSide := bandSideOf s.arb }
        arb := (s.arb.decideMode (sideView (formedAt s))).renewWaits (sideView (formedAt s))
        op := o, link := l, sens := n, eval := e, port := p } ∧
    e.timerFrom = some s.now ∧ e.lastPass = some s.now ∧ e.hpCapable = s.eval.hpCapable ∧ n.zone = s.sens.zone ∧
      l.lowAt = s.link.lowAt ∧
      o = { s.op with state := o.state, idleFrom := o.idleFrom, idleDone := o.idleDone, notice := o.notice, noticeFrom := o.noticeFrom } ∧
      (s.op.state = .resting → (∃ z : ZoneId, (stepOne s z).call ≠ .satisfied) → o.state = opOf s.op.request ∧ n.nextSlot = 0 ∧
        n.nextSlotAt = s.now ∧ n.slotMs = 1250 ∧ (s.link.state = .slow → l.state = .active)) ∧
      ((∀ z : ZoneId, (stepOne s z).call = .satisfied) → o = s.op) ∧
      (s.op.state ≠ .resting → o.state = s.op.state ∧ (s.op.notice = false → o = s.op)) := by
  obtain ⟨o, l, n, e, p, hcalls, htimer, hlast, hcap, hzone, hlow, ho, hwake, hsat, hno⟩ := passCalls_eq s
  obtain ⟨j, hj⟩ : ∃ j, j = judgeRelief (passCalls (beginPass s)) := ⟨_, rfl⟩
  have hside : bandSideOf (passCalls (beginPass s)).arb = bandSideOf s.arb := by rw [hcalls]
  have htwo : ∀ z, stepTwo (passCalls (beginPass s)) (bandSideOf s.arb) z = stepTwo (formedAt s) (bandSideOf s.arb) z := fun z => by
    rw [hcalls]
    have hsensor : ∀ t : State, sensorOf t z = t.sens.zone.get z := fun _ => rfl
    unfold stepTwo reliefTemp
    simp only [hsensor, hzone]
    rfl
  have hjeq : j =
      { s with
        work := Eight.ofFn fun z => { stepOne s z with withdrawn := stepTwo (formedAt s) (bandSideOf s.arb) z }
        app := { s.app with bandSide := bandSideOf s.arb }, op := o, link := l, sens := n, eval := e, port := p } := by
    rw [hj]
    unfold judgeRelief
    dsimp only
    rw [hside]
    simp only [htwo]
    rw [hcalls]
    simp only [Eight.get_ofFn]
  have hweight : ∀ (side : Side) (da : Nat) (z : ZoneId) (b : Bool),
      weight side da { stepOne s z with withdrawn := b } = weight side da (stepOne s z) := fun _ _ _ _ => rfl
  have hview : sideView j = sideView (formedAt s) := by
    rw [hjeq]
    refine sideView_congr rfl (fun side => ?_) ?_ ?_ rfl (by rw [ho]; rfl) (by rw [ho]; rfl) hcap ?_ rfl rfl
    · unfold aggregate formedAt
      simp only [Eight.get_ofFn, hweight]
    · simp [formedAt, Eight.toList, Eight.ofFn]
    · simp [formedAt, Eight.toList, Eight.ofFn]
    · show o.state = .test ↔ s.op.state = .test
      by_cases hr : s.op.state = .resting
      · by_cases hc : ∃ z : ZoneId, (stepOne s z).call ≠ .satisfied
        · rw [(hwake hr hc).1, hr]
          cases s.op.request <;> decide
        · push Not at hc
          rw [hsat hc]
      · rw [(hno hr).1]
  obtain ⟨p', hp'⟩ : ∃ p', chooseMode j =
      { j with
        arb := (j.arb.decideMode (sideView j)).renewWaits (sideView j)
        work := Eight.ofFn fun z => { j.work.get z with
          waiting := renewWait (zoneWaits ((j.arb.decideMode (sideView j)).renewWaits (sideView j)) (j.zcfg.get z).da
            (decide (stateOf j z = .active)) (j.work.get z)) j.now (j.work.get z).waiting }
        port := p' } := by
    unfold chooseMode
    dsimp only
    split
    · exact ⟨j.port, rfl⟩
    · exact ⟨_, rfl⟩
  refine ⟨o, l, n, e, p', ?_, htimer, hlast, hcap, hzone, hlow, ho, hwake, hsat, hno⟩
  have hdec : decidedAt s = chooseMode j := by rw [hj]; rfl
  rw [hdec, hp', hview, hjeq]
  simp only [Eight.get_ofFn, stepOne_waiting]
  rfl

/-! ### Step 4 and the consequences of a pass -/

theorem parkedState_idem (park : Bool) (st : ZoneState) : parkedState park (parkedState park st) = parkedState park st := by
  cases st <;> cases park <;> rfl

/-- The park requests change the zone states and raise reports. -/
theorem applyParks_eq (s : State) : ∃ p, applyParks s =
    { s with
      zst := Eight.ofFn fun z => ⟨parkedState (s.setp.get z).park (stateOf s z), (s.zst.get z).unconf⟩, port := p } := by
  have hfold : ∀ (l : List ZoneId) (s : State), ∃ p, l.foldl
      (fun s z =>
        let new := parkedState (s.setp.get z).park (stateOf s z)
        if new = stateOf s z then s else setZoneState z new s) s =
      { s with
        zst := Eight.ofFn fun z =>
          ⟨if z ∈ l then parkedState (s.setp.get z).park (stateOf s z) else stateOf s z, (s.zst.get z).unconf⟩
        port := p } := by
    intro l
    induction l with
    | nil =>
      intro s
      have hz : (Eight.ofFn fun z => (⟨stateOf s z, (s.zst.get z).unconf⟩ : ZoneStatus)) = s.zst :=
        Eight.ext_get fun z => by rw [Eight.get_ofFn]; rfl
      refine ⟨s.port, ?_⟩
      simp only [List.not_mem_nil, if_false, hz]
      rfl
    | cons z l ih =>
      intro s
      rw [List.foldl_cons]
      obtain ⟨p₁, hone⟩ : ∃ p₁, (if parkedState (s.setp.get z).park (stateOf s z) = stateOf s z then s
          else setZoneState z (parkedState (s.setp.get z).park (stateOf s z)) s) =
          { s with
            zst := s.zst.modify z fun x => { x with state := parkedState (s.setp.get z).park (stateOf s z) }, port := p₁ } := by
        split
        next h =>
          refine ⟨s.port, ?_⟩
          have hz : (s.zst.modify z fun x => { x with state := parkedState (s.setp.get z).park (stateOf s z) }) = s.zst :=
            Eight.ext_get fun y => by
              by_cases e : y = z
              · rw [e, Eight.get_modify_same, h]; rfl
              · exact Eight.get_modify_ne _ _ e
          rw [hz]
        next h => exact ⟨_, rfl⟩
      dsimp only
      rw [hone]
      obtain ⟨p, hp⟩ := ih { s with
        zst := s.zst.modify z fun x => { x with state := parkedState (s.setp.get z).park (stateOf s z) }, port := p₁ }
      refine ⟨p, hp.trans ?_⟩
      have hz : ∀ y : ZoneId,
          (⟨if y ∈ l then parkedState (s.setp.get y).park
                ((s.zst.modify z fun x => { x with state := parkedState (s.setp.get z).park (stateOf s z) }).get y).state
              else ((s.zst.modify z fun x => { x with state := parkedState (s.setp.get z).park (stateOf s z) }).get y).state,
            ((s.zst.modify z fun x => { x with state := parkedState (s.setp.get z).park (stateOf s z) }).get y).unconf⟩ :
              ZoneStatus) =
            ⟨if y ∈ z :: l then parkedState (s.setp.get y).park (stateOf s y) else stateOf s y, (s.zst.get y).unconf⟩ := by
        intro y
        by_cases e : y = z
        · subst e
          rw [Eight.get_modify_same]
          simp [parkedState_idem]
        · rw [Eight.get_modify_ne _ _ e]
          simp only [List.mem_cons, e, false_or]
          rfl
      exact congrArg (fun f : ZoneId → ZoneStatus => { s with zst := Eight.ofFn f, port := p }) (funext hz)
  obtain ⟨p, hp⟩ := hfold allZones s
  refine ⟨p, hp.trans ?_⟩
  simp only [mem_allZones, if_true]

/-- The plan of a pass is dropped, or numbered and handed on. -/
theorem finishPlan_follows (p : Plan) (s : State) : ∃ n, Follows { s with app := { s.app with number := n } } (finishPlan p s) := by
  unfold finishPlan
  split
  · refine ⟨s.app.number, ?_⟩
    split
    · exact (finishUnconfigure_stays _ s).follows
    · exact .refl s
  · exact ⟨nextNumber s.app.number, .of_steady (steady_handOn _ _)⟩

/-- The state from which the consequences of a pass follow, with a plan number. -/
def plannedAt (s : State) (n : Nat) : State :=
  { applyParks (decidedAt s) with app := { (applyParks (decidedAt s)).app with number := n } }

theorem runPass_follows (s : State) : ∃ n, Follows (plannedAt s n) (runPass s) := by
  obtain ⟨c, hc⟩ : ∃ c, c = applyParks (decidedAt s) := ⟨_, rfl⟩
  obtain ⟨n, hn⟩ := finishPlan_follows (buildPlan (planView c)) c
  have hrun : runPass s = finishPlan (buildPlan (planView c)) c := by rw [hc]; rfl
  refine ⟨n, ?_⟩
  rw [hrun, plannedAt, ← hc]
  exact hn

theorem Keeps.passTimes {s t : State} (h : Keeps s t) :
    t.now = s.now ∧ t.eval.timerFrom = s.eval.timerFrom ∧ t.eval.lastPass = s.eval.lastPass :=
  ⟨congrArg Steady.now h.rest, congrArg Steady.timerFrom h.rest, congrArg Steady.lastPass h.rest⟩

/-- A pass is not followed by another in the same command. -/
theorem passDue_recent {s : State} (h : s.eval.lastPass = some s.now) : passDue s = false := by
  unfold passDue
  rw [h]
  simp

theorem passDue_settle {s : State} (ho : s.op.state ≠ .startup) (h : s.eval.lastPass = some s.now) (n : Nat) :
    passDue (settle n s) = false := by
  obtain ⟨hnow, -, hlast⟩ := (settle_keepsAll ho n).passTimes
  exact passDue_recent (by rw [hlast, hnow, h])

theorem finish_recent {s : State} (ho : s.op.state ≠ .startup) (h : s.eval.lastPass = some s.now) :
    finish s = sync (settle settleFuel s) := by
  unfold finish passStep
  rw [passDue_settle ho h]
  rfl

theorem runPass_lastPass (s : State) : (runPass s).eval.lastPass = some (runPass s).now := by
  obtain ⟨n, hf⟩ := runPass_follows s
  obtain ⟨p, hp⟩ := applyParks_eq (decidedAt s)
  obtain ⟨o, l, se, e, q, heq, -, hlast, -⟩ := decidedAt_eq s
  obtain ⟨hnow, -, hkept⟩ := hf.keeps.passTimes
  rw [hkept, hnow, plannedAt, hp, heq]
  exact hlast

/-- The command of a pass ends with the consequences of that pass. -/
theorem finish_runPass {s : State} (ho : s.op.state ≠ .startup) : finish (runPass s) = sync (settle settleFuel (runPass s)) :=
  finish_recent (runPass_started ho) (runPass_lastPass s)

/-- What a pass has decided stands at the end of its command. -/
theorem finish_runPass_keeps {s : State} (ho : s.op.state ≠ .startup) : ∃ n, Keeps (plannedAt s n) (finish (runPass s)) := by
  obtain ⟨n, hf⟩ := runPass_follows s
  refine ⟨n, hf.keeps.trans ?_⟩
  rw [finish_runPass ho]
  refine (settle_keepsAll (runPass_started ho) settleFuel).trans (.of_decided ?_)
  have h : ∀ t : State, decided (sync t) = decided t := fun t => by
    obtain ⟨b, q, p, o, heq, -, -, hp, -⟩ := sync_eq t
    rw [heq, hp]; rfl
  exact h _

end Sys2Proof.Machine
end

section
/-! The rows that run an evaluation pass, and what a pass leaves in the records (02 R20 to R22, R31 to R40; 11 R164, R166). -/

namespace Sys2Proof.Machine

theorem Follows.fields {s t : State} (h : Follows s t) : t.op = s.op ∧ t.link.state = s.link.state ∧ t.link.lowAt = s.link.lowAt ∧
    t.sens.nextSlot = s.sens.nextSlot ∧ t.sens.nextSlotAt = s.sens.nextSlotAt ∧ t.sens.slotMs = s.sens.slotMs :=
  ⟨congrArg Steady.op h.rest, congrArg (fun k => k.link.state) h.rest, congrArg (fun k => k.link.lowAt) h.rest, congrArg Steady.nextSlot h.rest,
    congrArg Steady.nextSlotAt h.rest, congrArg Steady.slotMs h.rest⟩

theorem Keeps.decision {s t : State} (h : Keeps s t) : t.arb.mode = s.arb.mode ∧ t.arb.served = s.arb.served ∧
    t.arb.waitCool = s.arb.waitCool ∧ t.arb.waitHeat = s.arb.waitHeat ∧ t.app = s.app :=
  ⟨congrArg Steady.mode h.rest, congrArg Steady.served h.rest, congrArg Steady.waitCool h.rest, congrArg Steady.waitHeat h.rest,
    congrArg Steady.app h.rest⟩

/-- A pass up to its plan: its records, calls, mode, relief and park states stand. -/
theorem plannedAt_eq (s : State) : ∃ o l se e p,
    (∀ n, plannedAt s n =
      { s with
        zst := Eight.ofFn fun z => ⟨parkedState (s.setp.get z).park (stateOf s z), (s.zst.get z).unconf⟩
        work := Eight.ofFn (passWork s), app := { s.app with number := n, bandSide := bandSideOf s.arb }
        arb := (s.arb.decideMode (sideView (formedAt s))).renewWaits (sideView (formedAt s))
        op := o, link := l, sens := se, eval := e, port := p }) ∧
    e.timerFrom = some s.now ∧ e.lastPass = some s.now ∧ se.zone = s.sens.zone ∧ l.lowAt = s.link.lowAt ∧
      o = { s.op with state := o.state, idleFrom := o.idleFrom, idleDone := o.idleDone, notice := o.notice, noticeFrom := o.noticeFrom } ∧
      (s.op.state = .resting → (∃ z : ZoneId, (stepOne s z).call ≠ .satisfied) → o.state = opOf s.op.request ∧ se.nextSlot = 0 ∧
        se.nextSlotAt = s.now ∧ se.slotMs = 1250 ∧ (s.link.state = .slow → l.state = .active)) ∧
      ((∀ z : ZoneId, (stepOne s z).call = .satisfied) → o = s.op) ∧
      (s.op.state ≠ .resting → o.state = s.op.state ∧ (s.op.notice = false → o = s.op)) := by
  obtain ⟨o, l, se, e, p, heq, htimer, hlast, -, hzone, hlow, ho, hwake, hsat, hno⟩ := decidedAt_eq s
  obtain ⟨q, hq⟩ := applyParks_eq (decidedAt s)
  refine ⟨o, l, se, e, q, fun n => ?_, htimer, hlast, hzone, hlow, ho, hwake, hsat, hno⟩
  rw [plannedAt, hq, heq]
  rfl

theorem exec_pass {s : State} {c : Instr} (ho : s.op.state ≠ .startup)
    (hc : c = .evaluationTimerExpiry ∧ (∃ t0, s.eval.timerFrom = some t0 ∧ t0 + 30000 ≤ s.now) ∨
      c = .earlyPassSpacingEnd ∧
        (s.eval.lastPass = none ∨ s.eval.early = true ∧ ∃ t0, s.eval.lastPass = some t0 ∧ t0 + 5000 ≤ s.now)) :
    exec c s = .next (finish (runPass s)) := by
  have hstarted : decide (s.op.state ≠ .startup) = true := decide_eq_true ho
  rcases hc with ⟨rfl, t0, htimer, hle⟩ | ⟨rfl, h⟩
  · refine congrArg Host.Outcome.next (if_pos ?_)
    unfold timerDue
    rw [hstarted, Bool.true_and, reached_iff]
    exact ⟨t0, htimer, hle⟩
  · refine congrArg Host.Outcome.next (if_pos ?_)
    unfold passDue
    rw [hstarted, Bool.true_and]
    rcases h with h | ⟨hearly, t0, hlast, hle⟩
    · rw [h]
    · rw [hlast, hearly]
      exact decide_eq_true hle

/-- On a quiet line and outside the test phases the link, the sweep and the operating state too stand. -/
theorem finish_runPass_follows {s : State} (ho : s.op.state ≠ .startup) (hp : s.op.testPhase = .idle) (hq : lineQuiet s = true) :
    ∃ n u, Follows (plannedAt s n) u ∧ finish (runPass s) = sync u := by
  obtain ⟨n, hf⟩ := runPass_follows s
  have hstarted := runPass_started ho
  have hend := finish_runPass ho
  generalize runPass s = r at *
  obtain ⟨o, l, se, e, p, heq, -, -, -, hlow, hop, -⟩ := plannedAt_eq s
  obtain ⟨hop', -, hlow', -⟩ := hf.fields
  obtain ⟨hnow', -⟩ := hf.keeps.passTimes
  rw [heq] at hop' hlow' hnow'
  have hq' : lineQuiet r = true := by
    unfold lineQuiet at hq ⊢
    rw [hlow', hnow', hlow]; exact hq
  refine ⟨n, _, hf.trans (settle_follows hstarted ?_ hq' settleFuel), hend⟩
  rw [hop', hop]; exact hp

/-- What step 1 leaves of a zone stands at the end of the command: a zone that is released on the way was SATISFIED. -/
theorem passWork_stepOne {s t : State} {n : Nat} (h : Keeps (plannedAt s n) t) (z : ZoneId) :
    (t.work.get z).call = (stepOne s z).call ∧ (t.work.get z).suspended = (stepOne s z).suspended ∧
      (t.work.get z).d = (stepOne s z).d ∧ (t.work.get z).i = (stepOne s z).i ∧ (t.work.get z).l = (stepOne s z).l := by
  obtain ⟨o, l, se, e, p, heq, -⟩ := plannedAt_eq s
  have hw : (plannedAt s n).work.get z = passWork s z := by rw [heq]; exact Eight.get_ofFn _ z
  have hu : ((plannedAt s n).zst.get z).unconf = (s.zst.get z).unconf := by
    rw [heq]
    have h := Eight.get_ofFn (fun z => (⟨parkedState (s.setp.get z).park (stateOf s z), (s.zst.get z).unconf⟩ : ZoneStatus)) z
    have h' := congrArg ZoneStatus.unconf h
    exact h'
  rcases h.zones.work z with e | ⟨hunconf, e⟩
  · rw [e, hw]; exact ⟨rfl, rfl, rfl, rfl, rfl⟩
  · have hsat : stepOne s z = satisfiedWork (s.work.get z) := by
      refine if_neg ?_
      rw [← hu, hunconf]; simp
    rw [e, hsat]; exact ⟨rfl, rfl, rfl, rfl, rfl⟩

/-- Settles O32, by the pass up to its plan and what its consequences leave of that. -/
theorem passesFormCallsAndMode : Obligations.PassesFormCallsAndMode := by
  unfold Obligations.PassesFormCallsAndMode
  refine ⟨fun s c ho hc => ?_, fun s start length hcalm hmode hended hstart hlength hle => ?_⟩
  · intro a
    obtain ⟨n, hkeeps⟩ := finish_runPass_keeps ho
    obtain ⟨o, l, se, e, p, heq, htimer, hlast, -, -, hop, hwake, hsat, -⟩ := plannedAt_eq s
    have hkept : kept (finish (runPass s)) = kept s := (kept_finish_started (runPass_started ho)).trans (kept_runPass s)
    have hexec := exec_pass ho hc
    have hquiet := fun hp hq => finish_runPass_follows (s := s) ho hp hq
    generalize finish (runPass s) = t at *
    obtain ⟨-, htimer', hlast'⟩ := hkeeps.passTimes
    obtain ⟨hmode, hserved, -⟩ := hkeeps.decision
    have hwork := passWork_stepOne hkeeps
    rw [heq] at htimer' hlast' hmode hserved
    have hresting : s.op.state = .resting → s.op.testPhase = .idle → (∀ t0, s.link.lowAt = some t0 → t0 + 2 ≤ s.now) →
        t.op.state = o.state ∧ t.sens.nextSlot = se.nextSlot ∧ t.sens.nextSlotAt = se.nextSlotAt ∧
          t.sens.slotMs = se.slotMs ∧ t.link.state = l.state := fun hrest hphase hlow => by
      obtain ⟨m, u, hu, hfin⟩ := hquiet hphase (lineQuiet_of hlow)
      obtain ⟨h1, h2, -, h3, h4, h5⟩ := hu.fields
      rw [heq] at h1 h2 h3 h4 h5
      rw [hfin, sync_op_state, sync_sens, sync_link]
      exact ⟨congrArg Operating.state h1, h3, h4, h5, h2⟩
    refine ⟨t, hexec, htimer'.trans htimer, hlast'.trans hlast, hwork, hmode, hserved,
      congrArg Kept.zcfg hkept, congrArg Kept.setp hkept, congrArg Kept.cfg hkept, congrArg Kept.hist hkept,
      congrArg Kept.lockout hkept, congrArg Kept.limit hkept, fun hrest hphase hlow => ⟨fun hcall => ?_, fun hnone => ?_⟩⟩
    · obtain ⟨hstate, hslot, hat, hms, hlink⟩ := hresting hrest hphase hlow
      obtain ⟨h1, h2, h3, h4, h5⟩ := hwake hrest hcall
      rw [hstate, hslot, hat, hms, hlink, h1, h2, h3, h4]
      exact ⟨by cases s.op.request <;> rfl, rfl, rfl, rfl, h5⟩
    · obtain ⟨hstate, -⟩ := hresting hrest hphase hlow
      rw [hstate, hsat hnone, hrest]
  · have hdue : restEndDue s = true := by
      unfold restEndDue Arbiter.restOver
      rw [decide_eq_true hmode, hended, Bool.not_false, Bool.true_and, Bool.true_and, Bool.false_or, reached_iff]
      exact ⟨start, hstart, by rw [hlength]; exact hle⟩
    exact ⟨_, congrArg Host.Outcome.next (if_pos hdue), timeless_finish_calm hcalm⟩

/-! ### The records of a pass -/

theorem wakeEvent_awake {s : State} (hr : s.op.state ≠ .resting) (hn : s.op.notice = false) : wakeEvent s = s := by
  unfold wakeEvent
  rw [if_neg hr, hn]
  rfl

theorem op_beginRound {s : State} (hr : s.op.state ≠ .resting) (hn : s.op.notice = false) : (beginRound s).op = s.op := by
  unfold beginRound beginFrame
  split
  · rfl
  · unfold abandonFrame exchangeFailed
    dsimp only
    split
    · have hop : ∀ t : State, t.op = s.op → (linkLost .collisions t).op = s.op := fun t ht => by
        have hlost : (seqLinkLost (loseLink .collisions t)).op = s.op := (op_seqLinkLost _).trans ht
        unfold linkLost
        rw [wakeEvent_awake (by rw [hlost]; exact hr) (by rw [hlost]; exact hn), hlost]
      exact hop _ rfl
    · rfl

/-- With no wake to come and no test phase, a consequence leaves the operating state's record. -/
theorem microStep_op {s t : State} (h : microStep s = some t) (hs : s.op.state ≠ .startup) (hp : s.op.testPhase = .idle)
    (hr : s.op.state ≠ .resting) (hn : s.op.notice = false) : t.op = s.op := by
  have hno : startupDone s = false := by simp [startupDone, hs]
  have hleft : leftActive s = [] := leftActive_idle hp
  have hpre : preparingDone s = false := by simp [preparingDone, hp]
  have hopen : openingDone s = false := by simp [openingDone, hp]
  unfold microStep at h
  rw [hno, hleft, hpre, hopen] at h
  split at h
  · obtain rfl := Option.some.inj h; exact op_abandonFor _ _
  split at h
  · obtain rfl := Option.some.inj h; exact op_restartChangeover _
  split at h
  · obtain rfl := Option.some.inj h; exact op_takeHeld s
  dsimp only at h
  split at h
  · obtain rfl := Option.some.inj h; exact op_grantOne s
  split at h
  · obtain rfl := Option.some.inj h; exact op_phaseStep s
  split at h
  · rw [Option.map_eq_some_iff] at h
    obtain ⟨p, -, rfl⟩ := h
    exact op_endBlower p s
  split at h
  · obtain rfl := Option.some.inj h; exact op_beginRound hr hn
  split at h
  · obtain rfl := Option.some.inj h; exact op_startCompressor s
  · simp at h

theorem settle_op {s : State} (hs : s.op.state ≠ .startup) (hp : s.op.testPhase = .idle) (hr : s.op.state ≠ .resting)
    (hn : s.op.notice = false) (n : Nat) : (settle n s).op = s.op := by
  refine settle_keeps (P := fun t => t.op = s.op) (fun t u hu ht => ?_) n s rfl
  exact (microStep_op hu (by rw [ht]; exact hs) (by rw [ht]; exact hp) (by rw [ht]; exact hr) (by rw [ht]; exact hn)).trans ht

/-- With no notice the renewal of the times lets the idle time run with its condition. -/
theorem sync_idleFrom {s : State} (hn : s.op.notice = false) :
    (sync s).op.idleFrom = runWhile (idleHolds s) s.now s.op.idleFrom := by
  have hstand : ∀ t : State, t.op.notice = false → (standDown t).op.idleFrom = runWhile (idleHolds t) t.now t.op.idleFrom :=
    fun t ht => by
      unfold standDown
      dsimp only
      rw [ht, if_neg Bool.false_ne_true]
      split <;> rfl
  obtain ⟨q, hq, -⟩ := syncStartFail_eq (syncWatches { s with blower := s.blower.syncPressure s.now s.cfg.pressureCap })
  have hsync : sync s = standDown (syncStartFail (syncWatches { s with blower := s.blower.syncPressure s.now s.cfg.pressureCap })) := rfl
  rw [hsync, hq]
  exact hstand _ hn

theorem idleHolds_eq (s : State) : idleHolds s = decide ((s.op.state = .off ∨ s.op.state = .on) ∧ s.arb.mode = .idle) := by
  rw [Bool.decide_and, Bool.decide_or]; rfl

theorem parkedState_eq (park : Bool) (st : ZoneState) : parkedState park st = parkedBy park st := by
  cases st <;> cases park <;> rfl

theorem renewWait_eq {b : Bool} {p : Prop} [Decidable p] (h : b = true ↔ p) (now : Nat) (was : Option Nat) :
    renewWait b now was = if p then some (was.getD now) else none := by
  unfold renewWait
  by_cases hp : p
  · rw [if_pos hp, if_pos (h.mpr hp)]
  · rw [if_neg hp, if_neg (fun hb => hp (h.mp hb))]

theorem zoneWaits_iff (a : Arbiter) (da : Nat) (active : Bool) (w : ZoneWork) : zoneWaits a da active w = true ↔
    active = true ∧ ((a.mode ≠ .test ∧ a.served ≠ some .cooling) ∧ 0 < weight .cooling da w ∨
      (a.mode ≠ .test ∧ a.served ≠ some .heating) ∧ 0 < weight .heating da w) := by
  simp only [zoneWaits, Bool.and_eq_true, Bool.or_eq_true, Bool.not_eq_true', decide_eq_true_eq, decide_eq_false_iff_not]
  tauto

theorem weight_eq (side : Side) (da : Nat) (w : ZoneWork) : weight side da w =
    if side = .cooling then
      (if w.call = .cool then da * w.d else if w.call = .dry ∧ w.suspended = false then da * w.l else 0)
    else if w.call = .heat ∨ w.call = .frost then da * w.d else 0 := by
  unfold weight
  cases side
  · cases hc : w.call <;> cases hs : w.suspended <;> simp
  · cases hc : w.call <;> simp

theorem seqAtRest_iff (q : SeqState) : seqAtRest q = true ↔ q = .stopped ∨ q = .waitStart ∨ q = .tripped ∨ q = .lockout := by
  cases q <;> simp [seqAtRest]

/-- The decision leaves the waiting starts, which are renewed after it. -/
theorem Arbiter.decideMode_waits (a : Arbiter) (v : SideView) :
    (a.decideMode v).waitCool = a.waitCool ∧ (a.decideMode v).waitHeat = a.waitHeat := by
  unfold Arbiter.decideMode Arbiter.serve Arbiter.leave Arbiter.fromNone
  dsimp only
  (repeat' split) <;> exact ⟨rfl, rfl⟩

theorem waits_iff (a : Arbiter) (x : Side) (w : Nat) :
    (!decide (a.mode = .test) && decide (0 < w) && decide (a.served ≠ some x)) = true ↔
      (a.mode ≠ .test ∧ a.served ≠ some x) ∧ 0 < w := by
  simp only [Bool.and_eq_true, Bool.not_eq_true', decide_eq_true_eq, decide_eq_false_iff_not]
  tauto

/-- With windings closed and no unconfigure pending, the zones of a pass stand at the end of its command. -/
theorem passZones {s t : State} {n : Nat} (h : Keeps (plannedAt s n) t)
    (hz : ∀ z : ZoneId, s.inp.windingOpen.get z = false ∧ (s.zst.get z).unconf = false) (z : ZoneId) :
    t.work.get z = passWork s z ∧ stateOf t z = parkedBy (s.setp.get z).park (stateOf s z) := by
  obtain ⟨o, l, se, e, p, heq, -⟩ := plannedAt_eq s
  rw [heq] at h
  obtain ⟨hzst, hwork⟩ := h.zones.same fun y => ⟨(hz y).1, by
    have hy := congrArg ZoneStatus.unconf
      (Eight.get_ofFn (fun z => (⟨parkedState (s.setp.get z).park (stateOf s z), (s.zst.get z).unconf⟩ : ZoneStatus)) y)
    exact Eq.trans hy (hz y).2⟩
  refine ⟨by rw [hwork]; exact Eight.get_ofFn _ z, ?_⟩
  unfold stateOf
  rw [hzst, ← parkedState_eq]
  exact congrArg ZoneStatus.state
    (Eight.get_ofFn (fun z => (⟨parkedState (s.setp.get z).park (stateOf s z), (s.zst.get z).unconf⟩ : ZoneStatus)) z)

/-- Settles O34, by the weights and the view as they are defined, and by the pass up to its plan with what its consequences leave. -/
theorem passRenewsRecords : Obligations.PassRenewsRecords := by
  unfold Obligations.PassRenewsRecords
  refine ⟨weight_eq, fun s => ?_, fun s c hpass => ?_⟩
  · intro v
    refine ⟨rfl, fun side => by cases side <;> rfl, rfl, ?_, ?_, rfl, rfl, rfl, decide_eq_true_iff, seqAtRest_iff _, rfl, rfl, rfl, rfl⟩
    · show (s.work.toList.any fun w => decide (w.call = .cool)) = true ↔ _
      simp [List.any_eq_true, Eight.mem_toList]
    · show (s.work.toList.any fun w => decide (w.call = .dry) && !w.suspended) = true ↔ _
      simp [List.any_eq_true, Eight.mem_toList]
  · intro formed v a side waits adds
    obtain ⟨ho, hphase, -, hz, hc⟩ := hpass
    have hside : side = bandSideOf s.arb := by
      show (match s.arb.mode with
        | .cool => some Side.cooling | .dry => some .cooling | .heat => some .heating | .rest => s.arb.restTarget
        | _ => s.arb.lastServed) = _
      unfold bandSideOf
      cases s.arb.mode <;> rfl
    obtain ⟨n, hkeeps⟩ := finish_runPass_keeps ho
    obtain ⟨o, l, se, e, p, heq, -, -, -, -, hop, -, -, hno⟩ := plannedAt_eq s
    have hexec := exec_pass ho hc
    have hend := finish_runPass ho
    have hstarted := runPass_started ho
    obtain ⟨m, hrun⟩ := runPass_follows s
    generalize runPass s = r at *
    have hidle : s.op.state ≠ .resting → s.op.notice = false → (finish r).op.idleFrom =
        if (s.op.state = .off ∨ s.op.state = .on) ∧ a.mode = .idle then some (s.op.idleFrom.getD s.now) else none :=
      fun hrest hnotice => by
        have hrop : r.op = s.op := hrun.fields.1.trans (by rw [heq]; exact (hno hrest).2 hnotice)
        have hsop : (settle settleFuel r).op = s.op := (settle_op hstarted (by rw [hrop]; exact hphase)
          (by rw [hrop]; exact hrest) (by rw [hrop]; exact hnotice) settleFuel).trans hrop
        have hsettled := (settle_keepsAll hstarted settleFuel)
        obtain ⟨hnow, -⟩ := hsettled.passTimes
        obtain ⟨hnow', -⟩ := hrun.keeps.passTimes
        obtain ⟨hmode, -⟩ := hsettled.decision
        obtain ⟨hmode', -⟩ := hrun.keeps.decision
        rw [heq] at hnow' hmode'
        rw [hend, sync_idleFrom (by rw [hsop]; exact hnotice), idleHolds_eq, hsop, hnow, hnow', hmode, hmode']
        exact (renewWait_eq decide_eq_true_iff _ _)
    generalize finish r = t at *
    obtain ⟨hmode, hserved, hcool, hheat, happ⟩ := hkeeps.decision
    rw [heq] at hcool hheat happ
    refine ⟨t, hexec, ?_, fun z => ?_, ?_, ?_, hidle⟩
    · rw [happ, hside]
    · obtain ⟨hwork, hstate⟩ := passZones hkeeps hz z
      refine ⟨?_, ?_, hstate⟩
      · rw [hwork, hside]; rfl
      · rw [hwork]
        refine renewWait_eq ?_ _ _
        rw [zoneWaits_iff, decide_eq_true_iff]
        exact Iff.rfl
    · rw [hcool]
      show renewWait _ s.now a.waitCool = _
      rw [(s.arb.decideMode_waits v).1]
      exact renewWait_eq (waits_iff a .cooling _) _ _
    · rw [hheat]
      show renewWait _ s.now a.waitHeat = _
      rw [(s.arb.decideMode_waits v).2]
      exact renewWait_eq (waits_iff a .heating _) _ _

end Sys2Proof.Machine
end

section
/-! A pass under a defrost deferral: a consequence of the same command can end the deferral (04 R79, 09 R149). -/

namespace Sys2Proof.Machine

/-- A pass is due while a defrost is in progress, the coil already reads 30.0 °C and the float condition is held; a cooling plan that was
taken before the deferral stands in BLOWER with its capacity not yet released. The end of BLOWER at this pass releases that plan, FLOAT
then stops the compressor, the defrost is interrupted into a recovery that the warm coil ends at once, and with the deferral over the
plan held at this pass is taken. -/
def deferralEndsAtPass : State :=
  { Tests.dueTimer with
    arb := { Tests.dueTimer.arb with deferral := true }
    seq := { Tests.dueTimer.seq with state := .defrostActive }
    prot := { Tests.dueTimer.prot with floatHeld := true, coil := some 300 }
    blower := { Tests.dueTimer.blower with state := .hold, defrostHold := true }
    co := { Tests.dueTimer.co with
      incoming := some { Plan.empty with mode := .cool, c := 50 }, phase := .blower, released := false } }

theorem passTaken_deferralEndsAtPass : PassTaken deferralEndsAtPass .evaluationTimerExpiry :=
  ⟨by decide, rfl, rfl, by decide, .inl ⟨rfl, _, rfl, by decide⟩⟩

theorem deferralEndsAtPass_differs :
    { planOfPass deferralEndsAtPass with number := 0 } ≠ ({ Plan.empty with mode := .cool, c := 50 } : Plan) := by decide

theorem deferralEndsAtPass_settles : (settle settleFuel (runPass deferralEndsAtPass)).co.held.isNone = true := by decide

theorem deferralEndsAtPass_held : (finish (runPass deferralEndsAtPass)).co.held.isNone = true := by
  rw [finish_runPass passTaken_deferralEndsAtPass.1, sync_co]
  exact deferralEndsAtPass_settles

/-- Refutes O35: the deferral can end at the pass itself, by the release of the incoming plan at the end of BLOWER, and the plan
is then not held but taken. -/
theorem not_passHandsPlanOn : ¬ Obligations.PassHandsPlanOn := by
  unfold Obligations.PassHandsPlanOn
  intro h
  obtain ⟨ho, -, -, -, hdue⟩ := passTaken_deferralEndsAtPass
  obtain ⟨t, ht, -, hdiffer⟩ := h deferralEndsAtPass .evaluationTimerExpiry passTaken_deferralEndsAtPass rfl
    (Tests.airSafe_of (by decide)) (fun t0 h0 => (nomatch h0)) (.inl rfl)
  obtain rfl : finish (runPass deferralEndsAtPass) = t := Host.Outcome.next.inj ((exec_pass ho hdue).symm.trans ht)
  obtain ⟨-, hheld, -⟩ := hdiffer deferralEndsAtPass_differs
  have hnone := deferralEndsAtPass_held
  rw [(hheld rfl).1] at hnone
  exact nomatch hnone

end Sys2Proof.Machine
end

section
/-! The frames that the link begins on a quiet line, and the data of a CAP (08 R122 to R134; 13 R184). -/

namespace Sys2Proof.Machine

/-! ### Frames on a quiet line -/

/-- A frame that begins at a moment of a state. -/
def newFrame (s : State) (kind : FrameKind) (bytes : List Byte) : LinkFrame :=
  ⟨kind, bytes, s.now, s.now + linkFrameMs s.cfg.breakLength bytes.length, []⟩

theorem withBreak_quiet {s : State} (h : lineQuiet s = true) (f : State → State) : withBreak f s = f s := if_pos h

/-- The frame of a diagnostic. -/
def diagFrameOf (s : State) (d : Diagnostic) : LinkFrame :=
  if d.isRead then newFrame s .diagRead (requestHeader d.kind d.length)
  else newFrame s .diagCommand (commandFrame d.kind d.data)

theorem beginDiag_quiet {s : State} (h : lineQuiet s = true) (d : Diagnostic) :
    beginDiag d s =
      { s with link := { s.link with diag := some { d with begun := true }, frame := some (diagFrameOf s d) } } := by
  unfold beginDiag diagFrameOf
  dsimp only
  split
  · exact beginFrame_quiet (s := { s with link := { s.link with diag := some { d with begun := true } } }) h _ _
  · exact beginFrame_quiet (s := { s with link := { s.link with diag := some { d with begun := true } } }) h _ _

theorem waitingDiag_eq_some_iff (k : Link) (d : Diagnostic) : waitingDiag k = some d ↔ k.diag = some d ∧ d.begun = false := by
  simp [waitingDiag, Option.filter_eq_some_iff]

theorem waitingDiag_eq_none_iff (k : Link) : waitingDiag k = none ↔ ∀ d, k.diag = some d → d.begun = true := by
  simp [waitingDiag, Option.filter_eq_none_iff]

theorem chosenDiag_eq_some {k : Link} {d : Diagnostic} (hd : k.diag = some d) (hb : d.begun = false) (hc : d.chosen = true) :
    chosenDiag k = some d := by
  unfold chosenDiag
  rw [(waitingDiag_eq_some_iff k d).mpr ⟨hd, hb⟩]
  exact Option.filter_eq_some_iff.mpr ⟨rfl, hc⟩

theorem chosenDiag_eq_none {k : Link} (h : ∀ d, k.diag = some d → d.begun = true ∨ d.chosen = false) : chosenDiag k = none := by
  unfold chosenDiag
  rw [Option.filter_eq_none_iff]
  intro d hd hc
  obtain ⟨hdiag, hb⟩ := (waitingDiag_eq_some_iff k d).mp hd
  rcases h d hdiag with h | h
  · exact nomatch hb.symm.trans h
  · exact nomatch h.symm.trans hc

theorem requestDue_some {s : State} {r : Round} (hr : s.link.round = some r) (hb : r.requestBegun = false)
    (ht : r.tick + 50 ≤ s.now) (hf : s.link.frame = none) : requestDue s = some r := by
  simp [requestDue, hr, hb, ht, hf]

theorem slowDiagDue_some {s : State} {r : Round} (hr : s.link.round = some r) (hb : r.slowDiag = true)
    (ht : r.tick + 150 ≤ s.now) (hf : s.link.frame = none) : slowDiagDue s = some r := by
  simp [slowDiagDue, hr, hb, ht, hf]

/-- LINK_REQUEST_FRAME_START on a quiet line, once its time has come. -/
theorem exec_requestStart {s : State} (hq : lineQuiet s = true) {r : Round} (hr : s.link.round = some r)
    (hb : r.requestBegun = false) (ht : r.tick + 50 ≤ s.now) (hf : s.link.frame = none) :
    exec .linkRequestFrameStart s = .next (beginRequest r s) := by
  show execLinkRequestFrameStart s = _
  unfold execLinkRequestFrameStart
  rw [requestDue_some hr hb ht hf]
  exact congrArg Host.Outcome.next (withBreak_quiet hq _)

/-- The frame of a request on a quiet line. -/
theorem beginRequest_quiet {s : State} (hq : lineQuiet s = true) (r : Round) :
    let begun := fun f => ({ s with link := { s.link with round := some { r with requestBegun := true }, frame := some f } } : State)
    (r.request = .info → beginRequest r s = begun (newFrame s .info (requestHeader infoKind 3))) ∧
    (r.request = .stat → beginRequest r s = begun (newFrame s .stat (requestHeader statKind 10))) ∧
    (r.request = .diagRead ∨ r.request = .diagCommand →
      (chosenDiag s.link = none → beginRequest r s = begun (newFrame s .stat (requestHeader statKind 10))) ∧
      ∀ d, chosenDiag s.link = some d →
        beginRequest r s =
          { s with link :=
            { s.link with
              round := some { r with requestBegun := true }, diag := some { d with begun := true }
              frame := some (diagFrameOf s d) } }) := by
  intro begun
  have hframe : ∀ kind bytes, beginFrame kind bytes
      { s with link := { s.link with round := some { r with requestBegun := true } } } = begun (newFrame s kind bytes) :=
    fun kind bytes => beginFrame_quiet (s := { s with link := { s.link with round := some { r with requestBegun := true } } }) hq _ _
  have hdiag : beginDiagOrStat { s with link := { s.link with round := some { r with requestBegun := true } } } =
      match chosenDiag s.link with
      | some d => beginDiag d { s with link := { s.link with round := some { r with requestBegun := true } } }
      | none => begun (newFrame s .stat (requestHeader statKind 10)) := by
    have hchosen : chosenDiag { s.link with round := some { r with requestBegun := true } } = chosenDiag s.link := rfl
    unfold beginDiagOrStat
    rw [hchosen, hframe] <;> rfl
  obtain ⟨tick, request, begun', slow⟩ := r
  refine ⟨fun h => ?_, fun h => ?_, fun h => ⟨fun hn => ?_, fun d hd => ?_⟩⟩
  · obtain rfl : request = .info := h
    exact hframe _ _
  · obtain rfl : request = .stat := h
    exact hframe _ _
  · rw [hn] at hdiag
    rcases (show request = .diagRead ∨ request = .diagCommand from h) with rfl | rfl
    · exact hdiag
    · exact hdiag
  · rw [hd] at hdiag
    have heq := hdiag.trans (beginDiag_quiet
      (s := { s with link := { s.link with round := some { (⟨tick, request, begun', slow⟩ : Round) with requestBegun := true } } }) hq d)
    rcases (show request = .diagRead ∨ request = .diagCommand from h) with rfl | rfl
    · exact heq
    · exact heq

/-- SLOW's diagnostic on a quiet line. -/
theorem beginSlowDiag_quiet {s : State} (hq : lineQuiet s = true) (r : Round) :
    (chosenDiag s.link = none → beginSlowDiag r s = { s with link := { s.link with round := some { r with slowDiag := false } } }) ∧
    ∀ d, chosenDiag s.link = some d →
      beginSlowDiag r s =
        { s with link :=
          { s.link with
            round := some { r with slowDiag := false }, diag := some { d with begun := true }, frame := some (diagFrameOf s d) } } := by
  have hchosen : chosenDiag { s.link with round := some { r with slowDiag := false } } = chosenDiag s.link := rfl
  unfold beginSlowDiag
  dsimp only
  rw [hchosen]
  refine ⟨fun hn => by rw [hn], fun d hd => ?_⟩
  rw [hd]
  exact beginDiag_quiet (s := { s with link := { s.link with round := some { r with slowDiag := false } } }) hq d

/-- LINK_DIAG_FRAME_START on a quiet line, once its time has come. -/
theorem exec_slowDiagStart {s : State} (hq : lineQuiet s = true) {r : Round} (hr : s.link.round = some r)
    (hb : r.slowDiag = true) (ht : r.tick + 150 ≤ s.now) (hf : s.link.frame = none) :
    exec .linkDiagFrameStart s = .next (beginSlowDiag r s) := by
  show execLinkDiagFrameStart s = _
  unfold execLinkDiagFrameStart
  rw [slowDiagDue_some hr hb ht hf]
  exact congrArg Host.Outcome.next (withBreak_quiet hq _)

/-! ### Rounds -/

/-- The state once a round has begun on a quiet line. -/
def roundBegun (s : State) : State :=
  { planRound s with link :=
    { (planRound s).link with frame := some (newFrame s .cap (commandFrame capKind (capData s))) } }

/-- Whether a round begun now carries the diagnostic of SLOW. -/
def slowCarries (k : Link) : Bool := decide (k.state = .slow) && (waitingDiag k).isSome

/-- Whether a round begun now carries the diagnostic of the slot. -/
def roundCarries (now : Nat) (k : Link) : Bool :=
  slowCarries k || decide (requestOfRound now k = .diagRead ∨ requestOfRound now k = .diagCommand)

theorem roundBegun_eq (s : State) :
    roundBegun s =
      { s with link :=
        { s.link with
          frame := some (newFrame s .cap (commandFrame 0x31 (capData s)))
          round := some ⟨s.now, requestOfRound s.now s.link, false, slowCarries s.link⟩
          nextRound := s.now + (if s.link.state = .slow then 10000 else 1000)
          wakeRound := false
          diag := s.link.diag.map fun d => { d with chosen := roundCarries s.now s.link } } } := by
  have hcarries : (decide (s.link.state = .slow) && (waitingDiag s.link).isSome ||
      decide (requestOfRound s.now s.link = .diagCommand) || decide (requestOfRound s.now s.link = .diagRead)) =
      roundCarries s.now s.link := by
    unfold roundCarries slowCarries
    rw [Bool.or_assoc, ← Bool.decide_or, decide_eq_decide.mpr or_comm]
  unfold roundBegun planRound
  dsimp only
  rw [hcarries]
  rfl

theorem beginRound_quiet {s : State} (h : lineQuiet s = true) : beginRound s = roundBegun s :=
  beginFrame_quiet (s := planRound s) h _ _

theorem requestOfRound_recent {now : Nat} {k : Link} (hk : k.state = .active ∨ k.state = .degraded) {d : Diagnostic}
    (hd : waitingDiag k = some d) {t : Nat} (ht : k.lastGood = some t) (hlt : now < t + 2000) :
    requestOfRound now k = d.frameKind := by
  have hrecent : statRecent now k = true := by unfold statRecent; rw [ht]; exact decide_eq_true hlt
  unfold requestOfRound
  rw [hd, hrecent]
  rcases hk with hk | hk <;> rw [hk] <;> rfl

theorem requestOfRound_stat {now : Nat} {k : Link} (hk : k.state = .active ∨ k.state = .degraded)
    (h : waitingDiag k = none ∨ ∀ t, k.lastGood = some t → t + 2000 ≤ now) : requestOfRound now k = .stat := by
  unfold requestOfRound
  cases hw : waitingDiag k with
  | none => rcases hk with hk | hk <;> rw [hk]
  | some d =>
    have hold := h.resolve_left (by rw [hw]; simp)
    have hrecent : statRecent now k = false := by
      unfold statRecent
      cases hl : k.lastGood with
      | none => rfl
      | some t => exact decide_eq_false (Nat.not_lt.mpr (hold t hl))
    rw [hrecent]
    rcases hk with hk | hk <;> rw [hk] <;> rfl

/-! ### CAP data -/

theorem capFlags_eq (g l : Bool) (n : Bool) : capFlags g n l =
    byte ((if g = true then 1 else 0) + (if n = true then 2 else 0) + if l = true then 4 else 0) := by
  cases g <;> cases n <;> cases l <;> rfl

theorem linkOverrides_iff (k : Link) : linkOverrides k = true ↔ k.state = .start ∨ k.state = .lost := by
  simp [linkOverrides]

theorem takesCoilTarget_iff (k : Link) : takesCoilTarget k = true ↔ ∃ i, k.info = some i ∧ 2 ≤ i.level := by
  unfold takesCoilTarget
  cases k.info <;> simp

theorem noticeFlag_iff (s : State) : noticeFlag s = true ↔ s.op.notice = true ∨ s.op.state = .resting := by
  simp [noticeFlag]

/-- The data of a CAP after the coil target. -/
theorem capData_drop (s : State) : (capData s).drop 4 =
    optTemp s.prot.coil ++
      [byte ((if s.seq.grantSent then 1 else 0) + (if s.op.notice ∨ s.op.state = .resting then 2 else 0) +
        if s.prot.lockout then 4 else 0)] := by
  obtain ⟨x, y, hxy⟩ := List.length_eq_two.mp (optTemp_length (sentCoilTarget s))
  unfold capData
  rw [hxy, capFlags_eq]
  simp only [noticeFlag_iff]
  rfl

/-- In START and LOST the data of a CAP command STOP. -/
theorem capData_overridden {s : State} (h : linkOverrides s.link = true) : (capData s).take 4 = [0, 0, 0x7F, 0xFF] := by
  simp [capData, sentMode, sentCapacity, sentCoilTarget, h, capModeCode, optTemp, byte]

/-- In the other states the data of a CAP are what is commanded. -/
theorem capData_commanded {s : State} (h : linkOverrides s.link = false) :
    (capData s).take 2 = [byte (capModeCode (capModeOf s)), byte (commanded s)] ∧
      (capData s).extract 2 4 =
        if ∃ i, s.link.info = some i ∧ 2 ≤ i.level then optTemp (s.seq.release.bind Release.coilTarget) else [0x7F, 0xFF] := by
  have htarget : optTemp (sentCoilTarget s) =
      if ∃ i, s.link.info = some i ∧ 2 ≤ i.level then optTemp (s.seq.release.bind Release.coilTarget) else [0x7F, 0xFF] := by
    by_cases ht : ∃ i, s.link.info = some i ∧ 2 ≤ i.level
    · rw [if_pos ht]
      simp [sentCoilTarget, h, (takesCoilTarget_iff s.link).mpr ht]
    · have hf : takesCoilTarget s.link = false := by rw [← Bool.not_eq_true, takesCoilTarget_iff]; exact ht
      rw [if_neg ht]
      simp [sentCoilTarget, h, hf, optTemp]
  refine ⟨by simp [capData, sentMode, sentCapacity, h], ?_⟩
  rw [← htarget]
  obtain ⟨x, y, hxy⟩ := List.length_eq_two.mp (optTemp_length (sentCoilTarget s))
  unfold capData
  rw [hxy]
  rfl

theorem wantedOf_bounds (r : Option Release) {limit : Nat} (h : limit ≤ 100) :
    wantedOf r limit = 0 ∨ 20 ≤ wantedOf r limit ∧ wantedOf r limit ≤ 100 := by
  unfold wantedOf
  cases r with
  | none => exact .inl rfl
  | some r =>
    dsimp only
    split
    · exact .inl rfl
    · omega

theorem commanded_bounds {s : State} (h : s.prot.limit ≤ 100) : commanded s = 0 ∨ 20 ≤ commanded s ∧ commanded s ≤ 100 := by
  have hw : wanted s = 0 ∨ 20 ≤ wanted s ∧ wanted s ≤ 100 := wantedOf_bounds _ h
  unfold commanded
  cases s.seq.state <;> dsimp only <;> (try split) <;> omega

/-- Settles O51, by what begins on a quiet line: the round with its CAP, its request frame, and SLOW's diagnostic. -/
theorem linkFramesBegin : Obligations.LinkFramesBegin := by
  unfold Obligations.LinkFramesBegin
  intro s hlow k frame diagFrame round overridden
  have hq : lineQuiet s = true := lineQuiet_of hlow
  refine ⟨⟨requestOfRound s.now k, slowCarries k, ?_, ?_, ?_, ?_, ?_, ?_⟩, ?_, ?_, ?_, ?_, ?_,
    ?_, ?_⟩
  · intro hdue
    refine (congrArg Host.Outcome.next (if_pos hdue)).trans (congrArg Host.Outcome.next ?_)
    rw [withBreak_quiet hq, beginRound_quiet hq, roundBegun_eq]
    rfl
  · intro hwake hframe hwindow
    have hdue : wakeRoundDue s = true := by
      simp [wakeRoundDue, linkFree, show s.link.wakeRound = true from hwake, show s.link.frame = none from hframe,
        show s.link.windowEnd ≤ s.now from hwindow]
    refine (congrArg Host.Outcome.next (if_pos hdue)).trans (congrArg Host.Outcome.next ?_)
    rw [withBreak_quiet hq, beginRound_quiet hq, roundBegun_eq]
    rfl
  · simp [slowCarries, k, Option.isSome_iff_exists, waitingDiag_eq_some_iff]
  · intro h; unfold requestOfRound; rw [h]
  · rintro (h | h) <;> (unfold requestOfRound; rw [h])
  · intro h
    refine ⟨fun d t hd hb ht hlt => ?_, fun hno => requestOfRound_stat h (hno.imp_left (waitingDiag_eq_none_iff k).mpr)⟩
    exact requestOfRound_recent h ((waitingDiag_eq_some_iff k d).mpr ⟨hd, hb⟩) ht hlt
  · intro r hr hb ht hf started plain
    obtain ⟨hinfo, hstat, hdiag⟩ := beginRequest_quiet hq r
    have hexec := exec_requestStart hq hr hb ht hf
    refine ⟨fun h => hexec.trans (congrArg _ (hinfo h)), fun h => hexec.trans (congrArg _ (hstat h)), fun h => ⟨fun d hd hb hc => ?_, fun hn => ?_⟩⟩
    · exact hexec.trans (congrArg _ ((hdiag h).2 d (chosenDiag_eq_some hd hb hc)))
    · exact hexec.trans (congrArg _ ((hdiag h).1 (chosenDiag_eq_none hn)))
  · intro r hr hb ht hf taken
    have hexec := exec_slowDiagStart hq hr hb ht hf
    obtain ⟨hnone, hsome⟩ := beginSlowDiag_quiet hq r
    exact ⟨fun d hd hb hc => hexec.trans (congrArg _ (hsome d (chosenDiag_eq_some hd hb hc))), fun hn =>
      hexec.trans (congrArg _ (hnone (chosenDiag_eq_none hn)))⟩
  · simp [capData]
  · exact capData_drop s
  · exact fun h => capData_overridden ((linkOverrides_iff _).mpr h)
  · intro h
    have hno : linkOverrides s.link = false := by rw [← Bool.not_eq_true, linkOverrides_iff]; exact h
    exact capData_commanded hno
  · exact fun h => commanded_bounds h.1

end Sys2Proof.Machine
end

section
/-! Exchanges of the link that fail, frames that collide, and a link that is lost (08 R123 to R131, R134; 09 R145). -/

namespace Sys2Proof.Machine

/-! ### What ends now on the line -/

theorem linkBytesMs_injective {a b : Nat} (h : linkBytesMs a = linkBytesMs b) : a = b := by
  unfold linkBytesMs at h
  omega

/-- The byte that ends now is found. -/
theorem endingByte_eq {now : Nat} {f : LinkFrame} {n : Nat} (hn : n < f.bytes.length)
    (he : now + 55 * (f.bytes.length - 1 - n) / 48 = f.sentBy) : endingByte now f = some n := by
  unfold endingByte
  rw [List.find?_eq_some_iff_append]
  refine ⟨decide_eq_true he, List.range n, (List.range (f.bytes.length - (n + 1))).map (n + 1 + ·), ?_, fun m hm => ?_⟩
  · have hsplit := List.range_add (n := n + 1) (m := f.bytes.length - (n + 1))
    rw [Nat.add_sub_cancel' hn, List.range_succ, List.append_assoc] at hsplit
    exact hsplit
  · have hlt := List.mem_range.mp hm
    rw [Bool.not_eq_true', decide_eq_false_iff_not]
    intro h
    have heq := linkBytesMs_injective (Nat.add_left_cancel (h.trans he.symm))
    omega

theorem endingByte_ends {now : Nat} {f : LinkFrame} {n : Nat} (h : endingByte now f = some n) :
    n < f.bytes.length ∧ now + 55 * (f.bytes.length - 1 - n) / 48 = f.sentBy :=
  ⟨List.mem_range.mp (List.mem_of_find?_eq_some h), by
    have hp := List.find?_some (p := fun n => decide (now + linkBytesMs (f.bytes.length - 1 - n) = f.sentBy)) h
    exact of_decide_eq_true hp⟩

theorem readsOtherwise_false {s : State} {f : LinkFrame} (h : ReadsBack s f) : readsOtherwise s f = false := by
  unfold readsOtherwise
  cases he : endingByte s.now f with
  | none => rfl
  | some n =>
    obtain ⟨hn, hends⟩ := endingByte_ends he
    exact differsAt_sent (List.getElem?_eq_getElem hn) (h n _ (List.getElem?_eq_getElem hn) hends)

theorem readsOtherwise_true {s : State} {f : LinkFrame} {n : Nat} {b : Byte} (hb : f.bytes[n]? = some b) (he : ByteEnds s f n)
    (hd : readBits s.link.readBack ≠ sentBits b) : readsOtherwise s f = true := by
  have hn : n < f.bytes.length := (List.getElem?_eq_some_iff.mp hb).1
  unfold readsOtherwise
  rw [endingByte_eq hn he]
  simp [differsAt, hb, hd]

theorem sentFrame_some {s : State} {f : LinkFrame} (hf : s.link.frame = some f) (hs : f.sentBy ≤ s.now) (hr : ReadsBack s f) :
    sentFrame s = some f := by
  simp [sentFrame, hf, hs, readsOtherwise_false hr]

theorem sentFrame_differs {s : State} {f : LinkFrame} (hf : s.link.frame = some f) (hr : ¬ReadsBack s f) : sentFrame s = none := by
  unfold ReadsBack at hr
  push Not at hr
  obtain ⟨n, b, hb, he, hd⟩ := hr
  simp [sentFrame, hf, readsOtherwise_true hb he hd]

theorem windowFrame_some {s : State} {f : LinkFrame} (hf : s.link.frame = some f) (hw : WindowOpen s f) :
    windowFrame s f.kind = some f := by
  obtain ⟨hs, hr, hle⟩ := hw
  simp [windowFrame, sentFrame_some hf hs hr, hle]

theorem awaitingResponse_some {s : State} {f : LinkFrame} (hf : s.link.frame = some f) (hs : f.sentBy ≤ s.now)
    (hr : ReadsBack s f) (hk : f.kind.isRequest = true) : awaitingResponse s = some f := by
  simp [awaitingResponse, sentFrame_some hf hs hr, hk]

theorem FrameKind.isRequest_of {k : FrameKind} (h : k = .stat ∨ k = .info ∨ k = .diagRead) : k.isRequest = true := by
  rcases h with rfl | rfl | rfl <;> rfl

theorem driven_sent {s : State} {f : LinkFrame} (hf : s.link.frame = some f) (hs : f.sentBy ≤ s.now) :
    s.link.driven s.now = false := by
  simp [Link.driven, hf, hs]

theorem noteLow_sent {s : State} {f : LinkFrame} (hf : s.link.frame = some f) (hs : f.sentBy ≤ s.now) :
    noteLow s = { s with link := { s.link with lowAt := some s.now } } := by
  unfold noteLow Link.heardLow
  rw [driven_sent hf hs]
  rfl

/-- The frame of a request ends once its header has been sent: its link is judged. -/
theorem endFrame_judged {s : State} {f : LinkFrame} {k : Link} (hf : k.frame = some f) (hk : f.kind.isRequest = true) :
    endFrame { s with link := k } = { s with link := { k with frame := none, collisions := 0, windowEnd := f.sentBy + 40 } } := by
  have hc : k.closing = f.sentBy + 40 := by simp [Link.closing, hf, hk]
  unfold endFrame
  dsimp only
  rw [hc]

/-! ### Failures -/

/-- What the failure of an exchange leaves: the link counted, the early pass of a changed link state, and the port. -/
structure Failed (s : State) (k : Link) (frame : FrameKind) (kind : FailureKind) (t : State) : Prop where
  outcome : ∃ p, t = { s with
    link := failedLink k frame kind
    eval := { s.eval with early := s.eval.early || decide ((failedLink k frame kind).state ≠ s.link.state) }, port := p } ∧
    (∀ d, frame = .diagRead ∨ frame = .diagCommand → k.diag = some d →
      p = s.port.raise s.now (.diagResult d.kind .noResponse (some kind) [])) ∧
    (frame = .cap ∨ frame = .info → p = s.port)

theorem early_same (e : Evaluator) (x : LinkState) : { e with early := e.early || decide (x ≠ x) } = e := by simp

theorem statFailed_failed (s : State) (k : Link) (kind : FailureKind) (hk : k.state = s.link.state) :
    Failed s k .stat kind (statFailed kind { s with link := { k with frame := none } }) := by
  have hport : ∀ p, (∀ d, FrameKind.stat = .diagRead ∨ FrameKind.stat = .diagCommand → k.diag = some d →
      p = s.port.raise s.now (.diagResult d.kind .noResponse (some kind) [])) ∧
      (FrameKind.stat = .cap ∨ FrameKind.stat = .info → p = s.port) :=
    fun p => ⟨fun d h => h.elim (fun h => nomatch h) (fun h => nomatch h), fun h => h.elim (fun h => nomatch h) (fun h => nomatch h)⟩
  by_cases hlost : k.state = .lost
  · have hl : failedLink k .stat kind = { k with frame := none, lastFailure := some kind } := if_pos hlost
    refine ⟨s.port, ?_, hport _⟩
    unfold statFailed noteFailure
    dsimp only
    rw [if_pos hlost, hl]
    dsimp only
    rw [hk, early_same]
  · by_cases hthird : k.state = .active ∧ 2 ≤ k.statFailures
    · have hn : min 3 (k.statFailures + 1) = 3 := by omega
      have hl : failedLink k .stat kind =
          { k with frame := none, lastFailure := some kind, statFailures := 3, state := .degraded } := by
        unfold failedLink
        dsimp only
        rw [if_neg hlost, if_pos hthird, hn]
      refine ⟨s.port.raise s.now (.link .degraded .active .statFailures (some kind)), ?_, hport _⟩
      unfold statFailed noteFailure
      dsimp only
      rw [if_neg hlost, hn, if_pos ⟨hthird.1, rfl⟩, hl, ← hk, hthird.1]
      simp only [ne_eq, reduceCtorEq, not_false_eq_true, decide_true, Bool.or_true]
      rfl
    · have hno : ¬(k.state = .active ∧ min 3 (k.statFailures + 1) = 3) := fun h => hthird ⟨h.1, by omega⟩
      have hl : failedLink k .stat kind =
          { k with frame := none, lastFailure := some kind, statFailures := min 3 (k.statFailures + 1) } := by
        unfold failedLink
        dsimp only
        rw [if_neg hlost, if_neg hthird]
      refine ⟨s.port, ?_, hport _⟩
      unfold statFailed noteFailure
      dsimp only
      rw [if_neg hlost, if_neg hno, hl]
      dsimp only
      rw [hk, early_same]

/-- The diagnostic of the slot, where there is one, ends with its result. -/
theorem endDiag_slot (s : State) (v : Link) (d : Option Diagnostic) (outcome : DiagOutcome) (failure : Option FailureKind)
    (data : List Byte) (hv : v.diag = none) :
    endDiag outcome failure data { s with link := { v with diag := d } } =
      { s with
        link := v
        port := match d with | some d => s.port.raise s.now (.diagResult d.kind outcome failure data) | none => s.port } := by
  have hv' : { v with diag := none } = v := by rw [← hv]
  cases d with
  | none =>
    show ({ s with link := { v with diag := none } } : State) = _
    rw [hv']
  | some d =>
    show ({ s with
      link := { v with diag := none }, port := s.port.raise s.now (.diagResult d.kind outcome failure data) } : State) = _
    rw [hv']

theorem diagFailed (s : State) (k : Link) (frame : FrameKind) (kind : FailureKind) (hk : k.state = s.link.state)
    (hf : frame = .diagRead ∨ frame = .diagCommand) :
    Failed s k frame kind
      (endDiag .noResponse (some kind) [] { s with link := { failedLink k frame kind with diag := k.diag } }) := by
  have hnone : (failedLink k frame kind).diag = none := by rcases hf with rfl | rfl <;> rfl
  have hstate : (failedLink k frame kind).state = s.link.state := by rcases hf with rfl | rfl <;> exact hk
  refine ⟨_, (endDiag_slot s _ k.diag _ _ _ hnone).trans (by rw [hstate, early_same]), fun d _ hd => by rw [hd], fun h => ?_⟩
  rcases hf with rfl | rfl <;> exact h.elim (fun h => nomatch h) (fun h => nomatch h)

/-- The exchange of a frame fails. -/
theorem exchangeFailed_failed (s : State) (k : Link) (frame : FrameKind) (kind : FailureKind) (hk : k.state = s.link.state) :
    Failed s k frame kind (exchangeFailed frame kind { s with link := { k with frame := none } }) := by
  have hplain : frame = .cap ∨ frame = .info →
      Failed s k frame kind { s with link := failedLink k frame kind } := fun h => by
    have hstate : (failedLink k frame kind).state = s.link.state := by rcases h with rfl | rfl <;> exact hk
    refine ⟨s.port, by rw [hstate, early_same], fun d hd => ?_, fun _ => rfl⟩
    rcases h with rfl | rfl <;> exact hd.elim (fun h => nomatch h) (fun h => nomatch h)
  cases frame with
  | cap => exact hplain (.inl rfl)
  | info => exact hplain (.inr rfl)
  | stat => exact statFailed_failed s k kind hk
  | diagRead => exact diagFailed s k .diagRead kind hk (.inl rfl)
  | diagCommand => exact diagFailed s k .diagCommand kind hk (.inr rfl)

/-- In a calm state a command that changes the link ends with no consequence. -/
theorem finish_linkChanged {s : State} (h : Calm s) {k : Link} (hk : k.wakeRound = false) (early : Bool) (p : Port) :
    finish { s with link := k, eval := { s.eval with early := early }, port := p } =
      sync { s with link := k, eval := { s.eval with early := early }, port := p } := by
  obtain ⟨⟨htodo, hphase, hinc, hheld, hop, htest, -, hpass⟩, hqueue, hseq⟩ := h
  exact finish_calm ⟨⟨htodo, hphase, hinc, hheld, hop, htest, wakeRoundDue_none hk, hpass⟩, hqueue, hseq⟩

theorem failedLink_wakeRound (k : Link) (frame : FrameKind) (kind : FailureKind) :
    (failedLink k frame kind).wakeRound = k.wakeRound := by
  unfold failedLink
  cases frame with
  | stat => dsimp only; split <;> rfl
  | _ => rfl

/-- What a failed exchange answers in a calm state. -/
structure Fails (s : State) (k : Link) (frame : FrameKind) (kind : FailureKind) (t : State) : Prop where
  link : t.link = failedLink k frame kind
  eval : t.eval = { s.eval with early := s.eval.early || decide (t.link.state ≠ s.link.state) }
  diag : ∀ d, frame = .diagRead ∨ frame = .diagCommand → k.diag = some d →
    t.port = s.port.raise s.now (.diagResult d.kind .noResponse (some kind) [])
  port : frame = .cap ∨ frame = .info → t.port = s.port
  rest : ({ t with link := s.link, eval := s.eval, port := s.port } : State).timeless = s.timeless

theorem Failed.sync {s : State} {k : Link} {frame : FrameKind} {kind : FailureKind} {t : State} (h : Failed s k frame kind t) :
    Fails s k frame kind (sync t) := by
  obtain ⟨p, rfl, hdiag, hport⟩ := h.outcome
  refine ⟨sync_link _, by rw [sync_link]; exact sync_eval _, fun d hf hd => (sync_port _).trans (hdiag d hf hd),
    fun hf => (sync_port _).trans (hport hf), ?_⟩
  have hframe := congrArg (fun y : State => ({ y with link := s.link, eval := s.eval, port := s.port } : State)) (timeless_sync
    { s with
      link := failedLink k frame kind
      eval := { s.eval with early := s.eval.early || decide ((failedLink k frame kind).state ≠ s.link.state) }, port := p })
  exact hframe

theorem Failed.finish {s : State} {k : Link} {frame : FrameKind} {kind : FailureKind} {t : State} (h : Failed s k frame kind t)
    (hc : Calm s) (hk : k.wakeRound = false) : Fails s k frame kind (finish t) := by
  have hs := h.sync
  obtain ⟨p, rfl, -⟩ := h.outcome
  rw [finish_linkChanged hc ((failedLink_wakeRound _ _ _).trans hk)]
  exact hs

theorem Failed.here {s : State} {k : Link} {frame : FrameKind} {kind : FailureKind} {t : State} (h : Failed s k frame kind t) :
    Fails s k frame kind t := by
  obtain ⟨p, rfl, hdiag, hport⟩ := h.outcome
  exact ⟨rfl, rfl, hdiag, hport, rfl⟩

/-! ### The ways an exchange fails -/

theorem takeBytes_sent {s : State} {f : LinkFrame} (hf : s.link.frame = some f) (hs : f.sentBy ≤ s.now) (bytes : List Byte) :
    takeBytes f bytes s =
      { s with link :=
        { s.link with
          frame := some { f with arrived := f.arrived ++ bytes }
          lowAt := if bytes = [] then s.link.lowAt else some s.now } } := by
  unfold takeBytes
  by_cases h : bytes = []
  · rw [if_pos h, if_pos h]
  · rw [if_neg h, if_neg h, noteLow_sent hf hs]

/-- A request frame whose response is judged with the bytes that arrive. -/
theorem endFrame_takeBytes {s : State} {f : LinkFrame} (hf : s.link.frame = some f) (hs : f.sentBy ≤ s.now)
    (hk : f.kind.isRequest = true) (bytes : List Byte) :
    endFrame (takeBytes f bytes s) = { s with link := { judgedLink s f (decide (bytes ≠ [])) with frame := none } } := by
  rw [takeBytes_sent hf hs, endFrame_judged (f := { f with arrived := f.arrived ++ bytes }) rfl hk]
  unfold judgedLink
  simp only [decide_eq_true_eq, ne_eq, ite_not]

theorem endFrame_sent {s : State} {f : LinkFrame} (hf : s.link.frame = some f) (hk : f.kind.isRequest = true) :
    endFrame s = { s with link := { judgedLink s f false with frame := none } } := endFrame_judged hf hk

theorem endFrame_noteLow {s : State} {f : LinkFrame} (hf : s.link.frame = some f) (hs : f.sentBy ≤ s.now)
    (hk : f.kind.isRequest = true) : endFrame (noteLow s) = { s with link := { judgedLink s f true with frame := none } } := by
  rw [noteLow_sent hf hs]
  exact endFrame_judged (k := { s.link with lowAt := some s.now }) hf hk

theorem closedWindow_some {s : State} {f : LinkFrame} (hf : s.link.frame = some f) (hk : f.kind.isRequest = true)
    (h : f.sentBy + 40 ≤ s.now) : closedWindow s = some f := by
  have hback : ReadsBack s f := fun n b _ he => by
    have : s.now + 55 * (f.bytes.length - 1 - n) / 48 = f.sentBy := he
    omega
  simp [closedWindow, awaitingResponse_some hf (by omega) hback hk, h]

theorem exec_windowClose {s : State} {f : LinkFrame} (hf : s.link.frame = some f) (hk : f.kind.isRequest = true)
    (h : f.sentBy + 40 ≤ s.now) (n : Nat) : exec (.responseWindowClose n) s = .next (finish (windowClosed f n s)) := by
  show execResponseWindowClose n s = _
  unfold execResponseWindowClose
  rw [closedWindow_some hf hk h]

theorem collidedFrame_some {s : State} {f : LinkFrame} (hf : s.link.frame = some f) {n : Nat} {b : Byte} (hb : f.bytes[n]? = some b)
    (he : ByteEnds s f n) (hd : readBits s.link.readBack ≠ sentBits b) : collidedFrame s = some f := by
  simp [collidedFrame, hf, readsOtherwise_true hb he hd]

theorem collisionsNow_sending {s : State} {f : LinkFrame} (hf : s.link.frame = some f) (h : s.now ≤ f.sentBy) :
    s.link.collisionsNow s.now = s.link.collisions := by
  simp [Link.collisionsNow, hf, Nat.not_lt.mpr h]

/-- A collision that is not the fifth, or finds the link in START or LOST. -/
theorem abandonFrame_counted {s : State} {kind : FrameKind} {n : Nat} (hn : s.link.collisionsNow s.now = n)
    (h : min 5 (n + 1) < 5 ∨ s.link.state = .start ∨ s.link.state = .lost) :
    Failed s { s.link with collisions := min 5 (n + 1) } kind .collision (abandonFrame kind s) := by
  have hfail := exchangeFailed_failed s { s.link with collisions := min 5 (n + 1) } kind .collision rfl
  have hstate : s.link.state = .start ∨ s.link.state = .lost →
      ageLimit (exchangeFailed kind .collision { s with link :=
        { s.link with frame := none, collisions := min 5 (n + 1) } }).link.state = none := fun h => by
    obtain ⟨p, heq, -⟩ := hfail.outcome
    have hl : (exchangeFailed kind .collision { s with link :=
        { s.link with frame := none, collisions := min 5 (n + 1) } }).link.state =
        (failedLink { s.link with collisions := min 5 (n + 1) } kind .collision).state := congrArg (fun t => t.link.state) heq
    rw [hl]
    have hsame : (failedLink { s.link with collisions := min 5 (n + 1) } kind .collision).state = s.link.state := by
      unfold failedLink
      cases kind with
      | stat =>
        dsimp only
        split
        · rfl
        · exact if_neg fun hact => by rcases h with h | h <;> exact nomatch h.symm.trans hact.1
      | _ => rfl
    rw [hsame]
    rcases h with h | h <;> rw [h] <;> rfl
  unfold abandonFrame
  rw [hn]
  dsimp only
  rw [if_neg]
  · exact hfail
  · rintro ⟨h5, hage⟩
    rcases h with h | h
    · omega
    · exact hage (hstate h)

/-- Each way an exchange fails. -/
theorem failingExchange_fails {s : State} {c : Instr} {f : LinkFrame} {kind : FailureKind} {k : Link} (hcalm : Calm s)
    (hf : s.link.frame = some f) (hwake : s.link.wakeRound = false) (h : FailingExchange s c f kind k)
    (hcount : k.collisions < 5 ∨ s.link.state = .start ∨ s.link.state = .lost) :
    ∃ t, exec c s = .next t ∧ Fails s k f.kind kind t := by
  cases h with
  | collision _ n b hb he hd =>
    have hends : s.now + 55 * (f.bytes.length - 1 - n) / 48 = f.sentBy := he
    have hfailed := abandonFrame_counted (kind := f.kind) (collisionsNow_sending hf (by omega)) hcount
    refine ⟨_, ?_, hfailed.finish hcalm hwake⟩
    show execLinkCollision s = _
    unfold execLinkCollision
    rw [collidedFrame_some hf hb he hd]
  | silence _ hk hclosed harr =>
    have hreq := FrameKind.isRequest_of hk
    have heq : windowClosed f 0 s =
        exchangeFailed f.kind .noResponse { s with link := { judgedLink s f false with frame := none } } := by
      unfold windowClosed
      dsimp only
      rw [if_pos rfl, if_pos ⟨harr, rfl⟩, endFrame_sent hf hreq]
    refine ⟨_, exec_windowClose hf hreq hclosed 0, ?_⟩
    rw [heq]
    exact (exchangeFailed_failed s (judgedLink s f false) f.kind .noResponse rfl).finish hcalm hwake
  | short _ n hk hclosed hsome =>
    have hreq := FrameKind.isRequest_of hk
    have heq : windowClosed f n s =
        exchangeFailed f.kind .shortLength { s with link := { judgedLink s f (decide (n ≠ 0)) with frame := none } } := by
      unfold windowClosed
      dsimp only
      have hno : ¬(f.arrived = [] ∧ n = 0) := fun ⟨ha, hn⟩ => hsome.elim (fun h => h ha) fun h => h hn
      rw [if_neg hno]
      by_cases hn : n = 0
      · rw [if_pos hn, endFrame_sent hf hreq, hn]
        rfl
      · rw [if_neg hn, endFrame_noteLow hf (by omega) hreq, decide_eq_true hn]
    refine ⟨_, exec_windowClose hf hreq hclosed n, ?_⟩
    rw [heq]
    exact (exchangeFailed_failed s (judgedLink s f (decide (n ≠ 0))) f.kind .shortLength rfl).finish hcalm hwake
  | byte _ samples _ hk hopen hbyte =>
    obtain ⟨hs, hr, hle⟩ := hopen
    have hreq := FrameKind.isRequest_of hk
    refine ⟨_, ?_, (exchangeFailed_failed s (judgedLink s f true) f.kind kind rfl).finish hcalm hwake⟩
    show execLinkByteError samples s = _
    unfold execLinkByteError
    rw [awaitingResponse_some hf hs hr hreq, hbyte]
    dsimp only
    rw [if_pos hle, endFrame_noteLow hf hs hreq]
  | stat _ bytes hk hopen hlen hbad =>
    have hwin := windowFrame_some hf hopen
    have hreq : f.kind.isRequest = true := by rw [hk]; rfl
    have hfailed := (exchangeFailed_failed s (judgedLink s f (decide (bytes ≠ []))) .stat .check rfl).finish hcalm hwake
    rw [← endFrame_takeBytes hf hopen.1 hreq bytes] at hfailed
    rw [hk] at hwin ⊢
    refine ⟨_, ?_, hfailed⟩
    show execStatResponse bytes s = _
    unfold execStatResponse
    rw [hwin]
    dsimp only
    rw [if_neg (Nat.not_lt.mpr hlen)]
    unfold statArrived
    rw [show (goodData statKind 10 (f.arrived ++ bytes)).bind statOf = none from hbad]
  | info _ bytes hk hopen hlen hbad =>
    have hwin := windowFrame_some hf hopen
    have hreq : f.kind.isRequest = true := by rw [hk]; rfl
    have hfailed := (exchangeFailed_failed s (judgedLink s f (decide (bytes ≠ []))) .info .check rfl).finish hcalm hwake
    rw [← endFrame_takeBytes hf hopen.1 hreq bytes] at hfailed
    rw [hk] at hwin ⊢
    refine ⟨_, ?_, hfailed⟩
    show execInfoResponse bytes s = _
    unfold execInfoResponse
    rw [hwin]
    dsimp only
    rw [if_neg (Nat.not_lt.mpr hlen)]
    unfold infoArrived
    rw [show (goodData infoKind 3 (f.arrived ++ bytes)).bind infoOf = none from hbad]
  | diag _ bytes d hk hopen hdiag hlen hbad =>
    have hwin := windowFrame_some hf hopen
    have hreq : f.kind.isRequest = true := by rw [hk]; rfl
    have hfailed := (exchangeFailed_failed s (judgedLink s f (decide (bytes ≠ []))) .diagRead .check rfl).here
    rw [← endFrame_takeBytes hf hopen.1 hreq bytes] at hfailed
    rw [hk] at hwin ⊢
    refine ⟨_, ?_, hfailed⟩
    show execDiagReadResponse bytes s = _
    unfold execDiagReadResponse
    rw [hwin, hdiag]
    dsimp only
    rw [if_neg (Nat.not_lt.mpr hlen)]
    unfold diagArrived
    rw [hbad]

end Sys2Proof.Machine
end

section
/-! A link that is lost, and the failures of the link as its rows answer them (08 R124, R130, R131; 09 R138, R145, R149). -/

namespace Sys2Proof.Machine

/-! ### A lost link -/

/-- Outside RESTING a wake event only withdraws a notice. -/
theorem wakeEvent_notResting {s : State} (h : s.op.state ≠ .resting) : ∃ a b c d, wakeEvent s =
    { s with op := { s.op with idleFrom := a, idleDone := b, notice := c, noticeFrom := d } } := by
  unfold wakeEvent
  rw [if_neg h]
  split
  next => exact ⟨_, _, _, _, rfl⟩
  next => exact ⟨s.op.idleFrom, s.op.idleDone, s.op.notice, s.op.noticeFrom, rfl⟩

theorem opOf_ne_resting (r : OpRequest) : opOf r ≠ .resting := by cases r <;> decide

/-- A wake event in RESTING with a link that is not SLOW. -/
theorem wakeEvent_resting {s : State} (h : s.op.state = .resting) (hslow : s.link.state ≠ .slow) : ∃ a b n p, wakeEvent s =
    { s with
      op := { s.op with state := opOf s.op.request, idleFrom := a, idleDone := b }, sens := n
      eval := { s.eval with early := true }, port := p } := by
  have hne : opOf s.op.request ≠ s.op.state := by rw [h]; exact opOf_ne_resting _
  have hleave : ∀ t : State, t.link.state ≠ .slow → leaveResting t = restartSweep t := fun t ht => by
    unfold leaveResting wakeLink
    rw [if_neg ht]
  unfold wakeEvent wake changeOp
  rw [if_pos h]
  dsimp only
  rw [if_neg hne, if_pos h, hleave]
  · exact ⟨_, _, _, _, rfl⟩
  · exact hslow

/-- What a lost link makes of the sequencer's record, by its state. -/
structure SeqLost (s : State) (q : Sequencer) : Prop where
  minOff : q.minOffFrom = s.now
  state : q.state = if s.seq.state = .running ∨ s.seq.state = .stopWait then restState s
    else if s.seq.state.defrosting then .defrostRecovery else s.seq.state
  stopped : s.seq.state = .running ∨ s.seq.state = .stopWait → q.runStart = none
  recovery : s.seq.state.defrosting = true → q.takenStopped = true ∧ q.recoveryFrom = some s.now ∧ q.grantSent = false
  release : q.release = s.seq.release

theorem takeStopped_eq {s : State} (h : s.blower.coldBlow = false) : ∃ a b q, takeStopped s =
    { s with arb := a, blower := b, seq := q } ∧ q.takenStopped = true ∧ q.state = s.seq.state ∧ q.release = s.seq.release ∧
      (s.seq.takenStopped = false → q.minOffFrom = s.now) ∧ (s.seq.takenStopped = true → q = s.seq ∧ a = s.arb) ∧
        a = { s.arb with restStart := a.restStart } := by
  unfold takeStopped
  split
  next ht => exact ⟨s.arb, s.blower, s.seq, rfl, ht, rfl, rfl, fun hf => (nomatch hf.symm.trans ht), fun _ => ⟨rfl, rfl⟩, rfl⟩
  next ht =>
    rw [stopReport_eq h]
    refine ⟨_, _, _, rfl, rfl, rfl, rfl, fun _ => rfl, fun hf => absurd hf ht, ?_⟩
    dsimp only
    split <;> rfl

theorem coilWarm_false {s : State} (h : ∀ x, s.prot.coil = some x → x < 300) : coilWarm s = false := by
  unfold coilWarm
  cases hc : s.prot.coil with
  | none => rfl
  | some x => exact decide_eq_false (Int.not_le.mpr (h x hc))

/-- DEFROST_RECOVERY entered with a coil that is not warm. -/
theorem enterRecovery_cold {s : State} (h : coilWarm s = false) (cause : DefrostCause) :
    enterRecovery cause s = raise (.defrost .recovery cause none)
      { s with seq :=
        { s.seq with state := .defrostRecovery, grantSent := false, defrostFrom := none, recoveryFrom := some s.now } } := by
  have hw : coilWarm (raise (.defrost .recovery cause none)
      { s with seq :=
        { s.seq with
          state := .defrostRecovery, grantSent := false, defrostFrom := none, recoveryFrom := some s.now } }) = false := h
  unfold enterRecovery
  dsimp only
  rw [hw]
  rfl

/-- What a lost link makes of the sequencer, with no cold-blow hold and outside a recovery that a warm coil would end. -/
theorem seqLinkLost_eq {s : State} (hcold : s.blower.coldBlow = false) (hrec : s.seq.state ≠ .defrostRecovery)
    (hcoil : s.seq.state.defrosting = true → coilWarm s = false) :
    ∃ a b q p, seqLinkLost s = { s with arb := a, blower := b, seq := q, port := p } ∧ SeqLost s q := by
  have hstopped : s.seq.state = .running ∨ s.seq.state = .stopWait →
      ∃ a b q, (fun s => seqRest (restState s) s) (stopReport (restartMinOff s)) = { s with arb := a, blower := b, seq := q } ∧
        SeqLost s q := fun h => by
    rw [stopReport_eq (s := restartMinOff s) hcold]
    refine ⟨_, _, _, rfl, rfl, (if_pos h).symm, fun _ => rfl, fun hd => ?_, rfl⟩
    rcases h with h | h <;> (rw [h] at hd; exact nomatch hd)
  have hdefrost : s.seq.state.defrosting = true →
      ∃ a b q p, interruptDefrost .linkLost (restartMinOff s) = { s with arb := a, blower := b, seq := q, port := p } ∧
        SeqLost s q := fun h => by
    obtain ⟨a, b, q, heq, htaken, hstate, hrelease, hmin, hsame, -⟩ := takeStopped_eq (s := restartMinOff s) hcold
    have hqmin : q.minOffFrom = s.now := by
      cases ht : s.seq.takenStopped with
      | false => exact hmin ht
      | true => rw [(hsame ht).1]; rfl
    have hno : ¬(s.seq.state = .running ∨ s.seq.state = .stopWait) := fun hr => by
      rcases hr with hr | hr <;> (rw [hr] at h; exact nomatch h)
    have hnrec : ¬q.state = .defrostRecovery := by rw [hstate]; exact hrec
    refine ⟨a, b, { q with state := .defrostRecovery, grantSent := false, defrostFrom := none, recoveryFrom := some s.now },
      s.port.raise s.now (.defrost .recovery .linkLost none), ?_, hqmin, ?_, fun hr => absurd hr hno, fun _ => ⟨htaken, rfl, rfl⟩, hrelease⟩
    · unfold interruptDefrost
      dsimp only
      rw [heq, if_neg hnrec]
      exact enterRecovery_cold (s := { s with arb := a, blower := b, seq := q }) (hcoil h) .linkLost
    · rw [if_neg hno, if_pos h]
  have hother : s.seq.state.defrosting = false → ¬(s.seq.state = .running ∨ s.seq.state = .stopWait) →
      ∃ a b q p, restartMinOff s = { s with arb := a, blower := b, seq := q, port := p } ∧ SeqLost s q := fun h hno => by
    refine ⟨s.arb, s.blower, _, s.port, rfl, rfl, ?_, fun hr => absurd hr hno, fun hd => (nomatch h.symm.trans hd), rfl⟩
    rw [if_neg hno, h]
    rfl
  have hkey : seqLinkLost s = match s.seq.state with
      | .running => (fun s => seqRest (restState s) s) (stopReport (restartMinOff s))
      | .stopWait => (fun s => seqRest (restState s) s) (stopReport (restartMinOff s))
      | .defrostPrep => interruptDefrost .linkLost (restartMinOff s)
      | .defrostActive => interruptDefrost .linkLost (restartMinOff s)
      | .defrostRecovery => interruptDefrost .linkLost (restartMinOff s)
      | _ => restartMinOff s := rfl
  rw [hkey]
  split
  next h => obtain ⟨a, b, q, he, hl⟩ := hstopped (.inl h); exact ⟨a, b, q, s.port, he, hl⟩
  next h => obtain ⟨a, b, q, he, hl⟩ := hstopped (.inr h); exact ⟨a, b, q, s.port, he, hl⟩
  next h => exact hdefrost (by rw [h]; rfl)
  next h => exact hdefrost (by rw [h]; rfl)
  next h => exact absurd h hrec
  next h1 h2 h3 h4 h5 =>
    refine hother ?_ (fun h => h.elim h1 h2)
    unfold SeqState.defrosting
    split
    next h => exact absurd h h3
    next h => exact absurd h h4
    next h => exact absurd h h5
    next => rfl

/-- The link's record once it is lost. -/
def lostLink (s : State) (k : Link) : Link :=
  { k with
    state := .lost, statAgeFrom := none, statFailures := 0
    nextRound :=
      match s.link.state, s.link.round with
      | .slow, some r => max s.now (r.tick + 1000)
      | _, _ => s.link.nextRound }

/-- What a command that loses the link answers in a calm state. -/
structure Loses (s : State) (k : Link) (t : State) : Prop where
  link : t.link = lostLink s k
  early : t.eval.early = true
  seq : SeqLost s t.seq
  resting : s.op.state = .resting → t.op.state = opOf s.op.request
  rest : s.op.state ≠ .resting →
    ({ t with link := s.link, eval := s.eval, arb := s.arb, blower := s.blower, seq := s.seq, port := s.port } : State).timeless =
      s.timeless
  same : t.prot.limit = s.prot.limit ∧ t.prot.hist = s.prot.hist ∧ t.prot.stops = s.prot.stops ∧ t.drive = s.drive ∧
    t.co = s.co ∧ t.zst = s.zst

theorem loseLink_lost (c : LinkCause) (s : State) (k : Link) (hstate : k.state = s.link.state) (hround : k.round = s.link.round)
    (hnext : k.nextRound = s.link.nextRound) : ∃ p, loseLink c { s with link := k } =
      { s with link := lostLink s k, eval := { s.eval with early := true }, port := p } := by
  unfold loseLink linkTo requestPass raise lostLink
  rw [← hstate, ← hround, ← hnext]
  exact ⟨_, rfl⟩

theorem startDue_lost {s : State} (h : s.link.state = .lost) : startDue s = false := by
  simp [startDue, startHeld, h]

/-- In a calm state a link that runs is lost. -/
theorem finish_linkLost {s : State} {k : Link} (hcalm : Calm s) (hcold : s.blower.coldBlow = false)
    (hrec : s.seq.state ≠ .defrostRecovery) (hcoil : s.seq.state.defrosting = true → ∀ x, s.prot.coil = some x → x < 300)
    (hstate : k.state = s.link.state) (hround : k.round = s.link.round) (hnext : k.nextRound = s.link.nextRound)
    (hwake : k.wakeRound = false) (c : LinkCause) : Loses s k (finish (linkLost c { s with link := k })) := by
  obtain ⟨p1, hlose⟩ := loseLink_lost c s k hstate hround hnext
  obtain ⟨a, b, q, p2, hseq, hlost⟩ := seqLinkLost_eq
    (s := { s with link := lostLink s k, eval := { s.eval with early := true }, port := p1 }) hcold hrec
    (fun h => coilWarm_false (hcoil h))
  have heq : linkLost c { s with link := k } = wakeEvent
      { s with
        link := lostLink s k, eval := { s.eval with early := true }, port := p2, arb := a, blower := b, seq := q } := by
    unfold linkLost
    rw [hlose, hseq]
  obtain ⟨⟨htodo, hphase, hinc, hheld, hop, htest, -, hpass⟩, hqueue, -⟩ := hcalm
  have hfinish : ∀ o n p, o.state ≠ .startup → o.testPhase = .idle →
      finish { s with
        link := lostLink s k, eval := { s.eval with early := true }, port := p, arb := a, blower := b, seq := q, op := o
        sens := n } = sync { s with
        link := lostLink s k, eval := { s.eval with early := true }, port := p, arb := a, blower := b, seq := q, op := o
        sens := n } := fun o n p ho ht => by
    have hsettled : Settled { s with
        link := lostLink s k, eval := { s.eval with early := true }, port := p, arb := a, blower := b, seq := q, op := o
        sens := n } := ⟨htodo, hphase, hinc, hheld, ho, ht, wakeRoundDue_none hwake, hpass⟩
    exact finish_quiet hsettled hqueue (startDue_lost rfl)
  generalize hw : ({ s with
    link := lostLink s k, eval := { s.eval with early := true }, port := p2, arb := a, blower := b, seq := q } : State) = w at heq
  have hseqs : ∀ t : State, t.seq = q → SeqLost s (sync t).seq := fun t ht => by
    obtain ⟨m, f, hm⟩ := sync_seq t
    rw [hm, ht]
    exact ⟨hlost.minOff, hlost.state, hlost.stopped, hlost.recovery, hlost.release⟩
  by_cases hr : s.op.state = .resting
  · obtain ⟨i, j, n, p, he⟩ := wakeEvent_resting (s := w) (by rw [← hw]; exact hr)
      (by rw [← hw]; exact fun h : LinkState.lost = .slow => nomatch h)
    have hlose : linkLost c { s with link := k } =
        { s with
          link := lostLink s k, eval := { s.eval with early := true }, port := p, arb := a, blower := b, seq := q
          op := { s.op with state := opOf s.op.request, idleFrom := i, idleDone := j }, sens := n } := by
      rw [heq, he, ← hw]
    rw [hlose, hfinish { s.op with state := opOf s.op.request, idleFrom := i, idleDone := j } n p
      (opOf_ne_startup s.op.request) htest]
    exact ⟨sync_link _, congrArg Evaluator.early (sync_eval _), hseqs _ rfl, fun _ => sync_op_state _, fun h => absurd hr h,
      sync_prot_limit _, sync_prot_hist _, sync_prot_stops _, sync_drive _, sync_co _, sync_zst _⟩
  · obtain ⟨i, j, m, d, he⟩ := wakeEvent_notResting (s := w) (by rw [← hw]; exact hr)
    have hlose : linkLost c { s with link := k } =
        { s with
          link := lostLink s k, eval := { s.eval with early := true }, port := p2, arb := a, blower := b, seq := q
          op := { s.op with idleFrom := i, idleDone := j, notice := m, noticeFrom := d } } := by
      rw [heq, he, ← hw]
    rw [hlose, hfinish { s.op with idleFrom := i, idleDone := j, notice := m, noticeFrom := d } s.sens p2 hop htest]
    refine ⟨sync_link _, congrArg Evaluator.early (sync_eval _), hseqs _ rfl, fun h => absurd h hr, fun _ => ?_,
      sync_prot_limit _, sync_prot_hist _, sync_prot_stops _, sync_drive _, sync_co _, sync_zst _⟩
    have hframe := congrArg (fun y : State => ({ y with
      link := s.link, eval := s.eval, arb := s.arb, blower := s.timeless.blower, seq := s.timeless.seq, port := s.port } : State))
        (timeless_sync
          { s with
            link := lostLink s k, eval := { s.eval with early := true }, port := p2, arb := a, blower := b, seq := q
            op := { s.op with idleFrom := i, idleDone := j, notice := m, noticeFrom := d } })
    exact hframe

end Sys2Proof.Machine
end

section
/-! The rows of frames that are sent, abandoned or unanswered, and of a link that is lost (08 R123 to R134). -/

namespace Sys2Proof.Machine

theorem sentCommand_some {s : State} {f : LinkFrame} (hf : s.link.frame = some f) (hs : f.sentBy ≤ s.now) (hr : ReadsBack s f)
    (hk : f.kind.isRequest = false) : sentCommand s = some f := by
  simp [sentCommand, sentFrame_some hf hs hr, hk]

theorem endFrame_command {s : State} {f : LinkFrame} (hf : s.link.frame = some f) (hk : f.kind.isRequest = false) :
    endFrame s = { s with link := { s.link with frame := none, collisions := 0 } } := by
  have hc : s.link.closing = s.link.windowEnd := by simp [Link.closing, hf, hk]
  unfold endFrame
  rw [hc]

theorem exec_commandSent {s : State} {f : LinkFrame} (hf : s.link.frame = some f) (hs : f.sentBy ≤ s.now) (hr : ReadsBack s f)
    (hk : f.kind.isRequest = false) : exec .linkCommandFrameSent s = .next (commandSent f s) := by
  show execLinkCommandFrameSent s = _
  unfold execLinkCommandFrameSent
  rw [sentCommand_some hf hs hr hk]

theorem lineQuiet_low {s : State} {t0 : Nat} (hl : s.link.lowAt = some t0) (h : s.now < t0 + 2) : lineQuiet s = false := by
  simp [lineQuiet, hl, h]

theorem withBreak_low {s : State} (h : lineQuiet s = false) (begin_ : State → State) :
    withBreak begin_ s = finish (begin_ s) := by
  unfold withBreak
  rw [h]
  rfl

theorem collidedFrame_idle {s : State} (h : s.link.frame = none) : collidedFrame s = none := by simp [collidedFrame, h]

/-- LINK_COLLISION with no frame in progress, on a line that has been low. -/
theorem exec_collision_due {s : State} (hf : s.link.frame = none) (hq : lineQuiet s = false) :
    exec .linkCollision s = .next (finish (beginDue s)) := by
  show execLinkCollision s = _
  unfold execLinkCollision
  rw [collidedFrame_idle hf]
  simp [hq, Link.driven, hf]

theorem exec_roundTick_low {s : State} (hq : lineQuiet s = false) (h : s.link.nextRound ≤ s.now) :
    exec .roundTick s = .next (finish (beginRound s)) := by
  show execRoundTick s = _
  unfold execRoundTick
  rw [if_pos h, withBreak_low hq]

theorem beginDue_idle {s : State} (hn : s.now < s.link.nextRound) (hw : wakeRoundDue s = false) (hr : s.link.round = none) :
    beginDue s = s := by
  simp [beginDue, Nat.not_le.mpr hn, hw, requestDue, slowDiagDue, hr]

theorem collisionsNow_idle {k : Link} (h : k.frame = none) (now : Nat) : k.collisionsNow now = k.collisions := by
  simp [Link.collisionsNow, h]

theorem Calm.withLink {s : State} (h : Calm s) {k : Link} (hk : k.wakeRound = false) : Calm { s with link := k } := by
  obtain ⟨⟨htodo, hphase, hinc, hheld, hop, htest, -, hpass⟩, hqueue, hseq⟩ := h
  exact ⟨⟨htodo, hphase, hinc, hheld, hop, htest, wakeRoundDue_none hk, hpass⟩, hqueue, hseq⟩

/-- A frame that is due on a line that has been low is abandoned, and its exchange fails. -/
theorem beginFrame_abandoned {s : State} {k : Link} (hcalm : Calm s) (hw : k.wakeRound = false) (hf : k.frame = none)
    (hq : lineQuiet { s with link := k } = false) (hc : k.collisions < 4) (kind : FrameKind) (bytes : List Byte) :
    Fails { s with link := k } { k with collisions := k.collisions + 1 } kind .collision
      (finish (beginFrame kind bytes { s with link := k })) := by
  have hmin : min 5 (k.collisions + 1) = k.collisions + 1 := Nat.min_eq_right (by omega)
  have h := abandonFrame_counted (s := { s with link := k }) (kind := kind) (collisionsNow_idle hf _)
    (.inl (by rw [hmin]; omega))
  rw [hmin] at h
  rw [beginFrame_low hq]
  exact h.finish (hcalm.withLink hw) hw

theorem Fails.others {s : State} {k m : Link} {frame : FrameKind} {kind : FailureKind} {t : State}
    (h : Fails { s with link := k } m frame kind t) :
    ({ t with link := s.link, eval := s.eval, port := s.port } : State).timeless = s.timeless :=
  congrArg (fun y : State => ({ y with link := s.link } : State)) h.rest

/-- A CAP that is abandoned changes nothing but the link. -/
theorem Fails.capOthers {s : State} {k m : Link} {kind : FailureKind} {t : State} (h : Fails { s with link := k } m .cap kind t)
    (hstate : m.state = k.state) : ({ t with link := s.link } : State).timeless = s.timeless := by
  have hlink : t.link.state = k.state := by rw [h.link]; exact hstate
  have heval : t.eval = s.eval := by
    rw [h.eval, hlink]
    exact early_same s.eval k.state
  have hport : t.port = s.port := h.port (.inl rfl)
  have hothers := h.others
  rw [← heval, ← hport] at hothers
  exact hothers

theorem exec_roundTick_quiet {s : State} (hq : lineQuiet s = true) (h : s.link.nextRound ≤ s.now) :
    exec .roundTick s = .next (roundBegun s) := by
  show execRoundTick s = _
  unfold execRoundTick
  rw [if_pos h, withBreak_quiet hq, beginRound_quiet hq]

theorem beginRequest_plain {r : Round} (s : State) (h : r.request = .stat ∨ r.request = .info) : ∃ bytes, beginRequest r s =
    beginFrame r.request bytes { s with link := { s.link with round := some { r with requestBegun := true } } } := by
  unfold beginRequest
  rcases h with h | h <;> rw [h] <;> exact ⟨_, rfl⟩

/-- LINK_COLLISION for a CAP that is the fifth collision, where the link can be lost. -/
theorem abandonFrame_fifth {s : State} (hn : 4 ≤ s.link.collisionsNow s.now) (ha : ageLimit s.link.state ≠ none) :
    abandonFrame .cap s = linkLost .collisions { s with link := { s.link with frame := none, collisions := 5 } } := by
  have hmin : min 5 (s.link.collisionsNow s.now + 1) = 5 := Nat.min_eq_left (by omega)
  unfold abandonFrame
  dsimp only
  rw [hmin]
  exact if_pos ⟨rfl, ha⟩

theorem statAgeDue_of {s : State} {t0 ms : Nat} (hlimit : ageLimit s.link.state = some ms) (hfrom : s.link.statAgeFrom = some t0)
    (h : t0 + ms ≤ s.now) : statAgeDue s = true := by
  simp [statAgeDue, hlimit, reached, hfrom, h]

theorem ageLimit_running {k : LinkState} (h : k = .active ∨ k = .degraded ∨ k = .slow) :
    ageLimit k = some (if k = .slow then 30000 else 10000) := by
  rcases h with rfl | rfl | rfl <;> rfl

/-- Settles O52, by the frame that ends or is abandoned: each failure is counted in the link's record alone, and a link that is lost is
taken by the sequencer and wakes RESTING. -/
theorem linkExchangesFail : Obligations.LinkExchangesFail := by
  unfold Obligations.LinkExchangesFail
  refine ⟨fun s f hf hs hr => ⟨fun hk => ?_, fun d hk hd => ?_⟩, fun s d hd hb ht => ?_, fun s f hf hor hr => ?_, fun s f hf hr => ?_,
    fun s c f kind k hcalm hf hw hfail hcount => ?_, fun s t0 hf hl ht => ⟨fun hn => ?_, fun hcalm hn hr => ?_⟩,
    fun s t0 hcalm hf hl ht hc => ⟨fun hn => ?_, fun r hr hb hd hw hreq => ?_⟩, fun s c k hcalm hcold hwake hstate hcause hrec hcoil => ?_⟩
  · have hreq : f.kind.isRequest = false := by rw [hk]; rfl
    rw [exec_commandSent hf hs hr hreq]
    unfold commandSent
    rw [endFrame_command hf hreq, hk]
    rfl
  · have hreq : f.kind.isRequest = false := by rw [hk]; rfl
    rw [exec_commandSent hf hs hr hreq]
    unfold commandSent
    dsimp only
    rw [if_pos hk, endFrame_command hf hreq]
    unfold endDiag
    dsimp only
    rw [hd]
    rfl
  · have hwait : waitingDiag s.link = some d := (waitingDiag_eq_some_iff _ _).mpr ⟨hd, hb⟩
    have hdue : diagTimeoutDue s = true := by simp [diagTimeoutDue, hwait, ht]
    show execDiagTimeout s = _
    unfold execDiagTimeout endDiag
    rw [if_pos hdue, hd]
    rfl
  · have hnone : collidedFrame s = none := by simp [collidedFrame, hf, readsOtherwise_false hr]
    have hquiet : (lineQuiet s || s.link.driven s.now) = true := by
      rcases hor with h | h
      · simp [Link.driven, hf, h]
      · simp [lineQuiet, h]
    show execLinkCollision s = _
    unfold execLinkCollision
    rw [hnone]
    dsimp only
    rw [if_pos hquiet]
  · have hsent := sentFrame_differs hf hr
    have hwin : ∀ kind, windowFrame s kind = none := fun kind => by simp [windowFrame, hsent]
    refine ⟨?_, fun bytes samples => ⟨?_, ?_, ?_, ?_⟩⟩
    · show execLinkCommandFrameSent s = _
      simp [execLinkCommandFrameSent, sentCommand, hsent]
    · show execStatResponse bytes s = _
      simp [execStatResponse, hwin]
    · show execInfoResponse bytes s = _
      simp [execInfoResponse, hwin]
    · show execDiagReadResponse bytes s = _
      simp [execDiagReadResponse, hwin]
    · show execLinkByteError samples s = _
      simp [execLinkByteError, awaitingResponse, hsent]
  · obtain ⟨t, ht, hfails⟩ := failingExchange_fails hcalm hf hw hfail hcount
    have hdiag : k.diag = s.link.diag := by cases hfail <;> rfl
    obtain ⟨hlink, heval, hdiagPort, hport, hrest⟩ := hfails
    exact ⟨t, ht, hlink, heval, fun d hk hd => hdiagPort d hk (hdiag.trans hd), hport, hrest⟩
  · have hq := lineQuiet_low hl ht
    have hdue : beginDue s = beginRound s := by simp [beginDue, hn]
    rw [exec_collision_due hf hq, exec_roundTick_low hq hn, hdue]
  · have hwd : wakeRoundDue s = false := by
      obtain ⟨⟨-, -, -, -, -, -, hwd, -⟩, -, -⟩ := hcalm
      exact hwd
    rw [exec_collision_due hf (lineQuiet_low hl ht), beginDue_idle hn hwd hr]
    exact ⟨_, rfl, timeless_finish_calm hcalm⟩
  · have hq := lineQuiet_low hl ht
    have hfails := beginFrame_abandoned (k := (planRound s).link) hcalm rfl hf hq hc .cap (commandFrame capKind (capData s))
    have hquiet : lineQuiet { s with link := { s.link with lowAt := none } } = true := rfl
    refine ⟨_, _, exec_roundTick_low hq hn, exec_roundTick_quiet hquiet hn, ?_, hfails.capOthers rfl⟩
    refine hfails.link.trans ?_
    show ({ (planRound s).link with frame := none, collisions := (planRound s).link.collisions + 1 } : Link) = _
    unfold roundBegun planRound
    dsimp only
    rw [← hl]
    rfl
  · have hq := lineQuiet_low hl ht
    obtain ⟨bytes, hbegin⟩ := beginRequest_plain s hreq
    have hfails := beginFrame_abandoned
      (k := { s.link with round := some { r with requestBegun := true } }) hcalm hw hf hq hc r.request bytes
    refine ⟨_, ?_, hfails.link, congrArg Evaluator.early hfails.eval, hfails.others⟩
    show execLinkRequestFrameStart s = _
    unfold execLinkRequestFrameStart
    rw [requestDue_some hr hb hd hf]
    dsimp only
    rw [withBreak_low hq, hbegin]
  · have hlimit := ageLimit_running hstate
    have hlost : ∃ cause, exec c s = .next (finish (linkLost cause { s with link := k })) ∧ k.state = s.link.state ∧
        k.round = s.link.round ∧ k.nextRound = s.link.nextRound ∧ k.wakeRound = false := by
      rcases hcause with ⟨t0, rfl, hfrom, hle, rfl⟩ | ⟨f, n, b, rfl, hf, hk, hb, he, hd, hc, rfl⟩
      · refine ⟨.noStat, ?_, rfl, rfl, rfl, hwake⟩
        show execStatAgeLimit s = _
        unfold execStatAgeLimit
        rw [if_pos (statAgeDue_of hlimit hfrom hle)]
      · have hends : s.now + 55 * (f.bytes.length - 1 - n) / 48 = f.sentBy := he
        refine ⟨.collisions, ?_, rfl, rfl, rfl, hwake⟩
        show execLinkCollision s = _
        unfold execLinkCollision
        rw [collidedFrame_some hf hb he hd]
        dsimp only
        rw [hk, abandonFrame_fifth (by rw [collisionsNow_sending hf (by omega)]; exact hc) (by rw [hlimit]; exact nofun)]
    obtain ⟨cause, hexec, hks, hround, hnext, hw⟩ := hlost
    obtain ⟨hlink, hearly, hseq, hresting, hrest, hsame⟩ :=
      finish_linkLost hcalm hcold hrec hcoil hks hround hnext hw cause
    refine ⟨_, hexec, hlink, hearly, hseq.minOff, fun h => ?_, hrest, hseq.state, hseq.stopped, hseq.recovery, hsame⟩
    rw [hresting h]
    cases s.op.request <;> rfl

end Sys2Proof.Machine
end

section
/-! What a good response leaves alone: the link but for its own record, the operating state and the limit (08 R127, R128, R130). -/

namespace Sys2Proof.Machine

/-! ### The sequencer and the Protection Monitor at a good STAT -/

theorem steady_enterPrep (s : State) : steady (enterPrep s) = steady s := by
  unfold enterPrep; dsimp only; split <;> rfl

theorem steady_statStops (s : State) : steady (statStops s) = steady s :=
  (steady_seqRest _ _).trans (steady_stopReport s)

theorem steady_confirmStart (r : StatRecord) (s : State) : steady (confirmStart r s) = steady s := by
  unfold confirmStart; split <;> rfl

theorem steady_statRunning (r : StatRecord) (s : State) : steady (statRunning r s) = steady s := by
  simp only [statRunning, steady_ite, steady_statStops, steady_enterPrep, ite_self]

theorem steady_statDefrost (r : StatRecord) (s : State) : steady (statDefrost r s) = steady s := by
  unfold statDefrost
  split <;> simp only [steady_ite, steady_raise, steady_enterRecovery, steady_mk, steady_eta, ite_self]

theorem steady_seqStat (r : StatRecord) (s : State) : steady (seqStat r s) = steady s := by
  unfold seqStat
  dsimp only
  split <;>
    simp only [steady_ite, steady_statRunning, steady_statStops, steady_interruptDefrost, steady_statDefrost, steady_confirmStart,
      ite_self]

theorem steady_lockoutSet (s : State) : steady (lockoutSet s) = steady s := by
  unfold lockoutSet
  dsimp only
  split <;> simp only [steady_seqRest, steady_stopReport, steady_interruptDefrost, steady_restartMinOff]

theorem steady_recordTrip (k : TripKind) (stopping : Bool) (s : State) : steady (recordTrip k stopping s) = steady s := by
  simp only [recordTrip, steady_ite, steady_lockoutSet, steady_joinStops, steady_raise, steady_requestPass, steady_mk, steady_eta,
    ite_self]

theorem steady_leaveOutdoor (keep : Option TripKind) (s : State) : steady (leaveOutdoor keep s) = steady s :=
  steady_foldl _ (fun s k => steady_leaveStops k s) _ s

theorem steady_protStat (previous : Option StatRecord) (r : StatRecord) (s : State) : steady (protStat previous r s) = steady s := by
  unfold protStat
  split
  · exact steady_leaveOutdoor _ _
  · split
    · rfl
    · rw [steady_leaveOutdoor, steady_recordTrip]

theorem Stays.fields {s t : State} (h : Stays s t) : t.now = s.now ∧ t.op = s.op ∧ t.link = s.link ∧ t.prot.limit = s.prot.limit ∧
    t.eval.lastPass = s.eval.lastPass :=
  ⟨congrArg Steady.now h.rest, congrArg Steady.op h.rest, congrArg Steady.link h.rest, congrArg Steady.limit h.rest,
    congrArg Steady.lastPass h.rest⟩

theorem passDue_within {s : State} {p : Nat} (h : s.eval.lastPass = some p) (hn : s.now < p + 5000) : passDue s = false := by
  have : ¬(p + 5000 ≤ s.now) := by omega
  simp [passDue, h, this]

/-- Outside STARTUP and the test phases, with no pass and no wake's round due, a command ends with the link as it stood. -/
theorem finish_stays {s : State} (hs : s.op.state ≠ .startup) (hp : s.op.testPhase = .idle) (hw : s.link.wakeRound = false)
    (hpass : ∃ p, s.eval.lastPass = some p ∧ s.now < p + 5000) : ∃ t, Stays s t ∧ finish s = sync t := by
  have hstays := settle_stays hs hp hw settleFuel
  obtain ⟨hnow, -, -, -, hlast⟩ := hstays.fields
  obtain ⟨p, hlp, hlt⟩ := hpass
  refine ⟨_, hstays, ?_⟩
  unfold finish passStep
  rw [passDue_within (hlast.trans hlp) (by rw [hnow]; exact hlt)]
  rfl

/-! ### The link at a good STAT -/

/-- The link's record at a good STAT. -/
def statLink (now : Nat) (r : StatRecord) (k : Link) : Link :=
  { k with
    lastStatus := some r, lastGood := some now, statFailures := 0
    statAgeFrom := if k.state = .active ∨ k.state = .degraded ∨ k.state = .slow then some now else none
    state :=
      match k.state with
      | .degraded => .active
      | .lost => .start
      | other => other }

theorem statState_eq (r : StatRecord) (s : State) : ∃ p, statState (recordStat r s) =
    { s with
      link := statLink s.now r s.link
      eval := { s.eval with early := s.eval.early || decide ((statLink s.now r s.link).state ≠ s.link.state) }, port := p } := by
  have hage : ∀ q : LinkState, (if (ageLimit q).isSome then some s.now else none) =
      if q = .active ∨ q = .degraded ∨ q = .slow then some s.now else none := fun q => by cases q <;> rfl
  unfold statState recordStat statLink
  dsimp only
  rw [hage]
  cases hq : s.link.state with
  | degraded => exact ⟨_, by simp; rfl⟩
  | lost => exact ⟨_, by simp; rfl⟩
  | _ => exact ⟨s.port, by simp [← hq]⟩

/-! ### Complete responses -/

/-- The link with the exchange of a frame ended by the bytes that completed its response. -/
def endedLink (s : State) (f : LinkFrame) (bytes : List Byte) : Link :=
  { s.link with
    frame := none, collisions := 0, windowEnd := f.sentBy + 40
    lowAt := if bytes = [] then s.link.lowAt else some s.now }

theorem endFrame_ended {s : State} {f : LinkFrame} {bytes : List Byte} (hf : s.link.frame = some f) (hw : WindowOpen s f)
    (hk : f.kind.isRequest = true) : endFrame (takeBytes f bytes s) = { s with link := endedLink s f bytes } := by
  rw [endFrame_takeBytes hf hw.1 hk]
  unfold judgedLink endedLink
  simp only [ne_eq, decide_not, Bool.not_eq_true', decide_eq_false_iff_not, ite_not]

theorem goodData_length {kind : Byte} {n : Nat} {bytes data : List Byte} (h : goodData kind n bytes = some data) :
    n + 1 ≤ bytes.length := by
  unfold goodData at h
  split at h
  next hc => exact hc.1
  next => exact nomatch h

/-- STAT_RESPONSE that completes a good STAT. -/
theorem exec_goodStat {s : State} {f : LinkFrame} {bytes data : List Byte} {r : StatRecord} (hf : s.link.frame = some f)
    (hw : WindowOpen s f) (hk : f.kind = .stat) (hg : goodData 0x52 10 (f.arrived ++ bytes) = some data) (hr : statOf data = some r) :
    exec (.statResponse bytes) s = .next (finish (goodStat r { s with link := endedLink s f bytes })) := by
  have hlen : ¬(f.arrived ++ bytes).length < 11 := fun h => by
    have := goodData_length hg
    omega
  have hwin := windowFrame_some hf hw
  rw [hk] at hwin
  show execStatResponse bytes s = _
  unfold execStatResponse
  rw [hwin]
  dsimp only
  rw [if_neg hlen]
  unfold statArrived
  rw [show (goodData statKind 10 (f.arrived ++ bytes)).bind statOf = some r by
    rw [show goodData statKind 10 (f.arrived ++ bytes) = some data from hg]; exact hr]
  dsimp only
  rw [endFrame_ended hf hw (by rw [hk]; rfl)]

/-- What the sequencer and the Protection Monitor take of a good STAT. -/
theorem goodStat_eq (r : StatRecord) (s : State) : ∃ p, goodStat r s = opStat r (protStat s.link.lastStatus r (seqStat r
    { s with
      link := statLink s.now r s.link
      eval := { s.eval with early := s.eval.early || decide ((statLink s.now r s.link).state ≠ s.link.state) }, port := p })) := by
  obtain ⟨p, h⟩ := statState_eq r s
  refine ⟨p, ?_⟩
  unfold goodStat
  dsimp only
  rw [h]

theorem kept_recordTrip (k : TripKind) (stopping : Bool) (s : State) :
    ∃ h l, kept (recordTrip k stopping s) = { kept s with hist := h, lockout := l } := by
  refine ⟨s.prot.hist.set k (recordTime (s.prot.hist.get k) (clockSeconds s)), s.prot.lockout ||
    decide (3 ≤ (recordTime (s.prot.hist.get k) (clockSeconds s)).length) && !s.prot.lockout, ?_⟩
  simp only [recordTrip, kept_ite, kept_lockoutSet, kept_joinStops, kept_raise, kept_requestPass, kept_mk, ite_self]
  rfl

theorem kept_leaveOutdoor (keep : Option TripKind) (s : State) : kept (leaveOutdoor keep s) = kept s :=
  kept_foldl _ (fun s k => kept_leaveStops k s) _ s

theorem kept_protStat (previous : Option StatRecord) (r : StatRecord) (s : State) :
    ∃ h l, kept (protStat previous r s) = { kept s with hist := h, lockout := l } := by
  unfold protStat
  split
  · exact ⟨s.prot.hist, s.prot.lockout, kept_leaveOutdoor _ _⟩
  · split
    · exact ⟨s.prot.hist, s.prot.lockout, rfl⟩
    · rw [kept_leaveOutdoor]
      exact kept_recordTrip _ _ _

theorem kept_goodStat (r : StatRecord) (s : State) :
    ∃ h l, kept (goodStat r s) = { kept s with lastStatus := some r, lastGood := some s.now, hist := h, lockout := l } := by
  have hstate : ∀ s, kept (statState s) = kept s := fun s => by
    unfold statState
    split
    · exact kept_linkTo _ _ s
    · exact kept_linkTo _ _ s
    · rfl
  obtain ⟨h, l, hk⟩ := kept_protStat s.link.lastStatus r (seqStat r (statState (recordStat r s)))
  rw [kept_seqStat, hstate] at hk
  refine ⟨h, l, ?_⟩
  unfold goodStat
  dsimp only
  rw [kept_opStat, hk]
  rfl

/-- Outside RESTING, and with no stand-down to enter, a good STAT leaves the Operating State Controller but for a notice withdrawn. -/
theorem opStat_awake {r : StatRecord} {s : State} (hr : s.op.state ≠ .resting) (hn : s.op.notice = false ∨ r.standdownReady = false) :
    ∃ a b c d, opStat r s = { s with op := { s.op with idleFrom := a, idleDone := b, notice := c, noticeFrom := d } } := by
  have hno : (s.op.notice && r.standdownReady && standDownOk s) = false := by
    rcases hn with h | h <;> simp [h]
  unfold opStat
  rw [hno]
  split
  · exact wakeEvent_notResting hr
  · exact ⟨_, _, _, _, rfl⟩

/-- What a good STAT outside RESTING leaves of a state, whatever the sequencer and the Protection Monitor do. -/
theorem goodStat_finish {s : State} {r : StatRecord} (hs : s.op.state ≠ .startup) (htest : s.op.testPhase = .idle)
    (hw : s.link.wakeRound = false) (hpass : ∃ p, s.eval.lastPass = some p ∧ s.now < p + 5000) (hr : s.op.state ≠ .resting)
    (hn : s.op.notice = false ∨ r.standdownReady = false) :
    (finish (goodStat r s)).link = statLink s.now r s.link ∧ (finish (goodStat r s)).prot.limit = s.prot.limit ∧
      ∃ h l, kept (finish (goodStat r s)) =
        { kept s with lastStatus := some r, lastGood := some s.now, hist := h, lockout := l } := by
  obtain ⟨p, hgood⟩ := goodStat_eq r s
  generalize hv : ({ s with
    link := statLink s.now r s.link
    eval := { s.eval with early := s.eval.early || decide ((statLink s.now r s.link).state ≠ s.link.state) }, port := p } : State) = v
    at hgood
  have hsteady : steady (protStat s.link.lastStatus r (seqStat r v)) = steady v :=
    (steady_protStat _ _ _).trans (steady_seqStat _ _)
  generalize hw' : protStat s.link.lastStatus r (seqStat r v) = w at hgood hsteady
  have hop : w.op = s.op := (congrArg Steady.op hsteady).trans (by subst hv; rfl)
  have hlink : w.link = statLink s.now r s.link := (congrArg Steady.link hsteady).trans (by subst hv; rfl)
  obtain ⟨a, b, c, d, hend⟩ := opStat_awake (r := r) (s := w) (by rw [hop]; exact hr) (by rw [hop]; exact hn)
  obtain ⟨hist, lockout, hkept⟩ := kept_goodStat r s
  rw [hgood, hend] at hkept ⊢
  generalize hu : ({ w with op := { w.op with idleFrom := a, idleDone := b, notice := c, noticeFrom := d } } : State) = u at hkept ⊢
  have hustate : u.op.state = s.op.state := by rw [← hop, ← hu]
  have hstarted : u.op.state ≠ .startup := by rw [hustate]; exact hs
  obtain ⟨t, hstays, hfin⟩ := finish_stays (s := u) hstarted (by rw [← hu]; exact (congrArg Operating.testPhase hop).trans htest)
    (by rw [← hu]; exact (congrArg Link.wakeRound hlink).trans hw)
    (by
      have hnow : w.now = s.now := (congrArg Steady.now hsteady).trans (by subst hv; rfl)
      have hlast : w.eval.lastPass = s.eval.lastPass := (congrArg Steady.lastPass hsteady).trans (by subst hv; rfl)
      rw [← hu]
      show ∃ p, w.eval.lastPass = some p ∧ w.now < p + 5000
      rw [hnow, hlast]
      exact hpass)
  obtain ⟨-, -, htlink, htlimit, -⟩ := hstays.fields
  refine ⟨?_, ?_, hist, lockout, (kept_finish_started hstarted).trans hkept⟩
  · rw [hfin, sync_link, htlink, ← hu]; exact hlink
  · rw [hfin, sync_prot_limit, htlimit, ← hu]
    exact (congrArg Steady.limit hsteady).trans (by subst hv; rfl)

end Sys2Proof.Machine
end

section
/-! Wakes with the round they ask for, entry into RESTING, and the good responses of the link (08 R127 to R134; 11 R164 to R166). -/

namespace Sys2Proof.Machine

/-! ### A wake and its round -/

/-- The link's record once RESTING has been left. -/
def wokenLink (now : Nat) (k : Link) : Link :=
  if k.state = .slow then { k with state := .active, statAgeFrom := some now, statFailures := 0, wakeRound := true } else k

/-- A wake in RESTING. -/
theorem wakeEvent_woken {s : State} (h : s.op.state = .resting) : ∃ a b p, wakeEvent s =
    { s with
      op := { s.op with state := opOf s.op.request, idleFrom := a, idleDone := b }
      link := wokenLink s.now s.link
      sens := { s.sens with nextSlot := 0, nextSlotAt := s.now, slotMs := 1250, poll := none }
      eval := { s.eval with early := true }, port := p } := by
  have hne : opOf s.op.request ≠ s.op.state := by rw [h]; exact opOf_ne_resting _
  have hleave : ∀ t : State, t.eval.early = true → ∃ p, leaveResting t =
      { t with
        link := wokenLink t.now t.link
        sens := { t.sens with nextSlot := 0, nextSlotAt := t.now, slotMs := 1250, poll := none }, port := p } := fun t ht => by
    unfold leaveResting wakeLink wokenLink
    split
    · have he : ({ t.eval with early := true } : Evaluator) = t.eval := by rw [← ht]
      refine ⟨t.port.raise t.now (.link .active t.link.state .wake t.link.lastFailure), ?_⟩
      unfold restartSweep linkTo requestPass raise
      dsimp only
      rw [he]
    · exact ⟨_, rfl⟩
  obtain ⟨p, hl⟩ := hleave (requestPass (raise (.state (opOf s.op.request) s.op.state .wake)
    { s with op := { s.op with state := opOf s.op.request } })) rfl
  unfold wakeEvent wake changeOp
  rw [if_pos h]
  dsimp only
  rw [if_neg hne, if_pos h, hl]
  exact ⟨_, _, p, rfl⟩

/-- The round of a wake begins, or is abandoned: nothing but the link changes. -/
theorem beginRound_link {s : State} (h : lineQuiet s = true ∨ s.link.frame = none ∧ s.link.collisions < 4) :
    ∃ l, beginRound s = { s with link := l } ∧ l.wakeRound = false ∧
      l = { s.link with
        frame := l.frame, round := l.round, nextRound := l.nextRound, wakeRound := l.wakeRound, diag := l.diag
        collisions := l.collisions } := by
  cases hq : lineQuiet s with
  | true =>
    rw [beginRound_quiet hq, roundBegun_eq]
    exact ⟨_, rfl, rfl, rfl⟩
  | false =>
    obtain ⟨hf, hc⟩ := h.resolve_left (by rw [hq]; exact Bool.false_ne_true)
    have hmin : min 5 (s.link.collisions + 1) < 5 := lt_of_le_of_lt (Nat.min_le_right _ _) (by omega)
    obtain ⟨p, heq, -, hport⟩ := (abandonFrame_counted (s := planRound s) (kind := .cap) (collisionsNow_idle hf _) (.inl hmin)).outcome
    have hlow : lineQuiet (planRound s) = false := hq
    unfold beginRound
    rw [beginFrame_low hlow, heq, hport (.inl rfl)]
    refine ⟨failedLink { (planRound s).link with collisions := min 5 (s.link.collisions + 1) } .cap .collision, ?_, rfl, rfl⟩
    unfold failedLink
    dsimp only
    rw [early_same]
    rfl

/-- Where nothing but the round of a wake is to follow, a command ends with it. -/
theorem finish_woken {s : State} (h : Calm { s with link := { s.link with wakeRound := false } })
    (hline : lineQuiet s = true ∨ s.link.frame = none ∧ s.link.collisions < 4) :
    ∃ l, finish s = sync { s with link := l } ∧
      l = { s.link with
        frame := l.frame, round := l.round, nextRound := l.nextRound, wakeRound := l.wakeRound, diag := l.diag
        collisions := l.collisions } := by
  obtain ⟨⟨htodo, hphase, hinc, hheld, hop, htest, -, hpass⟩, hqueue, hseq⟩ := h
  cases hdue : wakeRoundDue s with
  | false => exact ⟨s.link, finish_calm ⟨⟨htodo, hphase, hinc, hheld, hop, htest, hdue, hpass⟩, hqueue, hseq⟩, rfl⟩
  | true =>
    obtain ⟨l, hl, hw, hlink⟩ := beginRound_link hline
    have hstep : microStep s = some { s with link := l } := by
      have h1 : leftActive s = [] := leftActive_idle htest
      have h2 : canGrant s = false := by simp [canGrant, show s.drive.queue = [] from hqueue]
      have hp : s.co.phase = .applied := hphase
      have ht : s.todo = Todo.clear := htodo
      have hh : s.co.held = none := hheld
      simp [microStep, ht, Todo.clear, hh, h1, h2, hp, hdue, hl]
    have hcalm : Calm { s with link := l } :=
      ⟨⟨htodo, hphase, hinc, hheld, hop, htest, wakeRoundDue_none hw, hpass⟩, hqueue, hseq⟩
    exact ⟨l, finish_of_leads (.one hstep) (by omega) hcalm, hlink⟩

/-! ### RESTING and the notice -/

/-- A notice that stands where stand-down may not is withdrawn at the end of the command. -/
theorem sync_notice {s : State} (h : standDownOk s = false) :
    (sync s).op.notice = false ∧ (s.op.noticeFrom = none → (sync s).op.noticeFrom = none) := by
  obtain ⟨q, hq, hq'⟩ := syncStartFail_eq (syncWatches { s with blower := s.blower.syncPressure s.now s.cfg.pressureCap })
  have key : ∀ t : State, standDownOk t = false → (standDown t).op.notice = false ∧
      (t.op.noticeFrom = none → (standDown t).op.noticeFrom = none) := fun t ht => by
    have hok : ∀ a b, standDownOk { t with op := { t.op with idleFrom := a, idleDone := b } } = false := fun _ _ => ht
    unfold standDown
    dsimp only
    rw [hok]
    cases hn : t.op.notice with
    | true => exact ⟨rfl, fun _ => rfl⟩
    | false => exact ⟨rfl, fun hf => hf⟩
  have hsync : sync s = standDown (syncStartFail (syncWatches { s with blower := s.blower.syncPressure s.now s.cfg.pressureCap })) :=
    rfl
  rw [hsync, hq]
  refine key _ ?_
  have hstate : q.state = s.seq.state := by rw [hq']; rfl
  unfold standDownOk at h ⊢
  dsimp only
  rw [hstate]
  exact h

/-- Entry into RESTING with an ACTIVE link. -/
theorem enterResting_eq {s : State} {round : Round} (hop : s.op.state ≠ .resting) (hlink : s.link.state = .active)
    (hround : s.link.round = some round) : ∃ p, enterResting s =
      { s with
        op := { s.op with state := .resting, notice := false, noticeFrom := none }
        link := { s.link with state := .slow, statAgeFrom := some s.now, nextRound := round.tick + 10000 }
        eval := { s.eval with early := true }, port := p } := by
  have hchange : changeOp .resting .standdown { s with op := { s.op with notice := false, noticeFrom := none } } =
      requestPass (raise (.state .resting s.op.state .standdown)
        { s with op := { s.op with state := .resting, notice := false, noticeFrom := none } }) := by
    unfold changeOp
    dsimp only
    rw [if_neg (Ne.symm hop), if_neg hop]
  unfold enterResting
  rw [hchange]
  generalize hp : (Report.state .resting s.op.state .standdown) = rep
  unfold slowLink
  have hact : (requestPass (raise rep
      { s with op := { s.op with state := .resting, notice := false, noticeFrom := none } })).link = s.link := rfl
  rw [hact, if_pos hlink, hround]
  exact ⟨_, rfl⟩

end Sys2Proof.Machine
end

section
/-! The good responses of the link (08 R127 to R134; 11 R164 to R166). -/

namespace Sys2Proof.Machine

/-! ### A good STAT with the compressor stopped -/

theorem seqStat_stopped {s : State} (h : s.seq.state = .stopped) (r : StatRecord) : seqStat r s = s := by
  have hconfirm : confirmStart r s = s := by
    unfold confirmStart
    rw [if_neg]
    rintro ⟨-, -, hrun⟩
    simp [compressorRunning, h] at hrun
  unfold seqStat
  dsimp only
  rw [hconfirm, h]

theorem leaveStops_absent {k : TripKind} {s : State} (h : k ∉ s.prot.stops) : leaveStops k s = s := by
  unfold leaveStops
  rw [if_neg (by simpa using h)]

/-- No outdoor kind but the one kept is in the set. -/
theorem leaveOutdoor_absent {keep : Option TripKind} {s : State} (h : ∀ k ∈ s.prot.stops, some k = keep) :
    leaveOutdoor keep s = s := by
  have hfold : ∀ l : List TripKind, (∀ k ∈ l, some k ≠ keep) → l.foldl (fun s k => leaveStops k s) s = s := fun l => by
    induction l with
    | nil => exact fun _ => rfl
    | cons k l ih =>
      intro hl
      rw [List.foldl_cons, leaveStops_absent fun hk => hl k (List.mem_cons_self ..) (h k hk)]
      exact ih fun j hj => hl j (List.mem_cons_of_mem _ hj)
  exact hfold _ fun k hk => by simpa using (List.mem_filter.mp hk).2

/-- The history of a kind with a trip recorded now. -/
def tripHistory (k : TripKind) (s : State) : List Nat := recordTime (s.prot.hist.get k) (clockSeconds s)

/-- Whether a trip recorded now sets LOCKOUT. -/
def tripLocks (k : TripKind) (s : State) : Bool := decide (3 ≤ (tripHistory k s).length) && !s.prot.lockout

/-- The Protection Monitor's record with a trip recorded. -/
def tripRecorded (k : TripKind) (s : State) : Protection :=
  { s.prot with hist := s.prot.hist.set k (tripHistory k s), lockout := s.prot.lockout || tripLocks k s }

/-- A recorded trip: the history, the early pass and the reports, then the set of stopping trips, then LOCKOUT. -/
theorem recordTrip_eq (k : TripKind) (stopping : Bool) (s : State) : ∃ port, ∀ t : State,
    t = { s with prot := tripRecorded k s, eval := { s.eval with early := true }, port := port } →
      recordTrip k stopping s =
        if tripLocks k s then lockoutSet (if stopping then joinStops k t else t) else if stopping then joinStops k t else t := by
  cases hl : tripLocks k s with
  | false =>
    refine ⟨s.port.raise s.now (.trip k (clockSeconds s) (tripHistory k s).length stopping (s.prot.lockout || tripLocks k s)), ?_⟩
    rintro t rfl
    unfold recordTrip
    dsimp only
    rw [show (decide (3 ≤ (recordTime (s.prot.hist.get k) (clockSeconds s)).length) && !s.prot.lockout) = tripLocks k s from rfl,
      hl]
    unfold tripRecorded
    rw [hl]
    rfl
  | true =>
    refine ⟨(s.port.raise s.now (.trip k (clockSeconds s) (tripHistory k s).length stopping (s.prot.lockout || tripLocks k s))).raise
      s.now (.lockout k (tripHistory k s)), ?_⟩
    rintro t rfl
    unfold recordTrip
    dsimp only
    rw [show (decide (3 ≤ (recordTime (s.prot.hist.get k) (clockSeconds s)).length) && !s.prot.lockout) = tripLocks k s from rfl,
      hl]
    unfold tripRecorded
    rw [hl]
    rfl

/-- A counted stopping trip recorded with the compressor stopped and the set empty. -/
theorem recordTrip_stopped {k : TripKind} {s : State} (hq : s.seq.state = .stopped) (hs : s.prot.stops = []) :
    ∃ p q port, recordTrip k true s = { s with prot := p, seq := q, eval := { s.eval with early := true }, port := port } ∧
      p.stops = [k] ∧ (q.state = .tripped ∨ q.state = .lockout) := by
  have hjoin : ∀ t : State, t.seq.state = .stopped → t.prot.stops = [] → joinStops k t =
      { t with
        prot := { t.prot with stops := [k] }
        seq :=
          { t.seq with
            state := .tripped, minOffFrom := t.now, minOffDone := false, stopSent := false, takenStopped := false
            stopMark := false, grantSent := false, defrostFrom := none, recoveryFrom := none, startFailFrom := none } } :=
    fun t ht hts => by
      unfold joinStops stoppingTrip restartMinOff
      rw [hts]
      dsimp only
      rw [ht]
      rfl
  have hlock : ∀ t : State, t.seq.state = .tripped → ∃ q, lockoutSet t = { t with seq := q } ∧ q.state = .lockout := fun t ht => by
    unfold lockoutSet restartMinOff
    dsimp only
    rw [ht]
    exact ⟨_, rfl, rfl⟩
  have key : ∀ (t : State) (locks : Bool), t.seq.state = .stopped → t.prot.stops = [] →
      ∃ p q, (if locks then lockoutSet (joinStops k t) else joinStops k t) = { t with prot := p, seq := q } ∧
        p.stops = [k] ∧ (q.state = .tripped ∨ q.state = .lockout) := fun t locks ht hts => by
    rw [hjoin t ht hts]
    cases locks with
    | false => exact ⟨_, _, rfl, rfl, .inl rfl⟩
    | true =>
      obtain ⟨q, hl, hql⟩ := hlock
        { t with
          prot := { t.prot with stops := [k] }
          seq :=
            { t.seq with
              state := .tripped, minOffFrom := t.now, minOffDone := false, stopSent := false, takenStopped := false
              stopMark := false, grantSent := false, defrostFrom := none, recoveryFrom := none, startFailFrom := none } } rfl
      rw [if_pos rfl, hl]
      exact ⟨_, q, rfl, rfl, .inr hql⟩
  obtain ⟨port, hrecord⟩ := recordTrip_eq k true s
  obtain ⟨p, q, heq, hp, hqs⟩ := key
    { s with prot := tripRecorded k s, eval := { s.eval with early := true }, port := port } (tripLocks k s) hq hs
  exact ⟨p, q, port, (hrecord _ rfl).trans heq, hp, hqs⟩

end Sys2Proof.Machine
end

section
/-! The rows of good responses on the outdoor link (08 R123, R127 to R134; 11 R164 to R166). -/

namespace Sys2Proof.Machine

theorem meetsGate_below {g : Option Int} {x : Option Int} :
    meetsGate g x = false ↔ ∃ a, g = some a ∧ ∀ b, x = some b → b < a := by
  cases g <;> cases x <;> simp [meetsGate]

theorem meetsGate_met {g x : Option Int} : meetsGate g x = true ↔ g = none ∨ ∃ a b, g = some a ∧ x = some b ∧ a ≤ b := by
  cases g <;> cases x <;> simp [meetsGate]

/-- A good STAT that shows no trip, with the compressor stopped and the set empty, goes to the operating state alone. -/
theorem goodStat_plain {s : State} {r : StatRecord} (hq : s.seq.state = .stopped) (hs : s.prot.stops = []) (hr : r.trip = none) :
    ∃ p, goodStat r s = opStat r { s with
      link := statLink s.now r s.link
      eval := { s.eval with early := s.eval.early || decide ((statLink s.now r s.link).state ≠ s.link.state) }, port := p } := by
  obtain ⟨p, h⟩ := goodStat_eq r s
  refine ⟨p, ?_⟩
  rw [h, seqStat_stopped (s := { s with
      link := statLink s.now r s.link
      eval := { s.eval with early := s.eval.early || decide ((statLink s.now r s.link).state ≠ s.link.state) }, port := p }) hq]
  unfold protStat
  rw [hr]
  dsimp only
  rw [leaveOutdoor_absent]
  show ∀ k ∈ s.prot.stops, _
  rw [hs]
  exact nofun

/-- INFO_RESPONSE that completes a good INFO. -/
theorem exec_goodInfo {s : State} {f : LinkFrame} {bytes data : List Byte} {i : InfoRecord} (hf : s.link.frame = some f)
    (hw : WindowOpen s f) (hk : f.kind = .info) (hg : goodData 0x54 3 (f.arrived ++ bytes) = some data) (hr : infoOf data = some i) :
    exec (.infoResponse bytes) s = .next (finish (goodInfo i { s with link := endedLink s f bytes })) := by
  have hlen : ¬(f.arrived ++ bytes).length < 4 := fun h => by
    have := goodData_length hg
    omega
  have hwin := windowFrame_some hf hw
  rw [hk] at hwin
  show execInfoResponse bytes s = _
  unfold execInfoResponse
  rw [hwin]
  dsimp only
  rw [if_neg hlen]
  unfold infoArrived
  rw [show (goodData infoKind 3 (f.arrived ++ bytes)).bind infoOf = some i by
    rw [show goodData infoKind 3 (f.arrived ++ bytes) = some data from hg]; exact hr]
  dsimp only
  rw [endFrame_ended hf hw (by rw [hk]; rfl)]

theorem goodInfo_eq (i : InfoRecord) (s : State) : ∃ p, goodInfo i s =
    { s with
      link :=
        { s.link with
          info := some i, state := if decide (s.link.state = .start) then .active else s.link.state
          statAgeFrom := if decide (s.link.state = .start) then some s.now else s.link.statAgeFrom
          statFailures := if decide (s.link.state = .start) then 0 else s.link.statFailures }
      eval :=
        { s.eval with
          early := s.eval.early || decide (s.link.state = .start), hpCapable := s.eval.hpCapable && i.heatPump }
      port := p } := by
  unfold goodInfo
  dsimp only
  by_cases h : s.link.state = .start
  · simp only [h, if_true, decide_true, Bool.or_true]
    exact ⟨_, rfl⟩
  · simp only [h, if_false, decide_false, Bool.or_false, Bool.false_eq_true]
    exact ⟨s.port, rfl⟩

/-- Responses that are not complete are left to their window, and good data of a diagnostic read end it. -/
theorem exec_waits {s : State} {f : LinkFrame} {bytes : List Byte} (hf : s.link.frame = some f) (hw : WindowOpen s f) :
    (f.kind = .stat → (f.arrived ++ bytes).length < 11 → exec (.statResponse bytes) s = .next (takeBytes f bytes s)) ∧
    (f.kind = .info → (f.arrived ++ bytes).length < 4 → exec (.infoResponse bytes) s = .next (takeBytes f bytes s)) ∧
    (∀ d, f.kind = .diagRead → s.link.diag = some d → (f.arrived ++ bytes).length < d.length + 1 →
      exec (.diagReadResponse bytes) s = .next (takeBytes f bytes s)) := by
  have hwin := windowFrame_some hf hw
  refine ⟨fun hk hlen => ?_, fun hk hlen => ?_, fun d hk hd hlen => ?_⟩
  · rw [hk] at hwin
    show execStatResponse bytes s = _
    unfold execStatResponse
    rw [hwin]
    dsimp only
    rw [if_pos hlen]
  · rw [hk] at hwin
    show execInfoResponse bytes s = _
    unfold execInfoResponse
    rw [hwin]
    dsimp only
    rw [if_pos hlen]
  · rw [hk] at hwin
    show execDiagReadResponse bytes s = _
    unfold execDiagReadResponse
    rw [hwin, hd]
    dsimp only
    rw [if_pos hlen]

theorem statLink_running {k : Link} (h : k.state = .active) (now : Nat) (r : StatRecord) : (statLink now r k).state = .active := by
  simp [statLink, h]

/-- In NOTICE, with the conditions of R164 met, READY enters RESTING. -/
theorem finish_enterResting {s : State} {r : StatRecord} {round : Round} (hcalm : Calm s) (hwake : s.link.wakeRound = false)
    (hn : s.op.notice = true) (hready : r.standdownReady = true) (hop : s.op.state = .off ∨ s.op.state = .on)
    (hmode : s.arb.mode = .idle) (hdef : s.arb.deferral = false) (hlink : s.link.state = .active)
    (hround : s.link.round = some round) (hq : s.seq.state = .stopped) (hs : s.prot.stops = [])
    (hgate : meetsGate s.cfg.ambientGate r.ambient = true) (htrip : r.trip = none) : ∃ p, finish (goodStat r s) = sync
      { s with
        op := { s.op with state := .resting, notice := false, noticeFrom := none }
        link := { statLink s.now r s.link with state := .slow, statAgeFrom := some s.now, nextRound := round.tick + 10000 }
        eval := { s.eval with early := true }, port := p } := by
  obtain ⟨p, hgood⟩ := goodStat_plain hq hs htrip
  have hactive := statLink_running hlink s.now r
  generalize hv : ({ s with
    link := statLink s.now r s.link
    eval := { s.eval with early := s.eval.early || decide ((statLink s.now r s.link).state ≠ s.link.state) }, port := p } : State) = v
    at hgood
  have hok : standDownOk v = true := by
    have hidle : idleHolds v = true := by
      subst hv
      rcases hop with h | h <;> simp [idleHolds, h, hmode]
    have hlast : lastAmbient v = r.ambient := by subst hv; rfl
    unfold standDownOk
    rw [hidle, hlast]
    subst hv
    simp [hq, hactive, hdef, hgate]
  have hvop : v.op = s.op := by subst hv; rfl
  have hopstat : opStat r v = enterResting v := by
    have hmet : meetsGate v.cfg.ambientGate r.ambient = true := by subst hv; exact hgate
    unfold opStat
    rw [hmet, hvop, hn, hready, hok]
    rfl
  obtain ⟨p2, henter⟩ := enterResting_eq (s := v) (round := round)
    (by rw [hvop]; rcases hop with h | h <;> rw [h] <;> decide) (by subst hv; exact hactive) (by subst hv; exact hround)
  obtain ⟨⟨htodo, hphase, hinc, hheld, -, htest, -, hpass⟩, hqueue, hseq⟩ := hcalm
  refine ⟨p2, ?_⟩
  rw [hgood, hopstat, henter, ← hv]
  exact finish_calm ⟨⟨htodo, hphase, hinc, hheld, fun h => (nomatch h), htest, wakeRoundDue_none hwake, hpass⟩, hqueue, hseq⟩

/-- A new trip code in NOTICE ends the conditions, and the notice with them. -/
theorem finish_noticeTrip {s : State} {r : StatRecord} {x : TripKind} (hcalm : Calm s) (hwake : s.link.wakeRound = false)
    (hlink : s.link.state = .active) (hq : s.seq.state = .stopped) (hs : s.prot.stops = []) (hgate : meetsGate s.cfg.ambientGate r.ambient = true)
    (htrip : r.trip = some x) (hnew : s.link.lastStatus.bind StatRecord.trip ≠ some x) :
    (finish (goodStat r s)).op.state = s.op.state ∧ (finish (goodStat r s)).op.notice = false ∧
      (finish (goodStat r s)).link.state = .active := by
  obtain ⟨p, hgood⟩ := goodStat_eq r s
  have hactive := statLink_running hlink s.now r
  generalize hv : ({ s with
    link := statLink s.now r s.link
    eval := { s.eval with early := s.eval.early || decide ((statLink s.now r s.link).state ≠ s.link.state) }, port := p } : State) = v
    at hgood
  have hvq : v.seq.state = .stopped := by subst hv; exact hq
  have hvs : v.prot.stops = [] := by subst hv; exact hs
  obtain ⟨pr, q, port, hrecord, hstops, hqs⟩ := recordTrip_stopped (k := x) hvq hvs
  have hprot : protStat s.link.lastStatus r (seqStat r v) =
      { v with prot := pr, seq := q, eval := { v.eval with early := true }, port := port } := by
    rw [seqStat_stopped hvq]
    unfold protStat
    rw [htrip]
    dsimp only
    rw [if_neg hnew, hrecord, leaveOutdoor_absent]
    show ∀ k ∈ pr.stops, _
    rw [hstops]
    simp
  have hnot : ∀ u : State, u.seq = q → standDownOk u = false := fun u hu => by
    unfold standDownOk
    rw [hu]
    rcases hqs with h | h <;> simp [h]
  have hopstat : opStat r { v with prot := pr, seq := q, eval := { v.eval with early := true }, port := port } =
      { v with prot := pr, seq := q, eval := { v.eval with early := true }, port := port } := by
    have hmet : meetsGate v.cfg.ambientGate r.ambient = true := by subst hv; exact hgate
    unfold opStat
    rw [hnot { v with prot := pr, seq := q, eval := { v.eval with early := true }, port := port } rfl, Bool.and_false]
    dsimp only
    rw [hmet]
    rfl
  obtain ⟨⟨htodo, hphase, hinc, hheld, hstart, htest, -, hpass⟩, hqueue, -⟩ := hcalm
  rw [hgood, hprot, hopstat]
  generalize hu : ({ v with prot := pr, seq := q, eval := { v.eval with early := true }, port := port } : State) = u
  have hsync : finish u = sync u := by
    subst hu hv
    refine finish_calm ⟨⟨htodo, hphase, hinc, hheld, hstart, htest, wakeRoundDue_none hwake, hpass⟩, hqueue, fun h => ?_⟩
    rcases hqs with hqs | hqs <;> exact nomatch hqs.symm.trans h
  rw [hsync]
  refine ⟨(sync_op_state _).trans (by subst hu hv; rfl), (sync_notice (hnot u (by subst hu; rfl))).1, ?_⟩
  rw [sync_link]
  subst hu hv
  exact hactive

/-- In RESTING a good STAT with an ambient below the gate, or absent, wakes. -/
theorem finish_statWakes {s : State} {r : StatRecord} (hcalm : Calm s)
    (hframe : s.link.frame = none) (hcoll : s.link.collisions < 4) (hrest : s.op.state = .resting)
    (hq : s.seq.state = .stopped) (hs : s.prot.stops = []) (htrip : r.trip = none)
    (hgate : meetsGate s.cfg.ambientGate r.ambient = false) :
    let t := finish (goodStat r s)
    t.op.state = opOf s.op.request ∧ t.eval.early = true ∧
      t.sens = { s.sens with nextSlot := 0, nextSlotAt := s.now, slotMs := 1250, poll := none } ∧
      t.link.lastStatus = some r ∧ t.link.lastGood = some s.now ∧ t.link.statFailures = 0 ∧
      t.link.state = (wokenLink s.now (statLink s.now r s.link)).state := by
  obtain ⟨p, hgood⟩ := goodStat_plain hq hs htrip
  generalize hv : ({ s with
    link := statLink s.now r s.link
    eval := { s.eval with early := s.eval.early || decide ((statLink s.now r s.link).state ≠ s.link.state) }, port := p } : State) = v
    at hgood
  have hopstat : opStat r v = wakeEvent v := by
    have hmet : meetsGate v.cfg.ambientGate r.ambient = false := by subst hv; exact hgate
    unfold opStat
    rw [hmet]
    rfl
  obtain ⟨a, b, p2, hwoken⟩ := wakeEvent_woken (s := v) (by subst hv; exact hrest)
  obtain ⟨⟨htodo, hphase, hinc, hheld, -, htest, -, hpass⟩, hqueue, hseq⟩ := hcalm
  rw [hgood, hopstat, hwoken]
  generalize hu : ({ v with
    op := { v.op with state := opOf v.op.request, idleFrom := a, idleDone := b }, link := wokenLink v.now v.link
    sens := { v.sens with nextSlot := 0, nextSlotAt := v.now, slotMs := 1250, poll := none }
    eval := { v.eval with early := true }, port := p2 } : State) = u
  have hrecord : ∀ k : Link, (wokenLink s.now k).lastStatus = k.lastStatus ∧ (wokenLink s.now k).lastGood = k.lastGood ∧
      (wokenLink s.now k).frame = k.frame ∧ (wokenLink s.now k).collisions = k.collisions ∧
      (k.statFailures = 0 → (wokenLink s.now k).statFailures = 0) := fun k => by
    unfold wokenLink
    split
    · exact ⟨rfl, rfl, rfl, rfl, fun _ => rfl⟩
    · exact ⟨rfl, rfl, rfl, rfl, fun h => h⟩
  have hlink : u.link = wokenLink s.now (statLink s.now r s.link) := by subst hu hv; rfl
  obtain ⟨hstatus, hgoodAt, hfr, hcol, hfail⟩ := hrecord (statLink s.now r s.link)
  have hcalm : Calm { u with link := { u.link with wakeRound := false } } := by
    subst hu hv
    exact ⟨⟨htodo, hphase, hinc, hheld, opOf_ne_startup _, htest, wakeRoundDue_none rfl, hpass⟩, hqueue, hseq⟩
  obtain ⟨l, hend, hl⟩ := finish_woken hcalm (.inr ⟨by rw [hlink, hfr]; exact hframe, by rw [hlink, hcol]; exact hcoll⟩)
  have hfields : l.lastStatus = u.link.lastStatus ∧ l.lastGood = u.link.lastGood ∧ l.statFailures = u.link.statFailures ∧
      l.state = u.link.state := ⟨by rw [hl], by rw [hl], by rw [hl], by rw [hl]⟩
  obtain ⟨h1, h2, h3, h4⟩ := hfields
  dsimp only
  rw [hend, sync_op_state, sync_eval, sync_sens, sync_link]
  refine ⟨by subst hu hv; rfl, by subst hu; rfl, by subst hu hv; rfl, ?_, ?_, ?_, ?_⟩
  · exact h1.trans (by rw [hlink, hstatus]; rfl)
  · exact h2.trans (by rw [hlink, hgoodAt]; rfl)
  · exact h3.trans (by rw [hlink]; exact hfail rfl)
  · exact h4.trans (by rw [hlink])

/-- In RESTING any other good STAT is recorded. -/
theorem finish_statRests {s : State} {r : StatRecord} (hcalm : Calm s) (hwake : s.link.wakeRound = false) (hn : s.op.notice = false)
    (hq : s.seq.state = .stopped) (hs : s.prot.stops = []) (htrip : r.trip = none)
    (hgate : meetsGate s.cfg.ambientGate r.ambient = true) : ∃ p, finish (goodStat r s) = sync
      { s with
        link := statLink s.now r s.link
        eval := { s.eval with early := s.eval.early || decide ((statLink s.now r s.link).state ≠ s.link.state) }, port := p } := by
  obtain ⟨p, hgood⟩ := goodStat_plain hq hs htrip
  refine ⟨p, ?_⟩
  rw [hgood]
  unfold opStat
  dsimp only
  rw [hgate, hn]
  obtain ⟨⟨htodo, hphase, hinc, hheld, hop, htest, -, hpass⟩, hqueue, hseq⟩ := hcalm
  exact finish_calm ⟨⟨htodo, hphase, hinc, hheld, hop, htest, wakeRoundDue_none hwake, hpass⟩, hqueue, hseq⟩

/-- Settles O53, by the record a good response leaves: the link alone changes by it, then the sequencer, the trips and the operating
state take what it shows. -/
theorem linkGoodResponses : Obligations.LinkGoodResponses := by
  unfold Obligations.LinkGoodResponses
  intro s f bytes data hf hw hwake
  dsimp only
  obtain ⟨hstat, hinfo, hdiag⟩ := exec_waits (bytes := bytes) hf hw
  rw [takeBytes_sent hf hw.1] at hstat hinfo hdiag
  refine ⟨hstat, hinfo, hdiag, fun r hk hg hr hsettled hrest hn => ?_,
    fun r round hk hg hr hcalm hn hready hop hmode hdef hlink hround hq hs hgate => ?_,
    fun r hk hg hr hcalm hrest hn hq hs htrip => ?_, fun i hk hg hi hcalm => ?_, fun d hk hd hg => ?_⟩
  · obtain ⟨-, -, -, -, hop, htest, -, hpass⟩ := hsettled
    obtain ⟨hl, hlim, hist, lockout, hkept⟩ := goodStat_finish (s := { s with link := endedLink s f bytes }) (r := r) hop htest hwake hpass
      hrest hn
    refine ⟨_, exec_goodStat hf hw hk hg hr, hl, congrArg Kept.zcfg hkept, congrArg Kept.setp hkept, congrArg Kept.cfg hkept,
      congrArg Kept.store hkept, congrArg Kept.request hkept, hlim⟩
  · have hmet : meetsGate s.cfg.ambientGate r.ambient = true := meetsGate_met.mpr hgate
    have hcalm' : Calm { s with link := endedLink s f bytes } := hcalm.withLink hwake
    refine ⟨_, exec_goodStat hf hw hk hg hr, fun htrip => ?_, fun x htrip hnew =>
      finish_noticeTrip hcalm' hwake hlink hq hs hmet htrip hnew⟩
    obtain ⟨p, hend⟩ := finish_enterResting hcalm' hwake hn hready hop hmode hdef hlink hround hq hs hmet htrip
    rw [hend]
    generalize hu : ({ s with
      op := { s.op with state := .resting, notice := false, noticeFrom := none }
      link := { statLink s.now r (endedLink s f bytes) with state := .slow, statAgeFrom := some s.now, nextRound := round.tick + 10000 }
      eval := { s.eval with early := true }, port := p } : State) = u
    have hno : standDownOk u = false := by subst hu; simp [standDownOk, idleHolds]
    have hframe := congrArg (fun y : State =>
      ({ y with link := s.link, op := s.timeless.op, eval := s.eval, port := s.port } : State)) (timeless_sync u)
    obtain ⟨hnotice, hfrom⟩ := sync_notice hno
    rw [sync_op_state, hnotice, hfrom (by subst hu; rfl), sync_link, sync_eval]
    refine ⟨by subst hu; rfl, rfl, rfl, by subst hu; rfl, by subst hu; rfl, by subst hu; rfl, by subst hu; rfl, ?_⟩
    subst hu
    exact hframe
  · have hcalm' : Calm { s with link := endedLink s f bytes } := hcalm.withLink hwake
    refine ⟨_, exec_goodStat hf hw hk hg hr, ?_⟩
    cases hgate : meetsGate s.cfg.ambientGate r.ambient with
    | false =>
      obtain ⟨hop, hearly, hsens, hstatus, hgood, hfail, hstate⟩ :=
        finish_statWakes (s := { s with link := endedLink s f bytes }) hcalm' rfl (Nat.zero_lt_succ 3) hrest hq hs htrip hgate
      refine ⟨hstatus, hgood, hfail, fun _ => ⟨?_, hearly, by rw [hsens], by rw [hsens], by rw [hsens], by rw [hsens], ?_, ?_⟩,
        fun hb => absurd (meetsGate_below.mp hgate) hb⟩
      · rw [hop]
        show opOf s.op.request = _
        cases s.op.request <;> rfl
      · intro hslow
        rw [hstate]
        simp [wokenLink, statLink, endedLink, hslow]
      · intro hlost
        rw [hstate]
        simp [wokenLink, statLink, endedLink, hlost]
    | true =>
      obtain ⟨p, hend⟩ := finish_statRests (s := { s with link := endedLink s f bytes }) hcalm' hwake hn hq hs htrip hgate
      have hnot : ¬∃ g, s.cfg.ambientGate = some g ∧ ∀ x, r.ambient = some x → x < g := fun h =>
        nomatch hgate.symm.trans (meetsGate_below.mpr h)
      rw [hend]
      generalize hu : ({ s with
        link := statLink s.now r (endedLink s f bytes)
        eval := { s.eval with
          early := s.eval.early || decide ((statLink s.now r (endedLink s f bytes)).state ≠ (endedLink s f bytes).state) }
        port := p } : State) = u
      have hframe := congrArg (fun y : State => ({ y with link := s.link, eval := s.eval, port := s.port } : State)) (timeless_sync u)
      rw [sync_link, sync_eval]
      refine ⟨by subst hu; rfl, by subst hu; rfl, by subst hu; rfl, fun h => absurd h hnot, fun _ => ⟨?_, ?_, ?_, ?_⟩⟩
      · subst hu
        show (match s.link.state with | .degraded => LinkState.active | .lost => .start | other => other) = _
        cases s.link.state <;> rfl
      · subst hu
        intro hslow
        exact if_pos (.inr (.inr hslow))
      · subst hu
        rfl
      · subst hu
        exact hframe
  · obtain ⟨p, hgood⟩ := goodInfo_eq i { s with link := endedLink s f bytes }
    obtain ⟨⟨htodo, hphase, hinc, hheld, hop, htest, -, hpass⟩, hqueue, hseq⟩ := hcalm
    refine ⟨_, exec_goodInfo hf hw hk hg hi, ?_⟩
    rw [hgood]
    dsimp only
    generalize hl : ({ endedLink s f bytes with info := some i, state := _, statAgeFrom := _, statFailures := _ } : Link) = l
    generalize he : ({ s.eval with early := _, hpCapable := _ } : Evaluator) = e
    have hlw : l.wakeRound = false := by subst hl; exact hwake
    have hep : ∃ p, e.lastPass = some p ∧ s.now < p + 5000 := by subst he; exact hpass
    have hend : finish { s with link := l, eval := e, port := p } = sync { s with link := l, eval := e, port := p } :=
      finish_calm ⟨⟨htodo, hphase, hinc, hheld, hop, htest, wakeRoundDue_none hlw, hep⟩, hqueue, hseq⟩
    have hframe := congrArg (fun y : State => ({ y with link := s.link, eval := s.eval, port := s.port } : State))
      (timeless_sync { s with link := l, eval := e, port := p })
    rw [hend, sync_link, sync_eval]
    exact ⟨hl.symm, he.symm, hframe⟩
  · have hlen : ¬(f.arrived ++ bytes).length < d.length + 1 := fun h => by
      have := goodData_length hg
      omega
    have hwin := windowFrame_some hf hw
    rw [hk] at hwin
    show execDiagReadResponse bytes s = _
    unfold execDiagReadResponse
    rw [hwin, hd]
    dsimp only
    rw [if_neg hlen]
    unfold diagArrived
    rw [hg]
    dsimp only
    rw [endFrame_ended hf hw (by rw [hk]; rfl)]
    unfold endDiag endedLink
    dsimp only
    rw [hd]
    rfl

end Sys2Proof.Machine
end

section
/-! Holds that end safely, and what the sequencer makes of a stop, a recovery and a start (07 R114; 09 R139, R143, R148, R149). -/

namespace Sys2Proof.Machine

/-! ### Holds that end -/

/-- No goal is given, in force or carried. -/
def Blower.Goalless (b : Blower) : Prop := b.given = 0 ∧ b.goal = 0 ∧ b.carried = none

theorem Blower.goalless_removeHold {b : Blower} (h : b.Goalless) (now : Nat) (table : List BlowerPoint) (cold : Bool) :
    (b.removeHold now table cold).Goalless := by
  obtain ⟨hgiven, hgoal, hcarried⟩ := h
  rw [Blower.removeHold_eq]
  dsimp only
  split
  · have hpause : (b.reasonGone cold).leavePause now = { (b.reasonGone cold).leavePause now with given := 0 } := by
      unfold Blower.leavePause
      split <;> (rw [show (b.reasonGone cold) = { b.reasonGone cold with given := 0 } by rw [← hgiven]; rfl])
    unfold Blower.turnOff
    rw [hpause]
    exact ⟨rfl, rfl, rfl⟩
  · exact ⟨hgiven, hgoal, hcarried⟩

theorem HoldEndsSafely.of_goalless {s : State} {b : Blower} (h : HoldEndsSafely s)
    (hb : s.blower.Goalless → b.Goalless) : HoldEndsSafely { s with blower := b } :=
  h.imp id hb

/-- A hold reason that ends safely is removed with no guard. -/
theorem HoldEndsSafely.removeHold {s : State} (h : HoldEndsSafely s) (cold : Bool) :
    removeHold cold s = { s with blower := s.blower.removeHold s.now s.cfg.table cold } ∧
      HoldEndsSafely { s with blower := s.blower.removeHold s.now s.cfg.table cold } := by
  have hsafe := h.of_goalless fun hb => Blower.goalless_removeHold hb s.now s.cfg.table cold
  refine ⟨?_, hsafe⟩
  unfold Machine.removeHold
  refine airGuard_safe ?_
  exact hsafe.symm.imp (fun hb => hb.2.1) id

theorem Blower.removeHold_coldBlow (b : Blower) (now : Nat) (table : List BlowerPoint) (cold : Bool) :
    (b.removeHold now table cold).coldBlow = (b.coldBlow && !cold) ∧
      (b.removeHold now table cold).defrostHold = (b.defrostHold && cold) := by
  have hpause : ∀ c : Blower, (c.leavePause now).coldBlow = c.coldBlow ∧ (c.leavePause now).defrostHold = c.defrostHold := fun c => by
    unfold Blower.leavePause
    split <;> exact ⟨rfl, rfl⟩
  rw [Blower.removeHold_eq]
  dsimp only
  split
  · split
    · exact hpause (b.reasonGone cold)
    · exact ⟨rfl, rfl⟩
  · exact ⟨rfl, rfl⟩

theorem Blower.stopReported_holds (b : Blower) (now : Nat) (table : List BlowerPoint) (m : Option Mode) :
    (b.stopReported now table m).coldBlow = b.coldBlow ∧ (b.stopReported now table m).defrostHold = b.defrostHold := by
  have hpause : (b.leavePause now).coldBlow = b.coldBlow ∧ (b.leavePause now).defrostHold = b.defrostHold := by
    unfold Blower.leavePause
    split <;> exact ⟨rfl, rfl⟩
  unfold Blower.stopReported
  split
  · split
    · exact ⟨rfl, rfl⟩
    · split <;> exact hpause
  · exact ⟨rfl, rfl⟩

/-! ### The stop report -/

/-- The arbiter once a stop has been reported. -/
def restArbiter (s : State) : Arbiter :=
  if s.arb.mode = .rest ∧ s.arb.restStart = none then { s.arb with restStart := some s.now } else s.arb

/-- The sequencer once a stop has been reported. -/
def stoppedSeq (s : State) : Sequencer := { s.seq with runStart := none, minOffFrom := s.now, minOffDone := false }

/-- A stop is reported; a cold-blow hold ends with it. -/
theorem stopReport_safe {s : State} (h : s.blower.coldBlow = true → HoldEndsSafely s) :
    ∃ b, stopReport s = { s with arb := restArbiter s, blower := b, seq := stoppedSeq s } ∧
      b.defrostHold = s.blower.defrostHold ∧ b.coldBlow = false ∧ (HoldEndsSafely s → HoldEndsSafely { s with blower := b }) := by
  obtain ⟨hcold, hdefrost⟩ := s.blower.stopReported_holds s.now s.cfg.table s.seq.stopping
  have hreported : HoldEndsSafely s →
      HoldEndsSafely { s with blower := s.blower.stopReported s.now s.cfg.table s.seq.stopping } := fun hs =>
    hs.of_goalless fun hb => by
      rw [Blower.stopReported_same (.inr hb.2.2)]
      exact hb
  cases hc : s.blower.coldBlow with
  | false =>
    exact ⟨_, stopReport_eq hc, hdefrost, hcold.trans hc, hreported⟩
  | true =>
    have hs := h hc
    have hrest : restStartPoint (restartMinOff { s with seq := { s.seq with runStart := none } }) =
        { s with arb := restArbiter s, seq := stoppedSeq s } := by
      unfold restStartPoint restArbiter restartMinOff stoppedSeq
      dsimp only
      split <;> rfl
    obtain ⟨heq, hsafe⟩ := HoldEndsSafely.removeHold (s := { s with
      arb := restArbiter s, seq := stoppedSeq s, blower := s.blower.stopReported s.now s.cfg.table s.seq.stopping })
      (hreported hs) true
    obtain ⟨hc', hd'⟩ := (s.blower.stopReported s.now s.cfg.table s.seq.stopping).removeHold_coldBlow s.now s.cfg.table true
    refine ⟨_, ?_, hd'.trans ?_, hc'.trans (Bool.and_false _), fun _ => hsafe⟩
    · unfold stopReport
      dsimp only
      rw [hrest]
      dsimp only
      rw [show (stoppedSeq s).stopping = s.seq.stopping from rfl, hcold, hc, if_pos rfl]
      exact heq
    · rw [Bool.and_true, hdefrost]

/-! ### The end of a defrost -/

/-- The state in which recovery ends. -/
def recoveryNext (s : State) : SeqState :=
  if s.seq.takenStopped = false then (if s.seq.stopMark = false ∧ wanted s ≠ 0 then .running else .stopWait)
  else if s.prot.lockout then .lockout
  else if s.prot.stops ≠ [] then .tripped
  else restState s

/-- The sequencer once recovery has ended. -/
def recoveredSeq (s : State) : Sequencer :=
  { s.seq with
    state := recoveryNext s, stopSent := decide (recoveryNext s = .stopWait), takenStopped := false, stopMark := false
    grantSent := false, defrostFrom := none, recoveryFrom := none, startFailFrom := none }

theorem endRecovery_safe {s : State} (h : HoldEndsSafely s) (c : DefrostCause) : ∃ p, endRecovery c s =
    { s with
      seq := recoveredSeq s, arb := { s.arb with deferral := false }, eval := { s.eval with early := true }
      blower := s.blower.removeHold s.now s.cfg.table false, port := p } := by
  have hnext : (if (!s.seq.takenStopped) = true then (if (!s.seq.stopMark && decide (wanted s ≠ 0)) = true then SeqState.running else .stopWait)
      else if s.prot.lockout = true then .lockout
      else if s.prot.stops ≠ [] then .tripped
      else restState s) = recoveryNext s := by
    unfold recoveryNext
    simp only [Bool.not_eq_true', Bool.and_eq_true, decide_eq_true_eq]
  unfold endRecovery
  dsimp only
  rw [hnext]
  have hseq : (if recoveryNext s = .stopWait then stopWait true (seqRest (recoveryNext s) s) else seqRest (recoveryNext s) s) =
      { s with seq := recoveredSeq s } := by
    unfold recoveredSeq
    split
    next hs => rw [hs]; rfl
    next hs => rw [decide_eq_false hs]; rfl
  rw [hseq]
  obtain ⟨heq, -⟩ := HoldEndsSafely.removeHold (s := requestPass { s with
    seq := recoveredSeq s, arb := { s.arb with deferral := false } }) h false
  exact ⟨_, (congrArg (raise (.defrost .ended c (some (recoveryNext s)))) heq).trans rfl⟩

/-- The sequencer in DEFROST_RECOVERY from now on. -/
def recoverySeq (s : State) : Sequencer :=
  { s.seq with state := .defrostRecovery, grantSent := false, defrostFrom := none, recoveryFrom := some s.now }

/-- DEFROST_RECOVERY entered, and ended at once where the coil is warm. -/
theorem enterRecovery_warm {s : State} (hw : coilWarm s = true) (h : HoldEndsSafely s) (c : DefrostCause) : ∃ p, enterRecovery c s =
    { s with
      seq := recoveredSeq s, arb := { s.arb with deferral := false }, eval := { s.eval with early := true }
      blower := s.blower.removeHold s.now s.cfg.table false, port := p } := by
  obtain ⟨p, heq⟩ := endRecovery_safe (s := raise (.defrost .recovery c none) { s with seq := recoverySeq s }) h .coilWarm
  refine ⟨p, ?_⟩
  have hwarm : coilWarm (raise (.defrost .recovery c none) { s with seq := recoverySeq s }) = true := hw
  unfold enterRecovery
  dsimp only
  rw [show (raise (.defrost .recovery c none) { s with seq :=
    { s.seq with state := .defrostRecovery, grantSent := false, defrostFrom := none, recoveryFrom := some s.now } }) =
    raise (.defrost .recovery c none) { s with seq := recoverySeq s } from rfl, hwarm, if_pos rfl, heq]
  rfl

/-! ### Starts -/

theorem startHeld_iff (s : State) : startHeld s = false ↔ StartFree s := by
  unfold startHeld StartFree minOffExpired
  cases hl : s.link.lastStatus with
  | none => simp
  | some r => simp; tauto

theorem startDue_iff (s : State) : startDue s = true ↔ s.seq.state = .waitStart ∧ wanted s ≠ 0 ∧ StartFree s := by
  rw [← startHeld_iff]
  simp [startDue, and_assoc]

end Sys2Proof.Machine
end

section
/-! What a good STAT makes of the sequencer (09 R140, R143, R146, R147, R149). -/

namespace Sys2Proof.Machine

/-! ### Moves of the sequencer -/

/-- Nothing but the sequencer, the arbiter, the blower, the early-pass request and the port has changed. -/
def SeqMove (s t : State) : Prop := ∃ q a b x p, t =
  { s with seq := q, arb := a, blower := b, eval := { s.eval with early := x }, port := p }

theorem SeqMove.refl (s : State) : SeqMove s s := ⟨s.seq, s.arb, s.blower, s.eval.early, s.port, rfl⟩

theorem SeqMove.trans {s t u : State} (h : SeqMove s t) (h' : SeqMove t u) : SeqMove s u := by
  obtain ⟨_, _, _, _, _, rfl⟩ := h
  obtain ⟨q, a, b, x, p, rfl⟩ := h'
  exact ⟨q, a, b, x, p, rfl⟩

theorem SeqMove.settled {s t : State} (h : SeqMove s t) (hs : Settled s) : Settled t := by
  obtain ⟨_, _, _, _, _, rfl⟩ := h
  exact hs

theorem SeqMove.queue {s t : State} (h : SeqMove s t) : t.drive.queue = s.drive.queue := by
  obtain ⟨_, _, _, _, _, rfl⟩ := h
  rfl

/-- What a move of the sequencer leaves of a state, once its command has ended. -/
theorem SeqMove.frame {s t : State} (h : SeqMove s t) :
    ({ sync t with seq := s.seq, eval := s.eval, arb := s.arb, blower := s.blower, port := s.port } : State).timeless = s.timeless := by
  obtain ⟨q, a, b, x, p, rfl⟩ := h
  have hframe := congrArg (fun y : State => ({ y with
    seq := s.timeless.seq, eval := s.eval, arb := s.arb, blower := s.timeless.blower, port := s.port } : State)) (timeless_sync
      { s with seq := q, arb := a, blower := b, eval := { s.eval with early := x }, port := p })
  exact hframe

/-- The sequencer once a start has been commanded. -/
def startedSeq (s : State) : Sequencer :=
  { s.seq with state := .running, startFailMs := 0, startFailFrom := none, runStart := none, stopSent := false }

theorem startCompressor_move {s : State} (h : s.co.phase = .applied) : SeqMove s (startCompressor s) := by
  obtain ⟨b, hb⟩ := startCompressor_eq h
  rw [hb]
  exact ⟨_, s.arb, b, s.eval.early, s.port, rfl⟩

theorem startCompressor_seq (s : State) : (startCompressor s).seq = startedSeq s ∧
    (startCompressor s).blower.defrostHold = s.blower.defrostHold ∧ (startCompressor s).arb = s.arb ∧
      (startCompressor s).eval = s.eval := by
  unfold startCompressor
  dsimp only
  split
  · refine ⟨rfl, ?_, rfl, rfl⟩
    show (s.blower.addHold s.now s.cfg.table true).defrostHold = _
    have hpause : ∀ c : Blower, (c.leavePause s.now).defrostHold = c.defrostHold := fun c => by
      unfold Blower.leavePause
      split <;> rfl
    rw [Blower.addHold_eq]
    have hreason : (s.blower.reasonAdded true).defrostHold = s.blower.defrostHold := Bool.or_false _
    split
    · exact hreason
    · exact (hpause _).trans hreason
  · exact ⟨rfl, rfl, rfl, rfl⟩

/-- A command that only moves the sequencer ends with the start that is due, if any. -/
theorem SeqMove.finish {s t : State} (h : SeqMove s t) (hs : Settled s) (hq : s.drive.queue = []) :
    ∃ u, finish t = sync u ∧ SeqMove s u ∧ (startDue t = false → u = t) ∧ (startDue t = true → u = startCompressor t) := by
  have hfin := finish_settled (h.settled hs) (h.queue.trans hq)
  cases hd : startDue t with
  | false =>
    rw [hd] at hfin
    exact ⟨t, hfin, h, fun _ => rfl, fun h => nomatch h⟩
  | true =>
    rw [hd] at hfin
    have hphase : t.co.phase = .applied := (h.settled hs).2.1
    exact ⟨_, hfin, h.trans (startCompressor_move hphase), (nomatch ·), fun _ => rfl⟩

/-! ### Confirmation of a start -/

/-- The sequencer once a STAT has confirmed the start, where it does. -/
def confirmedSeq (r : StatRecord) (s : State) : Sequencer :=
  if r.compressor = .running ∧ s.seq.runStart = none ∧ compressorRunning s = true then
    { s.seq with runStart := some s.now, startFailMs := startFailTime s, startFailFrom := none }
  else s.seq

theorem confirmStart_eq (r : StatRecord) (s : State) : confirmStart r s = { s with seq := confirmedSeq r s } := by
  unfold confirmStart confirmedSeq
  split <;> rfl

/-- What a confirmed start leaves of the sequencer. -/
theorem confirmedSeq_same (r : StatRecord) (s : State) : confirmedSeq r s =
    { s.seq with
      runStart := (confirmedSeq r s).runStart, startFailMs := (confirmedSeq r s).startFailMs
      startFailFrom := (confirmedSeq r s).startFailFrom } := by
  unfold confirmedSeq
  split <;> rfl

theorem confirmedSeq_other {r : StatRecord} {s : State}
    (h : r.compressor ≠ .running ∨ s.seq.runStart ≠ none ∨ compressorRunning s = false) : confirmedSeq r s = s.seq := by
  unfold confirmedSeq
  rw [if_neg]
  rintro ⟨hr, hn, hc⟩
  rcases h with h | h | h
  · exact h hr
  · exact h hn
  · exact nomatch h.symm.trans hc

/-! ### Stops and interrupted defrosts -/

/-- The sequencer at rest after a stop. -/
def restedSeq (q : SeqState) (x : Sequencer) : Sequencer :=
  { x with
    state := q, stopSent := false, takenStopped := false, stopMark := false, grantSent := false, defrostFrom := none
    recoveryFrom := none, startFailFrom := none }

theorem statStops_eq {s : State} (h : s.blower.coldBlow = true → HoldEndsSafely s) : ∃ b, statStops s =
    { s with arb := restArbiter s, blower := b, seq := restedSeq (restState s) (stoppedSeq s) } := by
  obtain ⟨b, heq, -⟩ := stopReport_safe h
  unfold statStops
  rw [heq]
  exact ⟨b, rfl⟩

/-- The sequencer of a defrost once its compressor is taken as stopped. -/
def takenSeq (s : State) : Sequencer := { stoppedSeq s with takenStopped := true }

theorem takeStopped_safe {s : State} (ht : s.seq.takenStopped = false) (h : HoldEndsSafely s) : ∃ b, takeStopped s =
    { s with arb := restArbiter s, blower := b, seq := takenSeq s } ∧ HoldEndsSafely { s with blower := b } := by
  obtain ⟨b, heq, -, -, hsafe⟩ := stopReport_safe (s := s) fun _ => h
  refine ⟨b, ?_, hsafe h⟩
  unfold takeStopped
  rw [ht, heq]
  rfl

/-- A defrost whose compressor stops in DEFROST_RECOVERY. -/
theorem interruptDefrost_recovery {s : State} (ht : s.seq.takenStopped = false) (h : HoldEndsSafely s)
    (hq : s.seq.state = .defrostRecovery) (c : DefrostCause) : ∃ b, interruptDefrost c s =
    { s with arb := restArbiter s, blower := b, seq := takenSeq s } := by
  obtain ⟨b, heq, -⟩ := takeStopped_safe ht h
  refine ⟨b, ?_⟩
  unfold interruptDefrost
  dsimp only
  rw [heq, if_pos (show (takenSeq s).state = .defrostRecovery from hq)]

/-- A defrost whose compressor stops with a coil that is not warm. -/
theorem interruptDefrost_cold {s : State} (ht : s.seq.takenStopped = false) (h : HoldEndsSafely s)
    (hq : s.seq.state ≠ .defrostRecovery) (hw : coilWarm s = false) (c : DefrostCause) : ∃ b p, interruptDefrost c s =
    { s with
      arb := restArbiter s, blower := b, port := p
      seq :=
        { takenSeq s with state := .defrostRecovery, grantSent := false, defrostFrom := none, recoveryFrom := some s.now } } := by
  obtain ⟨b, heq, -⟩ := takeStopped_safe ht h
  refine ⟨b, s.port.raise s.now (.defrost .recovery c none), ?_⟩
  unfold interruptDefrost
  dsimp only
  rw [heq, if_neg (show ¬(takenSeq s).state = .defrostRecovery from hq)]
  exact enterRecovery_cold (s := { s with arb := restArbiter s, blower := b, seq := takenSeq s }) hw c

/-- A defrost whose compressor stops with a warm coil. -/
theorem interruptDefrost_warm {s : State} (ht : s.seq.takenStopped = false) (h : HoldEndsSafely s)
    (hq : s.seq.state ≠ .defrostRecovery) (hw : coilWarm s = true) (c : DefrostCause) : ∃ b p, interruptDefrost c s =
    { s with
      seq := recoveredSeq { s with seq := takenSeq s }, arb := { restArbiter s with deferral := false }
      eval := { s.eval with early := true }, blower := b, port := p } ∧ b.defrostHold = false := by
  obtain ⟨b, heq, hsafe⟩ := takeStopped_safe ht h
  obtain ⟨p, hrec⟩ := enterRecovery_warm (s := { s with arb := restArbiter s, blower := b, seq := takenSeq s }) hw hsafe c
  refine ⟨_, p, ?_, (b.removeHold_coldBlow s.now s.cfg.table false).2.trans (Bool.and_false _)⟩
  unfold interruptDefrost
  dsimp only
  rw [heq, if_neg (show ¬(takenSeq s).state = .defrostRecovery from hq)]
  exact hrec

/-- Whatever the coil reads, an interrupted defrost moves the sequencer only. -/
theorem interruptDefrost_move {s : State} (ht : s.seq.takenStopped = false) (h : HoldEndsSafely s) (c : DefrostCause) :
    SeqMove s (interruptDefrost c s) := by
  by_cases hq : s.seq.state = .defrostRecovery
  · obtain ⟨b, heq⟩ := interruptDefrost_recovery ht h hq c
    rw [heq]
    exact ⟨_, _, _, s.eval.early, s.port, rfl⟩
  · cases hw : coilWarm s with
    | false =>
      obtain ⟨b, p, heq⟩ := interruptDefrost_cold ht h hq hw c
      rw [heq]
      exact ⟨_, _, _, s.eval.early, p, rfl⟩
    | true =>
      obtain ⟨b, p, heq, -⟩ := interruptDefrost_warm ht h hq hw c
      rw [heq]
      exact ⟨_, _, _, true, p, rfl⟩

theorem enterRecovery_move {s : State} (h : HoldEndsSafely s) (c : DefrostCause) : SeqMove s (enterRecovery c s) := by
  cases hw : coilWarm s with
  | false =>
    rw [enterRecovery_cold hw]
    exact ⟨_, _, _, s.eval.early, _, rfl⟩
  | true =>
    obtain ⟨p, heq⟩ := enterRecovery_warm hw h c
    rw [heq]
    exact ⟨_, _, _, true, p, rfl⟩

theorem enterPrep_eq {s : State} (h : s.co.phase = .applied) : ∃ q b p, enterPrep s =
    { s with seq := q, arb := { s.arb with deferral := true }, blower := b, port := p } ∧
      q.state = .defrostPrep ∧ q.runStart = s.seq.runStart ∧ b.defrostHold = true ∧ b.state = .hold := by
  have hold : (s.blower.addHold s.now s.cfg.table false).defrostHold = true ∧
      (s.blower.addHold s.now s.cfg.table false).state = .hold := by
    have hpause : ∀ c : Blower, (c.leavePause s.now).defrostHold = c.defrostHold := fun c => by
      unfold Blower.leavePause
      split <;> rfl
    have hreason : (s.blower.reasonAdded false).defrostHold = true := Bool.or_true _
    rw [Blower.addHold_eq]
    split
    next hs => exact ⟨hreason, hs⟩
    next => exact ⟨(hpause _).trans hreason, rfl⟩
  unfold enterPrep
  dsimp only
  rw [addHold_applied (s := { s with seq :=
    { s.seq with state := .defrostPrep, takenStopped := false, stopMark := false, grantSent := false, defrostFrom := none } }) h]
  split
  · exact ⟨_, _, _, rfl, rfl, rfl, hold⟩
  · exact ⟨_, _, _, rfl, rfl, rfl, hold⟩

end Sys2Proof.Machine
end

section
/-! The rows of the compressor sequencer (09 R137 to R149). -/

namespace Sys2Proof.Machine

/-! ### A good STAT, state by state -/

theorem seqStat_eq (r : StatRecord) (s : State) : seqStat r s =
    match s.seq.state with
    | .running => statRunning r (confirmStart r s)
    | .stopWait => if r.compressor = .stopped then statStops (confirmStart r s) else confirmStart r s
    | .defrostPrep =>
      if r.compressor = .stopped ∧ s.seq.takenStopped = false then interruptDefrost .stop (confirmStart r s)
      else statDefrost r (confirmStart r s)
    | .defrostActive =>
      if r.compressor = .stopped ∧ s.seq.takenStopped = false then interruptDefrost .stop (confirmStart r s)
      else statDefrost r (confirmStart r s)
    | .defrostRecovery =>
      if r.compressor = .stopped ∧ s.seq.takenStopped = false then interruptDefrost .stop (confirmStart r s)
      else confirmStart r s
    | _ => confirmStart r s := by
  have hsame := confirmedSeq_same r s
  have hstate : (confirmStart r s).seq.state = s.seq.state := by rw [confirmStart_eq, hsame]
  have htaken : (confirmStart r s).seq.takenStopped = s.seq.takenStopped := by rw [confirmStart_eq, hsame]
  unfold seqStat
  dsimp only
  rw [hstate, htaken] <;> rfl

theorem statDefrost_prep {s : State} (h : s.seq.state = .defrostPrep) (r : StatRecord) : statDefrost r s =
    if r.defrostActive && s.seq.grantSent then
      raise (.defrost .active .outdoorActive none) { s with seq := { s.seq with state := .defrostActive, defrostFrom := some s.now } }
    else if !r.defrostReq && !r.defrostActive then enterRecovery .withdrawn s
    else s := by
  unfold statDefrost
  rw [h]

theorem statDefrost_active {s : State} (h : s.seq.state = .defrostActive) (r : StatRecord) : statDefrost r s =
    if !r.defrostReq && !r.defrostActive then enterRecovery .outdoorDone s else s := by
  unfold statDefrost
  rw [h]

/-- A good STAT moves the sequencer only. -/
theorem seqStat_move {s : State} (hphase : s.co.phase = .applied)
    (hsafe : s.blower.coldBlow = true ∨ s.seq.state.defrosting = true → HoldEndsSafely s) (r : StatRecord) :
    SeqMove s (seqStat r s) := by
  have hconfirm : SeqMove s (confirmStart r s) := by
    rw [confirmStart_eq]
    exact ⟨_, s.arb, s.blower, s.eval.early, s.port, rfl⟩
  have hstops : SeqMove s (statStops (confirmStart r s)) := by
    rw [confirmStart_eq]
    obtain ⟨b, heq⟩ := statStops_eq (s := { s with seq := confirmedSeq r s }) fun h => hsafe (.inl h)
    rw [heq]
    exact ⟨_, _, b, s.eval.early, s.port, rfl⟩
  have hinterrupt : s.seq.state.defrosting = true → s.seq.takenStopped = false → SeqMove s (interruptDefrost .stop (confirmStart r s)) :=
    fun hd ht => hconfirm.trans (by
      have hs : HoldEndsSafely { s with seq := confirmedSeq r s } := hsafe (.inr hd)
      rw [confirmStart_eq]
      refine interruptDefrost_move ?_ hs _
      show (confirmedSeq r s).takenStopped = false
      rw [confirmedSeq_same]
      exact ht)
  have hrecover : s.seq.state.defrosting = true → ∀ c, SeqMove s (enterRecovery c (confirmStart r s)) := fun hd c =>
    hconfirm.trans (by
      have hs : HoldEndsSafely { s with seq := confirmedSeq r s } := hsafe (.inr hd)
      rw [confirmStart_eq]
      exact enterRecovery_move hs c)
  have hdefrost : s.seq.state = .defrostPrep ∨ s.seq.state = .defrostActive → SeqMove s (statDefrost r (confirmStart r s)) :=
    fun hd => by
      have hstate : (confirmStart r s).seq.state = s.seq.state := by rw [confirmStart_eq, confirmedSeq_same]
      rcases hd with hd | hd
      · have hdef : s.seq.state.defrosting = true := by rw [hd]; rfl
        rw [statDefrost_prep (hstate.trans hd)]
        split
        · rw [confirmStart_eq]
          exact ⟨_, s.arb, s.blower, s.eval.early, _, rfl⟩
        · split
          · exact hrecover hdef _
          · exact hconfirm
      · have hdef : s.seq.state.defrosting = true := by rw [hd]; rfl
        rw [statDefrost_active (hstate.trans hd)]
        split
        · exact hrecover hdef _
        · exact hconfirm
  rw [seqStat_eq]
  split
  next hq =>
    unfold statRunning
    split
    · exact hstops
    · split
      · rw [confirmStart_eq]
        obtain ⟨q, b, p, heq, -⟩ := enterPrep_eq (s := { s with seq := confirmedSeq r s }) hphase
        rw [heq]
        exact ⟨_, _, b, s.eval.early, p, rfl⟩
      · exact hconfirm
  next hq =>
    split
    · exact hstops
    · exact hconfirm
  next hq =>
    split
    next h => exact hinterrupt (by rw [hq]; rfl) h.2
    next => exact hdefrost (.inl hq)
  next hq =>
    split
    next h => exact hinterrupt (by rw [hq]; rfl) h.2
    next => exact hdefrost (.inr hq)
  next hq =>
    split
    next h => exact hinterrupt (by rw [hq]; rfl) h.2
    next => exact hconfirm
  next => exact hconfirm

theorem startDue_now {s : State} (h : s.seq.minOffFrom = s.now) : startDue s = false := by
  rw [Bool.eq_false_iff]
  intro hd
  obtain ⟨-, -, hmin, -⟩ := (startDue_iff s).mp hd
  omega

theorem startDue_other {s : State} (h : s.seq.state ≠ .waitStart) : startDue s = false := by
  rw [Bool.eq_false_iff]
  exact fun hd => h ((startDue_iff s).mp hd).1

/-- Where the compressor runs on, a STAT shows no more than the start it confirms. -/
theorem seqStat_running {r : StatRecord} {s : State} (hq : s.seq.state = .running)
    (hstop : r.compressor ≠ .stopped ∨ s.seq.runStart = none)
    (hdef : r.defrostReq = false ∨ ¬s.seq.release.map Release.mode = some .heat) : seqStat r s = { s with seq := confirmedSeq r s } := by
  have hstart : ¬(r.compressor = .stopped ∧ (confirmedSeq r s).runStart ≠ none) := by
    rintro ⟨hc, hn⟩
    rw [confirmedSeq_other (.inl (by rw [hc]; decide))] at hn
    exact hstop.elim (fun h => h hc) hn
  have hreq : (r.defrostReq && decide (releaseMode (confirmedSeq r s) = some .heat)) = false := by
    rcases hdef with h | h
    · rw [h]; rfl
    · have hmode : releaseMode (confirmedSeq r s) = releaseMode s.seq := by unfold releaseMode; rw [confirmedSeq_same]
      have hno : ¬releaseMode s.seq = some .heat := h
      rw [hmode, decide_eq_false hno, Bool.and_false]
  rw [seqStat_eq, hq]
  dsimp only
  rw [confirmStart_eq]
  unfold statRunning
  rw [if_neg hstart]
  dsimp only
  rw [hreq]
  rfl

/-- A STAT that shows STOPPED reports the stop of a compressor that had been seen running or was to stop. -/
theorem seqStat_stops {r : StatRecord} {s : State} (hsafe : s.blower.coldBlow = true → HoldEndsSafely s)
    (hq : s.seq.state = .running ∧ s.seq.runStart ≠ none ∨ s.seq.state = .stopWait) (hr : r.compressor = .stopped) :
    ∃ b, seqStat r s = { s with arb := restArbiter s, blower := b, seq := restedSeq (restState s) (stoppedSeq s) } := by
  have hconfirm : confirmStart r s = s := by
    rw [confirmStart_eq, confirmedSeq_other (.inl (by rw [hr]; decide))]
  obtain ⟨b, heq⟩ := statStops_eq hsafe
  refine ⟨b, ?_⟩
  rw [seqStat_eq, hconfirm]
  rcases hq with ⟨hq, hn⟩ | hq
  · rw [hq]
    dsimp only
    unfold statRunning
    rw [if_pos ⟨hr, hn⟩, heq]
  · rw [hq]
    dsimp only
    rw [if_pos hr, heq]

/-- A defrost request under HEAT. -/
theorem seqStat_prep {r : StatRecord} {s : State} (hphase : s.co.phase = .applied) (hq : s.seq.state = .running)
    (hr : r.compressor ≠ .stopped) (hreq : r.defrostReq = true) (hmode : s.seq.release.map Release.mode = some .heat) :
    ∃ q b p, seqStat r s = { s with seq := q, arb := { s.arb with deferral := true }, blower := b, port := p } ∧
      q.state = .defrostPrep ∧ q.runStart = (confirmedSeq r s).runStart ∧ b.defrostHold = true ∧ b.state = .hold := by
  obtain ⟨q, b, p, heq, hqs, hrun, hb⟩ := enterPrep_eq (s := { s with seq := confirmedSeq r s }) hphase
  refine ⟨q, b, p, ?_, hqs, hrun, hb⟩
  have hheat : releaseMode (confirmedSeq r s) = some .heat := by
    unfold releaseMode
    rw [confirmedSeq_same]
    exact hmode
  rw [seqStat_eq, hq]
  dsimp only
  rw [confirmStart_eq]
  unfold statRunning
  rw [if_neg fun h => hr h.1]
  dsimp only
  rw [hreq, hheat]
  exact heq

/-- DEFROST_ACTIVE after the grant. -/
theorem seqStat_granted {r : StatRecord} {s : State} (hq : s.seq.state = .defrostPrep) (hg : s.seq.grantSent = true)
    (hr : ¬(r.compressor = .stopped ∧ s.seq.takenStopped = false)) (ha : r.defrostActive = true) : ∃ p, seqStat r s =
    { s with seq := { confirmedSeq r s with state := .defrostActive, defrostFrom := some s.now }, port := p } := by
  have hsame := confirmedSeq_same r s
  have hstate : (confirmStart r s).seq.state = .defrostPrep := by rw [confirmStart_eq, hsame]; exact hq
  have hgrant : (confirmStart r s).seq.grantSent = true := by rw [confirmStart_eq, hsame]; exact hg
  rw [seqStat_eq, hq]
  dsimp only
  rw [if_neg hr, statDefrost_prep hstate, ha, hgrant, confirmStart_eq]
  exact ⟨_, rfl⟩

/-- A defrost whose flags are clear goes to recovery. -/
theorem seqStat_clear {r : StatRecord} {s : State} (hq : s.seq.state = .defrostPrep ∨ s.seq.state = .defrostActive)
    (hr : ¬(r.compressor = .stopped ∧ s.seq.takenStopped = false)) (hreq : r.defrostReq = false) (ha : r.defrostActive = false) :
    ∃ c, seqStat r s = enterRecovery c { s with seq := confirmedSeq r s } := by
  have hstate : (confirmStart r s).seq.state = s.seq.state := by rw [confirmStart_eq, confirmedSeq_same]
  rw [seqStat_eq]
  rcases hq with hq | hq
  · refine ⟨.withdrawn, ?_⟩
    rw [hq]
    dsimp only
    rw [if_neg hr, statDefrost_prep (hstate.trans hq), ha, hreq, confirmStart_eq]
    rfl
  · refine ⟨.outdoorDone, ?_⟩
    rw [hq]
    dsimp only
    rw [if_neg hr, statDefrost_active (hstate.trans hq), ha, hreq, confirmStart_eq]
    rfl

/-- A STAT that shows STOPPED in a defrost whose compressor was not yet taken as stopped. -/
theorem seqStat_interrupts {r : StatRecord} {s : State} (hq : s.seq.state.defrosting = true) (hr : r.compressor = .stopped)
    (ht : s.seq.takenStopped = false) : seqStat r s = interruptDefrost .stop s := by
  have hconfirm : confirmStart r s = s := by
    rw [confirmStart_eq, confirmedSeq_other (.inl (by rw [hr]; decide))]
  rw [seqStat_eq, hconfirm]
  cases hs : s.seq.state with
  | defrostPrep => exact if_pos ⟨hr, ht⟩
  | defrostActive => exact if_pos ⟨hr, ht⟩
  | defrostRecovery => exact if_pos ⟨hr, ht⟩
  | _ => rw [hs] at hq; exact nomatch hq

/-- A STAT leaves a sequencer at rest alone. -/
theorem seqStat_rest {r : StatRecord} {s : State}
    (hq : s.seq.state = .stopped ∨ s.seq.state = .tripped ∨ s.seq.state = .lockout) : seqStat r s = s := by
  have hconfirm : confirmStart r s = s := by
    rw [confirmStart_eq, confirmedSeq_other (.inr (.inr (by rcases hq with h | h | h <;> simp [compressorRunning, h])))]
  rw [seqStat_eq, hconfirm]
  rcases hq with h | h | h <;> rw [h]

end Sys2Proof.Machine
end

section
/-! The moves of the compressor sequencer (09 R137 to R149). -/

namespace Sys2Proof.Machine

/-- A good STAT with no trip about goes to the sequencer alone. -/
theorem goodStat_sequencer {s : State} {r : StatRecord} (hphase : s.co.phase = .applied)
    (hsafe : s.blower.coldBlow = true ∨ s.seq.state.defrosting = true → HoldEndsSafely s)
    (hop : s.op.state ≠ .resting) (hn : s.op.notice = false) (hr : r.trip = none) (hs : s.prot.stops = []) :
    ∃ p, goodStat r s = seqStat r { s with
      link := statLink s.now r s.link
      eval := { s.eval with early := s.eval.early || decide ((statLink s.now r s.link).state ≠ s.link.state) }, port := p } := by
  obtain ⟨p, h⟩ := goodStat_eq r s
  refine ⟨p, ?_⟩
  obtain ⟨q, a, b, x, p2, hmove⟩ := seqStat_move (s := { s with
    link := statLink s.now r s.link
    eval := { s.eval with early := s.eval.early || decide ((statLink s.now r s.link).state ≠ s.link.state) }, port := p })
    hphase hsafe r
  have hleave : leaveOutdoor none (seqStat r { s with
      link := statLink s.now r s.link
      eval := { s.eval with early := s.eval.early || decide ((statLink s.now r s.link).state ≠ s.link.state) }, port := p }) =
      seqStat r { s with
        link := statLink s.now r s.link
        eval := { s.eval with early := s.eval.early || decide ((statLink s.now r s.link).state ≠ s.link.state) }, port := p } := by
    refine leaveOutdoor_absent ?_
    rw [hmove]
    show ∀ k ∈ s.prot.stops, _
    rw [hs]
    exact nofun
  rw [h]
  unfold protStat
  rw [hr]
  dsimp only
  rw [hleave, hmove]
  unfold opStat
  dsimp only
  rw [hn]
  split
  · exact wakeEvent_awake hop hn
  · rfl

/-- What ends a defrost leaves of the arbiter, the blower and the early-pass request. -/
def DefrostOver (t : State) : Prop := t.arb.deferral = false ∧ t.blower.defrostHold = false ∧ t.eval.early = true

theorem coilWarm_iff (s : State) : coilWarm s = true ↔ ∃ x, s.prot.coil = some x ∧ 300 ≤ x := by
  unfold coilWarm
  cases s.prot.coil <;> simp

theorem sync_over {u : State} (h : DefrostOver u) : DefrostOver (sync u) := by
  obtain ⟨ha, hb, he⟩ := h
  exact ⟨by rw [sync_arb]; exact ha, (sync_blower_defrostHold u).trans hb, by rw [sync_eval]; exact he⟩

/-- The sequencer as the end of a command leaves it. -/
theorem sync_seq_eq (s : State) : (sync s).seq =
    if startFailCounts s then { s.seq with startFailFrom := some (s.seq.startFailFrom.getD s.now) }
    else { s.seq with startFailMs := startFailTime s, startFailFrom := none } := by
  have key : ∀ t : State, (standDown (syncStartFail t)).seq =
      if startFailCounts t then { t.seq with startFailFrom := some (t.seq.startFailFrom.getD t.now) }
      else { t.seq with startFailMs := startFailTime t, startFailFrom := none } := fun t => by
    obtain ⟨o, ho, -⟩ := standDown_eq (syncStartFail t)
    rw [ho]
    unfold syncStartFail
    dsimp only
    split <;> rfl
  exact key (syncWatches { s with blower := s.blower.syncPressure s.now s.cfg.pressureCap })

theorem sync_startFailFrom (s : State) : (sync s).seq.startFailFrom =
    if startFailCounts s then some (s.seq.startFailFrom.getD s.now) else none := by
  rw [sync_seq_eq]
  split <;> rfl

theorem sync_startFailTime (s : State) : startFailTime (sync s) = startFailTime s := by
  have hseq := sync_seq_eq s
  cases hc : startFailCounts s with
  | false =>
    rw [hc, if_neg Bool.false_ne_true] at hseq
    unfold startFailTime
    rw [hseq]
    rfl
  | true =>
    rw [hc, if_pos rfl] at hseq
    unfold startFailTime
    rw [hseq, sync_now]
    cases hf : s.seq.startFailFrom with
    | none => simp
    | some t => rfl

theorem startFailCounts_running {s : State} {r : StatRecord} (hq : s.seq.state = .running) (hl : s.link.lastStatus = some r) :
    startFailCounts s = true ↔ s.seq.runStart = none ∧ r.holdoff = false := by
  simp [startFailCounts, hq, hl]

/-- The start-fail time stands at a STAT that leaves the compressor running. -/
theorem startFail_confirmed {r : StatRecord} {s u : State} (hnow : u.now = s.now) (hl : u.link.lastStatus = some r)
    (hseq : u.seq = confirmedSeq r s) (hq : s.seq.state = .running) :
    startFailTime (sync u) = startFailTime s ∧
      (sync u).seq.startFailFrom =
        if s.seq.runStart = none ∧ r.compressor ≠ .running ∧ r.holdoff = false then some (s.seq.startFailFrom.getD s.now)
        else none := by
  have hstate : u.seq.state = .running := by
    rw [hseq, confirmedSeq_same]
    exact hq
  have hcounts := startFailCounts_running hstate hl
  rw [sync_startFailTime, sync_startFailFrom]
  by_cases hc : r.compressor = .running ∧ s.seq.runStart = none
  · have hconf : u.seq = { s.seq with runStart := some s.now, startFailMs := startFailTime s, startFailFrom := none } := by
      rw [hseq]
      unfold confirmedSeq
      rw [if_pos ⟨hc.1, hc.2, by simp [compressorRunning, hq]⟩]
    have hno : ¬startFailCounts u = true := fun h => by
      have := (hcounts.mp h).1
      rw [hconf] at this
      exact nomatch this
    refine ⟨?_, ?_⟩
    · unfold startFailTime
      rw [hconf]
      rfl
    · rw [if_neg hno, if_neg fun h => h.2.1 hc.1]
  · have hconf : u.seq = s.seq := by
      rw [hseq]
      refine confirmedSeq_other ?_
      by_cases hr : r.compressor = .running
      · exact .inr (.inl fun hn => hc ⟨hr, hn⟩)
      · exact .inl hr
    have hiff : (s.seq.runStart = none ∧ r.compressor ≠ .running ∧ r.holdoff = false) ↔ startFailCounts u = true := by
      rw [hcounts, hconf]
      exact ⟨fun h => ⟨h.1, h.2.2⟩, fun h => ⟨h.1, fun hr => hc ⟨hr, h.1⟩, h.2⟩⟩
    refine ⟨?_, ?_⟩
    · unfold startFailTime
      rw [hconf, hnow]
    · rw [hconf, hnow]
      simp only [hiff]

end Sys2Proof.Machine
end

section
/-! A pass whose plan wants no capacity: it is handed on, and its release stops the compressor (02 R20, 04 R71, R75; 09 R141). -/

namespace Sys2Proof.Machine

/-! ### Requests change the drive alone -/

theorem moveRequest_drive (d : ZoneId) (n : Nat) (s : State) : ∃ v, moveRequest d n s = { s with drive := v } := by
  unfold moveRequest
  split
  · exact ⟨_, rfl⟩
  · exact ⟨s.drive, rfl⟩

theorem foldl_drive {α : Type} (f : State → α → State) (h : ∀ s a, ∃ v, f s a = { s with drive := v }) (l : List α) (s : State) :
    ∃ v, l.foldl f s = { s with drive := v } := by
  induction l generalizing s with
  | nil => exact ⟨s.drive, rfl⟩
  | cons a l ih =>
    obtain ⟨v, hv⟩ := h s a
    obtain ⟨w, hw⟩ := ih (f s a)
    refine ⟨w, hw.trans ?_⟩
    rw [hv]

theorem ite_drive (c : Prop) [Decidable c] {s t : State} (h : ∃ v, t = { s with drive := v }) :
    ∃ v, (if c then t else s) = { s with drive := v } := by
  split
  · exact h
  · exact ⟨s.drive, rfl⟩

theorem requestFor_drive (p : Plan) (z : ZoneId) (s : State) : ∃ v, requestFor p z s = { s with drive := v } :=
  ite_drive _ (moveRequest_drive _ _ s)

theorem requestOpenings_drive (p : Plan) (s : State) : ∃ v, requestOpenings p s = { s with drive := v } :=
  foldl_drive _ (fun s z => ite_drive _ (requestFor_drive p z s)) _ s

theorem requestClosings_drive (p : Plan) (s : State) : ∃ v, requestClosings p s = { s with drive := v } :=
  foldl_drive _ (fun s z => ite_drive _ (requestFor_drive p z s)) _ s

theorem adjustEntry_drive (p : Plan) (d : ZoneId) (s : State) : ∃ v, adjustEntry p d s = { s with drive := v } := by
  unfold adjustEntry
  split
  · dsimp only
    split <;> exact ⟨_, rfl⟩
  · exact ⟨s.drive, rfl⟩

theorem clearInMotion_drive (d : ZoneId) (s : State) : ∃ v, clearInMotion d s = { s with drive := v } := by
  unfold clearInMotion
  split
  · exact ⟨_, rfl⟩
  · exact ⟨_, rfl⟩
  · exact ⟨s.drive, rfl⟩

theorem removeIntent_drive (p : Plan) (s : State) : ∃ v, removeIntent p s = { s with drive := v } := by
  refine foldl_drive _ (fun s d => ?_) _ s
  split
  · exact ⟨s.drive, rfl⟩
  · obtain ⟨v, hv⟩ := adjustEntry_drive p d s
    obtain ⟨w, hw⟩ := clearInMotion_drive d (adjustEntry p d s)
    refine ⟨w, hw.trans ?_⟩
    rw [hv]

/-! ### A release of no capacity -/

/-- The fields of the sequencer that a release of no capacity decides, and those it leaves. -/
structure Stopped (m : Mode) (target : Option Int) (sent : Bool) (was : Option Mode) (start : Option Nat) (off : Nat) (q : Sequencer) :
    Prop where
  state : q.state = .stopWait
  sent : q.stopSent = sent
  release : q.release = some ⟨m, 0, target⟩
  stopping : q.stopping = was
  runStart : q.runStart = start
  minOffFrom : q.minOffFrom = off

theorem wantedOf_zero (m : Mode) (target : Option Int) (limit : Nat) : wantedOf (some ⟨m, 0, target⟩) limit = 0 := by
  simp [wantedOf]

/-- A further release of no capacity leaves what the first has decided. -/
theorem seqRelease_stopped {m : Mode} {target : Option Int} {sent : Bool} {was : Option Mode} {start : Option Nat} {off : Nat} {s : State}
    (h : Stopped m target sent was start off s.seq) (hrest : m = .rest → sent = true) :
    ∃ q, seqRelease ⟨m, 0, target⟩ s = { s with seq := q } ∧ Stopped m target sent was start off q := by
  obtain ⟨hstate, hsent, -, hstop, hrun, hoff⟩ := h
  unfold seqRelease
  dsimp only
  rw [hstate]
  dsimp only
  split
  next => exact ⟨_, rfl, rfl, hsent, rfl, hstop, hrun, hoff⟩
  next hn =>
    have hnot : m ≠ .rest := fun h => hn (hsent.trans (hrest h))
    rw [if_neg hnot]
    split
    next => exact ⟨_, rfl, rfl, hsent, rfl, hstop, hrun, hoff⟩
    next hw => exact absurd (wantedOf_zero m target s.prot.limit) hw

/-- The first release of no capacity to a running compressor. -/
theorem seqRelease_stops {s : State} (hq : s.seq.state = .running) (m : Mode) (target : Option Int) :
    ∃ q, seqRelease ⟨m, 0, target⟩ s = { s with seq := q } ∧
      Stopped m target (decide (m = .rest) || !inMinimumRun s) s.seq.stopping s.seq.runStart s.seq.minOffFrom q := by
  unfold seqRelease
  dsimp only
  rw [hq]
  dsimp only
  split
  next hm => exact ⟨_, rfl, rfl, by rw [decide_eq_true hm]; rfl, rfl, rfl, rfl, rfl⟩
  next hm => exact ⟨_, rfl, rfl, by rw [decide_eq_false hm]; rfl, rfl, rfl, rfl, rfl⟩

theorem leaveStops_seq {k : TripKind} {s : State} (h : s.seq.state ≠ .tripped) : ∃ r p, leaveStops k s = { s with prot := r, port := p } ∧
    r.floatHeld = s.prot.floatHeld := by
  have hno : ∀ t : State, t.seq = s.seq → noStoppingTrip t = t := fun t ht => by
    unfold noStoppingTrip
    rw [ht, if_neg h]
  unfold leaveStops
  dsimp only
  split
  · split
    · exact ⟨_, _, hno _ rfl, rfl⟩
    · exact ⟨_, _, rfl, rfl⟩
  · exact ⟨s.prot, s.port, rfl, rfl⟩

/-- The release of a plan with the float condition clear. -/
theorem releasePlan_clear {p : Plan} {s : State} {q : Sequencer} (hf : s.prot.floatHeld = false)
    (hrel : seqRelease ⟨p.mode, p.c, p.coilTarget⟩ { s with co := { s.co with released := true } } =
      { s with co := { s.co with released := true }, seq := q })
    (hq : q.state ≠ .tripped) : ∃ r port, releasePlan p s =
      { s with co := { s.co with released := true }, seq := q, prot := r, port := port } ∧ r.floatHeld = false := by
  have key : ∀ t : State, t.prot.floatHeld = false → t.seq = q → ∃ r port, judgeFloat (endWatches t) =
      { t with prot := r, port := port } ∧ r.floatHeld = false := fun t ht htq => by
    rw [endWatches_eq]
    unfold judgeFloat floatStops
    dsimp only
    rw [ht, Bool.false_and, if_neg Bool.false_ne_true]
    generalize hu : ({ t with prot := _ } : State) = u
    obtain ⟨r, port, heq, hr⟩ := leaveStops_seq (k := .float) (s := u) (by subst hu; rw [htq]; exact hq)
    refine ⟨r, port, ?_, hr.trans (by subst hu; rfl)⟩
    rw [heq]
    subst hu
    rfl
  obtain ⟨r, port, heq, hr⟩ := key { s with co := { s.co with released := true }, seq := q } hf rfl
  refine ⟨r, port, ?_, hr⟩
  unfold releasePlan
  dsimp only
  rw [hrel]
  exact heq

/-- What stands while the changeover of a plan that wants no capacity runs its course. -/
structure Stopping (p : Plan) (sent : Bool) (was : Option Mode) (start : Option Nat) (off : Nat) (t : State) : Prop where
  seq : Stopped p.mode p.coilTarget sent was start off t.seq
  float : t.prot.floatHeld = false
  faulted : t.todo.faulted = []
  held : t.co.held = none
  plan : t.co.incoming = some p ∨ t.co.incoming = none ∧ t.co.applied = p

section
variable {p : Plan} {sent : Bool} {was : Option Mode} {start : Option Nat} {off : Nat} {t : State}

/-- The release, again, of the plan that has stopped the compressor. -/
theorem Stopping.release (h : Stopping p sent was start off t) (hc : p.c = 0) (hrest : p.mode = .rest → sent = true) :
    ∃ q r port, releasePlan p t = { t with co := { t.co with released := true }, seq := q, prot := r, port := port } ∧
      Stopped p.mode p.coilTarget sent was start off q ∧ r.floatHeld = false := by
  obtain ⟨q, hrel, hq⟩ := seqRelease_stopped (s := { t with co := { t.co with released := true } }) h.seq hrest
  rw [← hc] at hrel
  obtain ⟨r, port, heq, hr⟩ := releasePlan_clear h.float hrel (by rw [hq.state]; decide)
  exact ⟨q, r, port, heq, hq, hr⟩

/-- OPEN begun for the plan. -/
theorem Stopping.openPhase (h : Stopping p sent was start off t) (hc : p.c = 0) (hrest : p.mode = .rest → sent = true) :
    Stopping p sent was start off (openPhase p t) := by
  obtain ⟨hseq, hfloat, hfaulted, hheld, -⟩ := h
  obtain ⟨v, hv⟩ := requestOpenings_drive p { t with
    co := { t.co with incoming := some p, phase := .opening }, todo := { t.todo with holdReport := false } }
  have hopened : Stopping p sent was start off { t with
      co := { t.co with incoming := some p, phase := .opening }, todo := { t.todo with holdReport := false }, drive := v } :=
    ⟨hseq, hfloat, hfaulted, hheld, .inl rfl⟩
  obtain ⟨q, r, port, heq, hq, hr⟩ := hopened.release hc hrest
  unfold Machine.openPhase capacityStep
  dsimp only
  rw [hv, if_pos (by rw [hc]; exact Nat.zero_le _), heq]
  exact ⟨hq, hr, hfaulted, hheld, .inl rfl⟩

theorem Stopping.restart (h : Stopping p sent was start off t) (hc : p.c = 0) (hrest : p.mode = .rest → sent = true) :
    Stopping p sent was start off (restartChangeover t) := by
  unfold restartChangeover
  rcases h.plan with hi | ⟨hi, ha⟩
  · rw [hi]
    exact h.openPhase hc hrest
  · rw [hi]
    unfold supersede
    dsimp only
    obtain ⟨v, hv⟩ := removeIntent_drive t.co.applied t
    rw [hv, ha]
    exact Stopping.openPhase ⟨h.seq, h.float, h.faulted, h.held, .inr ⟨hi, rfl⟩⟩ hc hrest

theorem airGuard_stopping (h : Stopping p sent was start off t) : Stopping p sent was start off (airGuard t) := by
  unfold airGuard
  split
  · exact ⟨h.seq, h.float, h.faulted, h.held, h.plan⟩
  · exact h

theorem offerGoal_stopping (h : Stopping p sent was start off t) (g : Nat) : Stopping p sent was start off (offerGoal g t) := by
  unfold offerGoal
  split <;> exact ⟨h.seq, h.float, h.faulted, h.held, h.plan⟩

theorem Stopping.grantOne (h : Stopping p sent was start off t) (hz : ∀ z : ZoneId, t.inp.windingOpen.get z = false) :
    Stopping p sent was start off (grantOne t) := by
  unfold Machine.grantOne
  split
  · exact h
  next e rest _ =>
    dsimp only
    rw [hz e.damper, if_neg Bool.false_ne_true]
    exact airGuard_stopping ⟨h.seq, h.float, h.faulted, h.held, h.plan⟩

/-- A plan that closes no zone with unconfigure pending leaves the zones. -/
theorem finishUnconfigure_none {s : State} (h : ∀ z : ZoneId, (s.zst.get z).unconf = false) (p : Plan) : finishUnconfigure p s = s := by
  have hfold : ∀ l : List ZoneId, l.foldl
      (fun s z => if (s.zst.get z).unconf && decide ((p.zones.get z).role = .closed) then releaseZone z s else s) s = s := fun l => by
    induction l with
    | nil => rfl
    | cons z l ih =>
      rw [List.foldl_cons, h z, Bool.false_and, if_neg Bool.false_ne_true]
      exact ih
  exact hfold _

theorem Stopping.incoming {p' : Plan} (h : Stopping p sent was start off t) (hi : t.co.incoming = some p') : p' = p := by
  rcases h.plan with hp | ⟨hn, -⟩
  · exact Option.some.inj (hi.symm.trans hp)
  · exact nomatch hn.symm.trans hi

theorem Stopping.phaseStep (h : Stopping p sent was start off t) (hz : ∀ z : ZoneId, (t.zst.get z).unconf = false) :
    Stopping p sent was start off (phaseStep t) := by
  have hchecked : Stopping p sent was start off { t with todo := { t.todo with phaseCheck := false } } :=
    ⟨h.seq, h.float, h.faulted, h.held, h.plan⟩
  unfold Machine.phaseStep
  dsimp only
  split
  next => exact hchecked
  next p' hi =>
    obtain rfl := h.incoming hi
    split
    · split
      · unfold endOpen
        split
        · exact ⟨h.seq, h.float, h.faulted, h.held, h.plan⟩
        · refine offerGoal_stopping ?_ _
          exact ⟨h.seq, h.float, h.faulted, h.held, h.plan⟩
      · exact hchecked
    · split
      · unfold endClose
        dsimp only
        rw [finishUnconfigure_none]
        · exact ⟨h.seq, h.float, h.faulted, h.held, .inr ⟨rfl, rfl⟩⟩
        · exact hz
      · exact hchecked
    · exact hchecked

theorem Stopping.endBlower (h : Stopping p sent was start off t) (hc : p.c = 0) (hrest : p.mode = .rest → sent = true) :
    Stopping p sent was start off (endBlower p t) := by
  obtain ⟨hseq, hfloat, hfaulted, hheld, hplan⟩ := h
  have hclosing : Stopping p sent was start off { t with
      co := { t.co with phase := .closing }, todo := { t.todo with holdReport := false } } := ⟨hseq, hfloat, hfaulted, hheld, hplan⟩
  have hclosed : ∀ u : State, Stopping p sent was start off u → Stopping p sent was start off (tellPhase (requestClosings p u)) :=
    fun u hu => by
      obtain ⟨v, hv⟩ := requestClosings_drive p u
      rw [hv]
      exact ⟨hu.seq, hu.float, hu.faulted, hu.held, hu.plan⟩
  unfold Machine.endBlower
  dsimp only
  refine hclosed _ ?_
  split
  · exact hclosing
  · obtain ⟨q, r, port, heq, hq, hr⟩ := hclosing.release hc hrest
    rw [heq]
    exact ⟨hq, hr, hfaulted, hheld, hplan⟩

/-- A consequence of the changeover of the plan. -/
theorem Stopping.microStep {u : State} (h : Stopping p sent was start off t) (hc : p.c = 0) (hrest : p.mode = .rest → sent = true)
    (hs : t.op.state ≠ .startup) (hp : t.op.testPhase = .idle) (hq : lineQuiet t = true)
    (hz : ∀ z : ZoneId, t.inp.windingOpen.get z = false ∧ (t.zst.get z).unconf = false) (hu : microStep t = some u) :
    Stopping p sent was start off u := by
  have hno : startupDone t = false := by simp [startupDone, hs]
  have hleft : leftActive t = [] := leftActive_idle hp
  have hpre : preparingDone t = false := by simp [preparingDone, hp]
  have hopen : openingDone t = false := by simp [openingDone, hp]
  have hdue : startDue t = false := startDue_other (by rw [h.seq.state]; decide)
  unfold Machine.microStep at hu
  rw [h.faulted, hno, hleft, hpre, hopen, hdue, h.held] at hu
  dsimp only at hu
  split at hu
  · obtain rfl := Option.some.inj hu
    exact Stopping.restart ⟨h.seq, h.float, h.faulted, h.held, h.plan⟩ hc hrest
  split at hu
  · rename_i hf; exact absurd hf (by simp)
  split at hu
  · obtain rfl := Option.some.inj hu
    exact h.grantOne fun z => (hz z).1
  split at hu
  · obtain rfl := Option.some.inj hu
    exact h.phaseStep fun z => (hz z).2
  split at hu
  · rw [Option.map_eq_some_iff] at hu
    obtain ⟨p', hinc, rfl⟩ := hu
    obtain rfl := h.incoming hinc
    exact h.endBlower hc hrest
  split at hu
  · obtain rfl := Option.some.inj hu
    obtain ⟨l, hl, -⟩ := beginRound_link (.inl hq)
    rw [hl]
    exact ⟨h.seq, h.float, h.faulted, h.held, h.plan⟩
  · simp at hu

/-- All consequences of the changeover of the plan. -/
theorem Stopping.settle (h : Stopping p sent was start off t) (hc : p.c = 0) (hrest : p.mode = .rest → sent = true)
    (hs : t.op.state ≠ .startup) (hp : t.op.testPhase = .idle) (hq : lineQuiet t = true)
    (hz : ∀ z : ZoneId, t.inp.windingOpen.get z = false ∧ (t.zst.get z).unconf = false) (n : Nat) :
    Stopping p sent was start off (settle n t) := by
  refine (settle_keeps (P := fun u => Stopping p sent was start off u ∧ Follows t u) ?_ n t ⟨h, .refl t⟩).1
  rintro u w hw ⟨hu, hf⟩
  obtain ⟨hop, -, hlow, -⟩ := hf.fields
  obtain ⟨hnow, -⟩ := hf.keeps.passTimes
  have hus : u.op.state ≠ .startup := by rw [hop]; exact hs
  have hup : u.op.testPhase = .idle := by rw [hop]; exact hp
  have huq : lineQuiet u = true := by
    unfold lineQuiet at hq ⊢
    rw [hlow, hnow]
    exact hq
  have huz : ∀ z : ZoneId, u.inp.windingOpen.get z = false ∧ (u.zst.get z).unconf = false := fun z => by
    obtain ⟨hzst, -⟩ := hf.zones.same hz
    rw [hf.inp, hzst]
    exact hz z
  exact ⟨hu.microStep hc hrest hus hup huq huz hw, hf.trans (microStep_follows hw hus hup huq)⟩

end

/-- The plan of a pass without unconfiguring is the one that the pass hands on. -/
theorem planOfPass_eq {s : State} (hz : ∀ z : ZoneId, (s.zst.get z).unconf = false) (n : Nat) :
    buildPlan (planView (plannedAt s n)) = planOfPass s := by
  obtain ⟨o, l, se, e, p, heq, -, -, hzone, -⟩ := plannedAt_eq s
  unfold planOfPass
  dsimp only
  refine congrArg buildPlan ?_
  rw [heq]
  unfold planView
  have hview : ∀ z, zoneView { s with
      zst := Eight.ofFn fun z => ⟨parkedState (s.setp.get z).park (stateOf s z), (s.zst.get z).unconf⟩
      work := Eight.ofFn (passWork s), app := { s.app with number := n, bandSide := bandSideOf s.arb }
      arb := (s.arb.decideMode (sideView (formedAt s))).renewWaits (sideView (formedAt s)), op := o, link := l, sens := se
      eval := e, port := p } z =
    zoneView { s with
      work := Eight.ofFn fun z => { stepOne s z with withdrawn := stepTwo (formedAt s) (bandSideOf s.arb) z }
      zst := Eight.ofFn fun z => ⟨parkedBy (s.setp.get z).park (stateOf s z), false⟩
      arb := { s.arb with mode := (s.arb.decideMode (sideView (formedAt s))).mode } } z := fun z => by
    unfold zoneView stateOf sensorOf
    simp only [Eight.get_ofFn, hz, hzone, parkedState_eq]
    rfl
  have hzones := congrArg Eight.ofFn (funext hview)
  show PlanView.mk _ _ _ _ _ _ = PlanView.mk _ _ _ _ _ _
  rw [PlanView.mk.injEq]
  exact ⟨rfl, hzones, rfl, rfl, rfl, rfl⟩

/-- A decision leaves the deferral. -/
theorem decideMode_deferral (a : Arbiter) (v : SideView) : (a.decideMode v).deferral = a.deferral := by
  have hrest : ∀ side, (a.enterRest v side).deferral = a.deferral := fun _ => rfl
  have hserve : ∀ side, (a.serve v side).deferral = a.deferral := fun side => by
    unfold Arbiter.serve
    dsimp only
    split
    · rfl
    · split
      · unfold Arbiter.leave
        split <;> rfl
      · rfl
  have hnone : ∀ b, (a.fromNone v b).deferral = a.deferral := fun b => by
    unfold Arbiter.fromNone
    split
    · rfl
    · split <;> rfl
  unfold Arbiter.decideMode
  split
  next =>
    split <;> rfl
  next =>
    split
    · rfl
    split
    · rfl
    split
    · rfl
    split
    · exact hserve _
    · exact hnone _

/-- What a pass leaves up to its plan. -/
theorem passed_fields {s c : State} (hc : c = applyParks (decidedAt s)) : c.co = s.co ∧ c.seq = s.seq ∧ c.prot = s.prot ∧
    c.todo = s.todo ∧ c.now = s.now ∧ c.arb.deferral = s.arb.deferral := by
  obtain ⟨o, l, se, e, p, heq, -⟩ := plannedAt_eq s
  have hat : plannedAt s c.app.number = c := by
    rw [plannedAt, ← hc]
  rw [← hat, heq]
  exact ⟨rfl, rfl, rfl, rfl, rfl, decideMode_deferral _ _⟩

/-- OPEN begun for a plan that wants no capacity, with the compressor running. -/
theorem openPhase_stops {s : State} {p : Plan} (hc : p.c = 0) (hq : s.seq.state = .running) (hfloat : s.prot.floatHeld = false)
    (hfaulted : s.todo.faulted = []) (hheld : s.co.held = none) :
    Stopping p (decide (p.mode = .rest) || !inMinimumRun s) s.seq.stopping s.seq.runStart s.seq.minOffFrom (openPhase p s) := by
  obtain ⟨v, hv⟩ := requestOpenings_drive p { s with
    co := { s.co with incoming := some p, phase := .opening }, todo := { s.todo with holdReport := false } }
  obtain ⟨q, hrel, hqs⟩ := seqRelease_stops (s := { s with
    co := { s.co with incoming := some p, phase := .opening, released := true }, todo := { s.todo with holdReport := false }
    drive := v }) hq p.mode p.coilTarget
  rw [← hc] at hrel
  obtain ⟨r, port, heq, hr⟩ := releasePlan_clear (s := { s with
    co := { s.co with incoming := some p, phase := .opening }, todo := { s.todo with holdReport := false }, drive := v })
    hfloat hrel (by rw [hqs.state]; decide)
  unfold openPhase capacityStep
  dsimp only
  rw [hv, if_pos (by rw [hc]; exact Nat.zero_le _), heq]
  exact ⟨hqs, hr, hfaulted, hheld, .inl rfl⟩

/-- A pass whose plan wants no capacity stops a running compressor. -/
theorem runPass_stops {s : State} {p : Plan} (hp : planOfPass s = p) (hz : ∀ z : ZoneId, (s.zst.get z).unconf = false)
    (hphase : s.co.phase = .applied) (hinc : s.co.incoming = none) (hheld : s.co.held = none) (hdef : s.arb.deferral = false)
    (hfloat : s.prot.floatHeld = false) (hfaulted : s.todo.faulted = []) (hq : s.seq.state = .running) (hc : p.c = 0)
    (hdiff : { p with number := 0 } ≠ { s.co.applied with number := 0 }) :
    ∃ n, Stopping { p with number := n } (decide (p.mode = .rest) || !inMinimumRun s) s.seq.stopping s.seq.runStart s.seq.minOffFrom
      (runPass s) := by
  obtain ⟨c, hcs⟩ : ∃ c, c = applyParks (decidedAt s) := ⟨_, rfl⟩
  have hrun : runPass s = finishPlan (buildPlan (planView c)) c := by
    rw [hcs]
    rfl
  obtain ⟨hco, hseq, hprot, htodo, hnow, hdefc⟩ := passed_fields hcs
  have hat : plannedAt s c.app.number = c := by
    rw [plannedAt, ← hcs]
  have hplan := planOfPass_eq hz c.app.number
  rw [hat, hp] at hplan
  rw [hplan] at hrun
  clear hcs hat hplan
  have href : referencePlan c.co = s.co.applied := by
    unfold referencePlan
    rw [hco, hheld, hinc]
  have hmin : inMinimumRun c = inMinimumRun s := by
    unfold inMinimumRun
    rw [hseq, hnow]
  have hno : identical p (referencePlan c.co) = false := by
    rw [href]
    exact decide_eq_false hdiff
  refine ⟨nextNumber c.app.number, ?_⟩
  rw [hrun]
  unfold finishPlan handOn takePlan
  rw [hno, if_neg Bool.false_ne_true]
  dsimp only
  rw [hdefc, hdef, if_neg Bool.false_ne_true, hco, if_pos hphase, ← hmin, ← hseq]
  exact openPhase_stops (s := { c with
    app := { c.app with number := nextNumber c.app.number }, co := { s.co with reapply := false } }) hc
    (hq := by rw [← hseq] at hq; exact hq) (by rw [← hprot] at hfloat; exact hfloat) (by rw [← htodo] at hfaulted; exact hfaulted) hheld

end Sys2Proof.Machine
end

section
/-! Causes of an immediate stop in a defrost, and starts that are due (09 R137, R139, R142, R149). -/

namespace Sys2Proof.Machine

/-! ### The stop mark -/

/-- The sequencer of a defrost once the stop mark is set; DEFROST_PREP is left. -/
def markedSeq (s : State) : Sequencer :=
  if s.seq.state = .defrostPrep then
    { s.seq with stopMark := true, state := .defrostRecovery, grantSent := false, defrostFrom := none, recoveryFrom := some s.now }
  else { s.seq with stopMark := true }

/-- A cause of an immediate stop in a defrost, with the coil not warm. -/
theorem immediateStop_marks {s : State} (h : s.seq.state.defrosting = true) (hcoil : s.seq.state = .defrostPrep → coilWarm s = false) :
    ∃ p, immediateStop s = { s with seq := markedSeq s, port := p } := by
  have hmark : immediateStop s = markStop s := by
    unfold immediateStop
    cases hs : s.seq.state <;> simp [hs, SeqState.defrosting] at h ⊢
  rw [hmark]
  unfold markStop markedSeq
  dsimp only
  split
  next hp => exact ⟨_, enterRecovery_cold (s := { s with seq := { s.seq with stopMark := true } }) (hcoil hp) .stop⟩
  next => exact ⟨s.port, rfl⟩

theorem markedSeq_defrosting {s : State} (h : s.seq.state.defrosting = true) : (markedSeq s).state.defrosting = true := by
  unfold markedSeq
  split
  · rfl
  · exact h

/-- In a defrost the wanted capacity moves nothing. -/
theorem followWanted_defrosting {s : State} (h : s.seq.state.defrosting = true) : followWanted s = s := by
  unfold followWanted
  cases hs : s.seq.state <;> simp [hs, SeqState.defrosting] at h ⊢

/-- The marked sequencer beside another release. -/
theorem releaseOff_marks {s : State} (h : s.seq.state.defrosting = true) (hcoil : s.seq.state = .defrostPrep → coilWarm s = false) :
    ∃ p, releaseOff s =
      { s with seq := { markedSeq s with release := s.seq.release.map fun r => { r with c := 0 } }, port := p } := by
  obtain ⟨p, hp⟩ := immediateStop_marks
    (s := { s with seq := { s.seq with release := s.seq.release.map fun r => { r with c := 0 } } }) h hcoil
  refine ⟨p, ?_⟩
  unfold releaseOff
  dsimp only
  rw [hp]
  refine (followWanted_defrosting ?_).trans ?_
  · exact markedSeq_defrosting (s := { s with seq := { s.seq with release := s.seq.release.map fun r => { r with c := 0 } } }) h
  · unfold markedSeq
    split <;> rfl

/-- What a cause of an immediate stop makes of a defrost: the stop mark, and nothing else of the drive, the changeover or the blower. -/
def Marks (s u : State) : Prop := ∃ rel o e st pr po, u =
    { s with seq := { markedSeq s with release := rel }, op := o, eval := e, store := st, prot := pr, port := po } ∧
  o.state ≠ .startup ∧ o.testPhase = .idle ∧ e.lastPass = s.eval.lastPass ∧ pr.hist = s.prot.hist ∧ pr.stops = s.prot.stops

/-- The request written and its save begun, with an early pass. -/
def requested (new : OpRequest) (s : State) : State :=
  { s with
    op := { s.op with request := new }, store := saved { s with op := { s.op with request := new } }
    eval := { s.eval with early := true } }

/-- A changed request in OFF or ON. -/
theorem writeRequest_changed {s : State} {new : OpRequest} (hn : new ≠ s.op.request) (ho : s.op.state = .on ∨ s.op.state = .off)
    (cause : StateCause) : writeRequest new cause s =
      changeOp (opOf new) cause (if new = .off then releaseOff (requested new s) else requested new s) := by
  obtain ⟨u, hu⟩ : ∃ u, (if new = .off then releaseOff (requested new s) else requested new s) = u := ⟨_, rfl⟩
  have hop : u.op.state = s.op.state := by
    rw [← hu]
    split
    · rw [op_releaseOff]
      rfl
    · rfl
  unfold writeRequest
  rw [if_neg hn, autoSave_eq]
  rw [show requestPass { ({ s with op := { s.op with request := new } } : State) with
    store := saved { s with op := { s.op with request := new } } } = requested new s from rfl]
  dsimp only
  rw [hu]
  rcases ho with ho | ho <;> rw [hop, ho]

theorem writeOff_marks {s : State} (h : s.seq.state.defrosting = true) (hcoil : s.seq.state = .defrostPrep → coilWarm s = false)
    (hr : s.op.request = .on) (ho : s.op.state = .on) (hx : s.op.testPhase = .idle) (cause : StateCause) :
    Marks s (writeRequest .off cause s) := by
  obtain ⟨p, hp⟩ := releaseOff_marks (s := requested .off s) h hcoil
  obtain ⟨q, hq⟩ := changeOp_eq (s := releaseOff (requested .off s)) (by rw [hp]; show s.op.state ≠ .resting; rw [ho]; decide)
    (opOf .off) cause
  rw [writeRequest_changed (by rw [hr]; decide) (.inl ho), if_pos rfl, hq, hp]
  exact ⟨_, _, _, _, _, _, rfl, opOf_ne_startup .off, hx, rfl, rfl, rfl⟩

theorem Marks.port {s u : State} (h : Marks s u) (p : Port) : Marks s { u with port := p } := by
  obtain ⟨rel, o, e, st, pr, po, rfl, h⟩ := h
  exact ⟨rel, o, e, st, pr, p, rfl, h⟩

/-- Each cause of an immediate stop sets the stop mark in a defrost. -/
theorem ImmediateStop.marks {s : State} {c : Instr} (h : ImmediateStop s c) (hx : s.op.testPhase = .idle) (hs : s.op.state ≠ .startup)
    (hd : s.seq.state.defrosting = true) (hcoil : s.seq.state = .defrostPrep → coilWarm s = false) :
    ∃ u, exec c s = .next (finish u) ∧ Marks s u := by
  cases h with
  | off hr ho hfree =>
    let r := Request.setSystem (byte OpRequest.off.code) 0xFE 0xFE
    have hperform := perform_setSystem (readsAs_request .off) (readsAs_none policyOf) (readsAs_none frostOf)
      (toStage r .replying s) (fun h => by cases h)
    have hexec : exec (.setSystem (byte OpRequest.off.code) 0xFE 0xFE) s = .next (finish (perform r (toStage r .replying s))) :=
      congrArg (fun t => Host.Outcome.next (finish t)) (offer_free hfree r)
    simp only [Option.getD_none] at hperform
    rw [writeSystem_request] at hperform
    obtain ⟨a, b, c, d, hw⟩ := hostRequest_notTest (s := toStage r .replying s) .off (by show s.op.state ≠ _; rw [ho]; decide) hx
    have hmarks : Marks s (hostRequest .off (toStage r .replying s)) := by
      rw [hw]
      obtain ⟨rel, o, e, st, pr, po, heq, h⟩ := writeOff_marks (s := { toStage r .replying s with
        op := { s.op with idleFrom := a, idleDone := b, notice := c, noticeFrom := d } }) hd hcoil hr ho hx .request
      exact ⟨rel, o, e, st, pr, po, heq, h⟩
    refine ⟨_, hexec, ?_⟩
    rw [hperform]
    obtain ⟨p, hp⟩ := accept_eq r (operatingBody (hostRequest .off (toStage r .replying s))) (hostRequest .off (toStage r .replying s))
    rw [hp]
    exact hmarks.port p
  | supplyLow t hl hf hle =>
    refine ⟨supplyLowTo true s, ?_, ?_⟩
    · refine congrArg Host.Outcome.next (if_pos ?_)
      rw [hl, hf, (reached_iff _ _ _).mpr ⟨t, rfl, hle⟩]
      rfl
    · obtain ⟨p, hp⟩ := immediateStop_marks (s := raise (.notCounted false true (clockSeconds s) s.prot.lockout)
        { s with prot := { s.prot with supplyLow := true } }) hd hcoil
      exact ⟨_, _, _, _, _, _, hp, hs, hx, rfl, rfl, rfl⟩
  | limit t hl hlim hf hle =>
    refine ⟨limitDown s, ?_, ?_⟩
    · refine congrArg Host.Outcome.next (if_pos ?_)
      unfold limitStepDue limiting
      rw [hf, (reached_iff _ _ _).mpr ⟨t, rfl, hle⟩, Bool.and_true]
      rcases hlim with h | h <;> simp [h]
    · obtain ⟨p, hp⟩ := immediateStop_marks (s := { s with prot := { s.prot with limit := 10, stepFrom := some s.now } }) hd hcoil
      have hdef : (markedSeq { s with prot := { s.prot with limit := 10, stepFrom := some s.now } }).state.defrosting = true :=
        markedSeq_defrosting (s := { s with prot := { s.prot with limit := 10, stepFrom := some s.now } }) hd
      have hchanged : limitChanged { s with prot := { s.prot with limit := 10, stepFrom := some s.now } } =
          { s with prot := { s.prot with limit := 10, stepFrom := some s.now }, seq := markedSeq s, port := p } := by
        unfold limitChanged
        rw [if_pos (by decide : (10 : Nat) < 20), hp]
        exact followWanted_defrosting hdef
      have heq : limitDown s =
          { s with prot := { s.prot with limit := 10, stepFrom := some s.now }, seq := markedSeq s, port := p } := by
        unfold limitDown
        simp only [hl, Nat.reduceLeDiff, Nat.reduceSub, decide_false, Bool.and_false, Bool.false_and, Bool.false_eq_true, if_false,
          OfNat.ofNat_ne_zero]
        exact hchanged
      exact ⟨_, _, _, _, _, _, heq, hs, hx, rfl, rfl, rfl⟩

/-! ### A start that is due -/

theorem Blower.addHold_cold (b : Blower) (now : Nat) (table : List BlowerPoint) :
    (b.addHold now table true).coldBlow = true ∧ (b.addHold now table true).state = .hold := by
  have hpause : ∀ c : Blower, (c.leavePause now).coldBlow = c.coldBlow := fun c => by
    unfold Blower.leavePause
    split <;> rfl
  have hreason : (b.reasonAdded true).coldBlow = true := Bool.or_true _
  rw [Blower.addHold_eq]
  split
  next hs => exact ⟨hreason, hs⟩
  next => exact ⟨(hpause _).trans hreason, rfl⟩

/-- The start command of a settled state: RUNNING with the start-fail time at 0 and, under HEAT, the cold-blow hold. -/
theorem started {s : State} {r : StatRecord} (hphase : s.co.phase = .applied) (hl : s.link.lastStatus = some r)
    (hhold : r.holdoff = false) :
    let t := sync (startCompressor s)
    t.seq.state = .running ∧ t.seq.runStart = none ∧ t.seq.startFailMs = 0 ∧ t.seq.startFailFrom = some s.now ∧
      commanded t = wanted s ∧
      (s.seq.release.map Release.mode = some .heat → t.blower.coldBlow = true ∧ t.blower.state = .hold) ∧
      (s.seq.release.map Release.mode ≠ some .heat → ({ t with seq := s.seq } : State).timeless = s.timeless) ∧
      ({ t with seq := s.seq, blower := s.blower } : State).timeless = s.timeless := by
  intro t
  have hseq : (startCompressor s).seq = startedSeq s := (startCompressor_seq s).1
  have hcases : startCompressor s = { s with
      seq := startedSeq s
      blower := if releaseMode s.seq = some .heat then s.blower.addHold s.now s.cfg.table true else s.blower } := by
    have hstart : startCompressor s =
        if releaseMode s.seq = some .heat then addHold true { s with seq := startedSeq s } else { s with seq := startedSeq s } := rfl
    rw [hstart]
    split
    · exact addHold_applied (s := { s with seq := startedSeq s }) hphase true
    · rfl
  have hsync : t.seq = { startedSeq s with startFailFrom := some s.now } := by
    show (sync (startCompressor s)).seq = _
    have hcounts : startFailCounts (startCompressor s) = true := by
      refine (startFailCounts_running (r := r) (by rw [hseq]; rfl) ?_).mpr ⟨by rw [hseq]; rfl, hhold⟩
      rw [hcases]
      exact hl
    rw [sync_seq_eq, hcounts, if_pos rfl, hseq, show (startCompressor s).now = s.now by rw [hcases]]
    rfl
  have hlimit : t.prot.limit = s.prot.limit := by
    show (sync (startCompressor s)).prot.limit = _
    rw [sync_prot_limit, hcases]
  refine ⟨by rw [hsync]; rfl, by rw [hsync]; rfl, by rw [hsync]; rfl, by rw [hsync], ?_, fun hm => ?_, fun hm => ?_, ?_⟩
  · unfold commanded wanted
    rw [hsync, hlimit]
    rfl
  · show (sync (startCompressor s)).blower.coldBlow = true ∧ (sync (startCompressor s)).blower.state = .hold
    rw [sync_blower_coldBlow, sync_blower_state, hcases, if_pos (show releaseMode s.seq = some .heat from hm)]
    exact s.blower.addHold_cold s.now s.cfg.table
  · rw [if_neg (show ¬releaseMode s.seq = some .heat from hm)] at hcases
    have hframe := congrArg (fun y : State => ({ y with seq := s.timeless.seq } : State)) (timeless_sync (startCompressor s))
    rw [hcases] at hframe
    show ({ sync (startCompressor s) with seq := s.seq } : State).timeless = _
    rw [hcases]
    exact hframe
  · have hframe := congrArg (fun y : State => ({ y with seq := s.timeless.seq, blower := s.timeless.blower } : State))
      (timeless_sync (startCompressor s))
    rw [hcases] at hframe
    show ({ sync (startCompressor s) with seq := s.seq, blower := s.blower } : State).timeless = _
    rw [hcases]
    exact hframe

/-! ### A release -/

/-- The sequencer as a release begins, before its moves. -/
def releasedTo (r : Release) (s : State) : State :=
  { s with seq := { s.seq with release := some r, stopping := if r.c = 0 then s.seq.stopping else some r.mode } }

theorem seqRelease_eq (r : Release) (s : State) : seqRelease r s =
    match s.seq.state with
    | .running =>
      if r.mode = .rest then stopWait true (releasedTo r s)
      else if r.c = 0 then stopWait (!inMinimumRun (releasedTo r s)) (releasedTo r s)
      else if wanted (releasedTo r s) = 0 then stopWait true (releasedTo r s)
      else releasedTo r s
    | .stopWait =>
      if s.seq.stopSent then releasedTo r s
      else if r.mode = .rest then stopWait true (releasedTo r s)
      else if wanted (releasedTo r s) = 0 then releasedTo r s
      else seqTo .running (releasedTo r s)
    | .stopped => seqTo (restState (releasedTo r s)) (releasedTo r s)
    | .waitStart => seqTo (restState (releasedTo r s)) (releasedTo r s)
    | _ => releasedTo r s := by
  have hfollow : s.seq.state = .stopped ∨ s.seq.state = .waitStart →
      followWanted (releasedTo r s) = seqTo (restState (releasedTo r s)) (releasedTo r s) := fun h => by
    have hr : (releasedTo r s).seq.state = s.seq.state := rfl
    unfold followWanted
    rw [hr]
    rcases h with h | h <;> rw [h]
  have heq : seqRelease r s =
      match s.seq.state with
      | .running =>
        if r.mode = .rest then stopWait true (releasedTo r s)
        else if r.c = 0 then stopWait (!inMinimumRun (releasedTo r s)) (releasedTo r s)
        else if wanted (releasedTo r s) = 0 then stopWait true (releasedTo r s)
        else releasedTo r s
      | .stopWait =>
        if s.seq.stopSent then releasedTo r s
        else if r.mode = .rest then stopWait true (releasedTo r s)
        else if wanted (releasedTo r s) = 0 then releasedTo r s
        else seqTo .running (releasedTo r s)
      | .stopped => followWanted (releasedTo r s)
      | .waitStart => followWanted (releasedTo r s)
      | _ => releasedTo r s := rfl
  rw [heq]
  cases hs : s.seq.state with
  | stopped => exact hfollow (.inl hs)
  | waitStart => exact hfollow (.inr hs)
  | _ => rfl

/-- What the moves of a release change. -/
theorem seqRelease_moves (r : Release) (s : State) : ∃ q sent since, seqRelease r s =
    { releasedTo r s with seq := { (releasedTo r s).seq with state := q, stopSent := sent, startFailFrom := since } } := by
  have hsame : ∃ q sent since, releasedTo r s =
      { releasedTo r s with seq := { (releasedTo r s).seq with state := q, stopSent := sent, startFailFrom := since } } :=
    ⟨_, _, _, rfl⟩
  have hstop : ∀ b, ∃ q sent since, stopWait b (releasedTo r s) =
      { releasedTo r s with seq := { (releasedTo r s).seq with state := q, stopSent := sent, startFailFrom := since } } :=
    fun _ => ⟨_, _, _, rfl⟩
  have hto : ∀ x, ∃ q sent since, seqTo x (releasedTo r s) =
      { releasedTo r s with seq := { (releasedTo r s).seq with state := q, stopSent := sent, startFailFrom := since } } :=
    fun _ => ⟨_, _, _, rfl⟩
  rw [seqRelease_eq]
  split
  · split
    · exact hstop _
    split
    · exact hstop _
    split
    · exact hstop _
    · exact hsame
  · split
    · exact hsame
    split
    · exact hstop _
    split
    · exact hsame
    · exact hto _
  · exact hto _
  · exact hto _
  · exact hsame

/-- A release leaves the minimum-off time, the run start and everything outside the sequencer. -/
theorem seqRelease_keeps (r : Release) (s : State) :
    (seqRelease r s).seq.release = some r ∧
      (seqRelease r s).seq.stopping = (if r.c = 0 then s.seq.stopping else some r.mode) ∧
      (seqRelease r s).seq.runStart = s.seq.runStart ∧ (seqRelease r s).seq.minOffFrom = s.seq.minOffFrom ∧
      ({ seqRelease r s with seq := s.seq } : State) = s := by
  obtain ⟨q, sent, since, h⟩ := seqRelease_moves r s
  rw [h]
  exact ⟨rfl, rfl, rfl, rfl, rfl⟩

theorem inMinimumRun_iff (s : State) : inMinimumRun s = true ↔ ∃ a, s.seq.runStart = some a ∧ s.now < a + 300000 := by
  unfold inMinimumRun
  cases s.seq.runStart <;> simp

theorem wanted_releasedTo (r : Release) (s : State) : wanted (releasedTo r s) = wantedOf (some r) s.prot.limit := rfl

theorem wantedOf_none {r : Release} (h : r.c = 0) (limit : Nat) : wantedOf (some r) limit = 0 := by
  unfold wantedOf
  dsimp only
  rw [h, Nat.zero_min, if_pos (by decide)]

/-- A release in RUNNING. -/
theorem seqRelease_running {r : Release} {s : State} (hq : s.seq.state = .running) :
    (r.mode ≠ .rest → wantedOf (some r) s.prot.limit ≠ 0 → (seqRelease r s).seq.state = .running) ∧
      (r.mode = .rest ∨ wantedOf (some r) s.prot.limit = 0 →
        (seqRelease r s).seq.state = .stopWait ∧
          ((seqRelease r s).seq.stopSent = false ↔
            r.mode ≠ .rest ∧ r.c = 0 ∧ ∃ a, s.seq.runStart = some a ∧ s.now < a + 300000)) := by
  have hmin := inMinimumRun_iff (releasedTo r s)
  rw [seqRelease_eq, hq, wanted_releasedTo]
  dsimp only
  refine ⟨fun hm hw => ?_, fun h => ?_⟩
  · rw [if_neg hm, if_neg (fun hc => hw (wantedOf_none hc _)), if_neg hw]
    exact hq
  · by_cases hm : r.mode = .rest
    · rw [if_pos hm]
      exact ⟨rfl, fun h => Bool.noConfusion (show true = false from h), fun h => absurd hm h.1⟩
    · rw [if_neg hm]
      by_cases hc : r.c = 0
      · rw [if_pos hc]
        refine ⟨rfl, ?_⟩
        show (!inMinimumRun (releasedTo r s)) = false ↔ _
        rw [Bool.not_eq_false', hmin]
        exact ⟨fun h => ⟨hm, hc, h⟩, fun h => h.2.2⟩
      · rw [if_neg hc, if_pos (h.resolve_left hm)]
        exact ⟨rfl, fun h => Bool.noConfusion (show true = false from h), fun h => absurd h.2.1 hc⟩

/-- A release in STOP_WAIT. -/
theorem seqRelease_stopWait {r : Release} {s : State} (hq : s.seq.state = .stopWait) :
    (s.seq.stopSent = false →
      (r.mode ≠ .rest → wantedOf (some r) s.prot.limit ≠ 0 → (seqRelease r s).seq.state = .running) ∧
        (r.mode = .rest ∨ wantedOf (some r) s.prot.limit = 0 →
          (seqRelease r s).seq.state = .stopWait ∧ ((seqRelease r s).seq.stopSent = true ↔ r.mode = .rest))) ∧
      (s.seq.stopSent = true → (seqRelease r s).seq.state = .stopWait ∧ (seqRelease r s).seq.stopSent = true) := by
  rw [seqRelease_eq, hq, wanted_releasedTo]
  dsimp only
  refine ⟨fun hs => ?_, fun hs => ?_⟩
  · rw [if_neg (by rw [hs]; decide)]
    refine ⟨fun hm hw => ?_, fun h => ?_⟩
    · rw [if_neg hm, if_neg hw]
      rfl
    · by_cases hm : r.mode = .rest
      · rw [if_pos hm]
        exact ⟨rfl, fun _ => hm, fun _ => rfl⟩
      · rw [if_neg hm, if_pos (h.resolve_left hm)]
        exact ⟨hq, fun h => Bool.noConfusion (hs.symm.trans h), fun h => absurd h hm⟩
  · rw [if_pos hs]
    exact ⟨hq, hs⟩

/-- A release to a stopped compressor, and in the states that a release leaves. -/
theorem seqRelease_other {r : Release} {s : State} :
    (s.seq.state = .stopped ∨ s.seq.state = .waitStart →
      (seqRelease r s).seq.state = if wantedOf (some r) s.prot.limit = 0 then .stopped else .waitStart) ∧
      (s.seq.state.defrosting = true ∨ s.seq.state = .tripped ∨ s.seq.state = .lockout →
        (seqRelease r s).seq.state = s.seq.state) := by
  refine ⟨fun hq => ?_, fun hq => ?_⟩
  · rw [seqRelease_eq]
    rcases hq with hq | hq <;> rw [hq] <;> rfl
  · rw [seqRelease_eq]
    cases hs : s.seq.state <;> simp [hs, SeqState.defrosting] at hq ⊢ <;> exact hs

end Sys2Proof.Machine
end

section
/-! The moves of the compressor sequencer, row by row (09 R137 to R149). -/

namespace Sys2Proof.Machine

theorem startDue_recovered {s : State} (ht : s.seq.takenStopped = false) {u : State} (hu : u.seq = recoveredSeq s) :
    startDue u = false := by
  refine startDue_other ?_
  rw [hu]
  show recoveryNext s ≠ .waitStart
  unfold recoveryNext
  rw [if_pos ht]
  split <;> decide

theorem confirmedSeq_starts {r : StatRecord} {s : State} (hr : r.compressor = .running) (hn : s.seq.runStart = none)
    (hc : compressorRunning s = true) : (confirmedSeq r s).runStart = some s.now := by
  unfold confirmedSeq
  rw [if_pos ⟨hr, hn, hc⟩]

/-- What a recovery entered by a STAT leaves of the sequencer. -/
theorem enterRecovery_seq {s : State} (h : HoldEndsSafely s) (c : DefrostCause) :
    (enterRecovery c s).seq.runStart = s.seq.runStart ∧ (enterRecovery c s).seq.grantSent = false ∧
      (s.seq.takenStopped = false → startDue (enterRecovery c s) = false) := by
  cases hw : coilWarm s with
  | false =>
    rw [enterRecovery_cold hw]
    exact ⟨rfl, rfl, fun _ => startDue_other fun h => nomatch h⟩
  | true =>
    obtain ⟨p, heq⟩ := enterRecovery_warm hw h c
    rw [heq]
    exact ⟨rfl, rfl, fun ht => startDue_recovered ht rfl⟩

/-- The first STAT that shows RUNNING sets the run start time, wherever the compressor counts as running. -/
theorem seqStat_confirms {r : StatRecord} {s : State} (hphase : s.co.phase = .applied)
    (hsafe : s.seq.state.defrosting = true → HoldEndsSafely s) (hr : r.compressor = .running) (hn : s.seq.runStart = none)
    (hq : s.seq.state = .running ∨ s.seq.state = .stopWait ∨ s.seq.state.defrosting = true ∧ s.seq.takenStopped = false) :
    (seqStat r s).seq.runStart = some s.now ∧ startDue (seqStat r s) = false := by
  have hcr : compressorRunning s = true := by
    unfold compressorRunning
    rcases hq with h | h | ⟨h, ht⟩
    · rw [h]
    · rw [h]
    · cases hs : s.seq.state <;> simp [hs, SeqState.defrosting, ht] at h ⊢
  have hstart := confirmedSeq_starts hr hn hcr
  have hstate : (confirmedSeq r s).state = s.seq.state := by rw [confirmedSeq_same]
  have hns : r.compressor ≠ .stopped := by rw [hr]; decide
  have hconfirm : s.seq.state ≠ .waitStart → seqStat r s = { s with seq := confirmedSeq r s } →
      (seqStat r s).seq.runStart = some s.now ∧ startDue (seqStat r s) = false := fun hw he => by
    rw [he]
    exact ⟨hstart, startDue_other (by rw [← hstate] at hw; exact hw)⟩
  rcases hq with h | h | ⟨h, ht⟩
  · by_cases hd : r.defrostReq = true ∧ s.seq.release.map Release.mode = some .heat
    · obtain ⟨q, b, p, heq, hqs, hrun, -⟩ := seqStat_prep hphase h hns hd.1 hd.2
      rw [heq]
      exact ⟨hrun.trans hstart, startDue_other (by show q.state ≠ _; rw [hqs]; decide)⟩
    · refine hconfirm (by rw [h]; decide) (seqStat_running h (.inl hns) ?_)
      by_cases hreq : r.defrostReq = true
      · exact .inr fun hm => hd ⟨hreq, hm⟩
      · exact .inl (Bool.eq_false_iff.mpr hreq)
  · refine hconfirm (by rw [h]; decide) ?_
    rw [seqStat_eq, h]
    dsimp only
    rw [if_neg hns, confirmStart_eq]
  · have hno : ¬(r.compressor = .stopped ∧ s.seq.takenStopped = false) := fun hs => hns hs.1
    have hrecover : ∀ c, seqStat r s = enterRecovery c { s with seq := confirmedSeq r s } →
        (seqStat r s).seq.runStart = some s.now ∧ startDue (seqStat r s) = false := fun c he => by
      obtain ⟨hrun, -, hdue⟩ := enterRecovery_seq (s := { s with seq := confirmedSeq r s }) (hsafe h) c
      rw [he]
      refine ⟨hrun.trans hstart, hdue ?_⟩
      show (confirmedSeq r s).takenStopped = false
      rw [confirmedSeq_same]
      exact ht
    have hw : s.seq.state ≠ .waitStart := fun hs => by rw [hs] at h; exact nomatch h
    by_cases hclear : r.defrostReq = false ∧ r.defrostActive = false ∧ s.seq.state ≠ .defrostRecovery
    · obtain ⟨hreq, ha, hrec⟩ := hclear
      have hpa : s.seq.state = .defrostPrep ∨ s.seq.state = .defrostActive := by
        cases hs : s.seq.state <;> simp [hs, SeqState.defrosting] at h hrec ⊢
      obtain ⟨c, he⟩ := seqStat_clear hpa hno hreq ha
      exact hrecover c he
    · by_cases hgrant : s.seq.state = .defrostPrep ∧ s.seq.grantSent = true ∧ r.defrostActive = true
      · obtain ⟨p, he⟩ := seqStat_granted hgrant.1 hgrant.2.1 hno hgrant.2.2
        rw [he]
        exact ⟨hstart, startDue_other fun hs => nomatch hs⟩
      · refine hconfirm hw ?_
        have hcs : (confirmStart r s).seq.state = s.seq.state := by rw [confirmStart_eq]; exact hstate
        have hcg : (confirmStart r s).seq.grantSent = s.seq.grantSent := by rw [confirmStart_eq, confirmedSeq_same]
        have hflags : s.seq.state ≠ .defrostRecovery → (!r.defrostReq && !r.defrostActive) = false := fun hrec => by
          rw [Bool.eq_false_iff]
          intro hf
          obtain ⟨h1, h2⟩ := Bool.and_eq_true_iff.mp hf
          exact hclear ⟨Bool.not_eq_true' _ ▸ h1, Bool.not_eq_true' _ ▸ h2, hrec⟩
        rw [← confirmStart_eq, seqStat_eq]
        cases hs : s.seq.state with
        | defrostPrep =>
          have hg : (r.defrostActive && (confirmStart r s).seq.grantSent) = false := by
            rw [Bool.eq_false_iff, hcg]
            intro hf
            obtain ⟨h1, h2⟩ := Bool.and_eq_true_iff.mp hf
            exact hgrant ⟨hs, h2, h1⟩
          dsimp only
          rw [if_neg hno, statDefrost_prep (hcs.trans hs), hg, hflags (by rw [hs]; decide)]
          rfl
        | defrostActive =>
          dsimp only
          rw [if_neg hno, statDefrost_active (hcs.trans hs), hflags (by rw [hs]; decide)]
          rfl
        | defrostRecovery => exact if_neg hno
        | _ => exact absurd h (by rw [hs]; decide)

theorem exec_minimumOff {s : State} (hmin : s.seq.minOffFrom + 180000 ≤ s.now) (hdone : s.seq.minOffDone = false) :
    exec .minimumOffExpiry s = .next (finish { s with seq := { s.seq with minOffDone := true } }) := by
  refine congrArg Host.Outcome.next (if_pos ?_)
  rw [hdone]
  exact Bool.and_eq_true_iff.mpr ⟨decide_eq_true hmin, rfl⟩

/-- A defrost with the stop mark set commands no capacity. -/
theorem commanded_marked {s : State} (hq : s.seq.state.defrosting = true) (hm : s.seq.stopMark = true) : commanded s = 0 := by
  have hstopped : s.seq.defrostStopped = true := by
    unfold Sequencer.defrostStopped
    rw [hm, Bool.or_true]
  unfold commanded
  rw [hstopped]
  cases hs : s.seq.state <;> simp [hs, SeqState.defrosting] at hq ⊢

/-- The end of the command of a pass whose plan wants no capacity. -/
theorem pass_stops {s : State} (ho : s.op.state ≠ .startup) (hx : s.op.testPhase = .idle) (hquiet : lineQuiet s = true)
    (hz : ∀ z : ZoneId, s.inp.windingOpen.get z = false ∧ (s.zst.get z).unconf = false)
    (hphase : s.co.phase = .applied) (hinc : s.co.incoming = none) (hheld : s.co.held = none) (hdef : s.arb.deferral = false)
    (hfloat : s.prot.floatHeld = false) (hfaulted : s.todo.faulted = []) (hq : s.seq.state = .running) (hc : (planOfPass s).c = 0)
    (hdiff : { planOfPass s with number := 0 } ≠ { s.co.applied with number := 0 }) :
    ∃ n u, finish (runPass s) = sync u ∧
      Stopping { planOfPass s with number := n } (decide ((planOfPass s).mode = .rest) || !inMinimumRun s) s.seq.stopping
        s.seq.runStart s.seq.minOffFrom u := by
  obtain ⟨n, hstopping⟩ := runPass_stops rfl (fun z => (hz z).2) hphase hinc hheld hdef hfloat hfaulted hq hc hdiff
  obtain ⟨m, hf⟩ := runPass_follows s
  have hstarted := runPass_started ho
  have hend := finish_runPass ho
  generalize runPass s = r at *
  obtain ⟨o, l, se, e, port, heq, -, -, -, hlow, hop, -⟩ := plannedAt_eq s
  obtain ⟨hop', -, hlow', -⟩ := hf.fields
  obtain ⟨hnow', -⟩ := hf.keeps.passTimes
  have hinp := hf.inp
  have hunconf := hf.zones.unconf
  rw [heq] at hop' hlow' hnow' hinp hunconf
  have hquiet' : lineQuiet r = true := by
    unfold lineQuiet at hquiet ⊢
    rw [hlow', hnow', hlow]
    exact hquiet
  refine ⟨n, _, hend, hstopping.settle hc (fun hm => ?_) hstarted ?_ hquiet' (fun z => ⟨?_, ?_⟩) settleFuel⟩
  · have hm : (planOfPass s).mode = .rest := hm
    rw [decide_eq_true hm]
    rfl
  · rw [hop', hop]; exact hx
  · rw [hinp]; exact (hz z).1
  · refine Bool.eq_false_iff.mpr fun h => ?_
    have hu := hunconf z h
    dsimp only at hu
    rw [Eight.get_ofFn] at hu
    exact Bool.noConfusion ((hz z).2.symm.trans hu)

/-- Settles O54, by the state the sequencer stands in: each STAT, timer, release and cause of a stop makes one move of it, and a
recovery that ends takes the hold and the deferral with it. -/
theorem sequencerMoves : Obligations.SequencerMoves := by
  unfold Obligations.SequencerMoves
  refine ⟨fun s f bytes data r hcalm hf hk hw hwake hg hr hrest hn htrip hs hsafe => ?_, fun s hmin hdone => ⟨fun hcalm => ?_,
    fun r hsettled hqueue hq hwant hsup hcoil hlink hl hhold => ?_⟩, fun s t0 hcalm hq hsent hstart hle => ?_,
    fun s c hcalm hcause hdef hcoil => ?_, fun s t0 hcalm hq hfrom hle hsafe => ?_, fun s r => ?_,
    fun s c htaken hqueue hair hphase hinc hheld hdef hfloat hq => ?_⟩
  · dsimp only
    obtain ⟨hsettled, hqueue, hnot⟩ := hcalm.withLink (k := endedLink s f bytes) hwake
    obtain ⟨p, hgood⟩ := goodStat_sequencer (s := { s with link := endedLink s f bytes }) (r := r) hsettled.2.1 hsafe hrest hn htrip hs
    rw [exec_goodStat hf hw hk hg hr, hgood]
    generalize hv : ({ s with
      link := statLink s.now r (endedLink s f bytes)
      eval := { s.eval with
        early := s.eval.early || decide ((statLink s.now r (endedLink s f bytes)).state ≠ (endedLink s f bytes).state) }
      port := p } : State) = v
    have hvsettled : Settled v := by subst hv; exact hsettled
    have hvqueue : v.drive.queue = [] := by subst hv; exact hqueue
    have hvsafe : v.blower.coldBlow = true ∨ v.seq.state.defrosting = true → HoldEndsSafely v := by subst hv; exact hsafe
    have hseq : v.seq = s.seq := by subst hv; rfl
    have hnow : v.now = s.now := by subst hv; rfl
    have hlast : v.link.lastStatus = some r := by subst hv; rfl
    have hwanted : wanted v = wanted s := by subst hv; rfl
    have hrestState : restState v = if wanted s = 0 then .stopped else .waitStart := by
      unfold restState
      rw [hwanted]
    have hwarm : coilWarm v = true ↔ ∃ x, s.prot.coil = some x ∧ 300 ≤ x := by subst hv; exact coilWarm_iff _
    obtain ⟨u, hfin, hmove, hsame, hstarts⟩ := (seqStat_move hvsettled.2.1 hvsafe r).finish hvsettled hvqueue
    rw [hfin]
    have hstays : startDue (seqStat r v) = false → (sync u).seq.state = (seqStat r v).seq.state ∧
        (sync u).seq.runStart = (seqStat r v).seq.runStart ∧ (sync u).seq.minOffFrom = (seqStat r v).seq.minOffFrom ∧
        (sync u).seq.takenStopped = (seqStat r v).seq.takenStopped ∧ (sync u).seq.recoveryFrom = (seqStat r v).seq.recoveryFrom :=
      fun hd => by
        rw [← hsame hd]
        exact ⟨sync_seq_state u, sync_seq_runStart u, sync_seq_minOffFrom u, sync_seq_takenStopped u, sync_seq_recoveryFrom u⟩
    refine ⟨_, rfl, fun hrun hstart hcounts => ?_, fun hq hstop hheat => ?_, fun hq hstop => ?_, fun hq hns hreq hheat => ?_,
      fun hq hgrant hns hact => ?_, fun hq hns hreq hact => ?_, fun hq hstops => ?_, fun hq => ?_, ?_⟩
    · obtain ⟨h, hd⟩ := seqStat_confirms hvsettled.2.1 (fun h => hvsafe (.inr h)) hrun (by rw [hseq]; exact hstart)
        (by rw [hseq]; exact hcounts)
      obtain ⟨-, hrs, -⟩ := hstays hd
      rw [hrs, h, hnow]
    · have heq := seqStat_running (r := r) (s := v) (by rw [hseq]; exact hq) (by rw [hseq]; exact hstop) (by rw [hseq]; exact hheat)
      have hstate : (confirmedSeq r v).state = .running := by rw [confirmedSeq_same, hseq]; exact hq
      have hd : startDue (seqStat r v) = false := by
        rw [heq]
        exact startDue_other (by show (confirmedSeq r v).state ≠ _; rw [hstate]; decide)
      have hu := hsame hd
      rw [heq] at hu
      have husq : u.seq = confirmedSeq r v := by rw [hu]
      obtain ⟨htime, hfrom⟩ := startFail_confirmed (u := u) (s := v) (by rw [hu]) (by rw [hu]; exact hlast) husq
        (by rw [hseq]; exact hq)
      have hvtime : startFailTime v = startFailTime s := by unfold startFailTime; rw [hseq, hnow]
      rw [hseq, hnow] at hfrom
      refine ⟨?_, fun h => ?_, htime.trans hvtime, hfrom⟩
      · rw [sync_seq_state, husq, hstate]
      · rw [sync_seq_runStart, husq, confirmedSeq_other (by rw [hseq]; exact h.imp id .inl), hseq]
    · obtain ⟨b, heq⟩ := seqStat_stops (fun h => hvsafe (.inl h)) (by rw [hseq]; exact hq) hstop
      have hd : startDue (seqStat r v) = false := by rw [heq]; exact startDue_now rfl
      obtain ⟨hst, hrs, hmo, -⟩ := hstays hd
      refine ⟨?_, ?_, ?_, fun hmode hnone => ?_⟩
      · rw [hrs, heq]; rfl
      · rw [hmo, heq, ← hnow]; rfl
      · rw [hst, heq]; exact hrestState
      · rw [sync_arb, hsame hd, heq]
        have harb : v.arb = s.arb := by subst hv; rfl
        show (restArbiter v).restStart = _
        unfold restArbiter
        rw [harb, if_pos ⟨hmode, hnone⟩, hnow]
    · obtain ⟨q, b, p2, heq, hqs, -, hdh, hbs⟩ := seqStat_prep (r := r) (s := v) hvsettled.2.1 (by rw [hseq]; exact hq) hns hreq
        (by rw [hseq]; exact hheat)
      have hd : startDue (seqStat r v) = false := by
        rw [heq]
        exact startDue_other (by show q.state ≠ _; rw [hqs]; decide)
      have hu := (hsame hd).trans heq
      refine ⟨?_, ?_, ?_, ?_⟩
      · rw [sync_seq_state, hu]; exact hqs
      · rw [sync_arb, hu]
      · rw [sync_blower_defrostHold, hu]; exact hdh
      · rw [sync_blower_state, hu]; exact hbs
    · obtain ⟨p2, heq⟩ := seqStat_granted (r := r) (s := v) (by rw [hseq]; exact hq) (by rw [hseq]; exact hgrant)
        (by rw [hseq]; exact hns) hact
      have hd : startDue (seqStat r v) = false := by rw [heq]; exact startDue_other (fun h => nomatch h)
      have hu := (hsame hd).trans heq
      exact ⟨by rw [sync_seq_state, hu], by rw [sync_seq_defrostFrom, hu, ← hnow]⟩
    · have hdef : v.seq.state.defrosting = true := by rw [hseq]; rcases hq with h | h <;> rw [h] <;> rfl
      obtain ⟨c, heq⟩ := seqStat_clear (r := r) (s := v) (by rw [hseq]; exact hq) (by rw [hseq]; exact hns) hreq hact
      have hwsafe : HoldEndsSafely { v with seq := confirmedSeq r v } := hvsafe (.inr hdef)
      obtain ⟨-, hgs, hdue⟩ := enterRecovery_seq hwsafe c
      have htaken : (confirmedSeq r v).takenStopped = s.seq.takenStopped := by rw [confirmedSeq_same, hseq]
      have hmark : (confirmedSeq r v).stopMark = s.seq.stopMark := by rw [confirmedSeq_same, hseq]
      have hwant : wanted { v with seq := confirmedSeq r v } = wanted s := by
        rw [← hwanted]
        show wantedOf (confirmedSeq r v).release v.prot.limit = wantedOf v.seq.release v.prot.limit
        rw [confirmedSeq_same]
      refine ⟨?_, fun hcold => ?_, fun hw ht => ?_⟩
      · rw [sync_seq_grantSent]
        cases hd : startDue (seqStat r v) with
        | false => rw [hsame hd, heq]; exact hgs
        | true => rw [hstarts hd, (startCompressor_seq _).1, heq]; exact hgs
      · have hnw : coilWarm { v with seq := confirmedSeq r v } = false := Bool.eq_false_iff.mpr fun h => hcold (hwarm.mp h)
        rw [enterRecovery_cold hnw] at heq
        have hd : startDue (seqStat r v) = false := by rw [heq]; exact startDue_other (fun h => nomatch h)
        obtain ⟨hst, -, -, htk, hrf⟩ := hstays hd
        refine ⟨?_, ?_, ?_⟩
        · rw [hst, heq]; rfl
        · rw [hrf, heq, ← hnow]; rfl
        · rw [htk, heq]; exact htaken
      · have hyes : coilWarm { v with seq := confirmedSeq r v } = true := hwarm.mpr hw
        obtain ⟨p2, hrec⟩ := enterRecovery_warm hyes hwsafe c
        rw [hrec] at heq
        have hd : startDue (seqStat r v) = false := by
          rw [heq]
          exact startDue_recovered (s := { v with seq := confirmedSeq r v }) (htaken.trans ht) rfl
        have hu := (hsame hd).trans heq
        have hnext : (sync u).seq.state = if s.seq.stopMark = false ∧ wanted s ≠ 0 then .running else .stopWait := by
          rw [sync_seq_state, hu]
          show recoveryNext { v with seq := confirmedSeq r v } = _
          unfold recoveryNext
          rw [if_pos (htaken.trans ht), hwant, show ({ v with seq := confirmedSeq r v } : State).seq.stopMark = s.seq.stopMark from hmark]
        have hover : DefrostOver u := by
          rw [hu]
          exact ⟨rfl, (Blower.removeHold_coldBlow _ _ _ _).2.trans (Bool.and_false _), rfl⟩
        refine ⟨sync_over hover, fun hsw => ?_, hnext⟩
        rw [sync_seq_state, hu] at hsw
        rw [sync_seq_stopSent, hu]
        exact decide_eq_true hsw
    · have hvd : v.seq.state.defrosting = true := by rw [hseq]; exact hq
      have hvt : v.seq.takenStopped = false := by rw [hseq]; exact hstops.2
      have heq := seqStat_interrupts hvd hstops.1 hvt
      have hvs := hvsafe (.inr hvd)
      by_cases hrec : v.seq.state = .defrostRecovery
      · obtain ⟨b, hint⟩ := interruptDefrost_recovery hvt hvs hrec .stop
        rw [hint] at heq
        have hd : startDue (seqStat r v) = false := by rw [heq]; exact startDue_now rfl
        obtain ⟨hst, hrs, hmo, htk, -⟩ := hstays hd
        rw [hseq] at hrec
        refine ⟨by rw [hrs, heq]; rfl, by rw [hmo, heq, ← hnow]; rfl, fun _ => ⟨?_, by rw [htk, heq]; rfl⟩, fun h => absurd hrec h,
          fun h => absurd hrec h⟩
        rw [hst, heq]
        show v.seq.state = _
        rw [hseq]
        exact hrec
      · have hrec' : s.seq.state ≠ .defrostRecovery := by rw [hseq] at hrec; exact hrec
        cases hw : coilWarm v with
        | false =>
          obtain ⟨b, p2, hint⟩ := interruptDefrost_cold hvt hvs hrec hw .stop
          rw [hint] at heq
          have hd : startDue (seqStat r v) = false := by rw [heq]; exact startDue_now rfl
          obtain ⟨hst, hrs, hmo, htk, hrf⟩ := hstays hd
          have hno : ¬∃ x, s.prot.coil = some x ∧ 300 ≤ x := fun h => nomatch hw.symm.trans (hwarm.mpr h)
          refine ⟨by rw [hrs, heq]; rfl, by rw [hmo, heq, ← hnow]; rfl, fun _ => ⟨by rw [hst, heq], by rw [htk, heq]; rfl⟩,
            fun _ _ => by rw [hrf, heq, ← hnow], fun _ h => absurd h hno⟩
        | true =>
          obtain ⟨b, p2, hint, hb⟩ := interruptDefrost_warm hvt hvs hrec hw .stop
          rw [hint] at heq
          have hd : startDue (seqStat r v) = false := by rw [heq]; exact startDue_now rfl
          obtain ⟨hst, hrs, hmo, -⟩ := hstays hd
          have hyes := hwarm.mp hw
          have hover : DefrostOver u := by
            rw [(hsame hd).trans heq]
            exact ⟨rfl, hb, rfl⟩
          refine ⟨by rw [hrs, heq]; rfl, by rw [hmo, heq, ← hnow]; rfl, fun h => absurd hyes (h.resolve_left hrec'),
            fun _ h => absurd hyes h, fun _ _ => ⟨sync_over hover, ?_⟩⟩
          rw [hst, heq]
          show recoveryNext { v with seq := takenSeq v } = _
          have hprot : v.prot = s.prot := by subst hv; rfl
          have hr : restState ({ v with seq := takenSeq v } : State) = restState v := rfl
          unfold recoveryNext
          rw [if_neg (show ¬({ v with seq := takenSeq v } : State).seq.takenStopped = false from fun h => Bool.noConfusion h), hr,
            hrestState]
          dsimp only
          rw [hprot, if_neg (not_not.mpr hs)]
    · have heq := seqStat_rest (r := r) (s := v) (by rw [hseq]; exact hq)
      have hd : startDue (seqStat r v) = false := by
        rw [heq]
        exact startDue_other (by rw [hseq]; rcases hq with h | h | h <;> rw [h] <;> decide)
      obtain ⟨hst, hrs, hmo, -⟩ := hstays hd
      rw [hst, hrs, hmo, heq, hseq]
      exact ⟨rfl, rfl, rfl⟩
    · have hframe := congrArg (fun y : State => ({ y with link := s.link, eval := s.eval, port := s.port } : State)) hmove.frame
      subst hv
      exact hframe
  · have hexec := exec_minimumOff hmin hdone
    exact ⟨_, hexec, timeless_finish_calm (s := { s with seq := { s.seq with minOffDone := true } }) hcalm⟩
  · have hdue : startDue { s with seq := { s.seq with minOffDone := true } } = true :=
      (startDue_iff _).mpr ⟨hq, hwant, hmin, hsup, hcoil, hlink, r, hl, hhold⟩
    have hfin := finish_settled (s := { s with seq := { s.seq with minOffDone := true } }) hsettled hqueue
    rw [hdue, if_pos rfl] at hfin
    refine ⟨_, exec_minimumOff hmin hdone, ?_⟩
    rw [hfin]
    obtain ⟨h1, h2, h3, h4, h5, h6, h7, h8⟩ := started (s := { s with seq := { s.seq with minOffDone := true } }) hsettled.2.1 hl hhold
    refine ⟨h1, h2, h3, h4, h5, h6, fun hm => ?_, ?_⟩
    · exact congrArg (fun y : State => ({ y with seq := s.timeless.seq } : State)) (h7 hm)
    · exact congrArg (fun y : State => ({ y with seq := s.timeless.seq } : State)) h8
  · have hexec : exec .minimumRunEnd s = .next (finish (stopWait true s)) := by
      refine congrArg Host.Outcome.next (if_pos ?_)
      unfold minimumRunDue
      rw [hq, hsent, hstart, (reached_iff _ _ _).mpr ⟨t0, rfl, hle⟩]
      rfl
    obtain ⟨hsettled, hqueue, hnot⟩ := hcalm
    refine ⟨_, hexec, ?_⟩
    rw [timeless_finish_calm (s := stopWait true s) ⟨hsettled, hqueue, nofun⟩]
    unfold stopWait
    rw [← hq]
    rfl
  · dsimp only
    have hprep : s.seq.state = .defrostPrep → coilWarm s = false := fun h => Bool.eq_false_iff.mpr fun hw => by
      obtain ⟨x, hx, hle⟩ := (coilWarm_iff s).mp hw
      have := hcoil h x hx
      omega
    have hsettled := hcalm.1
    obtain ⟨u, hexec, rel, o, e, st, pr, po, heq, hostate, hophase, hlast, hhist, hstops⟩ :=
      hcause.marks hsettled.2.2.2.2.2.1 hsettled.2.2.2.2.1 hdef hprep
    have hmarked : (markedSeq s).state.defrosting = true := markedSeq_defrosting hdef
    have hsync : finish u = sync u := by
      refine finish_calm ?_
      obtain ⟨⟨ht, hp, hi, hh, ho, hx, hr, hl⟩, hq, hw⟩ := hcalm
      rw [heq]
      refine ⟨⟨ht, hp, hi, hh, hostate, hophase, hr, hlast ▸ hl⟩, hq, ?_⟩
      show (markedSeq s).state ≠ .waitStart
      intro h
      rw [h] at hmarked
      exact nomatch hmarked
    have hseq : u.seq = { markedSeq s with release := rel } := by rw [heq]
    have hfields : (markedSeq s).stopMark = true ∧
        (markedSeq s).state = (if decide (s.seq.state = .defrostPrep) = true then .defrostRecovery else s.seq.state) ∧
        (markedSeq s).recoveryFrom = (if decide (s.seq.state = .defrostPrep) = true then some s.now else s.seq.recoveryFrom) ∧
        (markedSeq s).grantSent = (!decide (s.seq.state = .defrostPrep) && s.seq.grantSent) ∧
        (markedSeq s).defrostFrom = (if decide (s.seq.state = .defrostPrep) = true then none else s.seq.defrostFrom) ∧
        (markedSeq s).takenStopped = s.seq.takenStopped ∧ (markedSeq s).runStart = s.seq.runStart ∧
        (markedSeq s).minOffFrom = s.seq.minOffFrom := by
      unfold markedSeq
      by_cases h : s.seq.state = .defrostPrep
      · simp [h]
      · simp [h]
    obtain ⟨hmark, hstate, hrec, hgrant, hfrom, htaken, hrun, hmin⟩ := hfields
    refine ⟨_, hexec, ?_, ?_, ?_, ?_, ?_, ?_, ?_, ?_, ?_, ?_, ?_, ?_⟩
    · rw [hsync, sync_seq_stopMark, hseq]; exact hmark
    · rw [hsync, sync_seq_state, hseq]; exact hstate
    · rw [hsync, sync_seq_recoveryFrom, hseq]; exact hrec
    · rw [hsync, sync_seq_grantSent, hseq]; exact hgrant
    · rw [hsync, sync_seq_defrostFrom, hseq]; exact hfrom
    · rw [hsync, sync_seq_takenStopped, hseq]; exact htaken
    · rw [hsync, sync_seq_runStart, hseq]; exact hrun
    · rw [hsync, sync_seq_minOffFrom, hseq]; exact hmin
    · rw [hsync]
      refine commanded_marked ?_ ?_
      · rw [sync_seq_state, hseq]; exact hmarked
      · rw [sync_seq_stopMark, hseq]; exact hmark
    · rw [hsync, sync_prot_hist, heq]; exact hhist
    · rw [hsync, sync_prot_stops, heq]; exact hstops
    · have hframe := congrArg (fun y : State => ({ y with
        seq := s.timeless.seq, op := s.timeless.op, eval := s.eval, store := s.store, prot := s.timeless.prot
        port := s.port } : State)) (timeless_sync u)
      rw [hsync]
      subst heq
      exact hframe
  · dsimp only
    obtain ⟨hsettled, hqueue, -⟩ := hcalm
    obtain ⟨p, heq⟩ := endRecovery_safe hsafe .recoveryTime
    have hexec : exec .recoveryTimeExpiry s = .next (finish (endRecovery .recoveryTime s)) := by
      refine congrArg Host.Outcome.next (if_pos ?_)
      unfold recoveryDue
      rw [hq, hfrom, (reached_iff _ _ _).mpr ⟨t0, rfl, hle⟩]
      rfl
    have hmove : SeqMove s (endRecovery .recoveryTime s) := by
      rw [heq]
      exact ⟨_, _, _, true, p, rfl⟩
    obtain ⟨u, hfin, humove, hsame, hstarts⟩ := hmove.finish hsettled hqueue
    have hover : DefrostOver (endRecovery .recoveryTime s) := by
      rw [heq]
      exact ⟨rfl, (s.blower.removeHold_coldBlow s.now s.cfg.table false).2.trans (Bool.and_false _), rfl⟩
    have hdue : startDue (endRecovery .recoveryTime s) = true ↔
        s.seq.takenStopped = true ∧ s.prot.lockout = false ∧ s.prot.stops = [] ∧ wanted s ≠ 0 ∧ StartFree s := by
      rw [startDue_iff, heq]
      show recoveryNext s = .waitStart ∧ wanted s ≠ 0 ∧ StartFree s ↔ _
      constructor
      · rintro ⟨hnext, hw, hfree⟩
        unfold recoveryNext at hnext
        split at hnext
        · split at hnext <;> exact nomatch hnext
        next ht =>
          split at hnext
          · exact nomatch hnext
          next hlock =>
            split at hnext
            · exact nomatch hnext
            next hstops =>
              exact ⟨Bool.eq_true_of_not_eq_false ht, Bool.eq_false_iff.mpr hlock, not_not.mp hstops, hw, hfree⟩
      · rintro ⟨ht, hlock, hstops, hw, hfree⟩
        refine ⟨?_, hw, hfree⟩
        unfold recoveryNext restState
        rw [if_neg (by rw [ht]; decide), if_neg (by rw [hlock]; decide), if_neg (not_not.mpr hstops), if_neg hw]
    have hoveru : DefrostOver u := by
      cases hd : startDue (endRecovery .recoveryTime s) with
      | false => rw [hsame hd]; exact hover
      | true =>
        obtain ⟨-, hb, ha, he⟩ := startCompressor_seq (endRecovery .recoveryTime s)
        rw [hstarts hd]
        exact ⟨by rw [ha]; exact hover.1, hb.trans hover.2.1, by rw [he]; exact hover.2.2⟩
    obtain ⟨ha, hb, he⟩ := sync_over hoveru
    refine ⟨_, hexec, ?_⟩
    rw [hfin]
    refine ⟨ha, hb, he, fun hst => ?_, fun hno => ?_, fun hsw => ?_, humove.frame⟩
    · have hu := hstarts (hdue.mpr hst)
      rw [sync_seq_state, sync_seq_runStart, hu, (startCompressor_seq _).1]
      exact ⟨rfl, rfl⟩
    · have hu := hsame (Bool.eq_false_iff.mpr fun h => hno (hdue.mp h))
      rw [sync_seq_state, sync_seq_runStart, hu, heq]
      exact ⟨rfl, rfl⟩
    · cases hd : startDue (endRecovery .recoveryTime s) with
      | false =>
        have hu := (hsame hd).trans heq
        rw [sync_seq_state, hu] at hsw
        rw [sync_seq_stopSent, hu]
        exact decide_eq_true hsw
      | true =>
        rw [sync_seq_state, hstarts hd, (startCompressor_seq _).1] at hsw
        exact nomatch hsw
  · obtain ⟨hrel, hstop, hrun, hmin, hframe⟩ := seqRelease_keeps r s
    exact ⟨hrel, hstop, hrun, hmin, hframe, seqRelease_running, fun hq => (seqRelease_stopWait hq).1,
      fun hq => (seqRelease_stopWait hq).2, seqRelease_other.1, seqRelease_other.2⟩
  · intro hlow p hc hdiff
    obtain ⟨ho, hphase', htodo, hz, hcause⟩ := htaken
    obtain ⟨n, u, hfin, hstopping⟩ := pass_stops ho hphase' (lineQuiet_of hlow) hz hphase hinc hheld hdef hfloat
      (by rw [htodo]; rfl) hq hc hdiff
    obtain ⟨hstate, hsent, hrelease, hstopped, hrun, hmin⟩ := hstopping.seq
    refine ⟨_, exec_pass ho hcause, ?_⟩
    rw [hfin]
    refine ⟨?_, ?_, ?_, ?_, ?_, ?_⟩
    · rw [sync_seq_state]; exact hstate
    · rw [sync_seq_stopSent, hsent, ← inMinimumRun_iff]
      show (decide (p.mode = .rest) || !inMinimumRun s) = false ↔ _
      simp
    · rw [sync_seq_release]; exact hrelease
    · rw [sync_seq_stopping]; exact hstopped
    · rw [sync_seq_runStart]; exact hrun
    · rw [sync_seq_minOffFrom]; exact hmin

end Sys2Proof.Machine
end

section
/-! A button release in STARTUP: a consequence of the same command can end STARTUP, so that the latched action is gone (11 R162, R167). -/

namespace Sys2Proof.Machine

/-- STARTUP with a wake's round due on a line that was low a millisecond ago and four collisions counted. The CAP is abandoned, the link is
LOST, the running compressor counts as stopped and the cold-blow hold ends; without an air path the guard restarts the changeover, whose
applied plan opens damper 0. That damper is the last with a reset HOME, and its winding is open: its FAULT ends STARTUP. -/
def startupEndsAtRelease : State :=
  { Tests.rest with
    op := { Tests.rest.op with state := .startup, button := .pressed, accepted := true }
    inp := { Tests.rest.inp with windingOpen := Eight.all true }
    drive := { Tests.rest.drive with resetHomes := [0] }
    link := { Tests.rest.link with
      state := .active, wakeRound := true, lowAt := some (Tests.rest.now - 1), collisions := 4 }
    seq := { Tests.rest.seq with state := .running }
    blower := { Tests.rest.blower with state := .hold, coldBlow := true, given := 100 }
    co := { Tests.rest.co with applied := { Plan.empty with zones := Eight.all ⟨.calling, 50, 50⟩ } } }

theorem startupEndsAtRelease_settles :
    (settle settleFuel (released startupEndsAtRelease)).op.latched = .nothing ∧
      passDue (settle settleFuel (released startupEndsAtRelease)) = false := by decide

theorem startupEndsAtRelease_latched : (finish (released startupEndsAtRelease)).op.latched = .nothing := by
  obtain ⟨hlatched, hpass⟩ := startupEndsAtRelease_settles
  unfold finish passStep
  rw [hpass, if_neg Bool.false_ne_true]
  obtain ⟨_, _, _, _, h⟩ := sync_op (settle settleFuel (released startupEndsAtRelease))
  rw [h]
  exact hlatched

/-- Refutes O58: a damper FAULT that follows the release of the button ends STARTUP at the same command, and the toggle is applied rather
than latched. -/
theorem not_operatingRows : ¬ Obligations.OperatingRows := by
  unfold Obligations.OperatingRows
  intro h
  obtain ⟨-, -, -, -, -, -, hstartup⟩ := h startupEndsAtRelease
  obtain ⟨hrelease, -⟩ := hstartup rfl (by decide) rfl rfl rfl rfl rfl rfl
  obtain ⟨t, ht, hlatched, -⟩ := hrelease ⟨by decide, by decide, by decide⟩
  have hexec : exec .buttonRelease startupEndsAtRelease = .next (finish (released startupEndsAtRelease)) :=
    congrArg Host.Outcome.next (if_pos (by decide))
  obtain rfl : finish (released startupEndsAtRelease) = t := Host.Outcome.next.inj (hexec.symm.trans ht)
  exact nomatch hlatched.symm.trans startupEndsAtRelease_latched

end Sys2Proof.Machine
end

section
/-! The end of a service test or of its preparation, by a press and by a SET_SYSTEM (11 R168, R169; 12 R174). -/

namespace Sys2Proof.Machine

/-- A sequencer whose release's capacity is taken as 0: a running compressor stops at once. -/
def cutSeq (q : Sequencer) : Sequencer :=
  let q : Sequencer := { q with release := q.release.map fun r => { r with c := 0 } }
  if q.state = .running ∨ q.state = .stopWait then { q with state := .stopWait, stopSent := true } else q

theorem cutSeq_state {q : Sequencer} (hd : q.state.defrosting = false) (hw : q.state ≠ .waitStart) :
    (cutSeq q).state.defrosting = false ∧ (cutSeq q).state ≠ .waitStart := by
  unfold cutSeq
  dsimp only
  split
  · exact ⟨rfl, nofun⟩
  · exact ⟨hd, hw⟩

/-- A second cut finds nothing left to cut. -/
theorem cutSeq_twice (q : Sequencer) : cutSeq (cutSeq q) = cutSeq q := by
  have hrelease : ∀ r : Option Release, (r.map fun r => ({ r with c := 0 } : Release)).map (fun r => { r with c := 0 }) =
      r.map fun r => { r with c := 0 } := fun r => by cases r <;> rfl
  unfold cutSeq
  dsimp only
  by_cases h : q.state = .running ∨ q.state = .stopWait
  · rw [if_pos h]
    simp [hrelease]
  · rw [if_neg h]
    simp [hrelease, h]

theorem cutSeq_since (q : Sequencer) (a : Option Nat) :
    cutSeq { q with startFailFrom := a } = { cutSeq q with startFailFrom := a } := by
  unfold cutSeq
  dsimp only
  split <;> rfl

theorem releaseOff_cut {s : State} (hd : s.seq.state.defrosting = false) (hw : s.seq.state ≠ .waitStart) :
    ∃ a, releaseOff s = { s with seq := { cutSeq s.seq with startFailFrom := a } } := by
  obtain ⟨a, ha⟩ := releaseOff_eq hd hw
  refine ⟨a, ha.trans ?_⟩
  unfold cutSeq Runs
  dsimp only
  by_cases h : s.seq.state = .running ∨ s.seq.state = .stopWait
  · have hr : (decide (s.seq.state = .running) || decide (s.seq.state = .stopWait)) = true := by simpa using h
    rw [hr, if_pos h]
    rfl
  · have hr : (decide (s.seq.state = .running) || decide (s.seq.state = .stopWait)) = false := by simpa using h
    rw [hr, if_neg h]
    rfl

/-- The end of TEST. -/
theorem endTest_cut {s : State} (ho : s.op.state = .test) (hd : s.seq.state.defrosting = false) (hw : s.seq.state ≠ .waitStart) :
    ∃ a p, endTest s =
      { s with
        op := { s.op with state := opOf s.op.request, testFrom := none }, seq := { cutSeq s.seq with startFailFrom := a }
        eval := { s.eval with early := true }, port := p } := by
  have hne : opOf s.op.request ≠ s.op.state := by
    rw [ho]
    cases s.op.request <;> decide
  obtain ⟨p, hp⟩ := changeOp_eq (s := { s with op := { s.op with testFrom := none } }) (by show s.op.state ≠ _; rw [ho]; decide)
    (opOf s.op.request) .testEnd
  obtain ⟨a, ha⟩ := releaseOff_cut (s := { s with
    op := { s.op with state := opOf s.op.request, testFrom := none }, port := p
    eval := { s.eval with early := true } }) hd hw
  refine ⟨a, p, ?_⟩
  unfold endTest
  dsimp only
  rw [hp, show (decide (opOf s.op.request ≠ s.op.state)) = true from decide_eq_true hne, Bool.or_true]
  exact ha

/-- A changed request in TEST is saved and leaves the operating state. -/
theorem writeRequest_test {s : State} {new : OpRequest} (hn : new ≠ s.op.request) (ho : s.op.state = .test) (cause : StateCause) :
    writeRequest new cause s = if new = .off then releaseOff (requested new s) else requested new s := by
  obtain ⟨u, hu⟩ : ∃ u, (if new = .off then releaseOff (requested new s) else requested new s) = u := ⟨_, rfl⟩
  have hop : u.op.state = s.op.state := by
    rw [← hu]
    split
    · rw [op_releaseOff]
      rfl
    · rfl
  unfold writeRequest
  rw [if_neg hn, autoSave_eq]
  rw [show requestPass { ({ s with op := { s.op with request := new } } : State) with
    store := saved { s with op := { s.op with request := new } } } = requested new s from rfl]
  dsimp only
  rw [hu, hop, ho]

/-- The request, written or standing, with a store in which a change is saved. -/
def Written (new : OpRequest) (s : State) (store : Store) : Prop :=
  (new ≠ s.op.request → store.autoPending = true ∨ store.writer ≠ .idle) ∧ (new = s.op.request → store = s.store)

theorem saved_written (s : State) : (saved s).autoPending = true ∨ (saved s).writer ≠ .idle := by
  unfold saved
  split
  · exact .inr nofun
  · exact .inl rfl

/-- A SET_SYSTEM of the request in TEST. -/
theorem hostRequest_test {s : State} (new : OpRequest) (ho : s.op.state = .test) (hd : s.seq.state.defrosting = false)
    (hw : s.seq.state ≠ .waitStart) : ∃ a p st, hostRequest new s =
      { s with
        op := { s.op with request := new, state := opOf new, testFrom := none }, seq := { cutSeq s.seq with startFailFrom := a }
        eval := { s.eval with early := true }, store := st, port := p } ∧ Written new s st := by
  have htest : hostRequest new s = endTest (writeRequest new .request s) := by
    unfold hostRequest
    rw [if_pos ho]
  rw [htest]
  by_cases hn : new = s.op.request
  · subst hn
    obtain ⟨a, p, h⟩ := endTest_cut ho hd hw
    refine ⟨a, p, s.store, ?_, fun h => absurd rfl h, fun _ => rfl⟩
    rw [show writeRequest s.op.request .request s = s from if_pos rfl, h]
  · rw [writeRequest_test hn ho]
    have hstore : Written new s (requested new s).store := ⟨fun _ => saved_written _, fun h => absurd h hn⟩
    cases new with
    | on =>
      obtain ⟨a, p, h⟩ := endTest_cut (s := requested .on s) ho hd hw
      exact ⟨a, p, _, h, hstore⟩
    | off =>
      obtain ⟨b, hb⟩ := releaseOff_cut (s := requested .off s) hd hw
      obtain ⟨hd', hw'⟩ := cutSeq_state hd hw
      obtain ⟨a, p, h⟩ := endTest_cut (s := { requested .off s with seq := { cutSeq s.seq with startFailFrom := b } }) ho hd' hw'
      refine ⟨a, p, _, ?_, hstore⟩
      have hseq : cutSeq { cutSeq s.seq with startFailFrom := b } = { cutSeq s.seq with startFailFrom := b } := by
        rw [cutSeq_since, cutSeq_twice]
      dsimp only at h
      rw [hseq] at h
      rw [if_pos rfl, hb]
      exact h

/-- A SET_SYSTEM of the request while a test is prepared. -/
theorem hostRequest_prepares {s : State} (new : OpRequest) (hp : s.op.testPhase ≠ .idle) (ho : s.op.state = .off ∨ s.op.state = .on)
    (hd : s.seq.state.defrosting = false) (hw : s.seq.state ≠ .waitStart) : ∃ a b c d e p st, hostRequest new s =
      { s with
        op :=
          { s.op with
            request := new, testPhase := .idle, testDampers := [], opened := []
            state := if new = s.op.request then s.op.state else opOf new
            idleFrom := a, idleDone := b, notice := c, noticeFrom := d }
        seq := if new ≠ s.op.request ∧ new = .off then { cutSeq s.seq with startFailFrom := e } else s.seq
        eval := { s.eval with early := s.eval.early || decide (new ≠ s.op.request) }, store := st, port := p } ∧
      Written new s st := by
  have htest : s.op.state ≠ .test := by rcases ho with h | h <;> rw [h] <;> decide
  have hservice : endService s = endPreparation s := by
    unfold endService
    rw [if_neg htest, if_pos hp]
  obtain ⟨a, b, c, d, hreq⟩ : ∃ a b c d, hostRequest new s = writeRequest new .request { endPreparation s with
      op := { (endPreparation s).op with idleFrom := a, idleDone := b, notice := c, noticeFrom := d } } := by
    unfold hostRequest
    rw [if_neg htest, hservice]
    dsimp only
    split <;> exact ⟨_, _, _, _, rfl⟩
  rw [hreq]
  by_cases hn : new = s.op.request
  · subst hn
    refine ⟨a, b, c, d, none, s.port, s.store, ?_, fun h => absurd rfl h, fun _ => rfl⟩
    rw [show ∀ t : State, t.op.request = s.op.request → writeRequest s.op.request .request t = t from
      fun t ht => if_pos ht.symm, if_pos rfl, if_neg fun h => h.1 rfl]
    · simp [endPreparation]
    · rfl
  · rw [writeRequest_changed (s := { endPreparation s with
      op := { (endPreparation s).op with idleFrom := a, idleDone := b, notice := c, noticeFrom := d } }) hn ho.symm]
    rw [if_neg hn, decide_eq_true hn, Bool.or_true]
    have hresting : s.op.state ≠ .resting := by rcases ho with h | h <;> rw [h] <;> decide
    have hstore : Written new s (saved { endPreparation s with
        op := { (endPreparation s).op with idleFrom := a, idleDone := b, notice := c, noticeFrom := d, request := new } }) :=
      ⟨fun _ => saved_written _, fun h => absurd h hn⟩
    cases new with
    | on =>
      obtain ⟨p, h⟩ := changeOp_eq (s := requested .on { endPreparation s with
        op := { (endPreparation s).op with idleFrom := a, idleDone := b, notice := c, noticeFrom := d } }) hresting (opOf .on) .request
      refine ⟨a, b, c, d, none, p, _, ?_, hstore⟩
      rw [if_neg (by decide), if_neg fun h => nomatch h.2]
      exact h
    | off =>
      obtain ⟨e, he⟩ := releaseOff_cut (s := requested .off { endPreparation s with
        op := { (endPreparation s).op with idleFrom := a, idleDone := b, notice := c, noticeFrom := d } }) hd hw
      obtain ⟨p, h⟩ := changeOp_eq (s := releaseOff (requested .off { endPreparation s with
        op := { (endPreparation s).op with idleFrom := a, idleDone := b, notice := c, noticeFrom := d } }))
        (by rw [he]; exact hresting) (opOf .off) .request
      refine ⟨a, b, c, d, e, p, _, ?_, hstore⟩
      rw [if_pos rfl, if_pos ⟨hn, rfl⟩, h, he]
      rfl

/-- A press that ends the preparation of a test. -/
theorem pressed_prepares {s : State} (hp : s.op.testPhase ≠ .idle) (ho : s.op.state = .off ∨ s.op.state = .on) :
    ∃ a b c d p, pressed s =
      { s with
        op :=
          { s.op with
            testPhase := .idle, testDampers := [], opened := [], accepted := true, button := .ignored, pressFrom := none
            idleFrom := a, idleDone := b, notice := c, noticeFrom := d }
        port := p } := by
  have htest : s.op.state ≠ .test := by rcases ho with h | h <;> rw [h] <;> decide
  have hresting : s.op.state ≠ .resting := by rcases ho with h | h <;> rw [h] <;> decide
  obtain ⟨a, b, c, d, hwake⟩ := wakeEvent_notResting (s := { s with op := { s.op with accepted := true } }) hresting
  refine ⟨a, b, c, d, s.port.raise s.now (.button .testEnd s.op.request), ?_⟩
  unfold pressed
  rw [hwake]
  unfold inService endService
  dsimp only
  rw [decide_eq_true hp, Bool.or_true, if_pos rfl, if_neg htest, if_pos hp]
  rfl

/-- Settles O59: a press and a SET_SYSTEM of the request each end the preparation, and the SET_SYSTEM ends TEST; what is left is calm. -/
theorem serviceIsEnded : Obligations.ServiceIsEnded := by
  unfold Obligations.ServiceIsEnded
  intro s hcalm hd
  obtain ⟨⟨htodo, hphase, hinc, hheld, hop, -, hwake, hlast⟩, hqueue, hwait⟩ := hcalm
  refine ⟨fun ⟨hp, ho⟩ hclosed haccepted hsince => ?_, fun new hfree hcase => ?_⟩
  · obtain ⟨a, b, c, d, p, heq⟩ := pressed_prepares hp ho
    have hexec : exec .buttonPress s = .next (finish (pressed s)) := by
      refine congrArg Host.Outcome.next (if_pos ?_)
      unfold buttonRead
      rw [haccepted, hclosed, decide_eq_true hsince]
      rfl
    have hc : Calm (pressed s) := by
      rw [heq]
      exact ⟨⟨htodo, hphase, hinc, hheld, hop, rfl, hwake, hlast⟩, hqueue, hwait⟩
    refine ⟨_, hexec, ?_⟩
    rw [timeless_finish_port hc, heq]
    rfl
  · dsimp only
    let r := Request.setSystem (byte new.code) 0xFE 0xFE
    have hperform := perform_setSystem (readsAs_request new) (readsAs_none policyOf) (readsAs_none frostOf)
      (toStage r .replying s) (fun h => by cases h)
    simp only [Option.getD_none] at hperform
    rw [writeSystem_request] at hperform
    have hexec : exec (.setSystem (byte new.code) 0xFE 0xFE) s = .next (finish (perform r (toStage r .replying s))) :=
      congrArg (fun t => Host.Outcome.next (finish t)) (offer_free hfree r)
    rw [hperform] at hexec
    obtain ⟨q, hq⟩ := accept_eq r (operatingBody (hostRequest new (toStage r .replying s))) (hostRequest new (toStage r .replying s))
    rw [hq] at hexec
    have hopOf : opOf new = if new = .on then .on else .off := by cases new <;> rfl
    obtain ⟨v, hv⟩ : ∃ v, hostRequest new (toStage r .replying s) = v := ⟨_, rfl⟩
    have hend : Calm v → ∀ p, ({ finish { v with port := q } with port := p } : State).timeless = ({ v with port := p } : State).timeless :=
      fun h p => timeless_finish_port (s := { v with port := q }) h p
    have hstore : (finish { v with port := q }).store = v.store ∨ ¬Calm v := by
      by_cases h : Calm v
      · have heq := timeless_finish_calm (s := { v with port := q }) h
        refine .inl ?_
        show (finish { v with port := q }).timeless.store = v.store
        rw [heq]
        rfl
      · exact .inr h
    rw [hv] at hexec
    refine ⟨_, hexec, ?_⟩
    rcases hcase with ⟨hp, ho⟩ | ⟨ho, hp⟩
    · obtain ⟨a, b, c, d, e, p, st, heq, hchanged, hsame⟩ := hostRequest_prepares (s := toStage r .replying s) new hp ho hd hwait
      have htest : s.op.state ≠ .test := by rcases ho with h | h <;> rw [h] <;> decide
      have hc : Calm v := by
        rw [← hv, heq]
        refine ⟨⟨htodo, hphase, hinc, hheld, ?_, rfl, hwake, hlast⟩, hqueue, ?_⟩
        · dsimp only
          split
          · exact hop
          · exact opOf_ne_startup new
        · dsimp only
          split
          · exact (cutSeq_state hd hwait).2
          · exact hwait
      have hst : (finish { v with port := q }).store = st := by
        rw [hstore.resolve_right (not_not.mpr hc), ← hv, heq]
      refine ⟨fun h => ?_, fun h => ?_, ?_⟩
      · rw [hst]
        exact hchanged (of_decide_eq_true h)
      · rw [hst]
        exact hsame (not_not.mp (of_decide_eq_false h))
      · have h := congrArg (fun y : State => ({ y with store := s.store } : State)) (hend hc s.port)
        refine h.trans ?_
        rw [← hv, heq]
        rw [hopOf]
        by_cases hn : new = s.op.request
        · simp [toStage, State.timeless, hn, htest]
        · cases new with
          | on => simp [toStage, State.timeless, hn, htest]
          | off =>
            simp only [toStage, ne_eq, hn, not_false_eq_true, and_self, if_true, if_false, decide_true, Bool.or_true, Bool.or_false,
              Bool.and_self, decide_eq_false htest, Bool.false_eq_true, reduceCtorEq]
            rfl
    · obtain ⟨a, p, st, heq, hchanged, hsame⟩ := hostRequest_test (s := toStage r .replying s) new ho hd hwait
      have hc : Calm v := by
        rw [← hv, heq]
        exact ⟨⟨htodo, hphase, hinc, hheld, opOf_ne_startup new, hp, hwake, hlast⟩, hqueue, (cutSeq_state hd hwait).2⟩
      have hst : (finish { v with port := q }).store = st := by
        rw [hstore.resolve_right (not_not.mpr hc), ← hv, heq]
      refine ⟨fun h => ?_, fun h => ?_, ?_⟩
      · rw [hst]
        exact hchanged (of_decide_eq_true h)
      · rw [hst]
        exact hsame (not_not.mp (of_decide_eq_false h))
      · have h := congrArg (fun y : State => ({ y with store := s.store } : State)) (hend hc s.port)
        refine h.trans ?_
        rw [← hv, heq, hopOf]
        simp only [ho, decide_true, Bool.true_or, Bool.or_true, if_true]
        rw [← hp]
        rfl

end Sys2Proof.Machine
end

section
/-! The timers of the Protection Monitor: the limit's steps, trips that leave the set, SUPPLY_LOW, and what a release leaves of the
watches (10 R152 to R157). -/

namespace Sys2Proof.Machine

/-! ### The watches at the end of a command -/

/-- Whether a limiting condition stands once the watches that do not apply have ended. -/
def limitingStill (s : State) : Bool := s.prot.freezeLim && freezeWatch s || s.prot.supplyLim && supplyWatch s

theorem sync_prot_eq (s : State) : (sync s).prot =
    { s.prot with
      belowZeroFrom := if freezeWatch s then s.prot.belowZeroFrom else none
      above60From := if supplyWatch s then s.prot.above60From else none
      freezeLim := s.prot.freezeLim && freezeWatch s, supplyLim := s.prot.supplyLim && supplyWatch s
      stepFrom := if limitingStill s then s.prot.stepFrom else none
      recoverFrom := runWhile (!limitingStill s) s.now s.prot.recoverFrom } := by
  have key : ∀ t : State, (standDown (syncStartFail t)).prot = t.prot := fun t => by
    obtain ⟨o, ho, -⟩ := standDown_eq (syncStartFail t)
    obtain ⟨q, hq, -⟩ := syncStartFail_eq t
    rw [ho, hq]
  have hsync : (sync s).prot = (syncWatches { s with blower := s.blower.syncPressure s.now s.cfg.pressureCap }).prot :=
    key (syncWatches { s with blower := s.blower.syncPressure s.now s.cfg.pressureCap })
  rw [hsync]
  rfl

/-- The limiting marks and the limit's times at the end of a command. -/
theorem sync_limits (s : State) :
    ((sync s).prot.freezeLim = true ↔ s.prot.freezeLim = true ∧ FreezeWatched s) ∧
      ((sync s).prot.supplyLim = true ↔ s.prot.supplyLim = true ∧ SupplyWatched s) ∧
      (limitingStill s = true → (sync s).prot.stepFrom = s.prot.stepFrom ∧ (sync s).prot.recoverFrom = none) ∧
      (limitingStill s = false →
        (sync s).prot.stepFrom = none ∧ (sync s).prot.recoverFrom = some (s.prot.recoverFrom.getD s.now)) := by
  rw [sync_prot_eq, ← freezeWatch_iff, ← supplyWatch_iff]
  refine ⟨Bool.and_eq_true_iff, Bool.and_eq_true_iff, fun h => ?_, fun h => ?_⟩
  · rw [h]
    exact ⟨rfl, rfl⟩
  · rw [h]
    exact ⟨rfl, runWhile_true ..⟩

theorem limitingStill_iff (s : State) :
    limitingStill s = true ↔ s.prot.freezeLim = true ∧ FreezeWatched s ∨ s.prot.supplyLim = true ∧ SupplyWatched s := by
  unfold limitingStill
  rw [Bool.or_eq_true, Bool.and_eq_true, Bool.and_eq_true, freezeWatch_iff, supplyWatch_iff]

/-! ### Steps of the limit -/

/-- A sequencer after an immediate stop outside a defrost. -/
def stoppedNow (q : Sequencer) : Sequencer :=
  if q.state = .running ∨ q.state = .stopWait then { q with state := .stopWait, stopSent := true } else q

theorem immediateStop_now {s : State} (hd : s.seq.state.defrosting = false) :
    ∃ a, immediateStop s = { s with seq := { stoppedNow s.seq with startFailFrom := a } } := by
  unfold immediateStop stoppedNow
  cases hq : s.seq.state with
  | running => exact ⟨none, by simp [stopWait]⟩
  | stopWait => exact ⟨none, by simp [stopWait]⟩
  | defrostPrep => rw [hq] at hd; exact nomatch hd
  | defrostActive => rw [hq] at hd; exact nomatch hd
  | defrostRecovery => rw [hq] at hd; exact nomatch hd
  | _ => exact ⟨s.seq.startFailFrom, by simp⟩

theorem stoppedNow_state (q : Sequencer) :
    (stoppedNow q).state = if q.state = .running ∨ q.state = .stopWait then .stopWait else q.state := by
  unfold stoppedNow
  split <;> rfl

theorem compressorRunning_congr {s t : State} (hq : t.seq.state = s.seq.state) (ht : t.seq.takenStopped = s.seq.takenStopped) :
    compressorRunning t = compressorRunning s := by
  unfold compressorRunning
  rw [hq, ht]

/-- The immediate stop leaves a running compressor counted as running. -/
theorem compressorRunning_stoppedNow {s t : State} {a : Option Nat} (h : t.seq = { stoppedNow s.seq with startFailFrom := a }) :
    compressorRunning t = compressorRunning s := by
  unfold compressorRunning
  rw [h]
  unfold stoppedNow
  cases hq : s.seq.state <;> simp [hq]

theorem releaseMode_stoppedNow (q : Sequencer) (a : Option Nat) :
    releaseMode { stoppedNow q with startFailFrom := a } = releaseMode q := by
  unfold stoppedNow
  split <;> rfl

/-- STOPPED and WAIT_START follow the wanted capacity. -/
theorem followWanted_eq (s : State) : followWanted s =
    { s with seq :=
      { s.seq with state := if s.seq.state = .stopped ∨ s.seq.state = .waitStart then restState s else s.seq.state } } := by
  unfold followWanted seqTo
  cases hq : s.seq.state <;> simp <;> rw [← hq]

/-- A step of the limit that is no trip. -/
theorem limitDown_step {s : State} (hgood : LimitGood s) (hd : s.seq.state.defrosting = false) (hw : s.seq.state ≠ .waitStart)
    (hfreeze : s.prot.limit ≠ 10 ∨ s.prot.freezeLim = false)
    (hstopped : s.seq.state = .stopped → wantedOf s.seq.release (s.prot.limit - 10) = 0) : ∃ q a, limitDown s =
      { s with prot := { s.prot with limit := s.prot.limit - 10, stepFrom := some s.now }, seq := { q with startFailFrom := a } } ∧
      q = if 0 < s.prot.limit ∧ s.prot.limit ≤ 20 then stoppedNow s.seq else s.seq := by
  have hno : (s.prot.freezeLim && decide (s.prot.limit ≠ 0) && decide (s.prot.limit ≤ 10) && freezeWatch s) = false := by
    obtain ⟨-, hmod⟩ := hgood
    rcases hfreeze with h | h
    · by_cases h0 : s.prot.limit = 0
      · simp [h0]
      · have : ¬s.prot.limit ≤ 10 := by omega
        simp [this]
    · simp [h]
  obtain ⟨u, hu⟩ : ∃ u : State, u = { s with prot := { s.prot with limit := s.prot.limit - 10, stepFrom := some s.now } } := ⟨_, rfl⟩
  have hdown : limitDown s = if s.prot.limit = 0 then u else limitChanged u := by
    unfold limitDown
    dsimp only
    refine (if_neg ?_).trans ?_
    · exact fun h => Bool.noConfusion (hno.symm.trans h)
    · rw [hu]
  have hfollow : ∀ v : State, v.seq.release = s.seq.release → v.prot.limit = s.prot.limit - 10 →
      (v.seq.state = .stopped → s.seq.state = .stopped) → v.seq.state ≠ .waitStart → followWanted v = v := fun v hr hl hs hv => by
    have hstate : (if v.seq.state = .stopped ∨ v.seq.state = .waitStart then restState v else v.seq.state) = v.seq.state := by
      split
      next h =>
        have hst := h.resolve_right hv
        unfold restState wanted
        rw [hr, hl, hstopped (hs hst), if_pos rfl, hst]
      next => rfl
    rw [followWanted_eq, hstate]
  rw [hdown]
  by_cases h0 : s.prot.limit = 0
  · refine ⟨s.seq, s.seq.startFailFrom, ?_, ?_⟩
    · rw [if_pos h0, hu]
    · rw [if_neg (by omega)]
  · rw [if_neg h0]
    unfold limitChanged
    by_cases hlow : s.prot.limit ≤ 20
    · obtain ⟨a, ha⟩ := immediateStop_now (s := u) (by rw [hu]; exact hd)
      refine ⟨stoppedNow s.seq, a, ?_, ?_⟩
      · rw [if_pos (show u.prot.limit < 20 by rw [hu]; show s.prot.limit - 10 < 20; omega), ha]
        have hseq : u.seq = s.seq := by rw [hu]
        refine (hfollow _ ?_ (by rw [hu]) ?_ ?_).trans ?_
        · dsimp only
          rw [hseq]
          unfold stoppedNow
          split <;> rfl
        · dsimp only
          rw [stoppedNow_state, hseq]
          split
          · exact fun h => nomatch h
          · exact id
        · dsimp only
          rw [stoppedNow_state, hseq]
          split
          · exact nofun
          · exact hw
        · rw [hu]
      · rw [if_pos ⟨by omega, hlow⟩]
    · refine ⟨s.seq, s.seq.startFailFrom, ?_, ?_⟩
      · have hhigh : ¬u.prot.limit < 20 := by
          obtain ⟨-, hmod⟩ := hgood
          rw [hu]
          show ¬s.prot.limit - 10 < 20
          omega
        rw [if_neg hhigh, hfollow u (by rw [hu]) (by rw [hu]) (by rw [hu]; exact id) (by rw [hu]; exact hw), hu]
      · rw [if_neg (fun h => hlow h.2)]

/-- A rise of the limit that lets nothing stop. -/
theorem limitUp_rise {s : State} (hle : s.prot.limit ≤ 100)
    (hrun : 10 ≤ s.prot.limit ∨ s.seq.state.defrosting = false ∧ s.seq.state ≠ .running ∧ s.seq.state ≠ .stopWait)
    (hw : s.seq.state ≠ .waitStart) : limitUp s =
      { s with
        prot := { s.prot with limit := min 100 (s.prot.limit + 10), recoverFrom := some s.now }
        seq :=
          { s.seq with
            state :=
              if s.seq.state = .stopped ∧ s.prot.limit < 100 then
                (if wantedOf s.seq.release (min 100 (s.prot.limit + 10)) = 0 then .stopped else .waitStart)
              else s.seq.state } } := by
  obtain ⟨u, hu⟩ : ∃ u : State, u =
    { s with prot := { s.prot with limit := min 100 (s.prot.limit + 10), recoverFrom := some s.now } } := ⟨_, rfl⟩
  have hup : limitUp s = if s.prot.limit = min 100 (s.prot.limit + 10) then u else limitChanged u := by
    rw [hu]
    rfl
  have hstop : (if u.prot.limit < 20 then immediateStop u else u) = u := by
    split
    next hlt =>
      have hlow : ¬10 ≤ s.prot.limit := by
        rw [hu] at hlt
        have : min 100 (s.prot.limit + 10) < 20 := hlt
        omega
      obtain ⟨hd, hr, hs⟩ := hrun.resolve_left hlow
      unfold immediateStop
      rw [hu]
      dsimp only
      cases hq : s.seq.state <;> simp [hq, SeqState.defrosting] at hd hr hs ⊢
    next => rfl
  rw [hup]
  by_cases hmax : s.prot.limit = 100
  · rw [if_pos (by omega), hu, if_neg fun h => absurd h.2 (by omega)]
  · rw [if_neg (by omega)]
    unfold limitChanged
    rw [hstop, followWanted_eq, hu]
    have hiff : (s.seq.state = .stopped ∨ s.seq.state = .waitStart) ↔ s.seq.state = .stopped ∧ s.prot.limit < 100 :=
      ⟨fun h => ⟨h.resolve_right hw, by omega⟩, fun h => .inl h.1⟩
    simp only [hiff]
    rfl

/-! ### Trips that leave the set -/

/-- A kind leaves the set; with the last one the sequencer leaves TRIPPED. -/
theorem leaveStops_eq (k : TripKind) (s : State) : ∃ p, leaveStops k s =
    { s with
      prot := { s.prot with stops := s.prot.stops.filter fun x => decide (x ≠ k) }
      seq :=
        { s.seq with
          state :=
            if s.seq.state = .tripped ∧ k ∈ s.prot.stops ∧ (s.prot.stops.filter fun x => decide (x ≠ k)) = [] then restState s
            else s.seq.state }
      port := p } := by
  unfold leaveStops
  by_cases hk : k ∈ s.prot.stops
  · have hc : s.prot.stops.contains k = true := List.contains_iff_mem.mpr hk
    rw [hc, if_pos rfl]
    dsimp only
    split
    next hl =>
      unfold noStoppingTrip
      by_cases hq : s.seq.state = .tripped
      · refine ⟨s.port.raise s.now (.tripCleared k (s.now / 1000) s.prot.lockout), (if_pos hq).trans ?_⟩
        rw [if_pos ⟨hq, hk, hl⟩]
        rfl
      · refine ⟨s.port.raise s.now (.tripCleared k (s.now / 1000) s.prot.lockout), (if_neg hq).trans ?_⟩
        rw [if_neg fun h => hq h.1]
        rfl
    next hl =>
      rw [if_neg fun h => hl h.2.2]
      exact ⟨_, rfl⟩
  · have hc : ¬s.prot.stops.contains k = true := fun h => hk (List.contains_iff_mem.mp h)
    have hfilter : (s.prot.stops.filter fun x => decide (x ≠ k)) = s.prot.stops :=
      List.filter_eq_self.mpr fun x hx => decide_eq_true fun h => hk (h ▸ hx)
    rw [if_neg hc, if_neg fun h => hk h.2.1, hfilter]
    exact ⟨s.port, rfl⟩

/-- A command that ends with a start where one is due. -/
theorem finish_mayStart {u : State} (hs : Settled u) (hq : u.drive.queue = []) :
    (startDue u = true →
      (finish u).seq.state = .running ∧ (finish u).seq.runStart = none ∧ (finish u).prot.stops = u.prot.stops ∧
        (finish u).prot.limit = u.prot.limit ∧ (finish u).prot.coil = u.prot.coil ∧ (finish u).prot.supply = u.prot.supply) ∧
      (startDue u = false → finish u = sync u) := by
  have hfin := finish_settled hs hq
  refine ⟨fun hd => ?_, fun hd => ?_⟩
  · rw [hd, if_pos rfl] at hfin
    obtain ⟨b, hb⟩ := startCompressor_eq hs.2.1
    rw [hfin, sync_seq_state, sync_seq_runStart, sync_prot_stops, sync_prot_limit, sync_prot_coil, sync_prot_supply, hb]
    exact ⟨rfl, rfl, rfl, rfl, rfl, rfl⟩
  · rw [hd] at hfin
    exact hfin

/-- A kind has left the set: the last one to leave lets the sequencer go on, to a start where nothing holds it. -/
theorem finish_tripEnds {s v : State} {k : TripKind} {q : Protection} {e : Evaluator} {p : Port} (hcalm : Calm s)
    (he : e.lastPass = s.eval.lastPass) (hlimit : q.limit = s.prot.limit)
    (hlow : q.supplyLow = s.prot.supplyLow) (hfault : q.coilFault = s.prot.coilFault)
    (hv : v =
      { s with
        prot := { q with stops := s.prot.stops.filter fun x => decide (x ≠ k) }
        seq :=
          { s.seq with
            state :=
              if s.seq.state = .tripped ∧ k ∈ s.prot.stops ∧ (s.prot.stops.filter fun x => decide (x ≠ k)) = [] then restState s
              else s.seq.state }
        eval := e, port := p }) :
    let left := s.prot.stops.filter fun x => decide (x ≠ k)
    let freed := s.seq.state = .tripped ∧ k ∈ s.prot.stops ∧ left = []
    let starts := freed ∧ wanted s ≠ 0 ∧ StartFree s
    (starts → (finish v).seq.state = .running ∧ (finish v).seq.runStart = none ∧ (finish v).prot.stops = [] ∧
      (finish v).prot.coil = q.coil ∧ (finish v).prot.supply = q.supply) ∧
      (¬starts → finish v = sync v ∧
        ({ v with port := s.port } : State).timeless =
          ({ s with
            prot := { q with stops := left }
            seq := if freed then { s.seq with state := if wanted s = 0 then .stopped else .waitStart } else s.seq
            eval := e } : State).timeless) := by
  intro left freed starts
  have hsettled : Settled v := by
    obtain ⟨⟨ht, hp, hi, hh, ho, hx, hr, hl⟩, hq, hw⟩ := hcalm
    rw [hv]
    exact ⟨ht, hp, hi, hh, ho, hx, hr, he ▸ hl⟩
  have hqueue : v.drive.queue = [] := by
    rw [hv]
    exact hcalm.2.1
  have hwait : v.seq.state = .waitStart ↔ freed ∧ wanted s ≠ 0 := by
    rw [hv]
    show (if freed then restState s else s.seq.state) = .waitStart ↔ _
    by_cases hf : freed
    · rw [if_pos hf]
      unfold restState
      by_cases hw : wanted s = 0 <;> simp [hw, hf]
    · rw [if_neg hf]
      simp [hf, hcalm.2.2]
  have hdue : startDue v = true ↔ starts := by
    have hfree : StartFree v ↔ StartFree s := by
      unfold StartFree
      rw [hv]
      dsimp only
      rw [hlow, hfault]
    have hwanted : wanted v = wanted s := by
      unfold wanted
      rw [hv]
      dsimp only
      rw [hlimit]
    rw [startDue_iff, hwait, hfree, hwanted]
    exact ⟨fun ⟨h1, _, h3⟩ => ⟨h1.1, h1.2, h3⟩, fun ⟨h1, h2, h3⟩ => ⟨⟨h1, h2⟩, h2, h3⟩⟩
  obtain ⟨hstart, hrest⟩ := finish_mayStart hsettled hqueue
  refine ⟨fun h => ?_, fun h => ⟨hrest (Bool.eq_false_iff.mpr fun hd => h (hdue.mp hd)), ?_⟩⟩
  · obtain ⟨h1, h2, h3, -, h5, h6⟩ := hstart (hdue.mpr h)
    refine ⟨h1, h2, h3.trans ?_, h5.trans ?_, h6.trans ?_⟩
    · rw [hv]
      exact h.1.2.2
    · rw [hv]
    · rw [hv]
  · rw [hv]
    show ({ s with
        prot := { q with stops := left }, seq := { s.seq with state := if freed then restState s else s.seq.state }
        eval := e } : State).timeless = _
    by_cases hf : freed
    · rw [if_pos hf, if_pos hf]
      rfl
    · rw [if_neg hf, if_neg hf]

/-! ### A release and the watches -/

theorem prot_stopReport (s : State) : (stopReport s).prot = s.prot := by
  have hrest : ∀ t : State, (restStartPoint t).prot = t.prot := fun t => by
    unfold restStartPoint
    split <;> rfl
  have hremove : ∀ (c : Bool) (t : State), (removeHold c t).prot = t.prot := fun c t => by
    unfold removeHold airGuard blowerGuard
    split <;> rfl
  unfold stopReport
  dsimp only
  split
  · rw [hremove]
    exact hrest _
  · exact hrest _

theorem prot_endRecovery (c : DefrostCause) (s : State) : (endRecovery c s).prot = s.prot := by
  have hremove : ∀ (c : Bool) (t : State), (removeHold c t).prot = t.prot := fun c t => by
    unfold removeHold airGuard blowerGuard
    split <;> rfl
  have hraise : ∀ (r : Report) (t : State), (raise r t).prot = t.prot := fun _ _ => rfl
  unfold endRecovery
  dsimp only
  rw [hraise, hremove]
  have hchoice : ∀ (c : Prop) [Decidable c] (a b : State), a.prot = s.prot → b.prot = s.prot → (if c then a else b).prot = s.prot :=
    fun c _ a b ha hb => by
      split
      · exact ha
      · exact hb
  exact hchoice _ _ _ rfl rfl

theorem prot_interruptDefrost (c : DefrostCause) (s : State) : (interruptDefrost c s).prot = s.prot := by
  have htaken : (takeStopped s).prot = s.prot := by
    unfold takeStopped
    split
    · rfl
    · exact prot_stopReport s
  have hrecover : ∀ t : State, (enterRecovery c t).prot = t.prot := fun t => by
    unfold enterRecovery
    dsimp only
    split
    · exact prot_endRecovery _ _
    · rfl
  unfold interruptDefrost
  dsimp only
  split
  · exact htaken
  · rw [hrecover, htaken]

theorem prot_stoppingTrip (s : State) : (stoppingTrip s).prot = s.prot := by
  unfold stoppingTrip
  dsimp only
  split
  · rfl
  · rfl
  · exact prot_stopReport _
  · exact prot_stopReport _
  · exact prot_interruptDefrost _ _
  · exact prot_interruptDefrost _ _
  · exact prot_interruptDefrost _ _
  · rfl
  · rfl

/-- Membership of the set judged again leaves all but the set. -/
theorem prot_judgeFloat (s : State) : ∃ l, (judgeFloat s).prot = { s.prot with stops := l } := by
  unfold judgeFloat
  split
  · unfold joinStops
    split
    · exact ⟨_, rfl⟩
    · exact ⟨_, prot_stoppingTrip _⟩
  · obtain ⟨p, hp⟩ := leaveStops_eq .float s
    rw [hp]
    exact ⟨_, rfl⟩

/-- A release moves the sequencer without a look at the changeover. -/
theorem seqRelease_seq_co (r : Release) (s : State) (c : Changeover) :
    (seqRelease r { s with co := c }).seq = (seqRelease r s).seq := by
  rw [seqRelease_eq, seqRelease_eq]
  dsimp only
  cases s.seq.state <;> simp only [apply_ite State.seq] <;> rfl

/-- The watches at a release. -/
theorem releasePlan_watches (x : Plan) (s : State) :
    let u := seqRelease ⟨x.mode, x.c, x.coilTarget⟩ s
    let t := releasePlan x s
    t.prot.belowZeroFrom = (if freezeWatch u then s.prot.belowZeroFrom else none) ∧
      t.prot.freezeLim = (s.prot.freezeLim && freezeWatch u) ∧
      t.prot.above60From = (if supplyWatch u then s.prot.above60From else none) ∧
      t.prot.supplyLim = (s.prot.supplyLim && supplyWatch u) := by
  obtain ⟨u, hu⟩ : ∃ u, seqRelease ⟨x.mode, x.c, x.coilTarget⟩ { s with co := { s.co with released := true } } = u := ⟨_, rfl⟩
  obtain ⟨w, hw⟩ : ∃ w, seqRelease ⟨x.mode, x.c, x.coilTarget⟩ s = w := ⟨_, rfl⟩
  have hseq : u.seq = w.seq := by
    rw [← hu, ← hw]
    exact seqRelease_seq_co _ _ _
  have hprot : u.prot = s.prot := by
    obtain ⟨q, sent, since, h⟩ := seqRelease_moves ⟨x.mode, x.c, x.coilTarget⟩ { s with co := { s.co with released := true } }
    rw [← hu, h]
    rfl
  obtain ⟨l, hl⟩ := prot_judgeFloat (endWatches u)
  have hrelease : releasePlan x s = judgeFloat (endWatches u) := by
    rw [← hu]
    rfl
  have hfw : freezeWatch u = freezeWatch w := by
    unfold freezeWatch compressorRunning
    rw [hseq]
  have hsw : supplyWatch u = supplyWatch w := by
    unfold supplyWatch compressorRunning
    rw [hseq]
  dsimp only
  rw [hw, hrelease, hl, endWatches_eq, ← hfw, ← hsw, ← hprot]
  exact ⟨rfl, rfl, rfl, rfl⟩

end Sys2Proof.Machine
end

section
/-! The rows of the Protection Monitor's timers (10 R152 to R157). -/

namespace Sys2Proof.Machine

/-- The command of a limit step, with the limiting mark it sets. -/
theorem exec_limitStep {s : State} {c : Instr} {t0 : Nat} (hle : t0 + 60000 ≤ s.now)
    (hc : c = .freezeTimeExpiry ∧ s.prot.belowZeroFrom = some t0 ∧ s.prot.freezeLim = false ∨
      c = .above60TimeExpiry ∧ s.prot.above60From = some t0 ∧ s.prot.supplyLim = false ∨
      c = .limitStepTime ∧ s.prot.stepFrom = some t0 ∧ (s.prot.freezeLim = true ∨ s.prot.supplyLim = true)) :
    exec c s = .next (finish (limitDown { s with prot :=
      { s.prot with
        freezeLim := s.prot.freezeLim || decide (c = .freezeTimeExpiry)
        supplyLim := s.prot.supplyLim || decide (c = .above60TimeExpiry)
        recoverFrom := if c = .limitStepTime then s.prot.recoverFrom else none } })) := by
  have hreached : ∀ since, since = some t0 → reached since 60000 s.now = true := fun since h =>
    (reached_iff _ _ _).mpr ⟨t0, h, hle⟩
  rcases hc with ⟨rfl, hf, hl⟩ | ⟨rfl, hf, hl⟩ | ⟨rfl, hf, hl⟩
  · refine congrArg Host.Outcome.next ((if_pos ?_).trans ?_)
    · unfold freezeDue
      rw [hreached _ hf, hl]
      rfl
    · unfold freezeLimits
      simp
  · refine congrArg Host.Outcome.next ((if_pos ?_).trans ?_)
    · unfold above60Due
      rw [hreached _ hf, hl]
      rfl
    · unfold supplyLimits
      simp
  · refine congrArg Host.Outcome.next ((if_pos ?_).trans ?_)
    · unfold limitStepDue limiting
      rw [hreached _ hf, Bool.and_true]
      rcases hl with h | h <;> simp [h]
    · simp

/-- A trip whose time is over, with the Protection Monitor it leaves. -/
theorem exec_tripEnds {s : State} {c : Instr} {k : TripKind} {q : Protection} {t0 : Nat}
    (hc : c = .tripHoldExpiry .startFail ∧ k = .startFail ∧ s.prot.startFailHold = some t0 ∧ t0 + 180000 ≤ s.now ∧
          q = { s.prot with startFailHold := none } ∨
        c = .tripHoldExpiry .defrostLong ∧ k = .defrostLong ∧ s.prot.defrostLongHold = some t0 ∧ t0 + 180000 ≤ s.now ∧
          q = { s.prot with defrostLongHold := none } ∨
        c = .supplyUnavailableExpiry ∧ k = .supplyHot ∧ s.prot.supplyGoneFrom = some t0 ∧ t0 + 60000 ≤ s.now ∧
          TripKind.supplyHot ∈ s.prot.stops ∧ q = s.prot ∨
        c = .floatCleared ∧ k = .float ∧ s.prot.floatHeld = true ∧ s.inp.floatClosed = false ∧ s.inp.floatSince = t0 ∧
          t0 + 60000 ≤ s.now ∧ q = { s.prot with floatHeld := false }) :
    exec c s = .next (finish (leaveStops k
      { s with prot := q, eval := { s.eval with early := s.eval.early || decide (k = .float) } })) ∧
      q.stops = s.prot.stops ∧ q.limit = s.prot.limit ∧ q.supplyLow = s.prot.supplyLow ∧ q.coilFault = s.prot.coilFault := by
  have hearly : ∀ k' : TripKind, k' ≠ .float → (s.eval.early || decide (k' = .float)) = s.eval.early := fun k' h => by
    rw [decide_eq_false h, Bool.or_false]
  rcases hc with ⟨rfl, rfl, hf, hle, rfl⟩ | ⟨rfl, rfl, hf, hle, rfl⟩ | ⟨rfl, rfl, hf, hle, hmem, rfl⟩ |
    ⟨rfl, rfl, hheld, hclosed, rfl, hle, rfl⟩
  · refine ⟨congrArg Host.Outcome.next ((if_pos ((reached_iff _ _ _).mpr ⟨t0, hf, hle⟩)).trans ?_), rfl, rfl, rfl, rfl⟩
    rw [hearly _ (by decide)]
    rfl
  · refine ⟨congrArg Host.Outcome.next ((if_pos ((reached_iff _ _ _).mpr ⟨t0, hf, hle⟩)).trans ?_), rfl, rfl, rfl, rfl⟩
    rw [hearly _ (by decide)]
    rfl
  · refine ⟨congrArg Host.Outcome.next ((if_pos ?_).trans ?_), rfl, rfl, rfl, rfl⟩
    · unfold supplyGoneDue
      rw [(reached_iff _ _ _).mpr ⟨t0, hf, hle⟩, List.contains_iff_mem.mpr hmem]
      rfl
    · rw [hearly _ (by decide)]
  · refine ⟨congrArg Host.Outcome.next ((if_pos ?_).trans ?_), rfl, rfl, rfl, rfl⟩
    · unfold floatRead
      rw [hheld, hclosed, decide_eq_true hle]
      rfl
    · rw [decide_eq_true rfl, Bool.or_true]
      rfl

/-- Settles O56, row by row: each timer changes the Protection Monitor and perhaps the sequencer, and a start may follow at once. -/
theorem protectionTimers : Obligations.ProtectionTimers := by
  unfold Obligations.ProtectionTimers
  refine ⟨fun s hcalm => ⟨?_, ?_, ?_, ?_, ?_⟩, fun s x => ?_⟩
  · intro c t0 hle hc hgood hten hd hstopped
    obtain ⟨u, hu⟩ : ∃ u : State, u = { s with prot :=
      { s.prot with
        freezeLim := s.prot.freezeLim || decide (c = .freezeTimeExpiry)
        supplyLim := s.prot.supplyLim || decide (c = .above60TimeExpiry)
        recoverFrom := if c = .limitStepTime then s.prot.recoverFrom else none } } := ⟨_, rfl⟩
    have hexec := exec_limitStep hle hc
    rw [← hu] at hexec
    obtain ⟨q, a, heq, hq⟩ := limitDown_step (s := u) (by rw [hu]; exact hgood) (by rw [hu]; exact hd) (by rw [hu]; exact hcalm.2.2)
      (by
        rw [hu]
        refine hten.imp id fun h => ?_
        show (s.prot.freezeLim || decide (c = .freezeTimeExpiry)) = false
        rw [h.2, decide_eq_false h.1]
        rfl) (by rw [hu]; exact hstopped)
    have hseq : u.seq = s.seq := by rw [hu]
    have hlimit : u.prot.limit = s.prot.limit := by rw [hu]
    rw [hseq, hlimit] at hq
    rw [hlimit] at heq
    have hstate : q.state ≠ .waitStart := by
      rw [hq]
      split
      · rw [stoppedNow_state]
        split
        · exact nofun
        · exact hcalm.2.2
      · exact hcalm.2.2
    have hcalmv : Calm (limitDown u) := by
      rw [heq, hu]
      exact ⟨hcalm.1, hcalm.2.1, hstate⟩
    obtain ⟨v, hv⟩ : ∃ v, limitDown u = v := ⟨_, rfl⟩
    rw [hv] at hexec hcalmv heq
    have hwatch : freezeWatch v = freezeWatch s ∧ supplyWatch v = supplyWatch s := by
      have hvseq : v.seq = { q with startFailFrom := a } := by rw [heq]
      have hboth : compressorRunning v = compressorRunning s ∧ releaseMode v.seq = releaseMode s.seq := by
        split at hq
        · rw [hq] at hvseq
          exact ⟨compressorRunning_stoppedNow hvseq, hvseq ▸ releaseMode_stoppedNow s.seq a⟩
        · rw [hq] at hvseq
          exact ⟨compressorRunning_congr (by rw [hvseq]) (by rw [hvseq]), by rw [hvseq]; rfl⟩
      obtain ⟨hrun, hmode⟩ := hboth
      unfold freezeWatch supplyWatch
      rw [hrun, hmode]
      exact ⟨rfl, rfl⟩
    have hfl : v.prot.freezeLim = true ↔ s.prot.freezeLim = true ∨ c = .freezeTimeExpiry := by
      rw [heq, hu]
      show (s.prot.freezeLim || decide (c = .freezeTimeExpiry)) = true ↔ _
      rw [Bool.or_eq_true, decide_eq_true_iff]
    have hsl : v.prot.supplyLim = true ↔ s.prot.supplyLim = true ∨ c = .above60TimeExpiry := by
      rw [heq, hu]
      show (s.prot.supplyLim || decide (c = .above60TimeExpiry)) = true ↔ _
      rw [Bool.or_eq_true, decide_eq_true_iff]
    have hstep : v.prot.stepFrom = some s.now := by rw [heq, hu]
    have hrec : v.prot.recoverFrom = if c = .limitStepTime then s.prot.recoverFrom else none := by rw [heq, hu]
    have hnow : v.now = s.now := by rw [heq, hu]
    have hstill := limitingStill_iff v
    rw [← freezeWatch_iff, ← supplyWatch_iff, hwatch.1, hwatch.2, freezeWatch_iff, supplyWatch_iff, hfl, hsl] at hstill
    obtain ⟨hf, hsu, hyes, hno⟩ := sync_limits v
    rw [← freezeWatch_iff, hwatch.1, freezeWatch_iff, hfl] at hf
    rw [← supplyWatch_iff, hwatch.2, supplyWatch_iff, hsl] at hsu
    refine ⟨_, hexec, ?_⟩
    rw [finish_calm hcalmv]
    refine ⟨hf.trans And.comm, hsu.trans And.comm, fun h => ?_, fun h1 h2 => ?_, ?_⟩
    · rw [← hstep]
      exact hyes (hstill.mpr (h.imp And.symm And.symm))
    · obtain ⟨hs1, hs2⟩ := hno (Bool.eq_false_iff.mpr fun h => (hstill.mp h).elim (fun h => h1 h.symm) fun h => h2 h.symm)
      refine ⟨hs1, hs2.trans ?_⟩
      rw [hrec, hnow]
      split <;> rfl
    · rw [timeless_sync, heq, hq, hu]
      split <;> rfl
  · intro t0 hf hle hfl hsl hmax hrun
    have hrise := limitUp_rise hmax hrun hcalm.2.2
    have hexec : exec .limitRecoveryTime s = .next (finish (limitUp s)) := by
      refine congrArg Host.Outcome.next (if_pos ?_)
      unfold limitRecoveryDue limiting
      rw [hfl, hsl, (reached_iff _ _ _).mpr ⟨t0, hf, hle⟩]
      rfl
    obtain ⟨v, hv⟩ : ∃ v, limitUp s = v := ⟨_, rfl⟩
    rw [hv] at hexec hrise
    have hstate : v.seq.state =
        if s.seq.state = .stopped ∧ s.prot.limit < 100 then
          (if wantedOf s.seq.release (min 100 (s.prot.limit + 10)) = 0 then .stopped else .waitStart)
        else s.seq.state := by rw [hrise]
    have hsettled : Settled v := by
      rw [hrise]
      exact hcalm.1
    have hqueue : v.drive.queue = [] := by
      rw [hrise]
      exact hcalm.2.1
    have hwait : v.seq.state = .waitStart ↔
        (s.seq.state = .stopped ∧ s.prot.limit < 100) ∧ wantedOf s.seq.release (min 100 (s.prot.limit + 10)) ≠ 0 := by
      rw [hstate]
      split
      next h =>
        split
        next hw => simp [hw]
        next hw => simp [hw, h]
      next h => simp [h, hcalm.2.2]
    have hdue : startDue v = true ↔
        (s.seq.state = .stopped ∧ wantedOf s.seq.release (min 100 (s.prot.limit + 10)) ≠ 0) ∧ s.prot.limit < 100 ∧ StartFree s := by
      rw [startDue_iff, hwait]
      have hfree : StartFree v ↔ StartFree s := by rw [hrise]; rfl
      have hwanted : wanted v = wantedOf s.seq.release (min 100 (s.prot.limit + 10)) := by rw [hrise]; rfl
      rw [hfree, hwanted]
      tauto
    have hlims : v.prot.freezeLim = false ∧ v.prot.supplyLim = false ∧ v.prot.recoverFrom = some s.now ∧
        v.prot.limit = min 100 (s.prot.limit + 10) := by
      rw [hrise]
      exact ⟨hfl, hsl, rfl, rfl⟩
    obtain ⟨hvf, hvs, hvr, hvl⟩ := hlims
    have hrecover : ∀ w : State, w.prot = v.prot → (sync w).prot.recoverFrom = some s.now ∧ (sync w).prot.limit = v.prot.limit :=
      fun w hw => by
        obtain ⟨-, -, -, hno⟩ := sync_limits w
        have hnot : limitingStill w = false := by
          unfold limitingStill
          rw [hw, hvf, hvs]
          rfl
        obtain ⟨-, hr⟩ := hno hnot
        rw [hr, hw, hvr, sync_prot_limit, hw]
        exact ⟨rfl, rfl⟩
    have hfin := finish_settled hsettled hqueue
    have hprot : (if startDue v then startCompressor v else v).prot = v.prot := by
      split
      · obtain ⟨b, hb⟩ := startCompressor_eq (show v.co.phase = .applied from hsettled.2.1)
        rw [hb]
      · rfl
    obtain ⟨hr, hl⟩ := hrecover _ hprot
    rw [← hfin] at hr hl
    obtain ⟨hstart, hrest⟩ := finish_mayStart hsettled hqueue
    refine ⟨_, hexec, hr, hl.trans hvl, fun h => ?_, fun h => ?_⟩
    · obtain ⟨h1, h2, -⟩ := hstart (hdue.mpr h)
      exact ⟨h1, h2⟩
    · rw [hrest (Bool.eq_false_iff.mpr fun hd => h (hdue.mp hd)), timeless_sync, hrise]
      by_cases hw : (s.seq.state = .stopped ∧ wantedOf s.seq.release (min 100 (s.prot.limit + 10)) ≠ 0) ∧ s.prot.limit < 100
      · rw [if_pos hw, if_pos ⟨hw.1.1, hw.2⟩, if_neg hw.1.2]
        rfl
      · rw [if_neg hw]
        by_cases h1 : s.seq.state = .stopped ∧ s.prot.limit < 100
        · have hzero : wantedOf s.seq.release (min 100 (s.prot.limit + 10)) = 0 := not_not.mp fun hn => hw ⟨⟨h1.1, hn⟩, h1.2⟩
          rw [if_pos h1, if_pos hzero, ← h1.1]
          rfl
        · rw [if_neg h1]
          rfl
  · intro c k q t0 hc
    obtain ⟨hexec, hstops, hlimit, hlow, hfault⟩ := exec_tripEnds hc
    obtain ⟨u, hu⟩ : ∃ u : State, u =
      { s with prot := q, eval := { s.eval with early := s.eval.early || decide (k = .float) } } := ⟨_, rfl⟩
    obtain ⟨p, hp⟩ := leaveStops_eq k u
    obtain ⟨hstart, hrest⟩ := finish_tripEnds (v := leaveStops k u) (k := k) (q := q)
      (e := { s.eval with early := s.eval.early || decide (k = .float) }) (p := p) hcalm rfl hlimit hlow hfault (by
        rw [hp]
        have hwanted : restState u = restState s := by
          unfold restState wanted
          rw [hu]
          dsimp only
          rw [hlimit]
        rw [hwanted, hu]
        dsimp only
        rw [hstops])
    rw [← hu] at hexec
    refine ⟨_, hexec, fun h => ?_, fun h => ?_⟩
    · obtain ⟨h1, h2, h3, -⟩ := hstart h
      exact ⟨h1, h2, h3⟩
    · obtain ⟨hfin, heq⟩ := hrest h
      rw [hfin]
      refine Eq.trans ?_ heq
      exact congrArg (fun y : State => ({ y with port := s.port } : State)) (timeless_sync _)
  · intro t0 hl hf hle hd
    obtain ⟨a, ha⟩ := immediateStop_now (s := raise (.notCounted false true (clockSeconds s) s.prot.lockout)
      { s with prot := { s.prot with supplyLow := true } }) hd
    have hexec : exec .supplyLowHeld s = .next (finish (supplyLowTo true s)) := by
      refine congrArg Host.Outcome.next (if_pos ?_)
      rw [hl, hf, (reached_iff _ _ _).mpr ⟨t0, rfl, hle⟩]
      rfl
    have heq : supplyLowTo true s = _ := ha
    have hc : Calm (supplyLowTo true s) := by
      rw [heq]
      refine ⟨hcalm.1, hcalm.2.1, ?_⟩
      show (stoppedNow s.seq).state ≠ .waitStart
      rw [stoppedNow_state]
      split
      · exact nofun
      · exact hcalm.2.2
    refine ⟨_, hexec, ?_⟩
    rw [timeless_finish_port hc, heq]
    rfl
  · intro t0 hl hf hle
    have hexec : exec .supplyLowCleared s = .next (finish (supplyLowTo false s)) := by
      refine congrArg Host.Outcome.next (if_pos ?_)
      rw [hl, hf, (reached_iff _ _ _).mpr ⟨t0, rfl, hle⟩]
      rfl
    refine ⟨_, hexec, ?_⟩
    rw [timeless_finish_port (s := supplyLowTo false s) hcalm]
    rfl
  · obtain ⟨hb, hf, ha, hs⟩ := releasePlan_watches x s
    dsimp only
    rw [hb, hf, ha, hs, ← freezeWatch_iff, ← supplyWatch_iff]
    refine ⟨fun h => ?_, fun h => ?_, fun h => ?_, fun h => ?_⟩
    · rw [h]
      exact ⟨rfl, Bool.and_true _⟩
    · rw [Bool.eq_false_iff.mpr h]
      exact ⟨rfl, Bool.and_false _⟩
    · rw [h]
      exact ⟨rfl, Bool.and_true _⟩
    · rw [Bool.eq_false_iff.mpr h]
      exact ⟨rfl, Bool.and_false _⟩

end Sys2Proof.Machine
end

section
/-! Conversions of the indoor coil and of the supply air (10 R153, R154; 07 R115; 09 R148). -/

namespace Sys2Proof.Machine

/-! ### Hold reasons that a warm coil ends -/

/-- A blower without the reasons that a warm coil ends. -/
def Blower.warmed (warms recovers : Bool) (b : Blower) : Blower :=
  { b with coldBlow := b.coldBlow && !warms, defrostHold := b.defrostHold && !recovers }

/-- A blower once COLD_BLOW and the defrost hold have ended in turn. -/
def Blower.holdsEnded (now : Nat) (table : List BlowerPoint) (warms recovers : Bool) (b : Blower) : Blower :=
  let x := if warms then b.removeHold now table true else b
  if recovers then x.removeHold now table false else x

/-- Whether HOLD is left. -/
def Blower.leavesHold (warms recovers : Bool) (b : Blower) : Prop :=
  (warms = true ∨ recovers = true) ∧ b.state = .hold ∧ (b.warmed warms recovers).coldBlow = false ∧
    (b.warmed warms recovers).defrostHold = false

/-- A reason that is not there is removed without effect outside HOLD. -/
theorem Blower.removeHold_absent {b : Blower} (hs : b.state ≠ .hold) (hd : b.defrostHold = false) (now : Nat)
    (table : List BlowerPoint) : b.removeHold now table false = b := by
  rw [Blower.removeHold_eq]
  dsimp only
  rw [if_neg fun h => hs h.1]
  unfold Blower.reasonGone
  rw [hd, Bool.not_false, Bool.and_true, Bool.and_false, ← hd]

theorem Blower.reasonGone_true (b : Blower) : b.reasonGone true = b.warmed true false := by
  unfold Blower.reasonGone Blower.warmed
  rw [Bool.not_false, Bool.and_true]

theorem Blower.reasonGone_false (b : Blower) : b.reasonGone false = b.warmed false true := by
  unfold Blower.reasonGone Blower.warmed
  rw [Bool.not_true, Bool.and_false, Bool.not_false]

/-- The two reasons end as one does: HOLD ends with the last. -/
theorem Blower.holdsEnded_stays {now : Nat} {table : List BlowerPoint} {warms recovers : Bool} {b : Blower}
    (h : ¬b.leavesHold warms recovers) : b.holdsEnded now table warms recovers = b.warmed warms recovers := by
  unfold Blower.holdsEnded
  cases warms <;> cases recovers
  · show b = { b with coldBlow := b.coldBlow && true, defrostHold := b.defrostHold && true }
    rw [Bool.and_true, Bool.and_true]
  · rw [if_neg Bool.false_ne_true, if_pos rfl, Blower.removeHold_eq, Blower.reasonGone_false]
    exact if_neg fun h' => h ⟨.inr rfl, h'⟩
  · rw [if_pos rfl, if_neg Bool.false_ne_true, Blower.removeHold_eq, Blower.reasonGone_true]
    exact if_neg fun h' => h ⟨.inl rfl, h'⟩
  · have hfirst : b.removeHold now table true = b.warmed true false := by
      rw [Blower.removeHold_eq, Blower.reasonGone_true]
      refine if_neg fun ⟨hs, _, hd⟩ => h ⟨.inl rfl, hs, ?_, Bool.and_false _⟩
      exact Bool.and_false _
    have hsecond : (b.warmed true false).reasonGone false = b.warmed true true := by
      simp [Blower.reasonGone, Blower.warmed]
    rw [if_pos rfl, if_pos rfl, hfirst, Blower.removeHold_eq, hsecond]
    refine if_neg fun ⟨hs, hc, hd⟩ => h ⟨.inl rfl, hs, hc, hd⟩

theorem Blower.holdsEnded_leaves {now : Nat} {table : List BlowerPoint} {warms recovers : Bool} {b : Blower}
    (h : b.leavesHold warms recovers) : b.holdsEnded now table warms recovers =
      if b.given = 0 then (b.warmed warms recovers).turnOff now table else (b.warmed warms recovers).rampTo now table b.given := by
  obtain ⟨hcause, hs, hc, hd⟩ := h
  unfold Blower.holdsEnded
  cases warms <;> cases recovers
  · exact absurd hcause (by decide)
  · rw [if_neg Bool.false_ne_true, if_pos rfl, Blower.removeHold_eq, Blower.reasonGone_false]
    exact if_pos ⟨hs, hc, hd⟩
  · rw [if_pos rfl, if_neg Bool.false_ne_true, Blower.removeHold_eq, Blower.reasonGone_true]
    exact if_pos ⟨hs, hc, hd⟩
  · rw [if_pos rfl, if_pos rfl]
    cases hdef : b.defrostHold with
    | false =>
      have hsame : b.warmed true false = b.warmed true true := by
        unfold Blower.warmed
        rw [hdef]
        rfl
      have hfirst : b.removeHold now table true =
          if b.given = 0 then (b.warmed true true).turnOff now table else (b.warmed true true).rampTo now table b.given := by
        rw [Blower.removeHold_eq, Blower.reasonGone_true, hsame]
        exact if_pos ⟨hs, hc, hd⟩
      obtain ⟨-, hgone⟩ := b.removeHold_coldBlow now table true
      rw [hdef, Bool.false_and] at hgone
      refine (Blower.removeHold_absent ?_ hgone now table).trans hfirst
      rw [hfirst]
      split <;> exact nofun
    | true =>
      have hfirst : b.removeHold now table true = b.warmed true false := by
        rw [Blower.removeHold_eq, Blower.reasonGone_true]
        refine if_neg fun ⟨_, _, hno⟩ => ?_
        have hyes : (b.warmed true false).defrostHold = true := by
          unfold Blower.warmed
          rw [hdef]
          rfl
        exact Bool.noConfusion (hyes.symm.trans hno)
      have hsecond : (b.warmed true false).reasonGone false = b.warmed true true := by
        simp [Blower.reasonGone, Blower.warmed]
      rw [hfirst, Blower.removeHold_eq, hsecond]
      exact if_pos ⟨hs, hc, hd⟩

/-- The blower of the end of a command whose holds have ended. -/
theorem holdsEnded_blower {now : Nat} {table : List BlowerPoint} {warms recovers : Bool} {b c : Blower} {above below : Option Nat}
    (h : c = { b.holdsEnded now table warms recovers with aboveFrom := above, belowFrom := below }) :
    (¬b.leavesHold warms recovers →
        { c with aboveFrom := b.aboveFrom, belowFrom := b.belowFrom } = b.warmed warms recovers) ∧
      (b.leavesHold warms recovers → b.given = 0 → TurnsOff now table (b.warmed warms recovers) c) ∧
      (b.leavesHold warms recovers → b.given ≠ 0 → RampsTo now table b.given (b.warmed warms recovers) c) := by
  subst h
  refine ⟨fun h => ?_, fun h hg => ?_, fun h hg => ?_⟩
  · rw [Blower.holdsEnded_stays h]
    rfl
  · rw [Blower.holdsEnded_leaves h, if_pos hg]
    exact (TurnsOff.turnOff now table (b.warmed warms recovers)).times above below
  · rw [Blower.holdsEnded_leaves h, if_neg hg]
    exact (RampsTo.rampTo now table b.given (b.warmed warms recovers)).times above below

end Sys2Proof.Machine
end

section
/-! What a coil conversion makes of the machine (10 R153). -/

namespace Sys2Proof.Machine

/-! ### A kind that leaves the set -/

/-- The set without a kind, where it leaves. -/
def stopsLeft (k : TripKind) (b : Bool) (s : State) : List TripKind :=
  if b then s.prot.stops.filter fun x => decide (x ≠ k) else s.prot.stops

/-- The sequencer's state where a kind leaves the set: with the last one TRIPPED ends. -/
def stateLeft (k : TripKind) (b : Bool) (s : State) : SeqState :=
  if b = true ∧ s.seq.state = .tripped ∧ k ∈ s.prot.stops ∧ (s.prot.stops.filter fun x => decide (x ≠ k)) = [] then restState s
  else s.seq.state

theorem stateLeft_running (k : TripKind) (b : Bool) {s t : State} (ht : t.seq.takenStopped = s.seq.takenStopped)
    (hq : t.seq.state = stateLeft k b s) : compressorRunning t = compressorRunning s := by
  unfold stateLeft at hq
  split at hq
  next h =>
    have hrest : restState s = .stopped ∨ restState s = .waitStart := by
      unfold restState
      split
      · exact .inl rfl
      · exact .inr rfl
    unfold compressorRunning
    rw [hq, h.2.1]
    rcases hrest with hr | hr <;> rw [hr]
  next => exact compressorRunning_congr hq ht

theorem leaveStops_left (k : TripKind) (s : State) : ∃ p, leaveStops k s =
    { s with
      prot := { s.prot with stops := stopsLeft k true s }, seq := { s.seq with state := stateLeft k true s }, port := p } := by
  obtain ⟨p, hp⟩ := leaveStops_eq k s
  refine ⟨p, hp.trans ?_⟩
  unfold stopsLeft stateLeft
  rw [if_pos rfl]
  simp only [true_and]

theorem stay_left (k : TripKind) (s : State) : s =
    { s with prot := { s.prot with stops := stopsLeft k false s }, seq := { s.seq with state := stateLeft k false s } } := by
  unfold stopsLeft stateLeft
  simp

/-! ### The coil sensor -/

/-- The Protection Monitor's record of the coil after a conversion. -/
def coilSensed (reading : Option Int) (p : Protection) : Protection :=
  let bad := if reading = none then min 3 (p.coilBad + 1) else 0
  let good := if reading = none then 0 else min 10 (p.coilGood + 1)
  { p with
    coil := reading, coilBad := bad, coilGood := good
    coilFault := if p.coilFault then decide (good < 10) else decide (bad = 3) }

/-- Whether the coil sensor fault arises. -/
def coilFaults (reading : Option Int) (p : Protection) : Bool := (coilSensed reading p).coilFault && !p.coilFault

/-- A fault arises at a reading that is not available. -/
theorem coilFaults_unread {reading : Option Int} {p : Protection} (h : coilFaults reading p = true) : reading = none := by
  unfold coilFaults coilSensed at h
  cases reading with
  | none => rfl
  | some t => cases hf : p.coilFault <;> simp [hf] at h

theorem judgeCoilSensor_eq (reading : Option Int) (s : State) : ∃ p, judgeCoilSensor reading s =
    { s with
      prot := { coilSensed reading s.prot with stops := stopsLeft .coilFreeze (coilFaults reading s.prot) s }
      seq := { s.seq with state := stateLeft .coilFreeze (coilFaults reading s.prot) s }, port := p } := by
  obtain ⟨u, hu⟩ : ∃ u : State, u = { s with prot := coilSensed reading s.prot } := ⟨_, rfl⟩
  have hjudge : judgeCoilSensor reading s =
      if (coilSensed reading s.prot).coilFault = s.prot.coilFault then u
      else if (coilSensed reading s.prot).coilFault then
        leaveStops .coilFreeze (raise (.notCounted true (coilSensed reading s.prot).coilFault (clockSeconds u) u.prot.lockout) u)
      else raise (.notCounted true (coilSensed reading s.prot).coilFault (clockSeconds u) u.prot.lockout) u := by
    have hsensed : ({ s.prot with
        coil := reading, coilBad := if reading.isNone then min 3 (s.prot.coilBad + 1) else 0
        coilGood := if reading.isSome then min 10 (s.prot.coilGood + 1) else 0
        coilFault :=
          if s.prot.coilFault then decide ((if reading.isSome then min 10 (s.prot.coilGood + 1) else 0) < 10)
          else decide (3 ≤ if reading.isNone then min 3 (s.prot.coilBad + 1) else 0) } : Protection) =
        coilSensed reading s.prot := by
      have hthree : ∀ n : Nat, decide (3 ≤ min 3 n) = decide (min 3 n = 3) := fun n => by
        rw [decide_eq_decide]
        omega
      unfold coilSensed
      cases reading with
      | none => simp only [Option.isNone_none, Option.isSome_none, if_true, Bool.false_eq_true, if_false, hthree]
      | some t => simp
    rw [hu]
    unfold judgeCoilSensor
    have hfault := congrArg Protection.coilFault hsensed
    dsimp only at hfault ⊢
    rw [hsensed, hfault]
    rfl
  rw [hjudge]
  have hback : ∀ b, stopsLeft .coilFreeze b u = stopsLeft .coilFreeze b s ∧ stateLeft .coilFreeze b u = stateLeft .coilFreeze b s :=
    fun b => by
      rw [hu]
      exact ⟨rfl, rfl⟩
  by_cases hsame : (coilSensed reading s.prot).coilFault = s.prot.coilFault
  · have hno : coilFaults reading s.prot = false := by
      unfold coilFaults
      rw [hsame, Bool.and_not_self]
    have hstay := stay_left .coilFreeze u
    rw [(hback false).1, (hback false).2] at hstay
    refine ⟨s.port, ?_⟩
    rw [if_pos hsame, hno, hstay, hu]
  · rw [if_neg hsame]
    cases hf : (coilSensed reading s.prot).coilFault with
    | false =>
      have hno : coilFaults reading s.prot = false := by
        unfold coilFaults
        rw [hf]
        rfl
      have hstay := stay_left .coilFreeze u
      rw [(hback false).1, (hback false).2] at hstay
      refine ⟨u.port.raise u.now (.notCounted true false (clockSeconds u) u.prot.lockout), ?_⟩
      rw [if_neg Bool.false_ne_true, hno]
      show ({ u with port := _ } : State) = _
      rw [hstay, hu]
    | true =>
      have hyes : coilFaults reading s.prot = true := by
        unfold coilFaults
        rw [hf] at hsame ⊢
        cases hp : s.prot.coilFault with
        | false => rfl
        | true => exact absurd hp.symm hsame
      obtain ⟨p, hp⟩ := leaveStops_left .coilFreeze (raise (.notCounted true true (clockSeconds u) u.prot.lockout) u)
      refine ⟨p, ?_⟩
      rw [if_pos rfl, hyes, hp]
      have h1 : stopsLeft .coilFreeze true (raise (.notCounted true true (clockSeconds u) u.prot.lockout) u) =
          stopsLeft .coilFreeze true s := (hback true).1
      have h2 : stateLeft .coilFreeze true (raise (.notCounted true true (clockSeconds u) u.prot.lockout) u) =
          stateLeft .coilFreeze true s := (hback true).2
      rw [h1, h2, hu]
      rfl

/-- Whether COIL_FREEZE leaves the set at a conversion. -/
def coilThaws (reading : Option Int) (p : Protection) : Bool := above reading 49 || coilFaults reading p

theorem above_iff (reading : Option Int) (bound : Int) : above reading bound = true ↔ ∃ t, reading = some t ∧ bound < t := by
  unfold above
  cases reading <;> simp

theorem below_iff (reading : Option Int) (bound : Int) : below reading bound = true ↔ ∃ t, reading = some t ∧ t < bound := by
  unfold below
  cases reading <;> simp

/-- The Protection Monitor after a coil conversion that is no trip. -/
def coilJudged (reading : Option Int) (s : State) : Protection :=
  { coilSensed reading s.prot with
    stops := stopsLeft .coilFreeze (coilThaws reading s.prot) s
    belowZeroFrom := runWhile (freezeWatch s && below reading 0) s.now s.prot.belowZeroFrom
    freezeLim := s.prot.freezeLim && (freezeWatch s && below reading 0) }

/-- The sensor, the watch and the thaw of a coil conversion that is no trip. -/
theorem coilJudged_eq {reading : Option Int} {s : State} (hno : freezeWatch s = true → below reading (-30) = false) :
    ∃ p, (let s := judgeFreeze reading (judgeCoilSensor reading s)
      let s := if freezeWatch s && below reading (-30) then recordTrip .coilFreeze true s else s
      if above reading 49 then leaveStops .coilFreeze s else s) =
    { s with
      prot := coilJudged reading s, seq := { s.seq with state := stateLeft .coilFreeze (coilThaws reading s.prot) s }, port := p } := by
  obtain ⟨p, hp⟩ := judgeCoilSensor_eq reading s
  obtain ⟨v, hv⟩ : ∃ v, judgeCoilSensor reading s = v := ⟨_, rfl⟩
  rw [hv] at hp
  have hwatch : freezeWatch v = freezeWatch s := by
    unfold freezeWatch
    rw [stateLeft_running .coilFreeze (coilFaults reading s.prot) (s := s) (t := v) (by rw [hp]) (by rw [hp]), hp]
    rfl
  have hjudge : judgeFreeze reading v = { v with prot :=
      { v.prot with
        belowZeroFrom := runWhile (freezeWatch s && below reading 0) s.now s.prot.belowZeroFrom
        freezeLim := s.prot.freezeLim && (freezeWatch s && below reading 0) } } := by
    unfold judgeFreeze
    dsimp only
    rw [hwatch, hp]
    rfl
  have hcond : ∀ w : State, w.seq = v.seq → (freezeWatch w && below reading (-30)) = false := fun w hw => by
    have hfw : freezeWatch w = freezeWatch s := by
      rw [← hwatch]
      unfold freezeWatch
      rw [compressorRunning_congr (s := v) (t := w) (by rw [hw]) (by rw [hw]), hw]
    rw [hfw]
    cases hf : freezeWatch s with
    | false => rfl
    | true => exact hno hf
  obtain ⟨w, hw⟩ : ∃ w, judgeFreeze reading v = w := ⟨_, rfl⟩
  rw [hjudge] at hw
  rw [hv, hjudge, hw]
  dsimp only
  rw [hcond w (by rw [← hw]), if_neg Bool.false_ne_true]
  cases ha : above reading 49 with
  | false =>
    have hth : coilThaws reading s.prot = coilFaults reading s.prot := by
      unfold coilThaws
      rw [ha]
      rfl
    refine ⟨p, ?_⟩
    rw [if_neg Bool.false_ne_true]
    unfold coilJudged
    rw [← hw, hth, hp]
  | true =>
    obtain ⟨t, rfl, -⟩ := (above_iff _ _).mp ha
    have hno : coilFaults (some t) s.prot = false :=
      Bool.eq_false_iff.mpr fun h => nomatch coilFaults_unread h
    have hth : coilThaws (some t) s.prot = true := by
      unfold coilThaws
      rw [ha]
      rfl
    rw [hno] at hp
    have hstay : ({ s with
        prot := { coilSensed (some t) s.prot with stops := stopsLeft .coilFreeze false s }
        seq := { s.seq with state := stateLeft .coilFreeze false s }, port := p } : State) =
        { s with prot := coilSensed (some t) s.prot, port := p } := by
      unfold stopsLeft stateLeft
      simp [coilSensed]
    rw [hstay] at hp
    rw [if_pos rfl]
    obtain ⟨p2, hp2⟩ := leaveStops_left .coilFreeze w
    refine ⟨p2, hp2.trans ?_⟩
    unfold coilJudged
    rw [← hw, hth, hp]
    rfl

end Sys2Proof.Machine
end

section
/-! The end of COLD_BLOW and of a recovery at a coil conversion (07 R115; 09 R148; 10 R153). -/

namespace Sys2Proof.Machine

theorem recoveryNext_waits (s : State) : recoveryNext s = .waitStart ↔
    s.seq.takenStopped = true ∧ s.prot.lockout = false ∧ s.prot.stops = [] ∧ wanted s ≠ 0 := by
  unfold recoveryNext restState
  cases s.seq.takenStopped <;> cases s.prot.lockout <;> by_cases h : s.prot.stops = [] <;> by_cases hw : wanted s = 0 <;>
    cases s.seq.stopMark <;> simp [h, hw]

/-- A recovery that ends leaves a compressor running or not, as it was taken. -/
theorem recoveredSeq_running {s t : State} (hq : s.seq.state = .defrostRecovery) (ht : t.seq = recoveredSeq s) :
    compressorRunning t = compressorRunning s := by
  unfold compressorRunning
  rw [ht, hq]
  show (match recoveryNext s with
    | .running => true
    | .stopWait => true
    | .defrostPrep => !false
    | .defrostActive => !false
    | .defrostRecovery => !false
    | _ => false) = !s.seq.takenStopped
  unfold recoveryNext restState
  cases s.seq.takenStopped <;> cases s.seq.stopMark <;> cases s.prot.lockout <;> by_cases h : s.prot.stops = [] <;>
    by_cases hw : wanted s = 0 <;> simp [h, hw]

/-- Whether a coil conversion ends COLD_BLOW. -/
def coilWarms (reading : Option Int) (s : State) : Bool := s.blower.coldBlow && above reading 279

/-- Whether a coil conversion ends a recovery. -/
def coilRecovers (reading : Option Int) (s : State) : Bool := decide (s.seq.state = .defrostRecovery) && above reading 299

/-- What a coil conversion that is no trip leaves. -/
theorem coilConverted_eq {raw : Int} {s : State}
    (hno : freezeWatch s = true → below (available (-300) 800 raw) (-30) = false)
    (hsafe : coilWarms (available (-300) 800 raw) s = true ∨ coilRecovers (available (-300) 800 raw) s = true → HoldEndsSafely s) :
    ∃ p, coilConverted raw s =
      { s with
        prot := coilJudged (available (-300) 800 raw) s
        seq :=
          if coilRecovers (available (-300) 800 raw) s then
            recoveredSeq { s with prot := coilJudged (available (-300) 800 raw) s }
          else { s.seq with state := stateLeft .coilFreeze (coilThaws (available (-300) 800 raw) s.prot) s }
        arb := if coilRecovers (available (-300) 800 raw) s then { s.arb with deferral := false } else s.arb
        eval := if coilRecovers (available (-300) 800 raw) s then { s.eval with early := true } else s.eval
        blower := s.blower.holdsEnded s.now s.cfg.table (coilWarms (available (-300) 800 raw) s)
          (coilRecovers (available (-300) 800 raw) s)
        port := p } := by
  obtain ⟨reading, hr⟩ : ∃ reading, available (-300) 800 raw = reading := ⟨_, rfl⟩
  rw [hr] at hno hsafe ⊢
  obtain ⟨p, hp⟩ := coilJudged_eq hno
  obtain ⟨v, hv⟩ : ∃ v : State, v =
    { s with
      prot := coilJudged reading s
      seq := { s.seq with state := stateLeft .coilFreeze (coilThaws reading s.prot) s }, port := p } := ⟨_, rfl⟩
  have hconv : coilConverted raw s =
      (let w := if v.blower.coldBlow && above reading 279 then removeHold true v else v
       if decide (w.seq.state = .defrostRecovery) && coilWarm w then endRecovery .coilWarm w else w) := by
    rw [hv, ← hp]
    unfold coilConverted
    rw [hr]
  have hblower : v.blower = s.blower := by rw [hv]
  have hvsafe : HoldEndsSafely s → HoldEndsSafely v := fun h => by
    rw [hv]
    exact h
  obtain ⟨w, hw, hwsafe⟩ : ∃ w, (if v.blower.coldBlow && above reading 279 then removeHold true v else v) = w ∧
      (w = { v with blower := if coilWarms reading s then s.blower.removeHold s.now s.cfg.table true else s.blower } ∧
        (HoldEndsSafely s → HoldEndsSafely w)) := by
    have hcond : (v.blower.coldBlow && above reading 279) = coilWarms reading s := by
      rw [hblower]
      rfl
    rw [hcond]
    cases hw : coilWarms reading s with
    | false => exact ⟨_, rfl, by rw [if_neg Bool.false_ne_true, if_neg Bool.false_ne_true, ← hblower], hvsafe⟩
    | true =>
      obtain ⟨heq, hs⟩ := (hvsafe (hsafe (.inl hw))).removeHold true
      rw [if_pos rfl, if_pos rfl, heq]
      refine ⟨_, rfl, ?_, fun _ => hs⟩
      rw [hv]
  obtain ⟨hweq, hws⟩ := hwsafe
  have hstate : w.seq.state = .defrostRecovery ↔ s.seq.state = .defrostRecovery := by
    rw [hweq, hv]
    show stateLeft .coilFreeze (coilThaws reading s.prot) s = .defrostRecovery ↔ _
    unfold stateLeft restState
    split
    next h =>
      rw [h.2.1]
      split <;> simp
    next => exact Iff.rfl
  have hwarm : coilWarm w = above reading 299 := by
    have hcoil : w.prot.coil = reading := by
      rw [hweq, hv]
      rfl
    unfold coilWarm above
    rw [hcoil]
    cases reading with
    | none => rfl
    | some t =>
      rw [decide_eq_decide]
      omega
  have hrecovers : (decide (w.seq.state = .defrostRecovery) && coilWarm w) = coilRecovers reading s := by
    unfold coilRecovers
    rw [hwarm, decide_eq_decide.mpr hstate]
  rw [hconv, hw]
  dsimp only
  rw [hrecovers]
  unfold Blower.holdsEnded
  cases hrec : coilRecovers reading s with
  | false =>
    rw [if_neg Bool.false_ne_true, if_neg Bool.false_ne_true, if_neg Bool.false_ne_true, if_neg Bool.false_ne_true, hweq, hv]
    exact ⟨p, rfl⟩
  | true =>
    have hq : s.seq.state = .defrostRecovery := of_decide_eq_true (Bool.and_eq_true_iff.mp hrec).1
    have hleft : stateLeft .coilFreeze (coilThaws reading s.prot) s = s.seq.state := by
      unfold stateLeft
      rw [if_neg]
      rintro ⟨-, h, -⟩
      rw [hq] at h
      exact nomatch h
    obtain ⟨p2, hp2⟩ := endRecovery_safe (hws (hsafe (.inr hrec))) .coilWarm
    rw [if_pos rfl, if_pos rfl, if_pos rfl, if_pos rfl, hp2, hweq, hv, hleft]
    exact ⟨p2, rfl⟩

end Sys2Proof.Machine
end

section
/-! The rows of the conversions and of the inputs (10 R152 to R157; 11 R167). -/

namespace Sys2Proof.Machine

/-- The Protection Monitor after a supply conversion that is no trip. -/
def supplyJudged (reading : Option Int) (s : State) : Protection :=
  { s.prot with
    supply := reading
    supplyGoneFrom := runWhile reading.isNone s.now s.prot.supplyGoneFrom
    above60From := runWhile (supplyWatch s && above reading 600) s.now s.prot.above60From
    supplyLim := s.prot.supplyLim && (supplyWatch s && above reading 600) }

theorem supplyConverted_eq {raw : Int} {s : State} (hno : supplyWatch s = true → above (available (-200) 900 raw) 700 = false) :
    ∃ p, supplyConverted raw s =
      { s with
        prot :=
          { supplyJudged (available (-200) 900 raw) s with
            stops := stopsLeft .supplyHot (below (available (-200) 900 raw) 501) s }
        seq := { s.seq with state := stateLeft .supplyHot (below (available (-200) 900 raw) 501) s }
        port := p } := by
  obtain ⟨u, hu⟩ : ∃ u : State, u = { s with prot := supplyJudged (available (-200) 900 raw) s } := ⟨_, rfl⟩
  have hcond : (supplyWatch u && above (available (-200) 900 raw) 700) = false := by
    rw [hu]
    show (supplyWatch s && _) = false
    cases hw : supplyWatch s with
    | false => rfl
    | true => exact hno hw
  have hconv : supplyConverted raw s = if below (available (-200) 900 raw) 501 then leaveStops .supplyHot u else u := by
    rw [hu] at hcond ⊢
    unfold supplyConverted
    dsimp only
    exact congrArg (fun v => if below (available (-200) 900 raw) 501 then leaveStops .supplyHot v else v)
      (if_neg (Bool.eq_false_iff.mp hcond))
  rw [hconv]
  cases hb : below (available (-200) 900 raw) 501 with
  | false =>
    rw [if_neg Bool.false_ne_true]
    refine ⟨s.port, hu.trans ?_⟩
    unfold stopsLeft stateLeft
    simp [supplyJudged]
  | true =>
    rw [if_pos rfl]
    obtain ⟨p, hp⟩ := leaveStops_left .supplyHot u
    refine ⟨p, hp.trans ?_⟩
    rw [hu]
    rfl

/-- The limiting times of a command, by what stood before it. -/
theorem limits_of {u : State} {step recover : Option Nat} (hs : u.prot.stepFrom = step) (hr : u.prot.recoverFrom = recover) :
    (sync u).prot.stepFrom = (if (sync u).prot.freezeLim = true ∨ (sync u).prot.supplyLim = true then step else none) ∧
      (sync u).prot.recoverFrom =
        if (sync u).prot.freezeLim = true ∨ (sync u).prot.supplyLim = true then none else some (recover.getD u.now) := by
  obtain ⟨hf, hsu, hyes, hnot⟩ := sync_limits u
  have hiff : (sync u).prot.freezeLim = true ∨ (sync u).prot.supplyLim = true ↔ limitingStill u = true := by
    rw [hf, hsu, limitingStill_iff]
  rw [← hs, ← hr]
  by_cases h : limitingStill u = true
  · rw [if_pos (hiff.mpr h), if_pos (hiff.mpr h)]
    exact hyes h
  · rw [if_neg fun h' => h (hiff.mp h'), if_neg fun h' => h (hiff.mp h')]
    exact hnot (Bool.eq_false_iff.mpr h)

theorem available_iff (lo hi raw : Int) (P : Int → Prop) :
    (∃ t, available lo hi raw = some t ∧ P t) ↔ available lo hi raw ≠ none ∧ P raw := by
  unfold available
  split <;> simp

/-- A state in which a kind has left the set where it leaves. -/
theorem left_base {s : State} (k : TripKind) {q : Protection} {b : Bool} {c : Prop} [Decidable c] (hq : q.stops = s.prot.stops)
    (hb : b = true ↔ c) :
    (if c then
      ({ s with
        prot := { q with stops := s.prot.stops.filter fun x => decide (x ≠ k) }
        seq :=
          if s.seq.state = .tripped ∧ k ∈ s.prot.stops ∧ (s.prot.stops.filter fun x => decide (x ≠ k)) = [] then
            { s.seq with state := if wanted s = 0 then .stopped else .waitStart }
          else s.seq } : State)
      else { s with prot := q }) =
    { s with prot := { q with stops := stopsLeft k b s }, seq := { s.seq with state := stateLeft k b s } } := by
  unfold stopsLeft stateLeft restState
  by_cases hc : c
  · have hbt : b = true := hb.mpr hc
    rw [if_pos hc, hbt, if_pos rfl]
    simp only [true_and]
    split <;> rfl
  · have hbf : b = false := Bool.eq_false_iff.mpr fun h => hc (hb.mp h)
    rw [if_neg hc, hbf, if_neg Bool.false_ne_true, if_neg fun h => Bool.false_ne_true h.1, ← hq]

theorem stateLeft_waits (k : TripKind) (b : Bool) {s : State} (hw : s.seq.state ≠ .waitStart) :
    stateLeft k b s = .waitStart ↔
      (b = true ∧ s.seq.state = .tripped ∧ k ∈ s.prot.stops ∧ stopsLeft k b s = []) ∧ wanted s ≠ 0 := by
  unfold stateLeft stopsLeft restState
  cases b with
  | false => simp [hw]
  | true =>
    simp only [true_and, if_true]
    generalize s.prot.stops.filter (fun x => decide (x ≠ k)) = l
    split
    next h => simp [h]
    next h => simp only [hw, h, false_and]

/-- Settles O55: each conversion by what it judges, in the order the monitor judges it, and each input by its level. -/
theorem protectionReadings : Obligations.ProtectionReadings := by
  unfold Obligations.ProtectionReadings
  intro s raw closed p mode running limits leaves
  refine ⟨?_, ?_, ?_, rfl, rfl⟩
  · intro hcalm hnotrip reading bad good fault q thaws cold base b warms recovers less leavesHold freed starts hsafe
    have hno : freezeWatch s = true → below (available (-300) 800 raw) (-30) = false := fun h => by
      obtain ⟨hrun, r, hrel, hmode⟩ := (freezeWatch_iff s).mp h
      rw [Bool.eq_false_iff]
      intro hb
      obtain ⟨hread, hlt⟩ := (available_iff _ _ _ (· < -30)).mp ((below_iff _ _).mp hb)
      have hm : mode = some r.mode := by
        show s.seq.release.map Release.mode = _
        rw [hrel]
        rfl
      rcases hnotrip hrun (by rw [hm]; simpa using hmode) with h | h
      · omega
      · refine hread ?_
        unfold available
        rw [if_neg (by omega)]
    have hthaws : coilThaws (available (-300) 800 raw) s.prot = true ↔ thaws := by
      unfold coilThaws
      rw [Bool.or_eq_true, above_iff, available_iff _ _ _ (49 < ·)]
      refine or_congr ⟨fun ⟨h1, h2⟩ => ⟨by omega, h1⟩, fun ⟨h1, h2⟩ => ⟨h2, by omega⟩⟩ ?_
      unfold coilFaults
      rw [Bool.and_eq_true, Bool.not_eq_true']
      exact Iff.rfl
    have hwarms : coilWarms (available (-300) 800 raw) s = true ↔ warms := by
      unfold coilWarms
      rw [Bool.and_eq_true, above_iff, available_iff _ _ _ (279 < ·)]
      exact and_congr_right fun _ => and_congr_right fun _ => by omega
    have hrecovers : coilRecovers (available (-300) 800 raw) s = true ↔ recovers := by
      unfold coilRecovers
      rw [Bool.and_eq_true, decide_eq_true_iff, above_iff, available_iff _ _ _ (299 < ·)]
      exact and_congr_right fun _ => and_congr_right fun _ => by omega
    have hcold : (freezeWatch s && below (available (-300) 800 raw) 0) = true ↔ cold := by
      rw [Bool.and_eq_true, freezeWatch_iff, below_iff, available_iff _ _ _ (· < 0)]
      exact Iff.rfl
    obtain ⟨port, hconv⟩ := coilConverted_eq hno fun h => hsafe (h.imp hwarms.mp hrecovers.mp)
    have hbase : base =
        { s with
          prot := { q with stops := stopsLeft .coilFreeze (coilThaws (available (-300) 800 raw) s.prot) s }
          seq := { s.seq with state := stateLeft .coilFreeze (coilThaws (available (-300) 800 raw) s.prot) s } } :=
      left_base .coilFreeze (q := q) rfl hthaws
    obtain ⟨u, hu⟩ : ∃ u, coilConverted raw s = u := ⟨_, rfl⟩
    have hexec : exec (.indoorCoilConversion raw) s = .next (finish u) := by
      rw [← hu]
      rfl
    rw [hu] at hconv
    have hsettled : Settled u := by
      obtain ⟨ht, hp, hi, hh, ho, hx, hr, hl⟩ := hcalm.1
      rw [hconv]
      refine ⟨ht, hp, hi, hh, ho, hx, hr, ?_⟩
      dsimp only
      split <;> exact hl
    have hqueue : u.drive.queue = [] := by
      rw [hconv]
      exact hcalm.2.1
    obtain ⟨hstart, hrest⟩ := finish_mayStart hsettled hqueue
    have hprot : u.prot = coilJudged (available (-300) 800 raw) s := by rw [hconv]
    have hstops : u.prot.stops = base.prot.stops := by
      rw [hprot, hbase]
      rfl
    have hfree : StartFree u ↔ StartFree { s with prot := q } := by
      unfold StartFree
      rw [hconv]
      dsimp only
      split <;> exact Iff.rfl
    have hwanted : wanted u = wanted s := by
      unfold wanted
      rw [hconv]
      dsimp only
      split <;> rfl
    have hwait : u.seq.state = .waitStart ↔ freed ∧ wanted s ≠ 0 := by
      rw [hconv]
      dsimp only
      cases hrec : coilRecovers (available (-300) 800 raw) s with
      | false =>
        have hnr : ¬recovers := fun h => Bool.false_ne_true (hrec.symm.trans (hrecovers.mpr h))
        rw [if_neg Bool.false_ne_true]
        show stateLeft .coilFreeze (coilThaws (available (-300) 800 raw) s.prot) s = .waitStart ↔ _
        rw [stateLeft_waits _ _ hcalm.2.2, hthaws]
        have hs : stopsLeft .coilFreeze (coilThaws (available (-300) 800 raw) s.prot) s = base.prot.stops := by rw [hbase]
        rw [hs]
        exact and_congr_left fun _ => ⟨fun ⟨h1, h2, h3, h4⟩ => .inl ⟨h2, h1, h3, h4⟩,
          fun h => h.elim (fun ⟨h2, h1, h3, h4⟩ => ⟨h1, h2, h3, h4⟩) fun h => absurd h.1 hnr⟩
      | true =>
        have hr : recovers := hrecovers.mp hrec
        rw [if_pos rfl]
        show recoveryNext { s with prot := coilJudged (available (-300) 800 raw) s } = .waitStart ↔ _
        rw [recoveryNext_waits]
        have hs : (coilJudged (available (-300) 800 raw) s).stops = base.prot.stops := by
          rw [hbase]
          rfl
        dsimp only
        rw [hs]
        exact ⟨fun ⟨h1, h2, h3, h4⟩ => ⟨.inr ⟨hr, h1, h2, h3⟩, h4⟩, fun ⟨h, h4⟩ => h.elim
          (fun h => absurd (hr.1.symm.trans h.1) (by decide)) fun ⟨_, h1, h2, h3⟩ => ⟨h1, h2, h3, h4⟩⟩
    have hdue : startDue u = true ↔ starts := by
      rw [startDue_iff, hwait, hwanted, hfree]
      exact ⟨fun ⟨h1, _, h3⟩ => ⟨h1.1, h1.2, h3⟩, fun ⟨h1, h2, h3⟩ => ⟨⟨h1, h2⟩, h2, h3⟩⟩
    refine ⟨_, hexec, fun h => ?_, fun h => ?_⟩
    · obtain ⟨h1, h2, h3, -, h5, -⟩ := hstart (hdue.mpr h)
      refine ⟨h1, h2, h5.trans ?_, h3.trans (hstops.trans ?_)⟩
      · rw [hprot]
        rfl
      · rcases h.1 with ⟨-, -, -, h⟩ | ⟨-, -, -, h⟩ <;> exact h
    · rw [hrest (Bool.eq_false_iff.mpr fun hd => h (hdue.mp hd))]
      have hwatch : freezeWatch u = freezeWatch s ∧ supplyWatch u = supplyWatch s := by
        have hboth : compressorRunning u = compressorRunning s ∧ releaseMode u.seq = releaseMode s.seq := by
          cases hrec : coilRecovers (available (-300) 800 raw) s with
          | false =>
            rw [hrec] at hconv
            have hseq : u.seq = { s.seq with state := stateLeft .coilFreeze (coilThaws (available (-300) 800 raw) s.prot) s } := by
              rw [hconv]
              rfl
            exact ⟨stateLeft_running .coilFreeze (coilThaws (available (-300) 800 raw) s.prot) (by rw [hseq]) (by rw [hseq]),
              by rw [hseq]; rfl⟩
          | true =>
            rw [hrec] at hconv
            have hseq : u.seq = recoveredSeq { s with prot := coilJudged (available (-300) 800 raw) s } := by
              rw [hconv]
              rfl
            exact ⟨(recoveredSeq_running (s := { s with prot := coilJudged (available (-300) 800 raw) s })
              (hrecovers.mp hrec).1 hseq).trans (compressorRunning_congr rfl rfl), by rw [hseq]; rfl⟩
        unfold freezeWatch supplyWatch
        rw [hboth.1, hboth.2]
        exact ⟨rfl, rfl⟩
      obtain ⟨hfl, hsl, -⟩ := sync_limits u
      have hsync := sync_prot_eq u
      rw [hwatch.1, hwatch.2, hprot] at hsync
      have hnow : u.now = s.now := by rw [hconv]
      have hlimits := limits_of (u := u) (step := p.stepFrom) (recover := p.recoverFrom) (by rw [hprot]; rfl) (by rw [hprot]; rfl)
      rw [hnow] at hlimits
      have hbelow : (sync u).prot.belowZeroFrom = if freezeWatch s then
          runWhile (freezeWatch s && below (available (-300) 800 raw) 0) s.now p.belowZeroFrom else none := by
        rw [hsync]
        rfl
      refine ⟨fun hc => ?_, fun hc => ?_, ?_, ?_, fun hw => ?_, fun hw => ?_, hlimits, ?_⟩
      · obtain ⟨hf, hb⟩ := Bool.and_eq_true_iff.mp (hcold.mpr hc)
        rw [hbelow, hf, hb]
        exact runWhile_true ..
      · rw [hbelow, Bool.eq_false_iff.mpr fun h => hc (hcold.mp h)]
        split <;> rfl
      · rw [hfl, hprot, ← freezeWatch_iff, hwatch.1]
        show (s.prot.freezeLim && (freezeWatch s && below (available (-300) 800 raw) 0)) = true ∧ freezeWatch s = true ↔
          p.freezeLim = true ∧ cold
        rw [Bool.and_eq_true, hcold, and_assoc]
        exact and_congr_right fun _ => ⟨fun h => h.1, fun h => ⟨h, (freezeWatch_iff s).mpr h.1⟩⟩
      · rw [hsl, hprot, ← supplyWatch_iff, hwatch.2, supplyWatch_iff]
        exact Iff.rfl
      · rw [hsync, (supplyWatch_iff s).mpr hw]
        rfl
      · rw [hsync, Bool.eq_false_iff.mpr fun h => hw ((supplyWatch_iff s).mp h)]
        rfl
      · have hless : b.warmed (coilWarms (available (-300) 800 raw) s) (coilRecovers (available (-300) 800 raw) s) = less := by
          have h1 : coilWarms (available (-300) 800 raw) s = decide warms :=
            Bool.eq_iff_iff.mpr (hwarms.trans decide_eq_true_iff.symm)
          have h2 : coilRecovers (available (-300) 800 raw) s = decide recovers :=
            Bool.eq_iff_iff.mpr (hrecovers.trans decide_eq_true_iff.symm)
          unfold Blower.warmed
          rw [h1, h2]
        have hleaves : b.leavesHold (coilWarms (available (-300) 800 raw) s) (coilRecovers (available (-300) 800 raw) s) ↔
            leavesHold := by
          unfold Blower.leavesHold
          rw [hless, hwarms, hrecovers]
        obtain ⟨above, below, hsb⟩ := sync_blower u
        have hub : u.blower = b.holdsEnded s.now s.cfg.table (coilWarms (available (-300) 800 raw) s)
            (coilRecovers (available (-300) 800 raw) s) := by rw [hconv]
        rw [hub] at hsb
        obtain ⟨hb1, hb2, hb3⟩ := holdsEnded_blower hsb
        rw [hleaves, hless] at hb1 hb2 hb3
        refine ⟨hb1, hb2, hb3, fun hnr => ?_, fun hr => ?_⟩
        · have hrec : coilRecovers (available (-300) 800 raw) s = false := Bool.eq_false_iff.mpr fun h => hnr (hrecovers.mp h)
          have hframe := congrArg (fun y : State => ({ y with blower := s.timeless.blower, port := s.port } : State)) (timeless_sync u)
          refine Eq.trans hframe ?_
          rw [hconv, hrec, hbase]
          rfl
        · have hrec : coilRecovers (available (-300) 800 raw) s = true := hrecovers.mpr hr
          rw [hrec] at hconv
          have hseq : u.seq = recoveredSeq { s with prot := coilJudged (available (-300) 800 raw) s } := by
            rw [hconv]
            rfl
          refine ⟨?_, fun hsw => ?_, ?_, ?_, ?_, ?_, ?_⟩
          · rw [sync_seq_state, hseq]
            show recoveryNext { s with prot := coilJudged (available (-300) 800 raw) s } = _
            unfold recoveryNext restState
            have hs : (coilJudged (available (-300) 800 raw) s).stops = base.prot.stops := by
              rw [hbase]
              rfl
            dsimp only
            rw [hs]
            rfl
          · rw [sync_seq_state, hseq] at hsw
            rw [sync_seq_stopSent, hseq]
            exact decide_eq_true hsw
          · rw [sync_seq_runStart, hseq]
            rfl
          · rw [sync_seq_minOffFrom, hseq]
            rfl
          · rw [sync_arb, hconv]
            rfl
          · rw [sync_eval, hconv]
            rfl
          · have hframe := congrArg (fun y : State => ({ y with
              seq := s.timeless.seq, arb := s.arb, eval := s.eval, blower := s.timeless.blower, port := s.port } : State))
              (timeless_sync u)
            refine Eq.trans hframe ?_
            rw [hconv, hbase]
            rfl
  · intro hcalm hnotrip reading gone q hot cools base starts
    have hno : supplyWatch s = true → above (available (-200) 900 raw) 700 = false := fun h => by
      obtain ⟨hrun, r, hrel, hmode⟩ := (supplyWatch_iff s).mp h
      rw [Bool.eq_false_iff]
      intro hb
      obtain ⟨hread, hlt⟩ := (available_iff _ _ _ (700 < ·)).mp ((above_iff _ _).mp hb)
      have hm : mode = some .heat := by
        show s.seq.release.map Release.mode = _
        rw [hrel, ← hmode]
        rfl
      rcases hnotrip hrun hm with h | h
      · omega
      · refine hread ?_
        unfold available
        rw [if_neg (by omega)]
    have hcools : below (available (-200) 900 raw) 501 = true ↔ cools := by
      rw [below_iff, available_iff _ _ _ (· < 501)]
      exact and_congr_right fun _ => by omega
    have hhot : (supplyWatch s && above (available (-200) 900 raw) 600) = true ↔ hot := by
      rw [Bool.and_eq_true, supplyWatch_iff, above_iff, available_iff _ _ _ (600 < ·)]
      exact Iff.rfl
    have hbase : base =
        { s with
          prot := { q with stops := stopsLeft .supplyHot (below (available (-200) 900 raw) 501) s }
          seq := { s.seq with state := stateLeft .supplyHot (below (available (-200) 900 raw) 501) s } } :=
      left_base .supplyHot (q := q) rfl hcools
    have hgone : (supplyJudged (available (-200) 900 raw) s).supplyGoneFrom = gone := by
      show runWhile (available (-200) 900 raw).isNone s.now s.prot.supplyGoneFrom = if available (-200) 900 raw = none then _ else _
      cases available (-200) 900 raw <;> rfl
    obtain ⟨port, hconv⟩ := supplyConverted_eq hno
    obtain ⟨u, hu⟩ : ∃ u, supplyConverted raw s = u := ⟨_, rfl⟩
    have hexec : exec (.supplyAirConversion raw) s = .next (finish u) := by
      rw [← hu]
      rfl
    rw [hu] at hconv
    have hsettled : Settled u := by
      rw [hconv]
      exact hcalm.1
    have hqueue : u.drive.queue = [] := by
      rw [hconv]
      exact hcalm.2.1
    obtain ⟨hstart, hrest⟩ := finish_mayStart hsettled hqueue
    have hstops : u.prot.stops = base.prot.stops := by rw [hconv, hbase]
    have hfree : StartFree u ↔ StartFree s := by
      unfold StartFree
      rw [hconv]
      exact Iff.rfl
    have hwanted : wanted u = wanted s := by rw [hconv]; rfl
    have hdue : startDue u = true ↔ starts := by
      rw [startDue_iff, hwanted, hfree]
      have hwait := stateLeft_waits .supplyHot (below (available (-200) 900 raw) 501) hcalm.2.2
      have hstate : u.seq.state = stateLeft .supplyHot (below (available (-200) 900 raw) 501) s := by rw [hconv]
      have hs : stopsLeft .supplyHot (below (available (-200) 900 raw) 501) s = base.prot.stops := by rw [hbase]
      rw [hstate, hwait, hcools, hs]
      exact ⟨fun ⟨⟨⟨h1, h2, h3, h4⟩, _⟩, h5, h6⟩ => ⟨h2, h1, h3, h4, h5, h6⟩,
        fun ⟨h2, h1, h3, h4, h5, h6⟩ => ⟨⟨⟨h1, h2, h3, h4⟩, h5⟩, h5, h6⟩⟩
    refine ⟨_, hexec, fun h => ?_, fun h => ?_⟩
    · obtain ⟨h1, h2, h3, -, -, h6⟩ := hstart (hdue.mpr h)
      refine ⟨h1, h2, h6.trans ?_, h3.trans (hstops.trans h.2.2.2.1)⟩
      rw [hconv]
      rfl
    · rw [hrest (Bool.eq_false_iff.mpr fun hd => h (hdue.mp hd))]
      have hwatch : freezeWatch u = freezeWatch s ∧ supplyWatch u = supplyWatch s := by
        unfold freezeWatch supplyWatch
        rw [stateLeft_running .supplyHot (below (available (-200) 900 raw) 501) (s := s) (t := u) (by rw [hconv])
          (by rw [hconv]), hconv]
        exact ⟨rfl, rfl⟩
      obtain ⟨hfl, hsl, -⟩ := sync_limits u
      have hsync := sync_prot_eq u
      have hlimits := limits_of (u := u) (step := p.stepFrom) (recover := p.recoverFrom) (by rw [hconv]; rfl) (by rw [hconv]; rfl)
      have hnow : u.now = s.now := by rw [hconv]
      rw [hnow] at hlimits
      rw [hwatch.1, hwatch.2, hconv] at hsync
      have habove : (sync u).prot.above60From = if supplyWatch s then
          runWhile (supplyWatch s && above (available (-200) 900 raw) 600) s.now p.above60From else none := by
        rw [hconv, hsync]
        rfl
      refine ⟨fun hh => ?_, fun hh => ?_, ?_, ?_, fun hw => ?_, fun hw => ?_, hlimits, ?_⟩
      · obtain ⟨hw, ha⟩ := Bool.and_eq_true_iff.mp (hhot.mpr hh)
        rw [habove, hw, ha]
        exact runWhile_true ..
      · rw [habove, Bool.eq_false_iff.mpr fun h => hh (hhot.mp h)]
        split <;> rfl
      · rw [hsl, ← supplyWatch_iff, hwatch.2, hconv]
        show (s.prot.supplyLim && (supplyWatch s && above (available (-200) 900 raw) 600)) = true ∧ supplyWatch s = true ↔
          p.supplyLim = true ∧ hot
        rw [Bool.and_eq_true, hhot, and_assoc]
        exact and_congr_right fun _ => ⟨fun h => h.1, fun h => ⟨h, (supplyWatch_iff s).mpr h.1⟩⟩
      · rw [hfl, ← freezeWatch_iff, hwatch.1, freezeWatch_iff, hconv]
        exact Iff.rfl
      · rw [hconv, hsync, (freezeWatch_iff s).mpr hw]
        rfl
      · rw [hconv, hsync, Bool.eq_false_iff.mpr fun h => hw ((freezeWatch_iff s).mp h)]
        rfl
      · have hframe := congrArg (fun y : State => ({ y with port := s.port } : State)) (timeless_sync u)
        refine Eq.trans hframe ?_
        have hleft : base =
            { s with
              prot :=
                { p with
                  supply := reading, supplyGoneFrom := (supplyJudged (available (-200) 900 raw) s).supplyGoneFrom
                  stops := stopsLeft .supplyHot (below (available (-200) 900 raw) 501) s }
              seq := { s.seq with state := stateLeft .supplyHot (below (available (-200) 900 raw) 501) s } } := by
          rw [hgone]
          exact hbase
        rw [hconv, hleft]
        rfl
  · show Host.Outcome.next (mainsConverted raw s) = _
    unfold mainsConverted runWhile
    simp only [decide_eq_true_eq]
    rfl

end Sys2Proof.Machine
end

section
/-! A good STAT with a new outdoor code that asks for a defrost: the defrost is entered and ended by the one command, and the hold it began
ends without the premise of a hold that ends safely (07 R114; 09 R146, R148, R149; 10 R156). -/

namespace Sys2Proof.Machine

/-- A running compressor under HEAT with a coil at 30.0 °C, no hold, every damper closed and a blower in OFF whose given goal is not 0; the
applied plan opens damper 0. -/
def defrostAskedWithTrip : State :=
  let s := Tests.sends .stat (Tests.runs .heat)
  { s with
    prot := { s.prot with coil := some 300 }
    blower := { s.blower with given := 100 }
    co := { s.co with applied := { Plan.empty with zones := Plan.empty.zones.set 0 ⟨.calling, 50, 50⟩ } } }

/-- Its next STAT asks for a defrost and shows a new outdoor code. -/
def statOfDefrostAndTrip : StatRecord := { Tests.statRunning with trip := some .overcurrent, defrostReq := true }

/-- Its state as the good STAT has been taken, and before its consequences. -/
def defrostAndTripTaken : State :=
  goodStat statOfDefrostAndTrip
    { defrostAskedWithTrip with
      link := endedLink defrostAskedWithTrip ⟨.stat, [], Tests.t0 - 20, Tests.t0, []⟩
        (Tests.responseOf 0x52 (statBytes statOfDefrostAndTrip)) }

/-- The trip interrupts the defrost just begun, the warm coil ends its recovery, the given goal returns without an air path, and the guard
restarts the changeover: damper 0 moves. -/
theorem defrostAndTripTaken_moves :
    (settle settleFuel defrostAndTripTaken).drive.slot1 ≠ none ∧ passDue (settle settleFuel defrostAndTripTaken) = false := by
  decide

theorem finish_defrostAndTripTaken : (finish defrostAndTripTaken).drive.slot1 ≠ none := by
  obtain ⟨hslot, hpass⟩ := defrostAndTripTaken_moves
  unfold finish passStep
  rw [hpass, if_neg Bool.false_ne_true, sync_drive]
  exact hslot

theorem calm_defrostAskedWithTrip : Calm defrostAskedWithTrip :=
  ⟨⟨rfl, rfl, rfl, rfl, by decide, rfl, by decide, _, rfl, by decide⟩, rfl, by decide⟩

/-- Refutes O57: a good STAT that shows a new outdoor trip and asks for a defrost can set a damper moving, although no hold and no
defrost was in progress before it. -/
theorem not_countedTrips : ¬ Obligations.CountedTrips := by
  unfold Obligations.CountedTrips
  intro h
  have hgood : goodData 0x52 10 ([] ++ Tests.responseOf 0x52 (statBytes statOfDefrostAndTrip)) =
      some (statBytes statOfDefrostAndTrip) := by decide
  have hstat : statOf (statBytes statOfDefrostAndTrip) = some statOfDefrostAndTrip := by decide
  have hwindow : WindowOpen defrostAskedWithTrip ⟨.stat, [], Tests.t0 - 20, Tests.t0, []⟩ :=
    ⟨by decide, fun _ _ hb => (nomatch hb), by decide⟩
  obtain ⟨t, hexec, -, -, -, -, -, hdrive, -⟩ := h.2 defrostAskedWithTrip ⟨.stat, [], Tests.t0 - 20, Tests.t0, []⟩ _ _ _
    calm_defrostAskedWithTrip rfl rfl hwindow rfl hgood hstat (by decide) (by unfold HoldEndsSafely; decide)
  have hfinish : exec (.statResponse _) defrostAskedWithTrip = .next (finish defrostAndTripTaken) :=
    exec_goodStat rfl hwindow rfl hgood hstat
  obtain rfl : finish defrostAndTripTaken = t := Host.Outcome.next.inj (hfinish.symm.trans hexec)
  have hslot := finish_defrostAndTripTaken
  rw [hdrive] at hslot
  exact hslot rfl

end Sys2Proof.Machine
end

section
/-! What the sequencer and the Protection Monitor do beside a changeover: a release moves them, and of the rest only the blower's holds,
with the air-path guard behind them (04 R75; 07 R114, R117). -/

namespace Sys2Proof.Machine

/-- No goal above 0 is in force, given or carried. -/
def Blower.Stilled (b : Blower) : Prop := b.goal = 0 ∧ b.given = 0 ∧ ∀ q, b.carried = some q → q = 0

theorem Blower.stilled_guard (now : Nat) (table : List BlowerPoint) (b : Blower) : (b.guard now table).Stilled :=
  ⟨rfl, rfl, fun _ h => nomatch (show none = some _ from h)⟩

theorem Blower.leavePause_given (now : Nat) (b : Blower) : (b.leavePause now).given = b.given := by
  unfold Blower.leavePause
  split <;> rfl

theorem Blower.stilled_turnOff {b : Blower} (h : b.given = 0) (now : Nat) (table : List BlowerPoint) :
    (b.turnOff now table).Stilled :=
  ⟨rfl, (b.leavePause_given now).trans h, fun _ h => nomatch (show none = some _ from h)⟩

theorem Blower.Stilled.stopReported {b : Blower} (h : b.Stilled) (now : Nat) (table : List BlowerPoint) (m : Option Mode) :
    (b.stopReported now table m).Stilled := by
  obtain ⟨hgoal, hgiven, hcarried⟩ := h
  unfold Blower.stopReported
  split
  · split
    next => exact ⟨hgoal, hgiven, hcarried⟩
    next q hq =>
      obtain rfl := hcarried q hq
      split
      · exact Blower.stilled_turnOff hgiven now table
      · have hpause : (b.leavePause now).carried = b.carried := by
          unfold Blower.leavePause
          split <;> rfl
        exact ⟨rfl, (b.leavePause_given now).trans hgiven, fun x hx => hcarried x (hpause.symm.trans hx)⟩
  · exact ⟨hgoal, hgiven, hcarried⟩

theorem Blower.Stilled.removeHold {b : Blower} (h : b.Stilled) (now : Nat) (table : List BlowerPoint) (cold : Bool) :
    (b.removeHold now table cold).Stilled := by
  rw [Blower.removeHold_eq]
  dsimp only
  split
  · rw [if_pos h.2.1]
    exact Blower.stilled_turnOff (b := b.reasonGone cold) h.2.1 now table
  · exact h

theorem Blower.Stilled.addHold {b : Blower} (h : b.Stilled) (now : Nat) (table : List BlowerPoint) (cold : Bool) :
    (b.addHold now table cold).Stilled := by
  rw [Blower.addHold_eq]
  split
  · exact h
  · exact ⟨rfl, ((b.reasonAdded cold).leavePause_given now).trans h.2.1, fun _ h => nomatch (show none = some _ from h)⟩

/-- What is done aside: the changeover, the drive, the sensing and the release in force stand, an early-pass request is not lost, and a
restart is asked for only by a guard that takes the last goal away. -/
structure Aside (s t : State) : Prop where
  co : t.co = s.co
  drive : t.drive = s.drive
  release : t.seq.release = s.seq.release
  todo : { t.todo with restart := s.todo.restart } = s.todo
  sens : t.sens = s.sens
  early : s.eval.early = true → t.eval.early = true
  stilled : s.blower.Stilled → t.blower.Stilled
  restart : t.todo.restart = true → s.todo.restart = true ∨ s.drive.airPath = false ∧ ¬s.blower.Stilled ∧ t.blower.Stilled

theorem Aside.refl (s : State) : Aside s s := ⟨rfl, rfl, rfl, rfl, rfl, id, id, .inl⟩

theorem Aside.trans {s t u : State} (h : Aside s t) (h' : Aside t u) : Aside s u where
  co := h'.co.trans h.co
  drive := h'.drive.trans h.drive
  release := h'.release.trans h.release
  todo := by
    have hu := congrArg (fun x : Todo => ({ x with restart := s.todo.restart } : Todo)) h'.todo
    exact hu.trans h.todo
  sens := h'.sens.trans h.sens
  early := fun x => h'.early (h.early x)
  stilled := fun x => h'.stilled (h.stilled x)
  restart := fun hu => by
    rcases h'.restart hu with ht | ⟨hpath, hnot, hstill⟩
    · exact (h.restart ht).imp id fun ⟨hpath, hnot, hstill⟩ => ⟨hpath, hnot, h'.stilled hstill⟩
    · exact .inr ⟨h.drive ▸ hpath, fun hs => hnot (h.stilled hs), hstill⟩

theorem Aside.ite {s a b : State} {c : Prop} [Decidable c] (ha : Aside s a) (hb : Aside s b) : Aside s (if c then a else b) := by
  split
  · exact ha
  · exact hb

theorem aside_airGuard (s : State) : Aside s (airGuard s) := by
  unfold airGuard
  split
  next h =>
    have hstill : (s.blower.guard s.now s.cfg.table).Stilled := Blower.stilled_guard ..
    exact ⟨rfl, rfl, rfl, rfl, rfl, fun _ => rfl, fun _ => hstill, fun _ => .inr ⟨h.2, fun hs => h.1 hs.1, hstill⟩⟩
  next => exact .refl s

theorem aside_removeHold (cold : Bool) (s : State) : Aside s (removeHold cold s) :=
  .trans (t := { s with blower := s.blower.removeHold s.now s.cfg.table cold })
    ⟨rfl, rfl, rfl, rfl, rfl, id, fun h => h.removeHold _ _ cold, .inl⟩ (aside_airGuard _)

theorem aside_stopReport (s : State) : Aside s (stopReport s) := by
  have hrest : Aside s (restStartPoint (restartMinOff { s with seq := { s.seq with runStart := none } })) := by
    unfold restStartPoint
    split <;> exact ⟨rfl, rfl, rfl, rfl, rfl, id, id, .inl⟩
  unfold stopReport
  dsimp only
  obtain ⟨t, ht⟩ : ∃ t, restStartPoint (restartMinOff { s with seq := { s.seq with runStart := none } }) = t := ⟨_, rfl⟩
  rw [ht] at hrest ⊢
  have hblower : Aside t { t with blower := t.blower.stopReported t.now t.cfg.table t.seq.stopping } :=
    ⟨rfl, rfl, rfl, rfl, rfl, id, fun h => h.stopReported .., .inl⟩
  exact hrest.trans (hblower.trans (.ite (aside_removeHold _ _) (.refl _)))

theorem aside_endRecovery (c : DefrostCause) (s : State) : Aside s (endRecovery c s) := by
  unfold endRecovery
  dsimp only
  obtain ⟨next, hnext⟩ : ∃ next, (if (!s.seq.takenStopped) = true then
      (if (!s.seq.stopMark && decide (wanted s ≠ 0)) = true then SeqState.running else .stopWait)
    else if s.prot.lockout = true then .lockout
    else if s.prot.stops ≠ [] then .tripped
    else restState s) = next := ⟨_, rfl⟩
  rw [hnext]
  obtain ⟨t, ht⟩ : ∃ t, (if next = .stopWait then stopWait true (seqRest next s) else seqRest next s) = t := ⟨_, rfl⟩
  have hrest : Aside s t := by
    rw [← ht]
    exact .ite ⟨rfl, rfl, rfl, rfl, rfl, id, id, .inl⟩ ⟨rfl, rfl, rfl, rfl, rfl, id, id, .inl⟩
  rw [ht]
  have hpass : Aside t (requestPass { t with arb := { t.arb with deferral := false } }) :=
    ⟨rfl, rfl, rfl, rfl, rfl, fun _ => rfl, id, .inl⟩
  obtain ⟨u, hu⟩ : ∃ u, removeHold false (requestPass { t with arb := { t.arb with deferral := false } }) = u := ⟨_, rfl⟩
  have hhold := aside_removeHold false (requestPass { t with arb := { t.arb with deferral := false } })
  rw [hu] at hhold ⊢
  exact hrest.trans (hpass.trans (hhold.trans ⟨rfl, rfl, rfl, rfl, rfl, id, id, .inl⟩))

theorem aside_enterRecovery (c : DefrostCause) (s : State) : Aside s (enterRecovery c s) := by
  unfold enterRecovery
  dsimp only
  exact .trans (t := raise (.defrost .recovery c none) { s with seq :=
    { s.seq with state := .defrostRecovery, grantSent := false, defrostFrom := none, recoveryFrom := some s.now } })
    ⟨rfl, rfl, rfl, rfl, rfl, id, id, .inl⟩ (.ite (aside_endRecovery _ _) (.refl _))

theorem aside_interruptDefrost (c : DefrostCause) (s : State) : Aside s (interruptDefrost c s) := by
  have htaken : Aside s (takeStopped s) := by
    unfold takeStopped
    exact .ite (.refl s) ((aside_stopReport s).trans ⟨rfl, rfl, rfl, rfl, rfl, id, id, .inl⟩)
  unfold interruptDefrost
  exact htaken.trans (.ite (.refl _) (aside_enterRecovery _ _))

theorem aside_stoppingTrip (s : State) : Aside s (stoppingTrip s) := by
  have hoff : Aside s (restartMinOff s) := ⟨rfl, rfl, rfl, rfl, rfl, id, id, .inl⟩
  have hstop : Aside s (seqRest .tripped (stopReport (restartMinOff s))) :=
    (hoff.trans (aside_stopReport _)).trans ⟨rfl, rfl, rfl, rfl, rfl, id, id, .inl⟩
  have hdefrost : Aside s (interruptDefrost .trip (restartMinOff s)) := hoff.trans (aside_interruptDefrost _ _)
  unfold stoppingTrip
  dsimp only
  split
  · exact ⟨rfl, rfl, rfl, rfl, rfl, id, id, .inl⟩
  · exact ⟨rfl, rfl, rfl, rfl, rfl, id, id, .inl⟩
  · exact hstop
  · exact hstop
  · exact hdefrost
  · exact hdefrost
  · exact hdefrost
  · exact hoff
  · exact hoff

theorem aside_leaveStops (k : TripKind) (s : State) : Aside s (leaveStops k s) := by
  obtain ⟨p, hp⟩ := leaveStops_eq k s
  rw [hp]
  exact ⟨rfl, rfl, rfl, rfl, rfl, id, id, .inl⟩

theorem aside_judgeFloat (s : State) : Aside s (judgeFloat s) := by
  unfold judgeFloat joinStops
  exact .ite (.ite (.refl s) (.trans (t := { s with prot := { s.prot with stops := s.prot.stops ++ [.float] } })
    ⟨rfl, rfl, rfl, rfl, rfl, id, id, .inl⟩ (aside_stoppingTrip _))) (aside_leaveStops _ _)

/-- A release of capacity: the mark, the release in force, and what the sequencer and the Protection Monitor do aside. -/
theorem releasePlan_aside (p : Plan) (s : State) : ∃ r : Sequencer,
    r.release = some ⟨p.mode, p.c, p.coilTarget⟩ ∧
      Aside { s with co := { s.co with released := true }, seq := r } (releasePlan p s) := by
  obtain ⟨q, sent, since, hrel⟩ := seqRelease_moves ⟨p.mode, p.c, p.coilTarget⟩ { s with co := { s.co with released := true } }
  obtain ⟨u, hu⟩ : ∃ u, seqRelease ⟨p.mode, p.c, p.coilTarget⟩ { s with co := { s.co with released := true } } = u := ⟨_, rfl⟩
  have hplan : releasePlan p s = judgeFloat (endWatches u) := by
    rw [← hu]
    rfl
  rw [hu] at hrel
  refine ⟨u.seq, by rw [hrel]; rfl, ?_⟩
  rw [hplan]
  have hends : Aside u (endWatches u) := by
    rw [endWatches_eq]
    exact ⟨rfl, rfl, rfl, rfl, rfl, id, id, .inl⟩
  have hto : Aside { s with co := { s.co with released := true }, seq := u.seq } u := by
    rw [hrel]
    exact .refl _
  exact hto.trans (hends.trans (aside_judgeFloat _))

end Sys2Proof.Machine
end

section
/-! The Plan Changeover Controller: how a changeover begins, and how its phases end (04 R71 to R75; 06 R104). -/

namespace Sys2Proof.Machine

/-! ### The changeover stands while other blocks act -/

theorem aside_seqLinkLost (s : State) : Aside s (seqLinkLost s) := by
  have hoff : Aside s (restartMinOff s) := ⟨rfl, rfl, rfl, rfl, rfl, id, id, .inl⟩
  have hstop : ∀ t : State, Aside t (seqRest (restState t) t) := fun _ => ⟨rfl, rfl, rfl, rfl, rfl, id, id, .inl⟩
  have hdefrost : Aside s (interruptDefrost .linkLost (restartMinOff s)) := hoff.trans (aside_interruptDefrost _ _)
  unfold seqLinkLost
  dsimp only
  split
  · exact (hoff.trans (aside_stopReport _)).trans (hstop _)
  · exact (hoff.trans (aside_stopReport _)).trans (hstop _)
  · exact hdefrost
  · exact hdefrost
  · exact hdefrost
  · exact hoff

theorem aside_immediateStop (s : State) : Aside s (immediateStop s) := by
  have hstop : Aside s (stopWait true s) := ⟨rfl, rfl, rfl, rfl, rfl, id, id, .inl⟩
  have hmark : Aside s (markStop s) := by
    unfold markStop
    exact .trans (t := { s with seq := { s.seq with stopMark := true } }) ⟨rfl, rfl, rfl, rfl, rfl, id, id, .inl⟩
      (.ite (aside_enterRecovery _ _) (.refl _))
  unfold immediateStop
  split
  · exact hstop
  · exact hstop
  · exact hmark
  · exact hmark
  · exact hmark
  · exact .refl s

theorem co_releaseOff (s : State) : (releaseOff s).co = s.co := by
  have hstop := (aside_immediateStop { s with seq := { s.seq with release := s.seq.release.map fun r => { r with c := 0 } } }).co
  unfold releaseOff
  rw [followWanted_eq]
  exact hstop

theorem co_changeOp (new : OpState) (c : StateCause) (s : State) : (changeOp new c s).co = s.co := by
  unfold changeOp
  dsimp only
  split
  · rfl
  · split
    · obtain ⟨_, _, _, h, -⟩ := leaveResting_eq (requestPass (raise (.state new s.op.state c) { s with op := { s.op with state := new } }))
      rw [h]
      rfl
    · rfl

theorem co_wakeEvent (s : State) : (wakeEvent s).co = s.co := by
  obtain ⟨_, _, _, _, _, h, -⟩ := wakeEvent_eq s
  rw [h]

theorem co_beginRound (s : State) : (beginRound s).co = s.co := by
  have hplan : (planRound s).co = s.co := rfl
  unfold beginRound beginFrame
  split
  · rfl
  · unfold abandonFrame exchangeFailed
    dsimp only
    split
    · unfold linkLost
      rw [co_wakeEvent, (aside_seqLinkLost _).co]
      unfold loseLink linkTo
      rfl
    · rfl

theorem co_writeRequest (new : OpRequest) (c : StateCause) (s : State) : (writeRequest new c s).co = s.co := by
  unfold writeRequest
  split
  · rfl
  · rw [autoSave_eq]
    dsimp only
    obtain ⟨t, ht⟩ : ∃ t, (if new = .off then releaseOff (requestPass
        { s with op := { s.op with request := new }, store := saved { s with op := { s.op with request := new } } })
      else requestPass
        { s with op := { s.op with request := new }, store := saved { s with op := { s.op with request := new } } }) = t := ⟨_, rfl⟩
    have hco : t.co = s.co := by
      rw [← ht]
      split
      · exact co_releaseOff _
      · rfl
    rw [ht, ← hco]
    split
    · exact co_changeOp _ _ _
    · exact co_changeOp _ _ _
    · exact co_changeOp _ _ _
    · rfl
    · rfl

theorem co_beginPreparation (s : State) : (beginPreparation s).co = s.co := by
  have hwrite := co_writeRequest .off .button s
  unfold beginPreparation
  dsimp only
  split
  · exact (co_changeOp _ _ _).trans hwrite
  · exact hwrite

theorem co_endStartup (s : State) : (endStartup s).co = s.co := by
  unfold endStartup
  dsimp only
  rw [co_changeOp]
  unfold applyLatched
  dsimp only
  split
  · rfl
  · exact co_writeRequest _ _ _
  · exact co_beginPreparation _

theorem co_beginOpening (s : State) : (beginOpening s).co = s.co := by
  have hone : ∀ (s : State) (d : ZoneId), (openForTest d s).co = s.co := fun s d => by
    obtain ⟨v, hv⟩ := moveRequest_drive d 200 s
    unfold openForTest markOpened
    rw [hv]
    dsimp only
    (repeat' split) <;> rfl
  have hfold : ∀ (l : List ZoneId) (s : State), (l.foldl (fun s d => openForTest d s) s).co = s.co := fun l => by
    induction l with
    | nil => exact fun _ => rfl
    | cons d l ih => exact fun s => (ih _).trans (hone s d)
  exact hfold _ _

theorem co_startCompressor (s : State) : (startCompressor s).co = s.co := by
  unfold startCompressor
  dsimp only
  split <;> rfl

/-! ### How a changeover begins -/

/-- OPEN has begun for a plan: with its mark, and its capacity released where it is not above the commanded one. -/
def Begins (s t : State) (p : Plan) (mark : Bool) : Prop :=
  t.co.incoming = some p ∧ t.co.phase = .opening ∧ t.co.reapply = mark ∧ t.co.applied = s.co.applied ∧
    (p.c ≤ commanded s → t.co.released = true ∧ t.seq.release = some ⟨p.mode, p.c, p.coilTarget⟩) ∧
    (commanded s < p.c → t.co.released = false ∧ t.seq = s.seq)

/-- A state with a plan incoming in OPEN, before anything is asked of the drive or the sequencer. -/
def opening (p : Plan) (s : State) : State :=
  { s with co := { s.co with incoming := some p, phase := .opening }, todo := { s.todo with holdReport := false } }

/-- What OPEN does at its beginning: its openings, its capacity where that is not above the commanded one, and the order to judge its
end. -/
theorem openPhase_parts (p : Plan) (s : State) : ∃ v, requestOpenings p (opening p s) = { opening p s with drive := v } ∧
    (p.c ≤ commanded s → openPhase p s = tellPhase (releasePlan p { opening p s with drive := v })) ∧
    (commanded s < p.c → openPhase p s =
      tellPhase { opening p s with drive := v, co := { (opening p s).co with released := false } }) := by
  obtain ⟨v, hv⟩ := requestOpenings_drive p (opening p s)
  have hopen : openPhase p s = tellPhase (capacityStep p { opening p s with drive := v }) := by
    rw [← hv]
    rfl
  have hcap : commanded { opening p s with drive := v } = commanded s := rfl
  refine ⟨v, hv, fun hc => ?_, fun hc => ?_⟩
  · rw [hopen]
    unfold capacityStep
    rw [hcap, if_pos hc]
  · rw [hopen]
    unfold capacityStep
    rw [hcap, if_neg (Nat.not_le.mpr hc)]

/-- OPEN has begun, with the held plan, an early-pass request and the zones as they were, and the drive as the openings leave it. -/
theorem openPhase_begins (p : Plan) (s : State) :
    Begins s (openPhase p s) p s.co.reapply ∧ (openPhase p s).co.held = s.co.held ∧
      (s.eval.early = true → (openPhase p s).eval.early = true) ∧
      (openPhase p s).drive = (requestOpenings p (opening p s)).drive := by
  obtain ⟨v, hv, hlow, hhigh⟩ := openPhase_parts p s
  rw [hv]
  by_cases hc : p.c ≤ commanded s
  · obtain ⟨r, hr, haside⟩ := releasePlan_aside p { opening p s with drive := v }
    rw [hlow hc]
    have hco : (tellPhase (releasePlan p { opening p s with drive := v })).co =
        { s.co with incoming := some p, phase := .opening, released := true } := haside.co
    refine ⟨⟨?_, ?_, ?_, ?_, fun _ => ⟨?_, haside.release.trans hr⟩, fun h => absurd hc (Nat.not_le.mpr h)⟩, ?_, haside.early,
      haside.drive⟩ <;> rw [hco]
  · rw [hhigh (Nat.not_le.mp hc)]
    exact ⟨⟨rfl, rfl, rfl, rfl, fun h => absurd h hc, fun _ => ⟨rfl, rfl⟩⟩, rfl, id, rfl⟩

/-- OPEN has begun for a plan that supersedes what was in progress. -/
theorem supersede_begins (p : Plan) (mark : Bool) (s : State) :
    Begins s (supersede p mark s) p mark ∧ (supersede p mark s).co.held = s.co.held ∧
      (s.eval.early = true → (supersede p mark s).eval.early = true) := by
  obtain ⟨v, hv⟩ := removeIntent_drive p s
  have hsup : supersede p mark s = openPhase p { s with drive := v, co := { s.co with reapply := mark } } := by
    unfold supersede
    rw [hv]
  obtain ⟨hbegins, hheld, hearly, -⟩ := openPhase_begins p { s with drive := v, co := { s.co with reapply := mark } }
  rw [hsup]
  exact ⟨hbegins, hheld, hearly⟩

end Sys2Proof.Machine
end

section
/-! The ends of the phases of a changeover (04 R72 to R74), and the air-path guard (06 R104). -/

namespace Sys2Proof.Machine

theorem passedBy_iff (s : State) (z : ZoneId) :
    passedBy s z = true ↔ (damperOf s z).motion = .fault ∨ z ∈ s.drive.passedOver := by
  unfold passedBy inFault
  rw [Bool.or_eq_true, decide_eq_true_iff, List.contains_iff_mem]

theorem stillOpening_iff (s : State) (z : ZoneId) (o : Nat) :
    stillOpening s z o = true ↔ ∃ slot u, s.drive.slotOf z = some slot ∧ slot.what = .move u ∧ slot.opens = true ∧ u ≤ o := by
  unfold stillOpening
  cases hs : s.drive.slotOf z with
  | none => simp
  | some slot =>
    obtain ⟨d, what, n, t, opens⟩ := slot
    cases what with
    | home => simp
    | move u => simp

theorem openDone_iff (p : Plan) (s : State) : openDone p s = true ↔
    ∀ z : ZoneId, 0 < (p.zones.get z).opening →
      (damperOf s z).motion = .fault ∨ z ∈ s.drive.passedOver ∨
        (∃ n, (damperOf s z).position = some n ∧ (p.zones.get z).opening ≤ n) ∧
          ¬∃ slot u, s.drive.slotOf z = some slot ∧ slot.what = .move u ∧ slot.opens = true ∧ u ≤ (p.zones.get z).opening := by
  have hone : ∀ z, openEnough p s z = true ↔ ((p.zones.get z).opening = 0 ∨
      (damperOf s z).motion = .fault ∨ z ∈ s.drive.passedOver ∨
        (∃ n, (damperOf s z).position = some n ∧ (p.zones.get z).opening ≤ n) ∧
          ¬∃ slot u, s.drive.slotOf z = some slot ∧ slot.what = .move u ∧ slot.opens = true ∧ u ≤ (p.zones.get z).opening) :=
    fun z => by
    rw [← stillOpening_iff, Bool.not_eq_true]
    unfold openEnough
    dsimp only
    rw [Bool.or_eq_true, Bool.or_eq_true, decide_eq_true_iff, passedBy_iff, or_assoc, or_assoc]
    cases (damperOf s z).position with
    | none => simp
    | some n => simp
  unfold openDone
  rw [List.all_eq_true]
  refine ⟨fun h z hz => ((hone z).mp (h z (mem_allZones z))).resolve_left (Nat.ne_of_gt hz),
    fun h z _ => (hone z).mpr ?_⟩
  exact (Nat.eq_zero_or_pos _).imp id (h z)

theorem closeDone_iff (p : Plan) (s : State) : closeDone p s = true ↔
    ∀ z : ZoneId, (p.zones.get z).role = .calling ∨ (p.zones.get z).role = .relief ∨ (p.zones.get z).role = .closed →
      (damperOf s z).motion = .fault ∨ z ∈ s.drive.passedOver ∨
        (damperOf s z).position = some (p.zones.get z).opening ∧ (damperOf s z).motion = .idle := by
  have hrole : ∀ r : Role, r.driven = true ↔ r = .calling ∨ r = .relief ∨ r = .closed := fun r => by cases r <;> simp [Role.driven]
  unfold closeDone
  rw [List.all_eq_true]
  have hone : ∀ z, closedEnough p s z = true ↔
      ((p.zones.get z).role = .calling ∨ (p.zones.get z).role = .relief ∨ (p.zones.get z).role = .closed →
      (damperOf s z).motion = .fault ∨ z ∈ s.drive.passedOver ∨
        (damperOf s z).position = some (p.zones.get z).opening ∧ (damperOf s z).motion = .idle) := fun z => by
    unfold closedEnough
    rw [← hrole, Bool.or_eq_true, Bool.or_eq_true, passedBy_iff, Bool.and_eq_true, decide_eq_true_iff, decide_eq_true_iff]
    cases (p.zones.get z).role.driven <;> simp [or_assoc]
  exact ⟨fun h z => (hone z).mp (h z (mem_allZones z)), fun h z _ => (hone z).mpr (h z)⟩

/-! ### The end of CLOSE -/

theorem finishUnconfigure_co (p : Plan) (s : State) : (finishUnconfigure p s).co = s.co := by
  have hfold : ∀ (l : List ZoneId) (s : State), (l.foldl
      (fun s z => if (s.zst.get z).unconf && decide ((p.zones.get z).role = .closed) then releaseZone z s else s) s).co = s.co := by
    intro l
    induction l with
    | nil => exact fun _ => rfl
    | cons z l ih =>
      refine fun s => (ih _).trans ?_
      dsimp only
      split
      · obtain ⟨_, h⟩ := releaseZone_eq z s
        rw [h]
      · rfl
  exact hfold _ _

/-- A zone with unconfigure pending that the plan closes becomes UNUSED. -/
theorem finishUnconfigure_unused {p : Plan} {s : State} {z : ZoneId} (hz : (s.zst.get z).unconf = true)
    (hrole : (p.zones.get z).role = .closed) : stateOf (finishUnconfigure p s) z = .unused := by
  obtain ⟨f, hf⟩ : ∃ f : State → ZoneId → State, f = fun s z =>
    if (s.zst.get z).unconf && decide ((p.zones.get z).role = .closed) then releaseZone z s else s := ⟨_, rfl⟩
  have hset : ∀ (s : State) (x : ZoneId), (f s x).zst = s.zst ∨ (f s x).zst = s.zst.set x ⟨.unused, false⟩ := fun s x => by
    rw [hf]
    dsimp only
    split
    · obtain ⟨_, h⟩ := releaseZone_eq x s
      rw [h]
      exact .inr rfl
    · exact .inl rfl
  have hother : ∀ (s : State) (x : ZoneId), x ≠ z → (f s x).zst.get z = s.zst.get z := fun s x hx => by
    rcases hset s x with h | h
    · rw [h]
    · rw [h, Eight.get_set, if_neg (Ne.symm hx)]
  have hstays : ∀ (l : List ZoneId) (s : State), s.zst.get z = ⟨.unused, false⟩ → (l.foldl f s).zst.get z = ⟨.unused, false⟩ := by
    intro l
    induction l with
    | nil => exact fun _ h => h
    | cons x l ih =>
      intro s h
      refine ih _ ?_
      by_cases hx : x = z
      · rcases hset s x with h' | h'
        · rw [h', h]
        · rw [h', hx, Eight.get_set, if_pos rfl]
      · rw [hother s x hx, h]
  have hreach : ∀ (l : List ZoneId) (s : State), z ∈ l → (s.zst.get z).unconf = true →
      (l.foldl f s).zst.get z = ⟨.unused, false⟩ := by
    intro l
    induction l with
    | nil => exact fun _ h => nomatch h
    | cons x l ih =>
      intro s hmem hun
      by_cases hx : x = z
      · refine hstays l _ ?_
        have hcond : ((s.zst.get z).unconf && decide ((p.zones.get z).role = .closed)) = true := by
          rw [hun, decide_eq_true hrole]
          rfl
        rw [hx, hf]
        dsimp only
        rw [if_pos hcond]
        obtain ⟨_, h⟩ := releaseZone_eq z s
        rw [h, Eight.get_set, if_pos rfl]
      · refine ih _ ((List.mem_cons.mp hmem).resolve_left (Ne.symm hx)) ?_
        rw [hother s x hx]
        exact hun
  have hend := hreach allZones s (mem_allZones z) hz
  rw [hf] at hend
  exact congrArg ZoneStatus.state hend

/-! ### The end of BLOWER -/

theorem blowerDone_iff (s : State) : blowerDone s = true ↔
    s.blower.given = 0 ∨ s.blower.state = .hold ∨ s.blower.state = .run ∨ s.todo.holdReport = true := by
  unfold blowerDone
  simp only [Bool.or_eq_true, decide_eq_true_iff]
  tauto

/-- With nothing else told, BLOWER is judged by the blower before all other consequences, and these leave the changeover. -/
theorem microStep_blower {s : State} {p : Plan} (hi : s.co.incoming = some p) (hp : s.co.phase = .blower)
    (htodo : { s.todo with holdReport := false } = Todo.clear) (hheld : s.co.held = none ∨ s.arb.deferral = true)
    (htest : s.op.testPhase ≠ .opening) (hq : s.drive.queue = [] ∨ s.drive.slot1 ≠ none ∧ s.drive.slot2 ≠ none) :
    (blowerDone s = true → microStep s = some (endBlower p s)) ∧
      (blowerDone s = false → ∀ t, microStep s = some t → t.co = s.co) := by
  have hfaulted : s.todo.faulted = [] := congrArg Todo.faulted htodo
  have hrestart : s.todo.restart = false := congrArg Todo.restart htodo
  have hphase : s.todo.phaseCheck = false := congrArg Todo.phaseCheck htodo
  have hhold : (s.co.held.isSome && !s.arb.deferral) = false := by
    rcases hheld with h | h <;> simp [h]
  have hleft : leftActive s = [] := if_neg htest
  have hgrant : canGrant s = false := by
    unfold canGrant Drive.slotFree
    rcases hq with h | ⟨h1, h2⟩
    · simp [h]
    · simp [h1, h2]
  refine ⟨fun hd => ?_, fun hd t ht => ?_⟩
  · unfold microStep
    rw [hfaulted, hrestart, hhold, hleft, hgrant, hphase, hd, hi, decide_eq_true hp]
    rfl
  · unfold microStep at ht
    rw [hfaulted, hrestart, hhold, hleft, hgrant, hphase, hd, Bool.and_false] at ht
    simp only [Bool.false_eq_true, if_false] at ht
    split at ht
    · obtain rfl := Option.some.inj ht
      exact co_beginRound s
    split at ht
    · obtain rfl := Option.some.inj ht
      exact co_startCompressor s
    split at ht
    · obtain rfl := Option.some.inj ht
      exact co_endStartup s
    split at ht
    · obtain rfl := Option.some.inj ht
      exact co_beginOpening s
    split at ht
    next ho =>
      refine absurd ?_ htest
      unfold openingDone at ho
      exact of_decide_eq_true (Bool.and_eq_true_iff.mp ho).1
    next => exact nomatch ht

theorem endBlower_parts (p : Plan) (s : State) :
    (endBlower p s).co.phase = .closing ∧ (endBlower p s).co.released = true ∧ (endBlower p s).todo.holdReport = false ∧
      (endBlower p s).seq.release = if s.co.released then s.seq.release else some ⟨p.mode, p.c, p.coilTarget⟩ := by
  obtain ⟨u, hu⟩ : ∃ u : State, u =
    { s with co := { s.co with phase := .closing }, todo := { s.todo with holdReport := false } } := ⟨_, rfl⟩
  obtain ⟨w, hw⟩ : ∃ w, (if u.co.released then u else releasePlan p u) = w := ⟨_, rfl⟩
  obtain ⟨v, hv⟩ := requestClosings_drive p w
  have hend : endBlower p s = tellPhase { w with drive := v } := by
    rw [← hv, ← hw, hu]
    rfl
  rw [hend]
  show w.co.phase = _ ∧ w.co.released = _ ∧ w.todo.holdReport = _ ∧ w.seq.release = _
  have hrel : u.co.released = s.co.released := by rw [hu]
  rw [← hw, hrel]
  split
  next h =>
    rw [hu]
    exact ⟨rfl, h, rfl, rfl⟩
  next =>
    obtain ⟨r, hr, haside⟩ := releasePlan_aside p u
    have hco := haside.co
    have htodo := congrArg Todo.holdReport haside.todo
    rw [hu] at hco htodo
    rw [hu]
    rw [hu] at haside
    exact ⟨congrArg Changeover.phase hco, congrArg Changeover.released hco, htodo, haside.release.trans hr⟩

/-- Settles O45: each phase by the condition that ends it, with what the controller does at its end. -/
theorem changeoverPhasesEnd : Obligations.ChangeoverPhasesEnd := by
  unfold Obligations.ChangeoverPhasesEnd
  intro s p released
  refine ⟨fun hd => if_pos hd, fun hd hp => ?_, fun hi hp => ?_, fun hp hh cold => ?_, fun hi hp htodo hheld htest hq => ?_,
    endBlower_parts p s, fun hi hp => ?_, fun hgoal hpath => ?_⟩
  · have hon : handOn p s = openPhase p { s with co := { s.co with reapply := false } } := by
      unfold handOn takePlan
      rw [hd, if_neg Bool.false_ne_true, if_pos hp]
    rw [hon]
    exact (openPhase_begins p { s with co := { s.co with reapply := false } }).1
  · intro done t
    have ht : t = if openDone p { s with todo := { s.todo with phaseCheck := false } } then
        endOpen p { s with todo := { s.todo with phaseCheck := false } }
      else { s with todo := { s.todo with phaseCheck := false } } := by
      show phaseStep s = _
      unfold phaseStep
      dsimp only
      rw [hi, hp]
    have hdone : openDone p { s with todo := { s.todo with phaseCheck := false } } = true ↔ done := openDone_iff p _
    refine ⟨fun h => ?_, fun h hq hpath => ?_, fun h hq => ?_⟩
    · rw [ht, if_neg fun h' => h (hdone.mp h')]
      exact ⟨rfl, rfl⟩
    · have hend : endOpen p { s with todo := { s.todo with phaseCheck := false } } =
          requestPass { s with todo := { s.todo with phaseCheck := false } } := if_pos ⟨hq, hpath⟩
      rw [ht, if_pos (hdone.mpr h), hend]
      exact ⟨rfl, rfl, rfl⟩
    · have hno : ¬(p.q ≠ 0 ∧ s.drive.airPath = false) := fun ⟨h1, h2⟩ => hq.elim h1 fun h3 => Bool.noConfusion (h2.symm.trans h3)
      have hend : endOpen p { s with todo := { s.todo with phaseCheck := false } } =
          giveBlower p.q { s with todo := { s.todo with phaseCheck := false }, co := { s.co with phase := .blower } } :=
        (if_neg hno).trans (if_neg hno)
      rw [ht, if_pos (hdone.mpr h), hend]
      exact ⟨rfl, rfl⟩
  · unfold addHold
    rw [if_pos ⟨hp, hh⟩]
  · intro done
    obtain ⟨hyes, hnot⟩ := microStep_blower hi hp htodo hheld htest hq
    have hdone : blowerDone s = true ↔ done := blowerDone_iff s
    exact ⟨fun h => hyes (hdone.mpr h), fun h => hnot (Bool.eq_false_iff.mpr fun h' => h (hdone.mp h'))⟩
  · intro done t
    have ht : t = if closeDone p { s with todo := { s.todo with phaseCheck := false } } then
        endClose p { s with todo := { s.todo with phaseCheck := false } }
      else { s with todo := { s.todo with phaseCheck := false } } := by
      show phaseStep s = _
      unfold phaseStep
      dsimp only
      rw [hi, hp]
    have hdone : closeDone p { s with todo := { s.todo with phaseCheck := false } } = true ↔ done := closeDone_iff p _
    refine ⟨fun h => ?_, fun h => ?_⟩
    · rw [ht, if_neg fun h' => h (hdone.mp h')]
    · rw [ht, if_pos (hdone.mpr h)]
      unfold endClose
      exact ⟨finishUnconfigure_co p _, fun z hz hrole => finishUnconfigure_unused hz hrole⟩
  · have hguard : airGuard s = blowerGuard s := if_pos ⟨hgoal, hpath⟩
    have hretry : (s.blower.leavePause s.now).retryFrom = none := by
      unfold Blower.leavePause
      split
      · rfl
      next h => simpa using h
    rw [hguard]
    exact ⟨rfl, rfl, rfl, rfl, hretry, rfl, rfl, rfl, rfl⟩

end Sys2Proof.Machine
end

section
/-! What a superseding plan makes of the drive, damper by damper (04 R76): old intent removed, and wider openings asked for. -/

namespace Sys2Proof.Machine

/-! ### One damper in a sweep over all -/

/-- Two drives that are alike for one damper. -/
structure Drive.SameAt (d : ZoneId) (v w : Drive) : Prop where
  damper : w.dampers.get d = v.dampers.get d
  entries : w.entriesOf d = v.entriesOf d
  slot1 : w.slot1 = v.slot1
  slot2 : w.slot2 = v.slot2

theorem Drive.SameAt.refl (d : ZoneId) (v : Drive) : v.SameAt d v := ⟨rfl, rfl, rfl, rfl⟩

theorem Drive.SameAt.trans {d : ZoneId} {u v w : Drive} (h : u.SameAt d v) (h' : v.SameAt d w) : u.SameAt d w :=
  ⟨h'.damper.trans h.damper, h'.entries.trans h.entries, h'.slot1.trans h.slot1, h'.slot2.trans h.slot2⟩

theorem Drive.SameAt.entryOf {d : ZoneId} {v w : Drive} (h : v.SameAt d w) : w.entryOf d = v.entryOf d := by
  rw [Drive.entryOf_eq, Drive.entryOf_eq, h.entries]

theorem Drive.SameAt.slotOf {d : ZoneId} {v w : Drive} (h : v.SameAt d w) : w.slotOf d = v.slotOf d := by
  unfold Drive.slotOf
  rw [h.slot1, h.slot2]

theorem Drive.Asks.sameAt {d x : ZoneId} {v w : Drive} (h : v.Asks d w) (hx : x ≠ d) : v.SameAt x w :=
  ⟨(h.others x hx).1, (h.others x hx).2, h.slot1, h.slot2⟩

/-- A step for one damper: of all the state it changes the drive, and of the drive that damper and its entry. -/
def AsksOne (f : State → ZoneId → State) : Prop := ∀ s z, ∃ w, f s z = { s with drive := w } ∧ s.drive.Asks z w

theorem AsksOne.others {f : State → ZoneId → State} (hf : AsksOne f) {d : ZoneId} (l : List ZoneId) (hl : d ∉ l) (s : State) :
    ∃ v, l.foldl f s = { s with drive := v } ∧ s.drive.SameAt d v := by
  induction l generalizing s with
  | nil => exact ⟨s.drive, rfl, .refl _ _⟩
  | cons z l ih =>
    obtain ⟨hz, hl⟩ := not_or.mp fun h => hl (List.mem_cons.mpr h)
    obtain ⟨w, hw, hasks⟩ := hf s z
    obtain ⟨v, hv, hsame⟩ := ih hl (f s z)
    rw [hw] at hsame
    refine ⟨v, hv.trans ?_, (hasks.sameAt hz).trans hsame⟩
    rw [hw]

/-- A sweep over all dampers does to one what its own step does. -/
theorem AsksOne.sweep {f : State → ZoneId → State} (hf : AsksOne f) (d : ZoneId) (s : State) :
    ∃ v w u, s.drive.SameAt d v ∧ f { s with drive := v } d = { s with drive := w } ∧ w.SameAt d u ∧
      allZones.foldl f s = { s with drive := u } := by
  obtain ⟨before, after, hsplit⟩ := List.append_of_mem (mem_allZones d)
  have hnodup : allZones.Nodup := by decide
  rw [hsplit] at hnodup ⊢
  have hnot := (List.nodup_cons.mp (List.nodup_middle.mp hnodup)).1
  rw [List.mem_append, not_or] at hnot
  obtain ⟨v, hv, hsame⟩ := hf.others before hnot.1 s
  obtain ⟨w, hw, -⟩ := hf { s with drive := v } d
  obtain ⟨u, hu, hsame'⟩ := hf.others after hnot.2 { s with drive := w }
  refine ⟨v, w, u, hsame, hw, hsame', ?_⟩
  rw [List.foldl_append, List.foldl_cons, hv, hw]
  exact hu

/-! ### The steps of R76 -/

/-- Old intent removed for one damper. -/
def removeStep (p : Plan) (s : State) (d : ZoneId) : State :=
  if testOpens s d then s else clearInMotion d (adjustEntry p d s)

/-- The opening of one zone asked for where its damper is not committed as wide. -/
def openStep (p : Plan) (s : State) (z : ZoneId) : State :=
  if (s.drive.committed z).getD 0 < (p.zones.get z).opening then requestFor p z s else s

theorem removeStep_asks (p : Plan) : AsksOne (removeStep p) := fun s d => by
  have hadjust : ∃ w, adjustEntry p d s = { s with drive := w } ∧ s.drive.Asks d w := by
    unfold adjustEntry
    split
    · dsimp only
      split
      · exact ⟨_, rfl, Drive.asks_retarget _⟩
      · exact ⟨_, rfl, Drive.asks_withdrawMove⟩
    · exact ⟨s.drive, rfl, .refl _ _⟩
  obtain ⟨w, hw, hasks⟩ := hadjust
  unfold removeStep
  rw [hw]
  split
  · exact ⟨s.drive, rfl, .refl _ _⟩
  · unfold clearInMotion
    split
    · exact ⟨_, rfl, hasks.trans Drive.asks_clearFollowOn⟩
    · exact ⟨_, rfl, hasks.trans Drive.asks_clearFollowOn⟩
    · exact ⟨w, rfl, hasks⟩

theorem openStep_asks (p : Plan) : AsksOne (openStep p) := fun s z => by
  have hsame : ∃ w, s = { s with drive := w } ∧ s.drive.Asks z w := ⟨s.drive, rfl, .refl _ _⟩
  unfold openStep requestFor moveRequest
  split
  · split
    · split
      · exact ⟨_, rfl, Drive.asks_requestMove _⟩
      · exact hsame
    · exact hsame
  · exact hsame

/-- What a superseding plan does to one damper: old intent is removed, then its opening is asked for. -/
theorem supersede_at (p : Plan) (mark : Bool) (s : State) (d : ZoneId) : ∃ v w v' w',
    s.drive.SameAt d v ∧ removeStep p { s with drive := v } d = { s with drive := w } ∧ w.SameAt d v' ∧
      openStep p { opening p { s with co := { s.co with reapply := mark } } with drive := v' } d =
        { opening p { s with co := { s.co with reapply := mark } } with drive := w' } ∧
      w'.SameAt d (supersede p mark s).drive := by
  obtain ⟨v, w, u, hsame, hstep, hsame', hremove⟩ := (removeStep_asks p).sweep d s
  have hsup : supersede p mark s = openPhase p { s with drive := u, co := { s.co with reapply := mark } } := by
    have hrem : removeIntent p s = { s with drive := u } := hremove
    unfold supersede
    rw [hrem]
  obtain ⟨v', w', u', hopen, hostep, hopen', hall⟩ :=
    (openStep_asks p).sweep d (opening p { s with drive := u, co := { s.co with reapply := mark } })
  refine ⟨v, w, v', w', hsame, hstep, hsame'.trans hopen, hostep, ?_⟩
  have hdrive := (openPhase_begins p { s with drive := u, co := { s.co with reapply := mark } }).2.2.2
  have hreq : requestOpenings p (opening p { s with drive := u, co := { s.co with reapply := mark } }) =
      { opening p { s with drive := u, co := { s.co with reapply := mark } } with drive := u' } := hall
  rw [hsup, hdrive, hreq]
  exact hopen'

/-! ### The steps by the damper's motion -/

theorem Drive.committed_slot {v : Drive} {d : ZoneId} {x : Slot} (h : v.slotOf d = some x) :
    v.committed d = some (match x.what with | .move t => t | .home => 0) := by
  obtain ⟨_, what, _, _, _⟩ := x
  unfold Drive.committed
  rw [h]
  cases what <;> rfl

theorem Drive.committed_entry {v : Drive} {d : ZoneId} {u : Nat} (h : v.slotOf d = none) (he : v.entryOf d = some ⟨d, .move u⟩) :
    v.committed d = some u := by
  unfold Drive.committed
  rw [h, he]

theorem Drive.committed_idle {v : Drive} {d : ZoneId} (h : v.slotOf d = none) (he : v.entryOf d = none) :
    v.committed d = (v.dampers.get d).position := by
  unfold Drive.committed
  rw [h, he]

/-- An opening is asked for of the damper of an ACTIVE zone. -/
theorem openStep_asked {p : Plan} {s : State} {d : ZoneId} (hactive : stateOf s d = .active) (htest : s.op.testPhase = .idle)
    (hdriven : (p.zones.get d).role.driven = true) (hfault : (damperOf s d).motion ≠ .fault) (hhome : homeAhead s d = false)
    (hc : (s.drive.committed d).getD 0 < (p.zones.get d).opening) :
    openStep p s d = { s with drive := s.drive.requestMove d (p.zones.get d).opening } := by
  have htests : testOpens s d = false := by
    unfold testOpens
    rw [htest]
    rfl
  have hnot : inFault s d = false := decide_eq_false hfault
  unfold openStep requestFor
  rw [if_pos hc, hdriven, hnot, hhome, htests, if_pos (show (true && !false && !false && !false) = true from rfl), moveRequest_active hactive]

theorem openStep_behind_home {p : Plan} {s : State} {d : ZoneId} (hhome : homeAhead s d = true) : openStep p s d = s := by
  unfold openStep requestFor
  rw [hhome, Bool.not_true, Bool.and_false, Bool.false_and, if_neg Bool.false_ne_true, ite_self]

theorem openStep_committed {p : Plan} {s : State} {d : ZoneId} (hc : ¬(s.drive.committed d).getD 0 < (p.zones.get d).opening) :
    openStep p s d = s := if_neg hc

theorem removeStep_eq {p : Plan} {s : State} {d : ZoneId} (htest : s.op.testPhase = .idle) :
    removeStep p s d = clearInMotion d (adjustEntry p d s) := by
  refine if_neg ?_
  unfold testOpens
  rw [htest]
  exact Bool.false_ne_true

theorem adjustEntry_none {p : Plan} {s : State} {d : ZoneId} (he : s.drive.entryOf d = none) : adjustEntry p d s = s := by
  unfold adjustEntry
  rw [he]

theorem adjustEntry_move {p : Plan} {s : State} {d : ZoneId} {u n : Nat} (hdriven : (p.zones.get d).role.driven = true)
    (hfault : (damperOf s d).motion ≠ .fault) (he : s.drive.entryOf d = some ⟨d, .move u⟩) (hp : (damperOf s d).position = some n) :
    adjustEntry p d s =
      if n < (p.zones.get d).opening then { s with drive := s.drive.retarget d (.move (p.zones.get d).opening) }
      else { s with drive := (s.drive.unqueue d).onDamper d fun y => { y with motion := .idle } } := by
  have hnot : inFault s d = false := decide_eq_false hfault
  unfold adjustEntry Drive.withdrawMove
  rw [he]
  dsimp only
  rw [hdriven, hnot, hp]
  simp only [Option.getD_some, Bool.not_false, Bool.and_self, Bool.true_and, decide_eq_true_iff]

theorem clearInMotion_moving {s : State} {d : ZoneId} (h : (damperOf s d).motion = .moving ∨ (damperOf s d).motion = .homing) :
    clearInMotion d s = { s with drive := s.drive.clearFollowOn d } := by
  unfold clearInMotion
  rcases h with h | h <;> rw [h]

theorem clearInMotion_still {s : State} {d : ZoneId} (h : (damperOf s d).motion = .queued ∨ (damperOf s d).motion = .idle) :
    clearInMotion d s = s := by
  unfold clearInMotion
  rcases h with h | h <;> rw [h]

end Sys2Proof.Machine
end

section
/-! A changeover that is superseded, abandoned, restarted or held (04 R76 to R79). -/

namespace Sys2Proof.Machine

theorem takePlan_superseded {p : Plan} {s : State} (hp : s.co.phase ≠ .applied) : takePlan p s = supersede p false s := if_neg hp

/-- A plan taken begins OPEN, whether in APPLIED or in the course of a changeover. -/
theorem takePlan_begins (p : Plan) (s : State) : Begins s (takePlan p s) p false ∧ (takePlan p s).co.held = s.co.held := by
  by_cases hp : s.co.phase = .applied
  · have htake : takePlan p s = openPhase p { s with co := { s.co with reapply := false } } := if_pos hp
    obtain ⟨hbegins, hheld, -⟩ := openPhase_begins p { s with co := { s.co with reapply := false } }
    rw [htake]
    exact ⟨hbegins, hheld⟩
  · obtain ⟨hbegins, hheld, -⟩ := supersede_begins p false s
    rw [takePlan_superseded hp]
    exact ⟨hbegins, hheld⟩

theorem supersede_slots (p : Plan) (mark : Bool) (s : State) :
    (supersede p mark s).drive.slot1 = s.drive.slot1 ∧ (supersede p mark s).drive.slot2 = s.drive.slot2 := by
  obtain ⟨v, w, v', w', hv, hremove, hw, hopen, hw'⟩ := supersede_at p mark s 0
  obtain ⟨x, hx, hasks⟩ := removeStep_asks p { s with drive := v } 0
  obtain ⟨y, hy, hasks'⟩ := openStep_asks p { opening p { s with co := { s.co with reapply := mark } } with drive := v' } 0
  obtain rfl : x = w := congrArg State.drive (hx.symm.trans hremove)
  obtain rfl : y = w' := congrArg State.drive (hy.symm.trans hopen)
  exact ⟨hw'.slot1.trans (hasks'.slot1.trans (hw.slot1.trans (hasks.slot1.trans hv.slot1))),
    hw'.slot2.trans (hasks'.slot2.trans (hw.slot2.trans (hasks.slot2.trans hv.slot2)))⟩

/-! ### One damper of an ACTIVE zone that the new plan opens -/

section
variable {p : Plan} {mark : Bool} {s : State} {d : ZoneId}

/-- A queued MOVE is retargeted to a wider opening, and withdrawn otherwise. -/
theorem supersede_queued {n u : Nat} (htest : s.op.testPhase = .idle) (hdriven : (p.zones.get d).role.driven = true)
    (hm : (damperOf s d).motion = .queued) (hs : s.drive.slotOf d = none) (he : s.drive.entryOf d = some ⟨d, .move u⟩)
    (hp : (damperOf s d).position = some n) :
    let t := supersede p mark s
    (n < (p.zones.get d).opening →
      t.drive.entryOf d = some ⟨d, .move (p.zones.get d).opening⟩ ∧ damperOf t d = damperOf s d) ∧
      ((p.zones.get d).opening ≤ n → t.drive.entryOf d = none ∧ damperOf t d = { damperOf s d with motion := .idle }) := by
  intro t
  obtain ⟨v, w, v', w', hv, hremove, hw, hopen, hw'⟩ := supersede_at p mark s d
  have hdamper : damperOf { s with drive := v } d = damperOf s d := hv.damper
  rw [removeStep_eq (s := { s with drive := v }) htest, adjustEntry_move (s := { s with drive := v }) hdriven
    (by rw [hdamper, hm]; decide) (hv.entryOf.trans he) (by rw [hdamper, hp])] at hremove
  refine ⟨fun hlt => ?_, fun hle => ?_⟩
  · rw [if_pos hlt, clearInMotion_still (.inl (hdamper.symm ▸ hm))] at hremove
    obtain rfl : v.retarget d (.move (p.zones.get d).opening) = w := congrArg State.drive hremove
    have hentry : v'.entryOf d = some ⟨d, .move (p.zones.get d).opening⟩ := by
      rw [hw.entryOf, Drive.entryOf_eq, Drive.retarget_entriesOf, if_pos rfl, List.head?_map, ← Drive.entryOf_eq, hv.entryOf, he]
      rfl
    have hslot : v'.slotOf d = none := hw.slotOf.trans (hv.slotOf.trans hs)
    rw [openStep_committed (by rw [Drive.committed_entry hslot hentry]; exact lt_irrefl _)] at hopen
    obtain rfl : v' = w' := congrArg State.drive hopen
    exact ⟨hw'.entryOf.trans hentry, hw'.damper.trans (hw.damper.trans hv.damper)⟩
  · rw [if_neg (Nat.not_lt.mpr hle), clearInMotion_still
      (s := { s with drive := (v.unqueue d).onDamper d fun y => { y with motion := .idle } }) (.inr
      (congrArg Damper.motion (Drive.onDamper_get_same (v := v.unqueue d) (d := d) fun y => { y with motion := .idle })))] at hremove
    obtain rfl : (v.unqueue d).onDamper d (fun y => { y with motion := .idle }) = w := congrArg State.drive hremove
    have hget : v'.dampers.get d = { damperOf s d with motion := .idle } := by
      refine hw.damper.trans ?_
      rw [Drive.onDamper_get_same, Drive.unqueue_dampers, hv.damper]
      rfl
    have hentry : v'.entryOf d = none := by
      rw [hw.entryOf, Drive.entryOf_eq]
      show ((v.unqueue d).entriesOf d).head? = _
      rw [Drive.unqueue_entriesOf, if_pos rfl]
      rfl
    have hslot : v'.slotOf d = none := hw.slotOf.trans (hv.slotOf.trans hs)
    have hcom : v'.committed d = some n := by
      rw [Drive.committed_idle hslot hentry, hget]
      exact hp
    rw [openStep_committed (by rw [hcom]; exact Nat.not_lt.mpr hle)] at hopen
    obtain rfl : v' = w' := congrArg State.drive hopen
    exact ⟨hw'.entryOf.trans hentry, hw'.damper.trans hget⟩

/-- A damper in motion: its follow-on target is cleared, and set to the opening where its MOVE ends below it. -/
theorem supersede_moving {slot : Slot} {u : Nat} (hactive : stateOf s d = .active) (htest : s.op.testPhase = .idle)
    (hdriven : (p.zones.get d).role.driven = true) (hm : (damperOf s d).motion = .moving) (hs : s.drive.slotOf d = some slot)
    (hw : slot.what = .move u) (he : s.drive.entryOf d = none) :
    damperOf (supersede p mark s) d =
      { damperOf s d with
        followOn :=
          if u < (p.zones.get d).opening then .target (p.zones.get d).opening
          else if (damperOf s d).followOn = .home then .home else .nothing } := by
  obtain ⟨v, w, v', w', hv, hremove, hsame, hopen, hw'⟩ := supersede_at p mark s d
  rw [removeStep_eq (s := { s with drive := v }) htest, adjustEntry_none (s := { s with drive := v }) (hv.entryOf.trans he),
    clearInMotion_moving (s := { s with drive := v }) (.inl ((congrArg Damper.motion hv.damper).trans hm))] at hremove
  obtain rfl : v.clearFollowOn d = w := congrArg State.drive hremove
  have hget : v'.dampers.get d =
      { damperOf s d with followOn := if (damperOf s d).followOn = .home then .home else .nothing } := by
    refine hsame.damper.trans ?_
    unfold Drive.clearFollowOn
    rw [Drive.onDamper_get_same, hv.damper]
    rfl
  have hslot : v'.slotOf d = some slot := hsame.slotOf.trans (hv.slotOf.trans hs)
  have hcom : v'.committed d = some u := by rw [Drive.committed_slot hslot, hw]
  refine hw'.damper.trans ?_
  by_cases hlt : u < (p.zones.get d).opening
  · have hhome : homeAhead { opening p { s with co := { s.co with reapply := mark } } with drive := v' } d = false := by
      unfold homeAhead
      dsimp only
      obtain ⟨_, _, _, _, _⟩ := slot
      cases hw
      rw [hslot]
    rw [openStep_asked (s := { opening p { s with co := { s.co with reapply := mark } } with drive := v' }) hactive htest hdriven
      (by show (v'.dampers.get d).motion ≠ _; rw [hget, show ({ damperOf s d with followOn := _ } : Damper).motion = _ from hm]; decide)
      hhome (by rw [hcom]; exact hlt)] at hopen
    obtain rfl : v'.requestMove d (p.zones.get d).opening = w' := congrArg State.drive hopen
    rw [Drive.requestMove_moving (by rw [hget]; exact hm) hslot hw, Drive.onDamper_get_same, hget, if_pos hlt,
      if_neg (Nat.ne_of_gt hlt)]
  · rw [openStep_committed (by rw [hcom]; exact hlt)] at hopen
    obtain rfl : v' = w' := congrArg State.drive hopen
    rw [hget, if_neg hlt]

/-- A homing damper: its follow-on target is cleared, and nothing is asked of it. -/
theorem supersede_homing {slot : Slot} (htest : s.op.testPhase = .idle) (hm : (damperOf s d).motion = .homing)
    (hs : s.drive.slotOf d = some slot) (hw : slot.what = .home) (he : s.drive.entryOf d = none) :
    damperOf (supersede p mark s) d =
      { damperOf s d with followOn := if (damperOf s d).followOn = .home then .home else .nothing } := by
  obtain ⟨v, w, v', w', hv, hremove, hsame, hopen, hw'⟩ := supersede_at p mark s d
  rw [removeStep_eq (s := { s with drive := v }) htest, adjustEntry_none (s := { s with drive := v }) (hv.entryOf.trans he),
    clearInMotion_moving (s := { s with drive := v }) (.inr ((congrArg Damper.motion hv.damper).trans hm))] at hremove
  obtain rfl : v.clearFollowOn d = w := congrArg State.drive hremove
  have hslot : v'.slotOf d = some slot := hsame.slotOf.trans (hv.slotOf.trans hs)
  have hhome : homeAhead { opening p { s with co := { s.co with reapply := mark } } with drive := v' } d = true := by
    unfold homeAhead
    dsimp only
    obtain ⟨_, _, _, _, _⟩ := slot
    cases hw
    rw [hslot]
  rw [openStep_behind_home hhome] at hopen
  obtain rfl : v' = w' := congrArg State.drive hopen
  refine hw'.damper.trans (hsame.damper.trans ?_)
  unfold Drive.clearFollowOn
  rw [Drive.onDamper_get_same, hv.damper]
  rfl

/-- An idle damper below its opening is queued for it. -/
theorem supersede_idle {n : Nat} (hactive : stateOf s d = .active) (htest : s.op.testPhase = .idle)
    (hdriven : (p.zones.get d).role.driven = true) (hm : (damperOf s d).motion = .idle) (hs : s.drive.slotOf d = none)
    (he : s.drive.entryOf d = none) (hp : (damperOf s d).position = some n) :
    let t := supersede p mark s
    (n < (p.zones.get d).opening →
      t.drive.entryOf d = some ⟨d, .move (p.zones.get d).opening⟩ ∧ damperOf t d = { damperOf s d with motion := .queued }) ∧
      ((p.zones.get d).opening ≤ n → t.drive.entryOf d = none ∧ damperOf t d = damperOf s d) := by
  intro t
  obtain ⟨v, w, v', w', hv, hremove, hsame, hopen, hw'⟩ := supersede_at p mark s d
  rw [removeStep_eq (s := { s with drive := v }) htest, adjustEntry_none (s := { s with drive := v }) (hv.entryOf.trans he),
    clearInMotion_still (s := { s with drive := v }) (.inr ((congrArg Damper.motion hv.damper).trans hm))] at hremove
  obtain rfl : v = w := congrArg State.drive hremove
  have hget : v'.dampers.get d = damperOf s d := hsame.damper.trans hv.damper
  have hslot : v'.slotOf d = none := hsame.slotOf.trans (hv.slotOf.trans hs)
  have hentry : v'.entryOf d = none := hsame.entryOf.trans (hv.entryOf.trans he)
  have hcom : v'.committed d = some n := by
    rw [Drive.committed_idle hslot hentry, hget]
    exact hp
  refine ⟨fun hlt => ?_, fun hle => ?_⟩
  · have hhome : homeAhead { opening p { s with co := { s.co with reapply := mark } } with drive := v' } d = false := by
      unfold homeAhead
      dsimp only
      rw [hslot, hentry]
    rw [openStep_asked (s := { opening p { s with co := { s.co with reapply := mark } } with drive := v' }) hactive htest hdriven
      (by show (v'.dampers.get d).motion ≠ _; rw [hget, hm]; decide) hhome (by rw [hcom]; exact hlt)] at hopen
    obtain rfl : v'.requestMove d (p.zones.get d).opening = w' := congrArg State.drive hopen
    have happend := Drive.requestMove_elsewhere (v := v') (by rw [hget]; exact hm) (by rw [hget]; exact hp) (Nat.ne_of_lt hlt)
    rw [happend] at hw'
    refine ⟨?_, ?_⟩
    · rw [hw'.entryOf, Drive.entryOf_eq, Drive.append_entriesOf, if_pos rfl, Drive.entriesOf_nil.mpr hentry]
      rfl
    · exact hw'.damper.trans ((Drive.append_get _).trans (by rw [hget]))
  · rw [openStep_committed (by rw [hcom]; exact Nat.not_lt.mpr hle)] at hopen
    obtain rfl : v' = w' := congrArg State.drive hopen
    exact ⟨hw'.entryOf.trans hentry, hw'.damper.trans hget⟩

end

/-! ### A damper that faults -/

theorem faultDamper_parts (d : ZoneId) (s : State) :
    let t := faultDamper d s
    let leaves := (stateOf s d = .active ∨ stateOf s d = .parked) ∧ (s.zst.get d).unconf = true
    (¬leaves → (damperOf t d).motion = .fault) ∧
      (leaves → stateOf t d = .unused ∧ damperOf t d = ⟨none, .idle, .nothing, 0⟩ ∧ d ∈ t.drive.passedOver) ∧
      t.todo.faulted = s.todo.faulted ++ [d] := by
  intro t leaves
  by_cases hs : stateOf s d = .active ∨ stateOf s d = .parked
  · cases hu : (s.zst.get d).unconf with
    | false =>
      obtain ⟨p, hp⟩ := faultDamper_stays hs hu
      have hno : ¬leaves := fun h => Bool.noConfusion (hu.symm.trans h.2)
      have ht : t = _ := hp
      rw [ht]
      refine ⟨fun _ => ?_, fun h => absurd h hno, rfl⟩
      show ((s.drive.fault d).dampers.get d).motion = _
      rw [Drive.fault_get, if_pos rfl]
    | true =>
      obtain ⟨p, hp⟩ := faultDamper_leaves hs hu
      have ht : t = _ := hp
      rw [ht]
      refine ⟨fun h => absurd ⟨hs, hu⟩ h, fun _ => ⟨?_, ?_, ?_⟩, rfl⟩
      · show ((s.zst.set d ⟨.unused, false⟩).get d).state = _
        rw [Eight.get_set, if_pos rfl]
      · show ((s.drive.fault d).withdrawAll d).dampers.get d = _
        rw [Drive.withdrawAll_eq]
        refine (Eight.get_modify_same ..).trans ?_
        rw [Drive.fault_get, if_pos rfl]
        rfl
      · show d ∈ ((s.drive.fault d).withdrawAll d).passedOver
        rw [Drive.withdrawAll_eq, Drive.fault_get, if_pos rfl]
        exact List.mem_append_right _ (List.mem_singleton.mpr rfl)
  · have hother : t =
        { s with drive := s.drive.fault d, todo := { s.todo with faulted := s.todo.faulted ++ [d], phaseCheck := true } } := by
      show faultDamper d s = _
      unfold faultDamper
      dsimp only
      cases hst : stateOf s d with
      | active => exact absurd (.inl hst) hs
      | parked => exact absurd (.inr hst) hs
      | _ => rw [show stateOf { s with
          drive := s.drive.fault d, todo := { s.todo with faulted := s.todo.faulted ++ [d], phaseCheck := true } } d = _ from hst]
    rw [hother]
    refine ⟨fun _ => ?_, fun h => absurd h.1 hs, rfl⟩
    show ((s.drive.fault d).dampers.get d).motion = _
    rw [Drive.fault_get, if_pos rfl]

/-- Settles O46: each way OPEN begins again, with what R76 does to each damper. -/
theorem changeoverIsSuperseded : Obligations.ChangeoverIsSuperseded := by
  unfold Obligations.ChangeoverIsSuperseded
  intro s p begins
  refine ⟨fun hp => ?_, fun d => faultDamper_parts d s, fun d rest hf => ?_, fun d => ⟨fun hi hp hr hrole => ?_, fun h => ?_⟩,
    fun hf hr => ?_, fun hi => ?_, fun hi => ?_, fun hh hd => ?_⟩
  · intro t
    obtain ⟨hbegins, hheld⟩ := takePlan_begins p s
    obtain ⟨hslot1, hslot2⟩ := supersede_slots p false s
    have ht : t = supersede p false s := takePlan_superseded hp
    have hdriven : ∀ d, (p.zones.get d).role = .calling ∨ (p.zones.get d).role = .relief → (p.zones.get d).role.driven = true :=
      fun d h => by rcases h with h | h <;> rw [h] <;> rfl
    refine ⟨hbegins, hheld, by rw [ht]; exact hslot1, by rw [ht]; exact hslot2, ?_⟩
    intro d x o role cleared hactive htest hrole
    rw [ht]
    exact ⟨fun n u hm hs he hpos => supersede_queued htest (hdriven d hrole) hm hs he hpos,
      fun slot u hm hs hw he => supersede_moving hactive htest (hdriven d hrole) hm hs hw he,
      fun slot hm hs hw he => supersede_homing htest hm hs hw he,
      fun n hm hs he hpos => supersede_idle hactive htest (hdriven d hrole) hm hs he hpos⟩
  · unfold microStep
    rw [hf]
  · have habandon : abandonFor d s = supersede s.co.applied true (requestPass s) := by
      unfold abandonFor
      rw [hi]
      exact if_pos ⟨hp, hr, hrole⟩
    obtain ⟨hbegins, -, hearly⟩ := supersede_begins s.co.applied true (requestPass s)
    rw [habandon]
    exact ⟨hbegins, hearly rfl⟩
  · unfold abandonFor
    split
    next q hq =>
      refine if_neg ?_
      rintro ⟨hphase, hmark, hrole⟩
      rcases h with h | h | h | ⟨h, h'⟩
      · exact nomatch h.symm.trans hq
      · exact hphase h
      · exact nomatch hmark.symm.trans h
      · exact hrole (Option.some.inj (hq.symm.trans h) ▸ h')
    next => rfl
  · unfold microStep
    rw [hf]
    exact if_pos hr
  · have hrestart : restartChangeover s = openPhase p s := by
      unfold restartChangeover
      rw [hi]
    rw [hrestart]
    exact (openPhase_begins p s).1
  · have hrestart : restartChangeover s = supersede s.co.applied true s := by
      unfold restartChangeover
      rw [hi]
    rw [hrestart]
    exact (supersede_begins _ _ s).1
  · have htake : takeHeld s = takePlan p { s with co := { s.co with held := none } } := by
      unfold takeHeld
      rw [hh]
    obtain ⟨hbegins, hheld⟩ := takePlan_begins p { s with co := { s.co with held := none } }
    rw [htake]
    refine ⟨hbegins, hheld, fun hf hr => ?_⟩
    rw [← htake]
    unfold microStep
    rw [hf, hr, hh, hd]
    rfl

end Sys2Proof.Machine
end

section
/-! Consequences lose no early-pass request and begin no poll; how a command ends whose consequences are worked off (02 R22, 01 R18). -/

namespace Sys2Proof.Machine

/-- An early-pass request is not lost, and no poll begins. -/
structure Alert (s t : State) : Prop where
  early : s.eval.early = true → t.eval.early = true
  poll : s.sens.poll = none → t.sens.poll = none

theorem Alert.refl (s : State) : Alert s s := ⟨id, id⟩

theorem Alert.trans {s t u : State} (h : Alert s t) (h' : Alert t u) : Alert s u := ⟨fun x => h'.early (h.early x), fun x => h'.poll (h.poll x)⟩

theorem Alert.of_drive {s : State} {v : Drive} : Alert s { s with drive := v } := ⟨id, id⟩

theorem Aside.alert {s t : State} (h : Aside s t) : Alert s t := ⟨h.early, fun x => by rw [h.sens]; exact x⟩

theorem releasePlan_alert (p : Plan) (s : State) : Alert s (releasePlan p s) := by
  obtain ⟨r, -, haside⟩ := releasePlan_aside p s
  exact .trans (t := { s with co := { s.co with released := true }, seq := r }) ⟨id, id⟩ haside.alert

theorem openPhase_alert (p : Plan) (s : State) : Alert s (openPhase p s) := by
  obtain ⟨v, -, hlow, hhigh⟩ := openPhase_parts p s
  by_cases hc : p.c ≤ commanded s
  · rw [hlow hc]
    have hrel := releasePlan_alert p { opening p s with drive := v }
    exact ⟨hrel.early, hrel.poll⟩
  · rw [hhigh (Nat.not_le.mp hc)]
    exact ⟨id, id⟩

theorem supersede_alert (p : Plan) (mark : Bool) (s : State) : Alert s (supersede p mark s) := by
  obtain ⟨v, hv⟩ := removeIntent_drive p s
  have hopen := openPhase_alert p { s with drive := v, co := { s.co with reapply := mark } }
  unfold supersede
  rw [hv]
  exact ⟨hopen.early, hopen.poll⟩

theorem takePlan_alert (p : Plan) (s : State) : Alert s (takePlan p s) := by
  unfold takePlan
  split
  · have hopen := openPhase_alert p { s with co := { s.co with reapply := false } }
    exact ⟨hopen.early, hopen.poll⟩
  · exact supersede_alert p false s

theorem abandonFor_alert (d : ZoneId) (s : State) : Alert s (abandonFor d s) := by
  unfold abandonFor
  split
  · split
    · exact .trans (t := requestPass s) ⟨fun _ => rfl, id⟩ (supersede_alert _ true _)
    · exact .refl s
  · exact .refl s

theorem restartChangeover_alert (s : State) : Alert s (restartChangeover s) := by
  unfold restartChangeover
  split
  · exact openPhase_alert _ s
  · exact supersede_alert _ true s

theorem takeHeld_alert (s : State) : Alert s (takeHeld s) := by
  unfold takeHeld
  split
  next p _ =>
    have htake := takePlan_alert p { s with co := { s.co with held := none } }
    exact ⟨htake.early, htake.poll⟩
  next => exact .refl s

theorem releaseZone_alert (z : ZoneId) (s : State) : Alert s (releaseZone z s) := by
  obtain ⟨p, hp⟩ := releaseZone_eq z s
  rw [hp]
  refine ⟨fun _ => rfl, fun hn => ?_⟩
  show polledOff z s.sens.poll = none
  rw [hn]
  rfl

theorem faultDamper_alert (d : ZoneId) (s : State) : Alert s (faultDamper d s) := by
  obtain ⟨u, hu⟩ : ∃ u : State, u = { s with
    drive := s.drive.fault d, todo := { s.todo with faulted := s.todo.faulted ++ [d], phaseCheck := true } } := ⟨_, rfl⟩
  have hto : Alert s u := by
    rw [hu]
    exact ⟨id, id⟩
  have hmark : Alert u (requestPass (setZoneState d .fault u)) := ⟨fun _ => rfl, id⟩
  have hleave : Alert u (if ((requestPass (setZoneState d .fault u)).zst.get d).unconf then
      releaseZone d (requestPass (setZoneState d .fault u)) else requestPass (setZoneState d .fault u)) := by
    split
    · exact hmark.trans (releaseZone_alert _ _)
    · exact hmark
  unfold faultDamper
  dsimp only
  rw [← hu]
  split
  · exact hto.trans hleave
  · exact hto.trans hleave
  · exact hto

theorem grantOne_alert (s : State) : Alert s (grantOne s) := by
  unfold grantOne
  split
  · exact .refl s
  · dsimp only
    split
    · exact .trans .of_drive ((faultDamper_alert _ _).trans (aside_airGuard _).alert)
    · exact .trans .of_drive (.trans .of_drive (aside_airGuard _).alert)

theorem finishUnconfigure_alert (p : Plan) (s : State) : Alert s (finishUnconfigure p s) := by
  have hfold : ∀ (l : List ZoneId) (s : State), Alert s (l.foldl
      (fun s z => if (s.zst.get z).unconf && decide ((p.zones.get z).role = .closed) then releaseZone z s else s) s) := by
    intro l
    induction l with
    | nil => exact fun s => .refl s
    | cons z l ih =>
      intro s
      refine .trans ?_ (ih _)
      dsimp only
      split
      · exact releaseZone_alert z s
      · exact .refl s
  exact hfold _ _

theorem endOpen_alert (p : Plan) (s : State) : Alert s (endOpen p s) := by
  unfold endOpen
  split
  · exact ⟨fun _ => rfl, id⟩
  · unfold offerGoal
    split
    · exact ⟨fun _ => rfl, id⟩
    · exact ⟨id, id⟩

theorem endClose_alert (p : Plan) (s : State) : Alert s (endClose p s) := by
  unfold endClose
  refine .trans (t := raise (.plan p) { s with co :=
    { s.co with applied := p, incoming := none, phase := .applied, released := false, reapply := false } }) ⟨id, id⟩ ?_
  exact finishUnconfigure_alert p _

theorem phaseStep_alert (s : State) : Alert s (phaseStep s) := by
  obtain ⟨u, hu⟩ : ∃ u : State, u = { s with todo := { s.todo with phaseCheck := false } } := ⟨_, rfl⟩
  have hto : Alert s u := by
    rw [hu]
    exact ⟨id, id⟩
  unfold phaseStep
  rw [← hu]
  dsimp only
  split
  · exact hto
  · split
    · split
      · exact hto.trans (endOpen_alert _ u)
      · exact hto
    · split
      · exact hto.trans (endClose_alert _ u)
      · exact hto
    · exact hto

theorem endBlower_alert (p : Plan) (s : State) : Alert s (endBlower p s) := by
  obtain ⟨u, hu⟩ : ∃ u : State, u =
    { s with co := { s.co with phase := .closing }, todo := { s.todo with holdReport := false } } := ⟨_, rfl⟩
  obtain ⟨w, hw⟩ : ∃ w, (if u.co.released then u else releasePlan p u) = w := ⟨_, rfl⟩
  obtain ⟨v, hv⟩ := requestClosings_drive p w
  have hend : endBlower p s = tellPhase { w with drive := v } := by
    rw [← hv, ← hw, hu]
    rfl
  have hto : Alert s u := by
    rw [hu]
    exact ⟨id, id⟩
  have hrel : Alert u w := by
    rw [← hw]
    split
    · exact .refl u
    · exact releasePlan_alert p u
  have hall := hto.trans hrel
  rw [hend]
  exact ⟨hall.early, hall.poll⟩

theorem startCompressor_alert (s : State) : Alert s (startCompressor s) := by
  unfold startCompressor
  dsimp only
  split <;> exact ⟨id, id⟩

/-- A consequence outside STARTUP and the test phases, on a quiet line, loses no early-pass request and begins no poll. -/
theorem microStep_alert {s t : State} (h : microStep s = some t) (hs : s.op.state ≠ .startup) (hp : s.op.testPhase = .idle)
    (hq : lineQuiet s = true) : Alert s t := by
  have hno : startupDone s = false := by simp [startupDone, hs]
  have hleft : leftActive s = [] := leftActive_idle hp
  have hpre : preparingDone s = false := by simp [preparingDone, hp]
  have hopen : openingDone s = false := by simp [openingDone, hp]
  unfold microStep at h
  rw [hno, hleft, hpre, hopen] at h
  split at h
  next d rest _ =>
    obtain rfl := Option.some.inj h
    exact .trans (t := { s with todo := { s.todo with faulted := rest } }) ⟨id, id⟩ (abandonFor_alert d _)
  split at h
  · obtain rfl := Option.some.inj h
    exact .trans (t := { s with todo := { s.todo with restart := false } }) ⟨id, id⟩ (restartChangeover_alert _)
  split at h
  · obtain rfl := Option.some.inj h
    exact takeHeld_alert s
  dsimp only at h
  split at h
  · obtain rfl := Option.some.inj h
    exact grantOne_alert s
  split at h
  · obtain rfl := Option.some.inj h
    exact phaseStep_alert s
  split at h
  · rw [Option.map_eq_some_iff] at h
    obtain ⟨p, -, rfl⟩ := h
    exact endBlower_alert p s
  split at h
  · obtain rfl := Option.some.inj h
    rw [beginRound_quiet hq, roundBegun_eq]
    exact ⟨id, id⟩
  split at h
  · obtain rfl := Option.some.inj h
    exact startCompressor_alert s
  · simp at h

theorem settle_alert {s : State} (hs : s.op.state ≠ .startup) (hp : s.op.testPhase = .idle) (hq : lineQuiet s = true) (n : Nat) :
    Alert s (settle n s) := by
  refine (settle_keeps (P := fun t => Alert s t ∧ Follows s t) ?_ n s ⟨.refl s, .refl s⟩).1
  rintro t u hu ⟨halert, hfollow⟩
  have hop : t.op = s.op := congrArg Steady.op hfollow.rest
  have hlow : t.link.lowAt = s.link.lowAt := congrArg (fun k => k.link.lowAt) hfollow.rest
  have hnow : t.now = s.now := congrArg Steady.now hfollow.rest
  have hs' : t.op.state ≠ .startup := by rw [hop]; exact hs
  have hp' : t.op.testPhase = .idle := by rw [hop]; exact hp
  have hq' : lineQuiet t = true := by
    unfold lineQuiet at hq ⊢
    rw [hlow, hnow]
    exact hq
  exact ⟨halert.trans (microStep_alert hu hs' hp' hq'), hfollow.trans (microStep_follows hu hs' hp' hq')⟩

/-- No pass is due within 5 s of the last. -/
theorem passDue_soon {s : State} (h : ∃ p, s.eval.lastPass = some p ∧ s.now < p + 5000) : passDue s = false := by
  obtain ⟨p, hlast, hnow⟩ := h
  unfold passDue
  rw [hlast]
  simp only [decide_eq_false (Nat.not_le.mpr hnow), Bool.and_false]

/-- A command that ends soon after a pass takes none, whatever its consequences. -/
theorem finish_settles {s : State} (hs : s.op.state ≠ .startup) (hp : s.op.testPhase = .idle) (hq : lineQuiet s = true)
    (hpass : ∃ p, s.eval.lastPass = some p ∧ s.now < p + 5000) :
    ∃ t, finish s = sync t ∧ Follows s t ∧ Alert s t := by
  obtain ⟨p, hlast, hnow⟩ := hpass
  have hfollow := settle_follows hs hp hq settleFuel
  refine ⟨settle settleFuel s, ?_, hfollow, settle_alert hs hp hq settleFuel⟩
  have hdue : passDue (settle settleFuel s) = false := by
    have hlast' : (settle settleFuel s).eval.lastPass = some p := (congrArg Steady.lastPass hfollow.rest).trans hlast
    have hnow' : (settle settleFuel s).now = s.now := congrArg Steady.now hfollow.rest
    exact passDue_soon ⟨p, hlast', by rw [hnow']; exact hnow⟩
  unfold finish passStep
  rw [hdue]
  rfl

end Sys2Proof.Machine
end

section
/-! What wakes RESTING: a changed request, the host's writes, and a press (11 R163, R166, R167). -/

namespace Sys2Proof.Machine

/-- RESTING has been left for the state of a request, with the sweep at 10 s and an early pass, and a SLOW link is ACTIVE. -/
structure Wakes (s t : State) (r : OpRequest) : Prop where
  request : t.op.request = r
  state : t.op.state = opOf r
  early : t.eval.early = true
  slot : t.sens.nextSlot = 0
  slotAt : t.sens.nextSlotAt = s.now
  slotMs : t.sens.slotMs = 1250
  poll : t.sens.poll = none
  active : s.link.state = .slow → t.link.state = .active
  lost : s.link.state = .lost → t.link.state = .lost

/-- A state that a command has reached in RESTING before it wakes, as far as a wake looks at it. -/
structure Rests (s u : State) : Prop where
  state : u.op.state = .resting
  phase : u.op.testPhase = .idle
  now : u.now = s.now
  link : u.link = s.link
  lastPass : u.eval.lastPass = s.eval.lastPass

theorem wokenLink_state (now : Nat) (k : Link) : (wokenLink now k).lowAt = k.lowAt ∧
    (k.state = .slow → (wokenLink now k).state = .active) ∧ (k.state = .lost → (wokenLink now k).state = .lost) := by
  unfold wokenLink
  split
  next h => exact ⟨rfl, fun _ => rfl, fun h' => nomatch h.symm.trans h'⟩
  next h => exact ⟨rfl, fun h' => absurd h' h, id⟩

/-- A wake with a quiet line and a recent pass: what the command ends in. -/
theorem finish_wakes {s u : State} {o : Operating} {p : Port} (h : Rests s u) (hq : lineQuiet s = true)
    (hpass : ∃ p, s.eval.lastPass = some p ∧ s.now < p + 5000) (hstate : o.state = (wakeEvent u).op.state)
    (hrequest : o.request = u.op.request) (hphase : o.testPhase = .idle) :
    let t := finish { wakeEvent u with op := o, port := p }
    Wakes s t u.op.request ∧ t.op.button = o.button ∧ t.op.pressFrom = o.pressFrom := by
  obtain ⟨a, b, q, hw⟩ := wakeEvent_woken h.state
  obtain ⟨hlow, hactive, hlost⟩ := wokenLink_state u.now u.link
  have hstate' : o.state = opOf u.op.request := by rw [hstate, hw]
  rw [hw]
  intro t
  obtain ⟨v, hv, hfollow, halert⟩ := finish_settles (s :=
    { u with
      op := o, link := wokenLink u.now u.link
      sens := { u.sens with nextSlot := 0, nextSlotAt := u.now, slotMs := 1250, poll := none }
      eval := { u.eval with early := true }, port := p })
    (by show o.state ≠ _; rw [hstate']; exact opOf_ne_startup _) hphase
    (by unfold lineQuiet; dsimp only; rw [hlow, h.link, h.now]; exact hq)
    (by dsimp only; rw [h.lastPass, h.now]; exact hpass)
  have hop : v.op = o := congrArg Steady.op hfollow.rest
  have hlink : v.link.state = (wokenLink u.now u.link).state := congrArg (fun k => k.link.state) hfollow.rest
  have ht : t = sync v := hv
  rw [ht]
  refine ⟨⟨?_, ?_, ?_, ?_, ?_, ?_, ?_, fun hs => ?_, fun hs => ?_⟩, ?_, ?_⟩
  · rw [sync_op_request, hop, hrequest]
  · rw [sync_op_state, hop, hstate']
  · rw [sync_eval]
    exact halert.early rfl
  · rw [sync_sens]
    exact congrArg Steady.nextSlot hfollow.rest
  · rw [sync_sens]
    exact (congrArg Steady.nextSlotAt hfollow.rest).trans h.now
  · rw [sync_sens]
    exact congrArg Steady.slotMs hfollow.rest
  · rw [sync_sens]
    exact halert.poll rfl
  · rw [sync_link, hlink]
    exact hactive (by rw [h.link]; exact hs)
  · rw [sync_link, hlink]
    exact hlost (by rw [h.link]; exact hs)
  · rw [sync_op_button, hop]
  · rw [sync_op_pressFrom, hop]

/-- A write of the host in RESTING: it wakes under ON, and leaves RESTING under OFF. -/
theorem finish_written {s u : State} {p : Port} (h : Rests s u) (hrequest : u.op.request = s.op.request) (he : u.eval.early = true)
    (hq : lineQuiet s = true) (hpass : ∃ p, s.eval.lastPass = some p ∧ s.now < p + 5000) :
    let t := finish { wakeIfOn u with port := p }
    (s.op.request = .on → Wakes s t .on) ∧ (s.op.request = .off → t.op.state = .resting ∧ t.eval.early = true) := by
  intro t
  refine ⟨fun hon => ?_, fun hoff => ?_⟩
  · have hwake : wakeIfOn u = wakeEvent u := if_pos (hrequest.trans hon)
    obtain ⟨a, b, q, hw⟩ := wakeEvent_woken h.state
    have hphase : (wakeEvent u).op.testPhase = .idle := by
      rw [hw]
      exact h.phase
    have hreq : (wakeEvent u).op.request = u.op.request := by rw [hw]
    have hfin := (finish_wakes (o := (wakeEvent u).op) (p := p) h hq hpass rfl hreq hphase).1
    rw [hrequest, hon] at hfin
    have ht : t = finish { wakeEvent u with op := (wakeEvent u).op, port := p } := by
      show finish { wakeIfOn u with port := p } = _
      rw [hwake]
    rw [ht]
    exact hfin
  · have hwake : wakeIfOn u = u := if_neg (by rw [hrequest, hoff]; decide)
    obtain ⟨v, hv, hfollow, halert⟩ := finish_settles (s := { u with port := p })
      (by show u.op.state ≠ _; rw [h.state]; decide) h.phase
      (by unfold lineQuiet; dsimp only; rw [h.link, h.now]; exact hq)
      (by dsimp only; rw [h.lastPass, h.now]; exact hpass)
    have hop : v.op = u.op := congrArg Steady.op hfollow.rest
    have ht : t = sync v := by
      rw [← hv]
      show finish { wakeIfOn u with port := p } = _
      rw [hwake]
    rw [ht]
    exact ⟨by rw [sync_op_state, hop, h.state], by rw [sync_eval]; exact halert.early he⟩

/-! ### A changed request -/

/-- A changed request in RESTING is written and wakes. -/
theorem writeRequest_resting {s : State} {new : OpRequest} (hn : new ≠ s.op.request) (ho : s.op.state = .resting)
    (hd : s.seq.state.defrosting = false) (hw : s.seq.state ≠ .waitStart) (cause : StateCause) :
    ∃ q, writeRequest new cause s = wakeEvent
        { s with
          op := { s.op with request := new }, eval := { s.eval with early := true }
          store := saved { s with op := { s.op with request := new } }, seq := q } ∧
      (Runs s.seq.state = false → q.state = s.seq.state) ∧ q.minOffFrom = s.seq.minOffFrom := by
  obtain ⟨u, hu⟩ : ∃ u : State, u = { s with
    op := { s.op with request := new }, eval := { s.eval with early := true }
    store := saved { s with op := { s.op with request := new } } } := ⟨_, rfl⟩
  have hto : requestPass (autoSave { s with op := { s.op with request := new } }) = u := by
    rw [autoSave_eq, hu]
    rfl
  have hstate : u.op.state = .resting := by
    rw [hu]
    exact ho
  have hwake : ∀ t : State, t.op.state = .resting → (match t.op.state with
      | .off => changeOp (opOf new) cause t
      | .on => changeOp (opOf new) cause t
      | .resting => wake t
      | .startup => t
      | .test => t) = wakeEvent t := fun t ht => by
    unfold wakeEvent
    rw [ht]
    rfl
  unfold writeRequest
  rw [if_neg hn, hto]
  dsimp only
  by_cases hoff : new = .off
  · obtain ⟨a, ha⟩ := releaseOff_eq (s := u) (by rw [hu]; exact hd) (by rw [hu]; exact hw)
    rw [if_pos hoff]
    refine ⟨(releaseOff u).seq, (hwake _ (by rw [ha]; exact hstate)).trans ?_, fun hr => ?_, ?_⟩
    · rw [ha, hu]
    · rw [ha, hu]
      exact if_neg (Bool.eq_false_iff.mp hr)
    · rw [ha, hu]
  · rw [if_neg hoff]
    exact ⟨s.seq, (hwake u hstate).trans (by rw [hu]), fun _ => rfl, rfl⟩

end Sys2Proof.Machine
end

section
/-! The commands that wake RESTING (11 R163, R166, R167; 12 R174). -/

namespace Sys2Proof.Machine

/-- RESTING with nothing else going on, on a quiet line. -/
structure RestsCalm (s : State) : Prop where
  calm : Calm s
  state : s.op.state = .resting
  stopped : s.seq.state = .stopped
  quiet : lineQuiet s = true

section
variable {s : State}

theorem RestsCalm.recent (h : RestsCalm s) : ∃ p, s.eval.lastPass = some p ∧ s.now < p + 5000 := by
  obtain ⟨⟨-, -, -, -, -, -, -, hpass⟩, -⟩ := h.calm
  exact hpass

theorem RestsCalm.phase (h : RestsCalm s) : s.op.testPhase = .idle := by
  obtain ⟨⟨-, -, -, -, -, hphase, -⟩, -⟩ := h.calm
  exact hphase

/-- A SET_SYSTEM of another request wakes. -/
theorem RestsCalm.request_wakes (h : RestsCalm s) (hfree : s.port.service = none) {new : OpRequest} (hn : new ≠ s.op.request) :
    ∃ t, exec (.setSystem (byte new.code) 0xFE 0xFE) s = .next t ∧ Wakes s t new := by
  obtain ⟨r, hr⟩ : ∃ r, r = Request.setSystem (byte new.code) 0xFE 0xFE := ⟨_, rfl⟩
  have hperform := perform_setSystem (readsAs_request new) (readsAs_none policyOf) (readsAs_none frostOf)
    (toStage r .replying s) (fun h => nomatch h)
  have hexec : exec (.setSystem (byte new.code) 0xFE 0xFE) s = .next (finish (perform r (toStage r .replying s))) := by
    rw [hr]
    exact congrArg (fun t => Host.Outcome.next (finish t)) (offer_free hfree _)
  rw [← hr] at hperform
  rw [hperform] at hexec
  have hwrite := writeSystem_request new (toStage r .replying s)
  simp only [Option.getD_none] at hexec
  rw [hwrite] at hexec
  obtain ⟨a, b, c, d, hreq⟩ := hostRequest_notTest (s := toStage r .replying s) new
    (by show s.op.state ≠ .test; rw [h.state]; decide) h.phase
  obtain ⟨q, hwakes, -⟩ := writeRequest_resting (s := { toStage r .replying s with
      op := { s.op with idleFrom := a, idleDone := b, notice := c, noticeFrom := d } }) hn h.state
    (by show s.seq.state.defrosting = false; rw [h.stopped]; rfl) (by show s.seq.state ≠ _; rw [h.stopped]; decide) .request
  have hall := hreq.trans hwakes
  obtain ⟨v, hv⟩ : ∃ v : State, v =
    { toStage r .replying s with
      op := { s.op with idleFrom := a, idleDone := b, notice := c, noticeFrom := d, request := new }
      eval := { s.eval with early := true }
      store := saved { toStage r .replying s with
        op := { s.op with idleFrom := a, idleDone := b, notice := c, noticeFrom := d, request := new } }
      seq := q } := ⟨_, rfl⟩
  have hrests : Rests s v := by
    rw [hv]
    exact ⟨h.state, h.phase, rfl, rfl, rfl⟩
  have hto : hostRequest new (toStage r .replying s) = wakeEvent v := by
    rw [hv]
    exact hall
  rw [hto] at hexec
  obtain ⟨p, hp⟩ := accept_eq r (operatingBody (wakeEvent v)) (wakeEvent v)
  rw [hp] at hexec
  obtain ⟨x, y, z, hw⟩ := wakeEvent_woken hrests.state
  have hfin := (finish_wakes (o := (wakeEvent v).op) (p := p) hrests h.quiet h.recent rfl (by rw [hw])
    (by rw [hw]; exact hrests.phase)).1
  have hnew : v.op.request = new := by rw [hv]
  rw [hnew] at hfin
  exact ⟨_, hexec, hfin⟩

/-- A configuration write of the host wakes under ON, and leaves RESTING under OFF. -/
theorem RestsCalm.write_wakes (h : RestsCalm s) (hfree : s.port.service = none) {c : Instr} (hc : WakingWrite s c) :
    ∃ t, exec c s = .next t ∧ (s.op.request = .on → Wakes s t .on) ∧
      (s.op.request = .off → t.op.state = .resting ∧ t.eval.early = true) := by
  suffices key : ∃ u p, exec c s = .next (finish { wakeIfOn u with port := p }) ∧ Rests s u ∧ u.op.request = s.op.request ∧
      u.eval.early = true by
    obtain ⟨u, p, hexec, hrests, hrequest, hearly⟩ := key
    exact ⟨_, hexec, finish_written hrests hrequest hearly h.quiet h.recent⟩
  cases hc with
  | setZone z cool heat dry park =>
    obtain ⟨r, hr⟩ : ∃ r, r = Request.setZone (byte z.val) cool heat dry park := ⟨_, rfl⟩
    have hexec : exec (.setZone (byte z.val) cool heat dry park) s = .next (finish (perform r (toStage r .replying s))) := by
      rw [hr]
      exact congrArg (fun t => Host.Outcome.next (finish t)) (offer_free hfree _)
    have hdo : ∃ u p, perform r (toStage r .replying s) = { wakeIfOn u with port := p } ∧ Rests s u ∧
        u.op.request = s.op.request ∧ u.eval.early = true := by
      rw [hr]
      show ∃ u p, doSetZone _ _ _ _ _ _ = _ ∧ _
      unfold doSetZone
      simp only [zoneOf_byte]
      exact ⟨_, _, rfl, ⟨h.state, h.phase, rfl, rfl, rfl⟩, rfl, rfl⟩
    obtain ⟨u, p, hu, hrest⟩ := hdo
    rw [hu] at hexec
    exact ⟨u, p, hexec, hrest⟩
  | configSystem f table c hconfig =>
    obtain ⟨r, hr⟩ : ∃ r, r = Request.configSystem f table := ⟨_, rfl⟩
    have hexec : exec (.configSystem f table) s = .next (finish (perform r (toStage r .replying s))) := by
      rw [hr]
      exact congrArg (fun t => Host.Outcome.next (finish t)) (offer_free hfree _)
    have hdo : ∃ u p, perform r (toStage r .replying s) = { wakeIfOn u with port := p } ∧ Rests s u ∧
        u.op.request = s.op.request ∧ u.eval.early = true := by
      have happly : ∀ t : State, ∃ b q, applySettings c t = { t with cfg := c, blower := b, prot := q } := fun t => by
        unfold applySettings
        dsimp only
        split <;> exact ⟨_, _, rfl⟩
      obtain ⟨b, q, ha⟩ := happly (toStage r .replying s)
      have hconfig' : configSystemResult (toStage r .replying s).cfg f table = some c := hconfig
      rw [hr] at ha hconfig' ⊢
      show ∃ u p, doConfigSystem _ _ _ = _ ∧ _
      unfold doConfigSystem
      rw [hconfig']
      dsimp only
      rw [ha]
      exact ⟨_, _, rfl, ⟨h.state, h.phase, rfl, rfl, rfl⟩, rfl, rfl⟩
    obtain ⟨u, p, hu, hrest⟩ := hdo
    rw [hu] at hexec
    exact ⟨u, p, hexec, hrest⟩
  | configure z da ra rank a c hvalues haddress =>
    have hexec := exec_configure (z := z) hfree hvalues haddress
    obtain ⟨r, hr⟩ : ∃ r, r = Request.configure (byte z.val) da ra rank a := ⟨_, rfl⟩
    rw [← hr] at hexec
    obtain ⟨p, hp⟩ := accept_eq r [] (wakeIfOn (configureZone z c (toStage r .replying s)))
    rw [hp] at hexec
    refine ⟨_, p, hexec, ?_⟩
    by_cases hs : stateOf s z = .unused
    · obtain ⟨q, hq⟩ := configureZone_new (s := toStage r .replying s) (c := c) hs
      rw [hq]
      exact ⟨⟨h.state, h.phase, rfl, rfl, rfl⟩, rfl, rfl⟩
    · by_cases ha : c.address = (s.zcfg.get z).address
      · rw [configureZone_kept (s := toStage r .replying s) hs ha]
        exact ⟨⟨h.state, h.phase, rfl, rfl, rfl⟩, rfl, rfl⟩
      · obtain ⟨q, hq⟩ := configureZone_moved (s := toStage r .replying s) hs ha
        rw [hq]
        exact ⟨⟨h.state, h.phase, rfl, rfl, rfl⟩, rfl, rfl⟩
  | unconfigure z hs hu =>
    have hexec := exec_unconfigure z hfree
    obtain ⟨r, hr⟩ : ∃ r, r = Request.unconfigure (byte z.val) := ⟨_, rfl⟩
    rw [← hr] at hexec
    have hdo : ∃ u, unconfigureZone z (toStage r .replying s) = wakeIfOn u ∧ Rests s u ∧ u.op.request = s.op.request ∧
        u.eval.early = true := by
      have hstate : stateOf (toStage r .replying s) z = stateOf s z := rfl
      have hpending : ((toStage r .replying s).zst.get z).unconf = (s.zst.get z).unconf := rfl
      have hmark : ∀ v : State, Rests s v → v.op.request = s.op.request →
          Rests s (requestPass (discardPoll z v)) ∧ (requestPass (discardPoll z v)).op.request = s.op.request ∧
            (requestPass (discardPoll z v)).eval.early = true := fun v hv hreq => by
        rw [discardPoll_eq]
        exact ⟨⟨hv.state, hv.phase, hv.now, hv.link, hv.lastPass⟩, hreq, rfl⟩
      unfold unconfigureZone
      rw [hstate, hpending]
      cases hst : stateOf s z with
      | unused => exact absurd hst hs
      | fault =>
        obtain ⟨q, hq⟩ := releaseZone_eq z (toStage r .replying s)
        refine ⟨_, rfl, ?_⟩
        rw [hq]
        exact ⟨⟨h.state, h.phase, rfl, rfl, rfl⟩, rfl, rfl⟩
      | active =>
        rw [hu.resolve_left (by rw [hst]; decide)]
        refine ⟨_, rfl, hmark _ ?_ ?_⟩
        · exact ⟨h.state, h.phase, rfl, rfl, rfl⟩
        · rfl
      | parked =>
        rw [hu.resolve_left (by rw [hst]; decide)]
        refine ⟨_, rfl, hmark _ ?_ ?_⟩
        · exact ⟨h.state, h.phase, rfl, rfl, rfl⟩
        · rfl
    obtain ⟨u, hto, hrest⟩ := hdo
    rw [hto] at hexec
    obtain ⟨p, hp⟩ := accept_eq r [] (wakeIfOn u)
    rw [hp] at hexec
    exact ⟨u, p, hexec, hrest⟩
  | setSystem p f hchanged hheat =>
    obtain ⟨r, hr⟩ : ∃ r, r = Request.setSystem 0xFE (byte p.code) (flagByte f) := ⟨_, rfl⟩
    have hperform := perform_setSystem (readsAs_none requestOf) (readsAs_policy p) (readsAs_frost f) (toStage r .replying s)
      (fun h => hheat (Option.some.inj h))
    have hexec : exec (.setSystem 0xFE (byte p.code) (flagByte f)) s = .next (finish (perform r (toStage r .replying s))) := by
      rw [hr]
      exact congrArg (fun t => Host.Outcome.next (finish t)) (offer_free hfree _)
    rw [← hr] at hperform
    rw [hperform] at hexec
    simp only [Option.getD_some] at hexec
    have hdo : ∃ u, writeSystem none p f (toStage r .replying s) = wakeIfOn u ∧ Rests s u ∧ u.op.request = s.op.request ∧
        u.eval.early = true := by
      have hcond : (decide (p ≠ (toStage r .replying s).op.policy) || decide (f ≠ (toStage r .replying s).op.frost)) = true := by
        rw [Bool.or_eq_true, decide_eq_true_iff, decide_eq_true_iff]
        exact hchanged
      unfold writeSystem
      dsimp only
      rw [if_pos hcond]
      refine ⟨_, rfl, ?_⟩
      split
      · rw [autoSave_eq]
        exact ⟨⟨h.state, h.phase, rfl, rfl, rfl⟩, rfl, rfl⟩
      · exact ⟨⟨h.state, h.phase, rfl, rfl, rfl⟩, rfl, rfl⟩
    obtain ⟨u, hto, hrest⟩ := hdo
    rw [hto] at hexec
    obtain ⟨q, hq⟩ := accept_eq r (operatingBody (wakeIfOn u)) (wakeIfOn u)
    rw [hq] at hexec
    exact ⟨u, q, hexec, hrest⟩

/-- A press wakes, and is taken as one in the state woken to. -/
theorem RestsCalm.press_wakes (h : RestsCalm s) (hread : buttonRead true s = true) :
    ∃ t, exec .buttonPress s = .next t ∧ Wakes s t s.op.request ∧ t.op.button = .pressed ∧ t.op.pressFrom = some s.now := by
  obtain ⟨u, hu⟩ : ∃ u : State, u = { s with op := { s.op with accepted := true } } := ⟨_, rfl⟩
  have hrests : Rests s u := by
    rw [hu]
    exact ⟨h.state, h.phase, rfl, rfl, rfl⟩
  obtain ⟨a, b, q, hw⟩ := wakeEvent_woken hrests.state
  have hnot : inService (wakeEvent u) = false := by
    have hstate : opOf u.op.request ≠ .test := by cases u.op.request <;> decide
    unfold inService
    rw [hw]
    dsimp only
    rw [decide_eq_false hstate, hrests.phase]
    rfl
  have hpressed : ∃ p, pressed s =
      { wakeEvent u with op := { (wakeEvent u).op with button := .pressed, pressFrom := some (wakeEvent u).now }, port := p } := by
    unfold pressed
    rw [← hu]
    dsimp only
    rw [hnot]
    exact ⟨_, rfl⟩
  obtain ⟨p, hp⟩ := hpressed
  have hexec : exec .buttonPress s = .next (finish (pressed s)) := congrArg Host.Outcome.next (if_pos hread)
  obtain ⟨hwakes, hbutton, hfrom⟩ := finish_wakes (p := p)
    (o := { (wakeEvent u).op with button := .pressed, pressFrom := some (wakeEvent u).now }) hrests h.quiet h.recent rfl (by rw [hw])
    (by rw [hw]; exact hrests.phase)
  have hrequest : u.op.request = s.op.request := by rw [hu]
  have hnow : (wakeEvent u).now = s.now := by rw [hw]; exact hrests.now
  rw [hrequest] at hwakes
  rw [hp] at hexec
  exact ⟨_, hexec, hwakes, hbutton, hfrom.trans (congrArg some hnow)⟩

end

end Sys2Proof.Machine
end

section
/-! The service test is prepared: states with nothing to follow but moves, the link, the sequencer and the test itself, and a long press
(11 R167, R168). -/

namespace Sys2Proof.Machine

/-! ### What may still follow -/

/-- No changeover is in progress or told of, no STARTUP, no damper left OPENING, and the last pass is recent. -/
structure Still (s : State) : Prop where
  faulted : s.todo.faulted = []
  restart : s.todo.restart = false
  held : s.co.held = none
  phase : s.co.phase = .applied
  incoming : s.co.incoming = none
  started : s.op.state ≠ .startup
  left : leftActive s = []
  recent : ∃ p, s.eval.lastPass = some p ∧ s.now < p + 5000

section
variable {s : State}

theorem Still.microStep (h : Still s) : microStep s =
    if canGrant s then some (grantOne s)
    else if s.todo.phaseCheck then some (phaseStep s)
    else if wakeRoundDue s then some (beginRound s)
    else if startDue s then some (startCompressor s)
    else if preparingDone s then some (beginOpening s)
    else if openingDone s then some (enterTest s)
    else none := by
  have hno : startupDone s = false := by simp [startupDone, h.started]
  unfold Machine.microStep
  simp only [h.faulted, h.restart, h.held, h.left, h.phase, hno, Option.isSome_none, Bool.false_and, Bool.false_eq_true, if_false,
    reduceCtorEq, decide_false]

/-- A command ends where nothing more follows. -/
theorem Still.finish_of_leads {n : Nat} {t : State} (ht : Still t) (h : Leads n s t) (hn : n ≤ 64)
    (hend : Machine.microStep t = none) : finish s = sync t := by
  have hs : settle settleFuel s = t := by
    have := h (64 - n)
    rw [Nat.sub_add_cancel hn] at this
    exact this.trans (settle_of_none hend _)
  unfold finish passStep
  rw [hs, passDue_soon ht.recent]
  rfl

/-- The phase judged, with no plan incoming. -/
theorem Still.phaseStep (h : Still s) : phaseStep s = { s with todo := { s.todo with phaseCheck := false } } := by
  unfold Machine.phaseStep
  simp only [h.incoming]

/-- The round of a wake begins before what else follows, where the line is quiet. -/
theorem Still.round (h : Still s) (hgrant : canGrant s = false) (hcheck : s.todo.phaseCheck = false)
    (hq : wakeRoundDue s = true → lineQuiet s = true) :
    ∃ n ≤ 1, ∃ l, Leads n s { s with link := l } ∧ wakeRoundDue { s with link := l } = false ∧ l.state = s.link.state := by
  cases hdue : wakeRoundDue s with
  | false => exact ⟨0, Nat.zero_le 1, s.link, .refl s, hdue, rfl⟩
  | true =>
    obtain ⟨l, hl, hw, hlink⟩ := beginRound_link (.inl (hq hdue))
    refine ⟨1, Nat.le_refl 1, l, .one ?_, wakeRoundDue_none hw, by rw [hlink]⟩
    rw [h.microStep, hgrant, hcheck, hdue, hl]
    rfl

end

/-! ### A long press -/

/-- A long press that begins the preparation in RESTING, OFF or ON. -/
structure LongPressed (s : State) : Prop where
  state : s.op.state = .resting ∨ s.op.state = .off ∧ s.op.request = .off ∨ s.op.state = .on ∧ s.op.request = .on
  rests : s.seq.state = .stopped ∨ s.seq.state = .tripped ∨ s.seq.state = .lockout

/-- The state that a long press gives. -/
structure Prepared (s u : State) : Prop where
  frame : u = { s with op := u.op, eval := u.eval, link := u.link, sens := u.sens, store := u.store, seq := u.seq, port := u.port }
  request : u.op.request = .off
  state : u.op.state = .off
  phase : u.op.testPhase = .preparing
  button : u.op.button = .held
  lastPass : u.eval.lastPass = s.eval.lastPass
  seqState : u.seq.state = s.seq.state
  minOff : u.seq.minOffFrom = s.seq.minOffFrom
  woken : s.op.state = .resting → u.eval.early = true ∧ u.link = wokenLink s.now s.link ∧
    u.sens = { s.sens with nextSlot := 0, nextSlotAt := s.now, slotMs := 1250, poll := none }
  kept : s.op.state ≠ .resting → u.link = s.link

theorem Prepared.of_mark {s u : State} {p : Port} (h : Prepared s { u with op := { u.op with testPhase := .preparing, button := .held } })
    (hb : u.op.button = .held) :
    Prepared s { u with op := { u.op with testPhase := .preparing, opened := [], testDampers := [] }, port := p } := by
  obtain ⟨h1, h2, h3, -, -, h6, h7, h8, h9, h10⟩ := h
  refine ⟨?_, h2, h3, rfl, hb, h6, h7, h8, h9, h10⟩
  have hframe := congrArg (fun y : State => { y with
    op := { u.op with testPhase := .preparing, opened := [], testDampers := [] }, port := p }) h1
  exact hframe

/-- A long press begins the preparation: the request and the state are OFF, and RESTING is left as by a wake. -/
theorem LongPressed.prepares {s : State} (h : LongPressed s) : Prepared s (heldLong s) := by
  obtain ⟨v, hv⟩ : ∃ v : State, v = { s with op := { s.op with button := .held, pressFrom := none } } := ⟨_, rfl⟩
  have hnot : s.op.state ≠ .startup := by rcases h.state with h | ⟨h, -⟩ | ⟨h, -⟩ <;> rw [h] <;> decide
  have hdef : s.seq.state.defrosting = false := by rcases h.rests with h | h | h <;> rw [h] <;> rfl
  have hwait : s.seq.state ≠ .waitStart := by rcases h.rests with h | h | h <;> rw [h] <;> decide
  have hruns : Runs s.seq.state = false := by rcases h.rests with h | h | h <;> rw [h] <;> rfl
  suffices key : ∃ w, (if (writeRequest .off .button v).op.state = .resting then wake (writeRequest .off .button v)
      else writeRequest .off .button v) = w ∧ w.op.button = .held ∧
      Prepared s { w with op := { w.op with testPhase := .preparing, button := .held } } by
    obtain ⟨w, hw, hb, hprep⟩ := key
    have heq : heldLong s = { w with
        op := { w.op with testPhase := .preparing, opened := [], testDampers := [] }
        port := (reportButton .test { w with
          op := { w.op with testPhase := .preparing, opened := [], testDampers := [] } }).port } := by
      unfold heldLong
      dsimp only
      rw [if_neg hnot, ← hv]
      unfold beginPreparation
      dsimp only
      rw [hw]
      rfl
    rw [heq]
    exact hprep.of_mark hb
  have hwake : ∀ t : State, t.op.state = .resting → wake t = wakeEvent t := fun t ht => by
    unfold wakeEvent
    rw [if_pos ht]
  rcases h.state with hs | ⟨hs, hr⟩ | ⟨hs, hr⟩
  · have hvs : v.op.state = .resting := by rw [hv]; exact hs
    by_cases hr : s.op.request = .off
    · have hwrite : writeRequest .off .button v = v := if_pos (by rw [hv]; exact hr.symm)
      obtain ⟨a, b, p, hw⟩ := wakeEvent_woken hvs
      refine ⟨_, rfl, ?_⟩
      rw [hwrite, if_pos hvs, hwake v hvs, hw, hv]
      refine ⟨rfl, rfl, hr, ?_, rfl, rfl, rfl, rfl, rfl, fun _ => ⟨rfl, rfl, rfl⟩, fun hn => absurd hs hn⟩
      show opOf s.op.request = .off
      rw [hr]
      rfl
    · obtain ⟨q, hwrite, hq, hmin⟩ := writeRequest_resting (s := v) (new := .off) (by rw [hv]; exact Ne.symm hr) hvs
        (by rw [hv]; exact hdef) (by rw [hv]; exact hwait) .button
      obtain ⟨a, b, p, hw⟩ := wakeEvent_woken (s := { v with
        op := { v.op with request := .off }, eval := { v.eval with early := true }
        store := saved { v with op := { v.op with request := .off } }, seq := q }) hvs
      rw [hw] at hwrite
      refine ⟨_, rfl, ?_⟩
      rw [hwrite, if_neg (by show ¬ OpState.off = .resting; decide), hv]
      rw [hv] at hq hmin
      exact ⟨rfl, rfl, rfl, rfl, rfl, rfl, rfl, hq hruns, hmin, fun _ => ⟨rfl, rfl, rfl⟩, fun hn => absurd hs hn⟩
  · have hne : s.op.state ≠ .resting := by rw [hs]; decide
    have hwrite : writeRequest .off .button v = v := if_pos (by rw [hv]; exact hr.symm)
    refine ⟨_, rfl, ?_⟩
    rw [hwrite, if_neg (by rw [hv]; exact hne), hv]
    exact ⟨rfl, rfl, hr, hs, rfl, rfl, rfl, rfl, rfl, fun hn => absurd hn hne, fun _ => rfl⟩
  · have hne : s.op.state ≠ .resting := by rw [hs]; decide
    obtain ⟨p, a, hwrite⟩ := writeRequest_eq (s := v) (new := .off) (by rw [hv]; show _ ≠ s.op.request; rw [hr]; decide)
      (by rw [hv]; exact .inl hs) (by rw [hv]; exact hdef) (by rw [hv]; exact hwait) .button
    refine ⟨_, rfl, ?_⟩
    rw [hwrite, if_neg (by show ¬ OpState.off = .resting; decide), hv]
    exact ⟨rfl, rfl, rfl, rfl, rfl, rfl, rfl, by simp [hruns], rfl, fun hn => absurd hn hne, fun _ => rfl⟩

/-- The end test of PREPARING on a state where no compressor runs. -/
theorem preparingDone_iff {s : State} (hp : s.op.testPhase = .preparing)
    (hq : s.seq.state = .stopped ∨ s.seq.state = .tripped ∨ s.seq.state = .lockout) :
    preparingDone s = decide (s.seq.minOffFrom + 180000 ≤ s.now) := by
  unfold preparingDone minOffExpired
  rcases hq with hq | hq | hq <;> simp [hp, hq]

theorem buttonHoldDue_of {s : State} (h : s.op.button = .pressed)
    (ht : ∃ t0, s.op.pressFrom = some t0 ∧ t0 + s.cfg.buttonHold * 1000 ≤ s.now) : buttonHoldDue s = true := by
  unfold buttonHoldDue
  rw [h, (reached_iff _ _ _).mpr ht]
  rfl

/-- A long press in RESTING wakes, and the preparation waits for the minimum-off time. -/
theorem RestsCalm.long_wakes {s : State} (h : RestsCalm s) (hb : s.op.button = .pressed)
    (ht : ∃ t0, s.op.pressFrom = some t0 ∧ t0 + s.cfg.buttonHold * 1000 ≤ s.now) (hmin : s.now < s.seq.minOffFrom + 180000) :
    ∃ t, exec .buttonHoldTime s = .next t ∧ Wakes s t .off ∧ t.op.button = .held ∧ t.op.testPhase = .preparing := by
  have hlong : LongPressed s := ⟨.inl h.state, .inl h.stopped⟩
  have hprep := hlong.prepares
  have hexec : exec .buttonHoldTime s = .next (finish (heldLong s)) := congrArg Host.Outcome.next (if_pos (buttonHoldDue_of hb ht))
  obtain ⟨u, hu⟩ : ∃ u, heldLong s = u := ⟨_, rfl⟩
  rw [hu] at hexec hprep
  obtain ⟨hearly, hlink, hsens⟩ := hprep.woken h.state
  obtain ⟨⟨htodo, hphase, hin, hheld, -⟩, hqueue, -⟩ := h.calm
  have hframe := hprep.frame
  have hstill : Still u := by
    refine ⟨?_, ?_, ?_, ?_, ?_, by rw [hprep.state]; decide, if_neg (by rw [hprep.phase]; decide), ?_⟩
    · rw [hframe]; exact congrArg Todo.faulted htodo
    · rw [hframe]; exact congrArg Todo.restart htodo
    · rw [hframe]; exact hheld
    · rw [hframe]; exact hphase
    · rw [hframe]; exact hin
    · rw [hprep.lastPass, hframe]; exact h.recent
  obtain ⟨hlow, hactive, hlost⟩ := wokenLink_state s.now s.link
  have hgrant : canGrant u = false := by rw [hframe]; simp [canGrant, hqueue]
  have hcheck : u.todo.phaseCheck = false := by rw [hframe]; exact congrArg Todo.phaseCheck htodo
  have hnow : u.now = s.now := by rw [hframe]
  have hquiet : lineQuiet u = true := by
    have := h.quiet
    unfold lineQuiet at this ⊢
    rw [hlink, hlow, hnow]
    exact this
  have hq : u.seq.state = .stopped := hprep.seqState.trans h.stopped
  obtain ⟨n, hn, l, hleads, hround, hl⟩ := hstill.round hgrant hcheck fun _ => hquiet
  have hstill' : Still { u with link := l } := ⟨hstill.1, hstill.2, hstill.3, hstill.4, hstill.5, hstill.6, hstill.7, hstill.8⟩
  have hstart : startDue { u with link := l } = false := by simp [startDue, hq]
  have hpre : preparingDone { u with link := l } = false :=
    (preparingDone_iff (s := { u with link := l }) hprep.phase (.inl hq)).trans
      (decide_eq_false (Nat.not_le.mpr (by show u.now < u.seq.minOffFrom + _; rw [hnow, hprep.minOff]; exact hmin)))
  have hopen : openingDone { u with link := l } = false := by simp [openingDone, hprep.phase]
  have hend : Machine.microStep { u with link := l } = none := by
    rw [hstill'.microStep, hround, hstart, hpre, hopen, show canGrant { u with link := l } = false from hgrant,
      show ({ u with link := l } : State).todo.phaseCheck = false from hcheck]
    rfl
  have hfin := hstill'.finish_of_leads hleads (by omega) hend
  refine ⟨_, hexec, ?_⟩
  rw [hfin]
  refine ⟨⟨?_, ?_, ?_, ?_, ?_, ?_, ?_, fun hs => ?_, fun hs => ?_⟩, ?_, ?_⟩
  · rw [sync_op_request]; exact hprep.request
  · rw [sync_op_state]; exact hprep.state
  · rw [sync_eval]; exact hearly
  · rw [sync_sens]; show u.sens.nextSlot = 0; rw [hsens]
  · rw [sync_sens]; show u.sens.nextSlotAt = s.now; rw [hsens]
  · rw [sync_sens]; show u.sens.slotMs = 1250; rw [hsens]
  · rw [sync_sens]; show u.sens.poll = none; rw [hsens]
  · rw [sync_link, hl, hlink]; exact hactive hs
  · rw [sync_link, hl, hlink]; exact hlost hs
  · rw [sync_op_button]; exact hprep.button
  · rw [sync_op_testPhase]; exact hprep.phase

end Sys2Proof.Machine
end

section
/-! OPENING begins: the dampers asked to 200, those that stand there, the moves granted, and TEST with all opened (11 R168). -/

namespace Sys2Proof.Machine

/-! ### The dampers asked to open -/

/-- A MOVE to 200 joins the queue for each of some dampers. -/
def Drive.asked (v : Drive) (l : List ZoneId) : Drive := l.foldl (fun v z => v.append z (.move 200)) v

section
variable {v : Drive}

theorem Drive.asked_cons (z : ZoneId) (l : List ZoneId) : v.asked (z :: l) = (v.append z (.move 200)).asked l := rfl

theorem Drive.asked_queue (l : List ZoneId) : (v.asked l).queue = v.queue ++ l.map fun z => ⟨z, .move 200⟩ := by
  induction l generalizing v with
  | nil => exact (List.append_nil _).symm
  | cons z l ih =>
    rw [Drive.asked_cons, ih]
    show (v.queue ++ [⟨z, .move 200⟩]) ++ _ = _
    rw [List.append_assoc]
    rfl

theorem Drive.asked_slotsOf (l : List ZoneId) (x : ZoneId) : (v.asked l).slotsOf x = v.slotsOf x := by
  induction l generalizing v with
  | nil => rfl
  | cons z l ih => rw [Drive.asked_cons, ih, Drive.append_slotsOf]

theorem Drive.asked_position (l : List ZoneId) (x : ZoneId) : ((v.asked l).dampers.get x).position = (v.dampers.get x).position := by
  induction l generalizing v with
  | nil => rfl
  | cons z l ih => rw [Drive.asked_cons, ih, (Drive.asks_append (v := v) (d := z) (.move 200)).positions]

end

/-- Whether a damper is known to stand at 200. -/
def stands (s : State) (z : ZoneId) : Bool := decide ((damperOf s z).position = some 200)

/-- One idle damper asked to open. -/
theorem openForTest_idle {s : State} {z : ZoneId} (hz : stateOf s z = .active) (hm : (damperOf s z).motion = .idle)
    (hp : (damperOf s z).position ≠ none) (ho : s.op.opened.contains z = false) : openForTest z s =
      if stands s z then { s with op := { s.op with opened := s.op.opened ++ [z] } }
      else { s with drive := s.drive.append z (.move 200) } := by
  unfold openForTest
  rw [moveRequest_active hz]
  dsimp only
  cases hs : stands s z with
  | true =>
    have hpos : (damperOf s z).position = some 200 := of_decide_eq_true hs
    rw [Drive.requestMove_there hm hpos, if_pos ⟨hpos, hm⟩]
    unfold markOpened
    rw [ho]
    rfl
  | false =>
    obtain ⟨p, hpos⟩ := Option.ne_none_iff_exists'.mp hp
    have hne : p ≠ 200 := fun h => of_decide_eq_false hs (hpos.trans (congrArg some h))
    rw [Drive.requestMove_elsewhere hm hpos hne, if_neg]
    · rfl
    · rintro ⟨-, hidle⟩
      have hget : damperOf { s with drive := s.drive.append z (.move 200) } z = { s.drive.dampers.get z with motion := .queued } :=
        Drive.append_get _
      rw [hget] at hidle
      exact MotionState.noConfusion hidle

/-- Idle dampers asked to open: those that stand at 200 are opened, each other one is asked. -/
theorem foldl_openForTest (l : List ZoneId) (hl : l.Nodup) {s : State}
    (hz : ∀ z ∈ l, stateOf s z = .active ∧ (damperOf s z).motion = .idle ∧ (damperOf s z).position ≠ none)
    (ho : ∀ z ∈ l, s.op.opened.contains z = false) : l.foldl (fun s d => openForTest d s) s =
      { s with
        op := { s.op with opened := s.op.opened ++ l.filter (stands s) }
        drive := s.drive.asked (l.filter fun z => !stands s z) } := by
  induction l generalizing s with
  | nil =>
    show s = { s with op := { s.op with opened := s.op.opened ++ [] }, drive := s.drive }
    rw [List.append_nil]
  | cons z l ih =>
    obtain ⟨hnot, hl⟩ := List.nodup_cons.mp hl
    obtain ⟨hact, hm, hp⟩ := hz z List.mem_cons_self
    have hrest : ∀ x ∈ l, stateOf s x = .active ∧ (damperOf s x).motion = .idle ∧ (damperOf s x).position ≠ none :=
      fun x hx => hz x (List.mem_cons_of_mem z hx)
    have hne : ∀ x ∈ l, x ≠ z := fun x hx h => hnot (h ▸ hx)
    rw [List.foldl_cons, openForTest_idle hact hm hp (ho z List.mem_cons_self)]
    cases hs : stands s z with
    | true =>
      have hstep := ih hl (s := { s with op := { s.op with opened := s.op.opened ++ [z] } }) hrest fun x hx => by
        have := ho x (List.mem_cons_of_mem z hx)
        simp only [List.contains_eq_mem, decide_eq_false_iff_not, List.mem_append, List.mem_singleton, not_or] at this ⊢
        exact ⟨this, hne x hx⟩
      rw [if_pos rfl, hstep, List.filter_cons_of_pos hs, List.filter_cons_of_neg (by rw [hs]; decide)]
      show ({ s with op := { s.op with opened := (s.op.opened ++ [z]) ++ l.filter (stands s) }, drive := _ } : State) = _
      rw [List.append_assoc]
      rfl
    | false =>
      have hget : ∀ x ∈ l, damperOf { s with drive := s.drive.append z (.move 200) } x = damperOf s x := fun x hx =>
        ((Drive.asks_append (v := s.drive) (d := z) (.move 200)).others x (hne x hx)).1
      have hstands : ∀ x ∈ l, stands { s with drive := s.drive.append z (.move 200) } x = stands s x := fun x hx => by
        unfold stands
        rw [hget x hx]
      have hstep := ih hl (s := { s with drive := s.drive.append z (.move 200) })
        (fun x hx => by rw [hget x hx]; exact hrest x hx) fun x hx => ho x (List.mem_cons_of_mem z hx)
      rw [if_neg Bool.false_ne_true, hstep, List.filter_cons_of_neg (p := stands s) (by rw [hs]; decide),
        List.filter_cons_of_pos (p := fun z => !stands s z) (by rw [hs]; rfl), List.filter_congr hstands,
        List.filter_congr fun x hx => congrArg (!·) (hstands x hx)]
      rfl

/-- OPENING begins over an empty queue, with its dampers idle. -/
theorem beginOpening_asks {s : State} (hz : ∀ z ∈ openingDampers s, (damperOf s z).motion = .idle ∧ (damperOf s z).position ≠ none) :
    beginOpening s =
      { s with
        op := { s.op with
          testPhase := .opening, opened := (openingDampers s).filter (stands s), testDampers := openingDampers s }
        drive := s.drive.asked ((openingDampers s).filter fun z => !stands s z) } := by
  have hnodup : (openingDampers s).Nodup := (List.nodup_finRange 8).filter _
  have hact : ∀ z ∈ openingDampers s, stateOf s z = .active := fun z hmem => by
    have hcond := (List.mem_filter.mp hmem).2
    rw [Bool.and_eq_true] at hcond
    exact of_decide_eq_true hcond.1
  exact foldl_openForTest _ hnodup (s := { s with
    op := { s.op with testPhase := .opening, opened := [], testDampers := openingDampers s } })
    (fun z hmem => ⟨hact z hmem, hz z hmem⟩) fun z _ => rfl

/-! ### The moves granted -/

/-- Each waiting entry is a MOVE to 200 of a damper of its own that holds no slot. -/
structure Drive.Waits (v : Drive) : Prop where
  nodup : (v.queue.map QueueEntry.damper).Nodup
  what : ∀ e ∈ v.queue, e.what = .move 200
  slots : ∀ e ∈ v.queue, v.slotsOf e.damper = []

/-- A damper waits or moves to 200. -/
def Drive.Seeks (v : Drive) (z : ZoneId) : Prop :=
  v.entryOf z = some ⟨z, .move 200⟩ ∨ ∃ slot, v.slotOf z = some slot ∧ slot.what = .move 200

/-- A drive from which all positions are kept, and which seeks what another does. -/
structure Drive.Granted (v w : Drive) : Prop where
  positions : ∀ z, (w.dampers.get z).position = (v.dampers.get z).position
  seeks : ∀ z, v.Seeks z → w.Seeks z

theorem Drive.airPath_of_positions {v w : Drive} (h : ∀ z, (w.dampers.get z).position = (v.dampers.get z).position) :
    w.airPath = v.airPath := by
  rw [Bool.eq_iff_iff, Drive.airPath_iff, Drive.airPath_iff]
  exact exists_congr fun z => by rw [h z]

/-- The first entry granted. -/
theorem Drive.Waits.start {v : Drive} {e : QueueEntry} {rest : List QueueEntry} (h : v.Waits) (hq : v.queue = e :: rest)
    (hfree : v.slotFree = true) (now : Nat) :
    (({ v with queue := rest } : Drive).start now e).Waits ∧ v.Granted (({ v with queue := rest } : Drive).start now e) := by
  obtain ⟨hnodup, hwhat, hslots⟩ := h
  rw [hq] at hnodup hwhat hslots
  obtain ⟨hnot, hnodup⟩ := List.nodup_cons.mp hnodup
  have he : e.what = .move 200 := hwhat e List.mem_cons_self
  have hqueue : (({ v with queue := rest } : Drive).start now e).queue = rest := by
    unfold Drive.start
    dsimp only
    split <;> rfl
  have hslotsOf : ∀ x, (({ v with queue := rest } : Drive).start now e).slotsOf x =
      if x = e.damper then [({ v with queue := rest } : Drive).newSlot now e] else v.slotsOf x := fun x =>
    Drive.start_slotsOf _ x now e hfree (hslots e List.mem_cons_self)
  refine ⟨⟨by rw [hqueue]; exact hnodup, fun x hx => ?_, fun x hx => ?_⟩, fun z => ?_, fun z hz => ?_⟩
  · rw [hqueue] at hx
    exact hwhat x (List.mem_cons_of_mem e hx)
  · rw [hqueue] at hx
    rw [hslotsOf, if_neg fun h : x.damper = e.damper => hnot (h ▸ List.mem_map_of_mem hx)]
    exact hslots x (List.mem_cons_of_mem e hx)
  · rw [Drive.start_get, he]
    split
    next h => rw [h]
    next => rfl
  · by_cases hze : z = e.damper
    · refine .inr ⟨({ v with queue := rest } : Drive).newSlot now e, ?_, he⟩
      rw [Drive.slotOf_eq, hslotsOf, if_pos hze]
      rfl
    · rcases hz with hz | ⟨slot, hslot, hw⟩
      · left
        unfold Drive.entryOf at hz ⊢
        rw [hq, List.find?_cons_of_neg (by simpa using Ne.symm hze)] at hz
        rw [hqueue]
        exact hz
      · refine .inr ⟨slot, ?_, hw⟩
        rw [Drive.slotOf_eq] at hslot ⊢
        rw [hslotsOf, if_neg hze]
        exact hslot

/-- Moves are granted until no slot is free or none waits. -/
theorem Still.grants {s : State} (h : Still s) (hwaits : s.drive.Waits) (hw : ∀ z : ZoneId, s.inp.windingOpen.get z = false)
    (hair : s.blower.goal = 0 ∨ s.drive.airPath = true) :
    ∃ n ≤ s.drive.queue.length, ∃ v, Leads n s { s with drive := v } ∧ canGrant { s with drive := v } = false ∧ s.drive.Granted v := by
  obtain ⟨k, hk⟩ : ∃ k, k = s.drive.queue.length := ⟨_, rfl⟩
  induction k generalizing s with
  | zero =>
    have hnil : s.drive.queue = [] := List.length_eq_zero_iff.mp hk.symm
    exact ⟨0, Nat.zero_le _, s.drive, .refl s, by simp [canGrant, hnil], fun _ => rfl, fun _ => id⟩
  | succ k ih =>
    cases hfree : s.drive.slotFree with
    | false => exact ⟨0, Nat.zero_le _, s.drive, .refl s, by simp [canGrant, hfree], fun _ => rfl, fun _ => id⟩
    | true =>
      cases hq : s.drive.queue with
      | nil => rw [hq] at hk; exact absurd hk (Nat.succ_ne_zero k)
      | cons e rest =>
        obtain ⟨hwaits', hgranted⟩ := hwaits.start hq hfree s.now
        obtain ⟨w, hv⟩ : ∃ w, (({ s.drive with queue := rest } : Drive).start s.now e) = w := ⟨_, rfl⟩
        rw [hv] at hwaits' hgranted
        have hair' : s.blower.goal = 0 ∨ w.airPath = true := by
          rw [Drive.airPath_of_positions hgranted.positions]
          exact hair
        have hone : grantOne s = { s with drive := w } := by
          unfold grantOne
          simp only [hq, hw e.damper, Bool.false_eq_true, if_false, hv]
          exact airGuard_safe (s := { s with drive := w }) hair'
        have hstep : Machine.microStep s = some { s with drive := w } := by
          rw [h.microStep, if_pos (by simp [canGrant, hfree, hq]), hone]
        have hlen : w.queue = rest := by
          rw [← hv]
          unfold Drive.start
          dsimp only
          split <;> rfl
        obtain ⟨n, hn, v, hleads, hend, hmore⟩ := ih (s := { s with drive := w })
          ⟨h.1, h.2, h.3, h.4, h.5, h.6, h.7, h.8⟩ hwaits' hw hair'
          (by show k = w.queue.length; rw [hlen]; rw [hq] at hk; exact Nat.succ.inj hk)
        refine ⟨n + 1, ?_, v, .cons hstep hleads, hend, fun z => (hmore.positions z).trans (hgranted.positions z),
          fun z hz => hmore.seeks z (hgranted.seeks z hz)⟩
        have hn' : n ≤ w.queue.length := hn
        rw [hlen] at hn'
        exact Nat.succ_le_succ hn'

/-! ### The end of OPENING -/

/-- TEST entered from another state than RESTING. -/
theorem enterTest_eq {s : State} (h : s.op.state = .off) : ∃ p, enterTest s =
    { s with
      op := { s.op with testPhase := .idle, opened := [], testDampers := [], testFrom := some s.now, state := .test }
      eval := { s.eval with early := true }, port := p } := by
  obtain ⟨p, hp⟩ := changeOp_eq (s := { s with op :=
    { s.op with testPhase := .idle, opened := [], testDampers := [], testFrom := some s.now } })
    (by show s.op.state ≠ _; rw [h]; decide) .test .testBegin
  refine ⟨p, hp.trans ?_⟩
  dsimp only
  rw [h, show decide (OpState.test ≠ .off) = true from rfl, Bool.or_true]

/-- A state in OPENING in which no move can be granted and nothing else follows: it goes on, or ends in TEST. -/
structure Opens (s : State) : Prop where
  still : Still s
  grant : canGrant s = false
  check : s.todo.phaseCheck = false
  round : wakeRoundDue s = false
  start : startDue s = false
  phase : s.op.testPhase = .opening
  state : s.op.state = .off

/-- How a command ends that has led to OPENING with nothing else to follow. -/
theorem Opens.finish {n : Nat} {s t : State} (h : Opens t) (hleads : Leads n s t) (hn : n ≤ 63) :
    ((∀ z ∈ t.op.testDampers, z ∈ t.op.opened) → (finish s).op.state = .test ∧ (finish s).op.testPhase = .idle ∧
      (finish s).op.testFrom = some t.now ∧ (finish s).eval.early = true ∧ (finish s).op.request = t.op.request ∧
        (finish s).sens = t.sens ∧ (finish s).link = t.link) ∧
    ((∃ z ∈ t.op.testDampers, z ∉ t.op.opened) → finish s = sync t) := by
  have hpre : preparingDone t = false := by simp [preparingDone, h.phase]
  have hdone : openingDone t = t.op.testDampers.all fun d => t.op.opened.contains d := by simp [openingDone, h.phase]
  have hstep : Machine.microStep t = if openingDone t then some (enterTest t) else none := by
    rw [h.still.microStep, h.grant, h.check, h.round, h.start, hpre]
    rfl
  refine ⟨fun hall => ?_, fun ⟨z, hz, hnot⟩ => ?_⟩
  · have htrue : openingDone t = true := by
      rw [hdone, List.all_eq_true]
      exact fun z hz => List.contains_iff_mem.mpr (hall z hz)
    obtain ⟨p, hp⟩ := enterTest_eq h.state
    rw [htrue, if_pos rfl, hp] at hstep
    obtain ⟨w, hw⟩ : ∃ w : State, w = { t with
      op := { t.op with testPhase := .idle, opened := [], testDampers := [], testFrom := some t.now, state := .test }
      eval := { t.eval with early := true }, port := p } := ⟨_, rfl⟩
    rw [← hw] at hstep
    have hstill : Still w := by
      obtain ⟨h1, h2, h3, h4, h5, -, -, h8⟩ := h.still
      rw [hw]
      exact ⟨h1, h2, h3, h4, h5, (by decide : OpState.test ≠ .startup), leftActive_idle rfl, h8⟩
    have hgrant : canGrant w = false := by rw [hw]; exact h.grant
    have hcheck : w.todo.phaseCheck = false := by rw [hw]; exact h.check
    have hround : wakeRoundDue w = false := by rw [hw]; exact h.round
    have hstart : startDue w = false := by
      have hq := h.start
      rw [hw]
      exact hq
    have hpre' : preparingDone w = false := by rw [hw]; rfl
    have hopen' : openingDone w = false := by rw [hw]; rfl
    have hend : Machine.microStep w = none := by
      rw [hstill.microStep, hgrant, hcheck, hround, hstart, hpre', hopen']
      rfl
    rw [hstill.finish_of_leads (hleads.trans (.one hstep)) (by omega) hend, hw]
    refine ⟨sync_op_state _, sync_op_testPhase _, sync_op_testFrom _, ?_, sync_op_request _, sync_sens _, sync_link _⟩
    rw [sync_eval]
  · have hfalse : openingDone t = false := by
      rw [hdone, Bool.eq_false_iff]
      exact fun hall => hnot (List.contains_iff_mem.mp (List.all_eq_true.mp hall z hz))
    rw [hfalse] at hstep
    exact h.still.finish_of_leads hleads (by omega) hstep

end Sys2Proof.Machine
end

section
/-! Motions that complete: the drive they leave, the follow-on, and the repair move (06 R100; 04 R71). -/

namespace Sys2Proof.Machine

section
variable {v : Drive} {d : ZoneId} {slot : Slot}

/-- The drive once the motion of a damper has ended, before what follows on: a HOME gives position 0 and drains, a MOVE resets the
stall count. -/
def Drive.ended (v : Drive) (d : ZoneId) (home : Bool) : Drive :=
  { v.free d with
    dampers := v.dampers.modify d fun x =>
      ⟨if home then some 0 else x.position, .idle, .nothing, if home then x.stalls else 0⟩
    resetHomes := if home then v.resetHomes.filter fun z => decide (z ≠ d) else v.resetHomes }

theorem Drive.ended_get (home : Bool) (x : ZoneId) : (v.ended d home).dampers.get x = if x = d then
    ⟨if home then some 0 else (v.dampers.get d).position, .idle, .nothing, if home then (v.dampers.get d).stalls else 0⟩
    else v.dampers.get x := Eight.get_modify ..

theorem Drive.ended_slotsOf (home : Bool) (x : ZoneId) : (v.ended d home).slotsOf x = if x = d then [] else v.slotsOf x :=
  Drive.free_slotsOf v d x

theorem Drive.ended_slotOf (home : Bool) (x : ZoneId) : (v.ended d home).slotOf x = if x = d then none else v.slotOf x := by
  rw [Drive.slotOf_eq, Drive.ended_slotsOf]
  split
  · rfl
  · exact (Drive.slotOf_eq v x).symm

theorem Drive.ended_slotFree (home : Bool) (h : v.slotOf d = some slot) : (v.ended d home).slotFree = true :=
  Drive.free_slotFree (v := v) h

/-- A follow-on taken over a drive whose motion has ended. -/
def Drive.follows (v : Drive) (d : ZoneId) : FollowOn → Drive
  | .nothing => v
  | .target t => if (v.dampers.get d).position = some t then v else v.append d (.move t)
  | .home => v.append d .home

/-- Taking the follow-on. -/
theorem Drive.takeFollowOn_eq (v : Drive) (d : ZoneId) : v.takeFollowOn d =
    (v.onDamper d fun y => { y with followOn := .nothing, motion := .idle }).follows d (v.dampers.get d).followOn := by
  have hpos : ((v.onDamper d fun y => { y with followOn := .nothing, motion := .idle }).dampers.get d).position =
      (v.dampers.get d).position := by rw [Drive.onDamper_get_same]
  unfold Drive.takeFollowOn
  dsimp only
  cases hf : (v.dampers.get d).followOn with
  | nothing => rfl
  | target t => exact (if_congr (by rw [hpos]) rfl rfl)
  | home => rfl

/-- A drive is that of an ended motion where its parts are. -/
theorem Drive.ended_of_get {w : Drive} (home : Bool) (hqueue : w.queue = v.queue) (h1 : w.slot1 = (v.free d).slot1)
    (h2 : w.slot2 = (v.free d).slot2) (hp : w.passedOver = v.passedOver)
    (hr : w.resetHomes = if home then v.resetHomes.filter fun z => decide (z ≠ d) else v.resetHomes)
    (hget : ∀ x, w.dampers.get x = (v.ended d home).dampers.get x) : w = v.ended d home := by
  obtain ⟨da, q, s1, s2, rh, po⟩ := w
  obtain rfl : da = (v.ended d home).dampers := Eight.ext_get hget
  cases hqueue
  cases h1
  cases h2
  cases hp
  cases hr
  rfl

/-- A completed MOVE. -/
theorem Drive.completeMove_eq (v : Drive) (d : ZoneId) : v.completeMove d = (v.ended d false).follows d (v.dampers.get d).followOn := by
  unfold Drive.completeMove
  rw [Drive.takeFollowOn_eq, Drive.onDamper_get_same]
  congr 1
  refine Drive.ended_of_get false rfl rfl rfl rfl rfl fun x => ?_
  rw [Drive.onDamper_get, Drive.ended_get]
  split
  · rw [Drive.onDamper_get_same]
    rfl
  · rw [Drive.onDamper_get, if_neg (by assumption)]
    rfl

/-- A completed HOME. -/
theorem Drive.completeHome_eq (v : Drive) (d : ZoneId) : v.completeHome d = (v.ended d true).follows d (v.dampers.get d).followOn := by
  unfold Drive.completeHome
  rw [Drive.takeFollowOn_eq, Drive.onDamper_get_same]
  congr 1
  refine Drive.ended_of_get true rfl rfl rfl rfl rfl fun x => ?_
  rw [Drive.onDamper_get, Drive.ended_get]
  split
  · rw [Drive.onDamper_get_same]
    rfl
  · rw [Drive.onDamper_get, if_neg (by assumption)]
    rfl

/-- The air path where a motion ends: no known position is lost. -/
theorem Drive.ended_air (home : Bool) (hslot : v.slotOf d = some slot) (hhome : home = true → slot.what = .home)
    (hunknown : HomesUnknown v) (ha : v.airPath = true) : (v.ended d home).airPath = true := by
  obtain ⟨x, hx⟩ := (Drive.airPath_iff v).mp ha
  refine (Drive.airPath_iff _).mpr ⟨x, ?_⟩
  rw [Drive.ended_get]
  split
  next h =>
    cases home with
    | false => rw [← h]; exact hx
    | true =>
      have hmem : v.slot1 = some slot ∨ v.slot2 = some slot := by
        have := Drive.slot_mem hslot
        unfold Drive.slotsOf at this
        simpa using (List.mem_filter.mp this).1
      have hnone := hunknown slot hmem (hhome rfl)
      rw [Drive.slotOf_damper hslot, ← h] at hnone
      rw [hnone] at hx
      exact Bool.noConfusion hx
  next => exact hx

end

/-! ### The commands -/

/-- A MOVE_COMPLETE with the MOVE at its target. -/
theorem exec_moveComplete {s : State} {d : ZoneId} {slot : Slot} {u : Nat} (hslot : s.drive.slotOf d = some slot)
    (hw : slot.what = .move u) (hp : (damperOf s d).position = some u) : exec (.moveComplete d) s =
      .next (finish (reportCompletion d { s with drive := (s.drive.ended d false).follows d (damperOf s d).followOn })) := by
  obtain ⟨e, w, n, l, o⟩ := slot
  cases hw
  have hmove : s.drive.isMove d = true := by unfold Drive.isMove; rw [hslot]
  have hdone : s.drive.motionDone d = true := by
    unfold Drive.motionDone
    rw [hslot]
    exact decide_eq_true hp
  rw [show damperOf s d = s.drive.dampers.get d from rfl, ← Drive.completeMove_eq]
  exact congrArg Host.Outcome.next (if_pos (by rw [hmove, hdone]; rfl))

/-- A HOME_COMPLETE with the last step issued. -/
theorem exec_homeComplete {s : State} {d : ZoneId} {slot : Slot} (hslot : s.drive.slotOf d = some slot) (hw : slot.what = .home)
    (hn : 220 ≤ slot.steps) : exec (.homeComplete d) s =
      .next (finish (reportCompletion d { s with drive := (s.drive.ended d true).follows d (damperOf s d).followOn })) := by
  obtain ⟨e, w, n, l, o⟩ := slot
  cases hw
  have hmove : s.drive.isMove d = false := by unfold Drive.isMove; rw [hslot]
  have hdone : s.drive.motionDone d = true := by
    unfold Drive.motionDone
    rw [hslot]
    exact decide_eq_true hn
  rw [show damperOf s d = s.drive.dampers.get d from rfl, ← Drive.completeHome_eq]
  exact congrArg Host.Outcome.next (if_pos (by rw [hmove, hdone]; rfl))

/-! ### The repair move -/

/-- A damper that is not idle takes no repair move. -/
theorem repair_busy {s : State} {d : ZoneId} (h : (damperOf s d).motion ≠ .idle) : repair d s = s := by
  unfold repair
  split
  · rw [decide_eq_false h]
    rfl
  · rfl

/-- A damper that OPENING opens takes no repair move. -/
theorem repair_tested {s : State} {d : ZoneId} (h : testOpens s d = true) : repair d s = s := by
  unfold repair
  split
  · simp only [h, Bool.not_true, Bool.and_false, Bool.false_and]
    rfl
  · rfl

theorem driven_iff (r : Role) : r.driven = true ↔ r = .calling ∨ r = .relief ∨ r = .closed := by
  cases r <;> simp [Role.driven]

/-- The repair move of an idle damper at a known position under the applied plan. -/
theorem repair_applied {s : State} {d : ZoneId} {n : Nat} (hphase : s.co.phase = .applied) (htest : s.op.testPhase = .idle)
    (hm : (damperOf s d).motion = .idle) (hp : (damperOf s d).position = some n) :
    repair d s =
      if (s.co.applied.zones.get d).role.driven = true ∧ stateOf s d = .active ∧ (s.co.applied.zones.get d).opening ≠ n then
        { s with drive := s.drive.append d (.move (s.co.applied.zones.get d).opening) }
      else s := by
  have hplan : repairPlan s = some s.co.applied := by unfold repairPlan; rw [hphase]
  have htest' : testOpens s d = false := by unfold testOpens; rw [htest]; rfl
  have hwants : ∀ o, wantsRepair s.co.phase n o = decide (n ≠ o) := fun o => by unfold wantsRepair; rw [hphase]; rfl
  have hcond : (decide ((damperOf s d).motion = .idle) && (s.co.applied.zones.get d).role.driven && !testOpens s d &&
      wantsRepair s.co.phase n (s.co.applied.zones.get d).opening) = true ↔
      (s.co.applied.zones.get d).role.driven = true ∧ (s.co.applied.zones.get d).opening ≠ n := by
    rw [htest', hwants, hm, Bool.and_eq_true, Bool.not_false, Bool.and_true, decide_eq_true rfl, Bool.true_and, decide_eq_true_iff]
    exact and_congr_right fun _ => ne_comm
  unfold repair
  rw [hplan, hp]
  dsimp only
  by_cases hact : stateOf s d = .active
  · by_cases hdr : (s.co.applied.zones.get d).role.driven = true ∧ (s.co.applied.zones.get d).opening ≠ n
    · rw [if_pos (hcond.mpr hdr), if_pos ⟨hdr.1, hact, hdr.2⟩, moveRequest_active hact,
        Drive.requestMove_elsewhere hm hp (Ne.symm hdr.2)]
    · rw [if_neg (fun h => hdr (hcond.mp h)), if_neg fun h => hdr ⟨h.1, h.2.2⟩]
  · rw [if_neg (c := _ ∧ _ ∧ _) fun h => hact h.2.1, moveRequest_other hact]
    exact ite_self _

end Sys2Proof.Machine
end

section
/-! PREPARING ends in OPENING, and OPENING in TEST (11 R168). -/

namespace Sys2Proof.Machine

/-! ### The end of PREPARING -/

theorem mem_openingDampers {s : State} {z : ZoneId} :
    z ∈ openingDampers s ↔ stateOf s z = .active ∧ (s.zst.get z).unconf = false := by
  unfold openingDampers
  rw [List.mem_filter, Bool.and_eq_true, decide_eq_true_iff, Bool.not_eq_true']
  exact and_iff_right (List.mem_finRange z)

theorem Drive.asked_seeks {v : Drive} (hq : v.queue = []) {l : List ZoneId} {z : ZoneId} (hz : z ∈ l) : (v.asked l).Seeks z := by
  left
  unfold Drive.entryOf
  rw [Drive.asked_queue, hq, List.nil_append]
  induction l with
  | nil => exact absurd hz List.not_mem_nil
  | cons x l ih =>
    by_cases hx : x = z
    · rw [List.map_cons, List.find?_cons_of_pos (by simpa using hx), hx]
    · rw [List.map_cons, List.find?_cons_of_neg (by simpa using hx)]
      exact ih (List.mem_of_ne_of_mem (Ne.symm hx) hz)

/-- A state in which PREPARING is to end and nothing but the round of a wake comes before it. -/
structure Readies (s : State) : Prop where
  still : Still s
  phase : s.op.testPhase = .preparing
  state : s.op.state = .off
  rests : s.seq.state = .stopped ∨ s.seq.state = .tripped ∨ s.seq.state = .lockout
  past : s.seq.minOffFrom + 180000 ≤ s.now
  queue : s.drive.queue = []
  check : s.todo.phaseCheck = false
  round : wakeRoundDue s = true → lineQuiet s = true
  closed : ∀ z : ZoneId, s.inp.windingOpen.get z = false
  air : s.blower.goal = 0 ∨ s.drive.airPath = true
  idle : ∀ z ∈ openingDampers s,
    (damperOf s z).motion = .idle ∧ (damperOf s z).position ≠ none ∧ s.drive.slotOf z = none

/-- How a command ends that reaches the end of PREPARING: in TEST, or in OPENING with each damper below 200 on its way. -/
theorem Readies.finish {s : State} (h : Readies s) :
    (finish s).op.request = s.op.request ∧ (finish s).sens = s.sens ∧ (finish s).link.state = s.link.state ∧
    ((∀ z ∈ openingDampers s, stands s z = true) → (finish s).op.state = .test ∧ (finish s).op.testPhase = .idle ∧
      (finish s).op.testFrom = some s.now ∧ (finish s).eval.early = true) ∧
    ((∃ z ∈ openingDampers s, stands s z = false) → (finish s).op.state = .off ∧ (finish s).op.testPhase = .opening ∧
      (finish s).op.testDampers = openingDampers s ∧ (finish s).op.opened = (openingDampers s).filter (stands s) ∧
        ∀ z ∈ openingDampers s, stands s z = false → (finish s).drive.Seeks z) := by
  have hgrant : canGrant s = false := by simp [canGrant, h.queue]
  obtain ⟨n, hn, l, hleads, hround, hl⟩ := h.still.round hgrant h.check h.round
  obtain ⟨u, hu⟩ : ∃ u : State, u = { s with link := l } := ⟨_, rfl⟩
  rw [← hu] at hleads hround
  have hstart : ∀ t : State, t.seq = s.seq → startDue t = false := fun t ht => by
    unfold startDue
    rw [ht]
    rcases h.rests with hq | hq | hq <;> rw [hq] <;> rfl
  have hstill : Still u := by
    rw [hu]
    exact ⟨h.still.1, h.still.2, h.still.3, h.still.4, h.still.5, h.still.6, h.still.7, h.still.8⟩
  have hpre : preparingDone u = true := by
    rw [hu]
    exact (preparingDone_iff (s := { s with link := l }) h.phase h.rests).trans (decide_eq_true h.past)
  have hbegin : Machine.microStep u = some (beginOpening u) := by
    rw [hstill.microStep, hround, hstart u (by rw [hu]), hpre, show canGrant u = false by rw [hu]; exact hgrant,
      show u.todo.phaseCheck = false by rw [hu]; exact h.check]
    rfl
  have hdampers : openingDampers u = openingDampers s := by rw [hu]; rfl
  have hasks := beginOpening_asks (s := u) fun z hz => by
    rw [hdampers] at hz
    obtain ⟨h1, h2, -⟩ := h.idle z hz
    rw [hu]
    exact ⟨h1, h2⟩
  obtain ⟨w, hw⟩ : ∃ w, beginOpening u = w := ⟨_, rfl⟩
  have hstands : stands u = stands s := by rw [hu]; rfl
  have hwaiting : w = { s with
      link := l
      op := { s.op with
        testPhase := .opening, opened := (openingDampers s).filter (stands s), testDampers := openingDampers s }
      drive := s.drive.asked ((openingDampers s).filter fun z => !stands s z) } := by
    rw [← hw, hasks, hdampers, hstands, hu]
  rw [hw] at hbegin
  have hleads' : Leads (n + 1) s w := by
    rw [Nat.add_comm]
    exact hleads.trans (.one hbegin)
  have hleft : leftActive w = [] := by
    unfold leftActive
    rw [hwaiting]
    refine (if_pos rfl).trans (List.filter_eq_nil_iff.mpr fun z hz => ?_)
    have hact : stateOf s z = .active := (mem_openingDampers.mp hz).1
    have hnot : ∀ b : Bool, ¬ (decide (stateOf s z ≠ .active) && b) = true := fun b h =>
      of_decide_eq_true (Bool.and_eq_true_iff.mp h).1 hact
    exact hnot _
  have hstill' : Still w := by
    refine ⟨?_, ?_, ?_, ?_, ?_, ?_, hleft, ?_⟩ <;> rw [hwaiting]
    · exact h.still.faulted
    · exact h.still.restart
    · exact h.still.held
    · exact h.still.phase
    · exact h.still.incoming
    · exact h.still.started
    · exact h.still.recent
  have hqueue : w.drive.queue = ((openingDampers s).filter fun z => !stands s z).map fun z => ⟨z, .move 200⟩ := by
    rw [hwaiting]
    show (s.drive.asked _).queue = _
    rw [Drive.asked_queue, h.queue, List.nil_append]
  have hwaits : w.drive.Waits := by
    refine ⟨?_, fun e he => ?_, fun e he => ?_⟩
    · rw [hqueue, List.map_map]
      show (List.map id _).Nodup
      rw [List.map_id]
      exact ((List.nodup_finRange 8).filter _).filter _
    · rw [hqueue] at he
      obtain ⟨z, -, rfl⟩ := List.mem_map.mp he
      rfl
    · rw [hqueue] at he
      obtain ⟨z, hz, rfl⟩ := List.mem_map.mp he
      rw [hwaiting]
      show (s.drive.asked _).slotsOf z = []
      rw [Drive.asked_slotsOf, Drive.slotsOf_nil]
      exact (h.idle z (List.mem_filter.mp hz).1).2.2
  have hlen : w.drive.queue.length ≤ 8 := by
    rw [hqueue, List.length_map]
    refine Nat.le_trans (List.length_filter_le _ _) (Nat.le_trans (List.length_filter_le _ _) ?_)
    exact Nat.le_of_eq (List.length_finRange (n := 8))
  have hair : w.blower.goal = 0 ∨ w.drive.airPath = true := by
    rw [hwaiting]
    refine h.air.imp id fun ha => ?_
    exact (Drive.airPath_of_positions (Drive.asked_position (v := s.drive) _)).trans ha
  obtain ⟨m, hm, v, hgrants, hend, hmore⟩ := hstill'.grants hwaits (by rw [hwaiting]; exact h.closed) hair
  have hopens : Opens { w with drive := v } := by
    refine ⟨⟨hstill'.1, hstill'.2, hstill'.3, hstill'.4, hstill'.5, hstill'.6, hstill'.7, hstill'.8⟩, hend, ?_, ?_,
      hstart _ (by rw [hwaiting]), ?_, ?_⟩ <;> rw [hwaiting]
    · exact h.check
    · rw [hu] at hround
      exact hround
    · exact h.state
  obtain ⟨htest, hopening⟩ := hopens.finish (hleads'.trans hgrants) (by omega)
  have hop : w.op = { s.op with
      testPhase := .opening, opened := (openingDampers s).filter (stands s), testDampers := openingDampers s } := by rw [hwaiting]
  rw [show ({ w with drive := v } : State).op = _ from hop] at htest hopening
  have hnow : w.now = s.now := by rw [hwaiting]
  have hsens : w.sens = s.sens := by rw [hwaiting]
  have hlink : w.link.state = s.link.state := by rw [hwaiting]; exact hl
  by_cases hall : ∀ z ∈ openingDampers s, stands s z = true
  · obtain ⟨h1, h2, h3, h4, h5, h6, h7⟩ := htest fun z hz => List.mem_filter.mpr ⟨hz, hall z hz⟩
    refine ⟨h5, h6.trans hsens, ?_, fun _ => ⟨h1, h2, ?_, h4⟩, fun ⟨z, hz, hno⟩ => ?_⟩
    · rw [h7]
      exact hlink
    · rw [h3]
      exact congrArg some hnow
    · rw [hall z hz] at hno
      exact Bool.noConfusion hno
  · push Not at hall
    obtain ⟨x, hx, hno⟩ := hall
    have hfin := hopening ⟨x, hx, fun hmem => hno (List.mem_filter.mp hmem).2⟩
    rw [hfin]
    refine ⟨?_, ?_, ?_, fun hyes => absurd (hyes x hx) hno, fun _ => ⟨?_, ?_, ?_, ?_, fun z hz hst => ?_⟩⟩
    · rw [sync_op_request]
    · rw [sync_sens]; exact hsens
    · rw [sync_link]; exact hlink
    · rw [sync_op_state]; exact h.state
    · rw [sync_op_testPhase]
    · rw [sync_op_testDampers]
    · rw [sync_op_opened]
    · rw [sync_drive]
      refine hmore.seeks z ?_
      rw [hwaiting]
      exact Drive.asked_seeks h.queue (List.mem_filter.mpr ⟨hz, by rw [hst]; rfl⟩)

end Sys2Proof.Machine
end

section
/-! Completions in OPENING, and what RESTING and PREPARING come to (11 R166 to R168). -/

namespace Sys2Proof.Machine

/-! ### A move begun in a free slot -/

/-- The drive with a move of one damper begun in a free slot. -/
def Drive.moved (v : Drive) (now : Nat) (d : ZoneId) (u : Nat) : Drive :=
  (v.append d (.move u)).dequeued.start now ⟨d, .move u⟩

section
variable {v : Drive} {d : ZoneId} {u : Nat} (now : Nat)

theorem Drive.moved_get (x : ZoneId) : (v.moved now d u).dampers.get x =
    if x = d then { v.dampers.get d with motion := .moving } else v.dampers.get x := by
  unfold Drive.moved
  rw [Drive.start_get]
  show (if x = d then ({ (v.append d (.move u)).dampers.get d with motion := .moving } : Damper)
    else (v.append d (.move u)).dampers.get x) = _
  by_cases hx : x = d
  · rw [if_pos hx, if_pos hx, Drive.append_get]
  · rw [if_neg hx, if_neg hx]
    exact ((Drive.asks_append (v := v) (.move u)).others x hx).1

theorem Drive.moved_slotOf (hfree : v.slotFree = true) (hs : v.slotOf d = none) (x : ZoneId) : (v.moved now d u).slotOf x =
    if x = d then some ⟨d, .move u, 0, now, decide ((v.dampers.get d).position.getD 200 < u)⟩ else v.slotOf x := by
  have hslots : (v.append d (.move u)).dequeued.slotsOf d = [] := Drive.slotsOf_nil.mpr hs
  unfold Drive.moved
  rw [Drive.slotOf_eq, Drive.start_slotsOf (v.append d (.move u)).dequeued x now ⟨d, .move u⟩ hfree hslots]
  by_cases hx : x = d
  · rw [if_pos hx, if_pos hx]
    show some ((v.append d (.move u)).dequeued.newSlot now ⟨d, .move u⟩) = _
    unfold Drive.newSlot
    show some (⟨d, .move u, 0, now, decide (((v.append d (.move u)).dampers.get d).position.getD 200 < u)⟩ : Slot) = _
    rw [Drive.append_get]
  · rw [if_neg hx, if_neg hx]
    exact (Drive.slotOf_eq v x).symm

theorem Drive.moved_rest : (v.moved now d u).queue = [] ∧ (v.moved now d u).resetHomes = v.resetHomes ∧
    (v.moved now d u).passedOver = v.passedOver := by
  unfold Drive.moved Drive.start
  dsimp only
  split <;> exact ⟨rfl, rfl, rfl⟩

theorem Drive.moved_airPath : (v.moved now d u).airPath = v.airPath :=
  Drive.airPath_of_positions fun z => by
    rw [Drive.moved_get]
    split
    next h => rw [h]
    next => rfl

end

/-! ### Completions in OPENING -/

/-- A state in OPENING with no move to be granted and no round due: the phase is judged, and a wanted compressor may start. -/
theorem Still.opens {s : State} (h : Still s) (hgrant : canGrant s = false) (hround : wakeRoundDue s = false)
    (hphase : s.op.testPhase = .opening) (hstate : s.op.state = .off) :
    ∃ n ≤ 2, ∃ x q b, Leads n s { s with todo := x, seq := q, blower := b } ∧ Opens { s with todo := x, seq := q, blower := b } := by
  obtain ⟨u, hu⟩ : ∃ u : State, u = { s with todo := { s.todo with phaseCheck := false } } := ⟨_, rfl⟩
  have hstill : Still u := by
    rw [hu]
    exact ⟨h.1, h.2, h.3, h.4, h.5, h.6, h.7, h.8⟩
  have hgrant' : canGrant u = false := by rw [hu]; exact hgrant
  have hround' : wakeRoundDue u = false := by rw [hu]; exact hround
  have hcheck' : u.todo.phaseCheck = false := by rw [hu]
  have hjudged : ∃ n ≤ 1, Leads n s u := by
    cases hc : s.todo.phaseCheck with
    | false =>
      have hsame : s.todo = { s.todo with phaseCheck := false } := by rw [← hc]
      refine ⟨0, by omega, ?_⟩
      rw [hu, ← hsame]
      exact .refl s
    | true =>
      refine ⟨1, by omega, .one ?_⟩
      rw [h.microStep, hgrant, hc, h.phaseStep, ← hu]
      rfl
  obtain ⟨n, hn, hleads⟩ := hjudged
  cases hdue : startDue u with
  | false =>
    refine ⟨n, by omega, u.todo, s.seq, s.blower, ?_, ?_⟩
    · rw [hu] at hleads ⊢
      exact hleads
    · rw [hu] at *
      exact ⟨hstill, hgrant', hcheck', hround', hdue, hphase, hstate⟩
  | true =>
    obtain ⟨b, hb⟩ := startCompressor_eq (s := u) hstill.phase
    have hstep : Machine.microStep u = some (startCompressor u) := by
      rw [hstill.microStep, hgrant', hcheck', hround', hdue]
      rfl
    rw [hb] at hstep
    have hall := hleads.trans (.one hstep)
    rw [Nat.add_comm] at hall
    refine ⟨n + 1, by omega, u.todo,
      { s.seq with state := .running, startFailMs := 0, startFailFrom := none, runStart := none, stopSent := false }, b, ?_, ?_⟩
    · rw [hu] at hall ⊢
      exact hall
    · rw [hu] at *
      exact ⟨⟨hstill.1, hstill.2, hstill.3, hstill.4, hstill.5, hstill.6, hstill.7, hstill.8⟩, hgrant', hcheck', hround', rfl, hphase,
        hstate⟩

/-- A state in OPENING, with nothing else in progress, in which a damper of the test holds a slot. -/
structure OpeningOf (s : State) (d : ZoneId) (slot : Slot) : Prop where
  todo : s.todo = Todo.clear
  applied : s.co.phase = .applied
  incoming : s.co.incoming = none
  held : s.co.held = none
  queue : s.drive.queue = []
  recent : ∃ p, s.eval.lastPass = some p ∧ s.now < p + 5000
  round : wakeRoundDue s = false
  air : AirSafe s
  closed : ∀ z : ZoneId, s.inp.windingOpen.get z = false
  state : s.op.state = .off
  phase : s.op.testPhase = .opening
  tested : d ∈ s.op.testDampers
  active : ∀ z ∈ s.op.testDampers, stateOf s z = .active
  slot : s.drive.slotOf d = some slot
  alone : (damperOf s d).followOn = .nothing

section
variable {s : State} {d : ZoneId} {slot : Slot}

theorem OpeningOf.opens (h : OpeningOf s d slot) : testOpens s d = true := by
  unfold testOpens
  rw [h.phase, List.contains_iff_mem.mpr h.tested]
  rfl

/-- The consequences of a completion are those of a still state, whatever its drive and its opened set. -/
theorem OpeningOf.still (h : OpeningOf s d slot) (v : Drive) (l : List ZoneId) :
    Still { s with drive := v, op := { s.op with opened := l }, todo := ⟨true, [], false, false⟩ } := by
  refine ⟨rfl, rfl, h.held, h.applied, h.incoming, by show s.op.state ≠ _; rw [h.state]; decide, ?_, h.recent⟩
  unfold leftActive
  refine (if_pos h.phase).trans (List.filter_eq_nil_iff.mpr fun z hz => ?_)
  exact fun hno => of_decide_eq_true (Bool.and_eq_true_iff.mp hno).1 (h.active z hz)

theorem OpeningOf.judges (h : OpeningOf s d slot) : tellPhase s = { s with todo := ⟨true, [], false, false⟩ } := by
  unfold tellPhase
  rw [h.todo]
  rfl

/-- A MOVE that completes at 200 adds its damper; the last one begins TEST. -/
theorem OpeningOf.adds (h : OpeningOf s d slot) (hw : slot.what = .move 200) (hp : (damperOf s d).position = some 200) :
    ∃ t, exec (.moveComplete d) s = .next t ∧
      ((∀ z ∈ s.op.testDampers, z = d ∨ z ∈ s.op.opened) →
        t.op.state = .test ∧ t.op.testPhase = .idle ∧ t.op.testFrom = some s.now ∧ t.eval.early = true) ∧
      ((∃ z ∈ s.op.testDampers, z ≠ d ∧ z ∉ s.op.opened) →
        t.op.testPhase = .opening ∧ ∀ z : ZoneId, z ∈ t.op.opened ↔ z ∈ s.op.opened ∨ z = d) := by
  have hexec := exec_moveComplete h.slot hw hp
  rw [h.alone] at hexec
  obtain ⟨l, hmark, hmem⟩ : ∃ l, markOpened d { s with drive := s.drive.ended d false, todo := ⟨true, [], false, false⟩ } =
      { s with drive := s.drive.ended d false, op := { s.op with opened := l }, todo := ⟨true, [], false, false⟩ } ∧
      ∀ z, z ∈ l ↔ z ∈ s.op.opened ∨ z = d := by
    unfold markOpened
    by_cases hc : s.op.opened.contains d = true
    · refine ⟨s.op.opened, if_pos hc, fun z => ⟨.inl, fun hz => hz.elim id fun hd => ?_⟩⟩
      rw [hd]
      exact List.contains_iff_mem.mp hc
    · exact ⟨s.op.opened ++ [d], if_neg hc, fun z => by rw [List.mem_append, List.mem_singleton]⟩
  have hto : reportCompletion d { s with drive := s.drive.ended d false } =
      { s with drive := s.drive.ended d false, op := { s.op with opened := l }, todo := ⟨true, [], false, false⟩ } := by
    have htell : tellPhase { s with drive := s.drive.ended d false } =
        { s with drive := s.drive.ended d false, todo := ⟨true, [], false, false⟩ } :=
      congrArg (fun t : State => { t with drive := s.drive.ended d false }) h.judges
    have hpos : (damperOf { s with drive := s.drive.ended d false, todo := ⟨true, [], false, false⟩ } d).position = some 200 := by
      show ((s.drive.ended d false).dampers.get d).position = _
      rw [Drive.ended_get, if_pos rfl]
      exact hp
    unfold reportCompletion
    rw [htell, repair_tested (by exact h.opens)]
    unfold testCompletion
    rw [if_pos (by exact h.opens), if_pos hpos]
    exact hmark
  have hexec' : exec (.moveComplete d) s = .next (finish (reportCompletion d { s with drive := s.drive.ended d false })) := hexec
  rw [hto] at hexec'
  obtain ⟨n, hn, x, q, b, hleads, hopens⟩ := (h.still (s.drive.ended d false) l).opens
    (by simp [canGrant, show (s.drive.ended d false).queue = [] from h.queue]) h.round h.phase h.state
  obtain ⟨htest, hopening⟩ := hopens.finish hleads (by omega)
  refine ⟨_, hexec', fun hall => ?_, fun ⟨z, hz, hne, hno⟩ => ?_⟩
  · obtain ⟨h1, h2, h3, h4, -⟩ := htest fun z hz => (hmem z).mpr ((hall z hz).symm)
    exact ⟨h1, h2, h3, h4⟩
  · rw [hopening ⟨z, hz, fun hmem' => ((hmem z).mp hmem').elim hno hne⟩]
    exact ⟨(sync_op_testPhase _).trans h.phase, fun z => by rw [sync_op_opened]; exact hmem z⟩

/-- A damper homed in OPENING is moved to 200 again. -/
theorem OpeningOf.reopens (h : OpeningOf s d slot) (hw : slot.what = .home) (hn : 220 ≤ slot.steps) (hd : d ∉ s.op.opened) :
    ∃ t, exec (.homeComplete d) s = .next t ∧ t.op.testPhase = .opening ∧ t.op.opened = s.op.opened ∧
      t.drive.slotOf d = some ⟨d, .move 200, 0, s.now, true⟩ := by
  have hexec := exec_homeComplete h.slot hw hn
  rw [h.alone] at hexec
  obtain ⟨v, hv⟩ : ∃ v, v = s.drive.ended d true := ⟨_, rfl⟩
  have hget : v.dampers.get d = ⟨some 0, .idle, .nothing, (damperOf s d).stalls⟩ := by
    rw [hv, Drive.ended_get, if_pos rfl]
    rfl
  have hfree : v.slotFree = true := by
    rw [hv]
    exact Drive.ended_slotFree true h.slot
  have hnone : v.slotOf d = none := by
    rw [hv, Drive.ended_slotOf, if_pos rfl]
  have hto : reportCompletion d { s with drive := v } =
      { s with drive := v.append d (.move 200), op := { s.op with opened := s.op.opened }, todo := ⟨true, [], false, false⟩ } := by
    have htell : tellPhase { s with drive := v } = { s with drive := v, todo := ⟨true, [], false, false⟩ } :=
      congrArg (fun t : State => { t with drive := v }) h.judges
    have hdamper : damperOf { s with drive := v, todo := ⟨true, [], false, false⟩ } d =
        ⟨some 0, .idle, .nothing, (damperOf s d).stalls⟩ := hget
    have hcontains : s.op.opened.contains d = false := by
      rw [Bool.eq_false_iff]
      exact fun hc => hd (List.contains_iff_mem.mp hc)
    unfold reportCompletion
    rw [htell, repair_tested (by exact h.opens)]
    unfold testCompletion
    rw [if_pos (by exact h.opens), hdamper,
      if_neg (by show ¬ some 0 = some 200; decide), if_pos ⟨rfl, hcontains⟩,
      moveRequest_active (by exact h.active d h.tested)]
    have hidle : (v.dampers.get d).motion = .idle := by rw [hget]
    have hpos : (v.dampers.get d).position = some 0 := by rw [hget]
    show ({ s with drive := v.requestMove d 200, todo := ⟨true, [], false, false⟩ } : State) = _
    rw [Drive.requestMove_elsewhere hidle hpos (by decide)]
  have hexec' : exec (.homeComplete d) s = .next (finish (reportCompletion d { s with drive := v })) := by
    rw [hv]
    exact hexec
  rw [hto] at hexec'
  have hqueue : (v.append d (.move 200)).queue = [⟨d, .move 200⟩] := by
    show v.queue ++ _ = _
    rw [hv, show (s.drive.ended d true).queue = [] from h.queue]
    rfl
  have hair : s.blower.goal = 0 ∨ (v.moved s.now d 200).airPath = true := by
    by_cases hg : s.blower.goal = 0
    · exact .inl hg
    · right
      rw [Drive.moved_airPath, hv]
      exact Drive.ended_air true h.slot (fun _ => hw) h.air.2.2 (h.air.1 hg)
  have hgrant : grantOne
      { s with drive := v.append d (.move 200), op := { s.op with opened := s.op.opened }, todo := ⟨true, [], false, false⟩ } =
      { s with drive := v.moved s.now d 200, op := { s.op with opened := s.op.opened }, todo := ⟨true, [], false, false⟩ } := by
    unfold grantOne
    simp only [hqueue, h.closed d, Bool.false_eq_true, if_false]
    exact airGuard_safe (s := { s with
      drive := v.moved s.now d 200, op := { s.op with opened := s.op.opened }, todo := ⟨true, [], false, false⟩ }) hair
  have hstep := (h.still (v.append d (.move 200)) s.op.opened).microStep
  rw [if_pos (by simp [canGrant, hqueue, show (v.append d (.move 200)).slotFree = true from hfree]), hgrant] at hstep
  obtain ⟨hempty, -⟩ := Drive.moved_rest (v := v) (d := d) (u := 200) s.now
  obtain ⟨n, hn', x, q, b, hleads, hopens⟩ := (h.still (v.moved s.now d 200) s.op.opened).opens
    (by simp [canGrant, hempty]) h.round h.phase h.state
  obtain ⟨-, hopening⟩ := hopens.finish ((Leads.one hstep).trans hleads) (by omega)
  refine ⟨_, hexec', ?_⟩
  rw [hopening ⟨d, h.tested, hd⟩]
  refine ⟨(sync_op_testPhase _).trans h.phase, sync_op_opened _, ?_⟩
  rw [sync_drive]
  show (v.moved s.now d 200).slotOf d = _
  rw [Drive.moved_slotOf s.now hfree hnone, if_pos rfl, hget]
  rfl

end

end Sys2Proof.Machine
end

section
/-! RESTING wakes, and the service test opens its dampers (11 R163 to R168). -/

namespace Sys2Proof.Machine

/-- A state in which nothing but a service test goes on, with its moves safe to make. -/
structure QuietDrive (s : State) : Prop where
  todo : s.todo = Todo.clear
  applied : s.co.phase = .applied
  incoming : s.co.incoming = none
  held : s.co.held = none
  queue : s.drive.queue = []
  recent : ∃ p, s.eval.lastPass = some p ∧ s.now < p + 5000
  round : wakeRoundDue s = false
  air : AirSafe s
  closed : ∀ z : ZoneId, s.inp.windingOpen.get z = false

section
variable {s : State}

theorem AirSafe.goalOrPath (h : AirSafe s) : s.blower.goal = 0 ∨ s.drive.airPath = true := by
  by_cases hg : s.blower.goal = 0
  · exact .inl hg
  · exact .inr (h.1 hg)

/-- The end of the minimum-off time in PREPARING. -/
theorem QuietDrive.readies_expiry (h : QuietDrive s) (hp : s.op.testPhase = .preparing) (ho : s.op.state = .off)
    (hq : s.seq.state = .stopped ∨ s.seq.state = .tripped ∨ s.seq.state = .lockout) (hmin : s.seq.minOffFrom + 180000 ≤ s.now)
    (hidle : ∀ z ∈ openingDampers s, (damperOf s z).motion = .idle ∧ (damperOf s z).position ≠ none ∧ s.drive.slotOf z = none) :
    Readies { s with seq := { s.seq with minOffDone := true } } where
  still :=
    { faulted := congrArg Todo.faulted h.todo
      restart := congrArg Todo.restart h.todo
      held := h.held
      phase := h.applied
      incoming := h.incoming
      started := by show s.op.state ≠ _; rw [ho]; decide
      left := if_neg (by show ¬ s.op.testPhase = _; rw [hp]; decide)
      recent := h.recent }
  phase := hp
  state := ho
  rests := hq
  past := hmin
  queue := h.queue
  check := congrArg Todo.phaseCheck h.todo
  round := fun hr => Bool.noConfusion (hr.symm.trans h.round)
  closed := h.closed
  air := h.air.goalOrPath
  idle := hidle

/-- A long press with the minimum-off time over. -/
theorem QuietDrive.readies_press (h : QuietDrive s) (hlong : LongPressed s) (hquiet : s.op.state = .resting → lineQuiet s = true)
    (hmin : s.seq.minOffFrom + 180000 ≤ s.now)
    (hidle : ∀ z ∈ openingDampers s, (damperOf s z).motion = .idle ∧ (damperOf s z).position ≠ none ∧ s.drive.slotOf z = none) :
    Readies (heldLong s) := by
  have hprep := hlong.prepares
  obtain ⟨u, hu⟩ : ∃ u, heldLong s = u := ⟨_, rfl⟩
  rw [hu] at hprep ⊢
  have hframe := hprep.frame
  refine ⟨⟨?_, ?_, ?_, ?_, ?_, ?_, ?_, ?_⟩, hprep.phase, hprep.state, by rw [hprep.seqState]; exact hlong.rests, ?_, ?_, ?_,
    fun hr => ?_, ?_, ?_, ?_⟩
  · rw [hframe]; exact congrArg Todo.faulted h.todo
  · rw [hframe]; exact congrArg Todo.restart h.todo
  · rw [hframe]; exact h.held
  · rw [hframe]; exact h.applied
  · rw [hframe]; exact h.incoming
  · rw [hprep.state]; decide
  · exact if_neg (by rw [hprep.phase]; decide)
  · rw [hprep.lastPass, hframe]; exact h.recent
  · rw [hprep.minOff, hframe]; exact hmin
  · rw [hframe]; exact h.queue
  · rw [hframe]; exact congrArg Todo.phaseCheck h.todo
  · have hnow : u.now = s.now := by rw [hframe]
    by_cases hs : s.op.state = .resting
    · obtain ⟨-, hlink, -⟩ := hprep.woken hs
      have hq := hquiet hs
      unfold lineQuiet at hq ⊢
      rw [hlink, (wokenLink_state s.now s.link).1, hnow]
      exact hq
    · have hsame : wakeRoundDue u = wakeRoundDue s := by
        unfold wakeRoundDue linkFree
        rw [hprep.kept hs, hnow]
      exact Bool.noConfusion ((hsame.symm.trans hr).symm.trans h.round)
  · rw [hframe]; exact h.closed
  · rw [hframe]; exact h.air.goalOrPath
  · have hdampers : openingDampers u = openingDampers s := by rw [hframe]; rfl
    rw [hdampers, hframe]
    exact hidle

end

/-- Settles O60, clause by clause: the wakes by the state they are taken in, OPENING by its moves granted one by one. -/
theorem restingWakesAndTestOpens : Obligations.RestingWakesAndTestOpens := by
  unfold Obligations.RestingWakesAndTestOpens
  intro s o now follow rests wakes quietDrive pressedLong prepared
  have hfollow : ∀ r, follow r = opOf r := fun r => by cases r <;> rfl
  have hwakes : ∀ t r, Wakes s t r → wakes t r := fun t r h =>
    ⟨h.request, h.state.trans (hfollow r).symm, h.early, h.slot, h.slotAt, h.slotMs, h.poll, h.active, h.lost⟩
  have hrests : rests → RestsCalm s := fun ⟨hcalm, hstate, hstopped, hlow⟩ => ⟨hcalm, hstate, hstopped, lineQuiet_of hlow⟩
  refine ⟨fun r h hfree hr => ?_, fun c h hfree hc => ?_, fun h hb ha ht => ?_, fun h hp hmin => ?_, fun c h hc hq hmin => ?_,
    fun d slot h ho hp hd hact hslot halone => ?_⟩
  · obtain ⟨t, hexec, ht⟩ := (hrests h).request_wakes hfree hr
    exact ⟨t, hexec, hwakes t r ht⟩
  · obtain ⟨t, hexec, hon, hoff⟩ := (hrests h).write_wakes hfree hc
    exact ⟨t, hexec, fun h => hwakes t .on (hon h), hoff⟩
  · have hread : buttonRead true s = true := by
      have ha' : s.op.accepted = false := ha
      unfold buttonRead
      rw [hb, ha', decide_eq_true ht]
      rfl
    obtain ⟨t, hexec, hwake, hbutton, hfrom⟩ := (hrests h).press_wakes hread
    exact ⟨t, hexec, hwakes t _ hwake, hbutton, hfrom⟩
  · obtain ⟨t, hexec, hwake, hbutton, hphase⟩ := (hrests h).long_wakes hp.1 hp.2 hmin
    exact ⟨t, hexec, hwakes t _ hwake, hbutton, hphase⟩
  · intro tested hidle
    obtain ⟨h1, h2, h3, h4, h5, h6, h7, h8, h9⟩ := h
    have hquiet : QuietDrive s := ⟨h1, h2, h3, h4, h5, h6, h7, h8, h9⟩
    have hidle' : ∀ z ∈ openingDampers s,
        (damperOf s z).motion = .idle ∧ (damperOf s z).position ≠ none ∧ s.drive.slotOf z = none := fun z hz =>
      hidle z (mem_openingDampers.mp hz)
    have hstands : ∀ z, stands s z = true ↔ (damperOf s z).position = some 200 := fun z => decide_eq_true_iff
    suffices key : ∃ u, exec c s = .next (finish u) ∧ Readies u ∧ u.now = s.now ∧ openingDampers u = openingDampers s ∧
        stands u = stands s ∧ u.op.request = (if c = .buttonHoldTime then .off else o.request) ∧
        (o.state = .resting → u.sens = { s.sens with nextSlot := 0, nextSlotAt := now, slotMs := 1250, poll := none } ∧
          (s.link.state = .slow → u.link.state = .active)) by
      obtain ⟨u, hexec, hready, hnow, hdampers, hstand, hrequest, hwoken⟩ := key
      obtain ⟨hreq, hsens, hlink, htest, hopening⟩ := hready.finish
      rw [hnow, hdampers, hstand] at htest
      rw [hdampers, hstand] at hopening
      refine ⟨_, hexec, hreq.trans hrequest, fun ho => ?_, fun hall => ?_, fun ⟨z, hz, hno⟩ => ?_⟩
      · obtain ⟨hs, hl⟩ := hwoken ho
        rw [hsens, hs, hlink]
        exact ⟨rfl, rfl, rfl, hl⟩
      · exact htest fun z hz => (hstands z).mpr (hall z (mem_openingDampers.mp hz))
      · obtain ⟨hstate, hphase, hds, hopened, hseeks⟩ := hopening
          ⟨z, mem_openingDampers.mpr hz, Bool.eq_false_iff.mpr fun h => hno ((hstands z).mp h)⟩
        refine ⟨hstate, hphase, fun x => ⟨?_, ?_, fun hx hnot => ?_⟩⟩
        · rw [hds]
          exact mem_openingDampers
        · rw [hopened, List.mem_filter, hstands]
          exact and_congr_left fun _ => mem_openingDampers
        · exact hseeks x (mem_openingDampers.mpr hx) (Bool.eq_false_iff.mpr fun h => hnot ((hstands x).mp h))
    rcases hc with ⟨rfl, hp, ho, hdone⟩ | ⟨rfl, -, ⟨hb, ht⟩, hstate⟩
    · refine ⟨_, exec_minimumOff hmin hdone, hquiet.readies_expiry hp ho hq hmin hidle', rfl, rfl, rfl, rfl, fun hr => ?_⟩
      exact OpState.noConfusion (ho.symm.trans hr)
    · have hlong : LongPressed s := ⟨hstate.imp And.left id, hq⟩
      have hline : s.op.state = .resting → lineQuiet s = true := fun hr => by
        rcases hstate with ⟨-, hlow⟩ | ⟨ho, -⟩ | ⟨ho, -⟩
        · exact lineQuiet_of hlow
        · exact OpState.noConfusion (hr.symm.trans ho)
        · exact OpState.noConfusion (hr.symm.trans ho)
      have hprep := hlong.prepares
      have hframe := hprep.frame
      refine ⟨heldLong s, congrArg Host.Outcome.next (if_pos (buttonHoldDue_of hb ht)), hquiet.readies_press hlong hline hmin hidle',
        ?_, ?_, ?_, hprep.request.trans (if_pos rfl).symm, fun hr => ?_⟩
      · rw [hframe]
      · rw [hframe]; rfl
      · rw [hframe]; rfl
      · obtain ⟨-, hlink, hsens⟩ := hprep.woken hr
        exact ⟨hsens, fun hs => by rw [hlink]; exact (wokenLink_state s.now s.link).2.1 hs⟩
  · obtain ⟨h1, h2, h3, h4, h5, h6, h7, h8, h9⟩ := h
    have hof : OpeningOf s d slot := ⟨h1, h2, h3, h4, h5, h6, h7, h8, h9, ho, hp, hd, hact, hslot, halone⟩
    exact ⟨fun hw hpos => hof.adds hw hpos, fun hw hn hno => hof.reopens hw hn hno⟩

end Sys2Proof.Machine
end

section
/-! A completed motion in a calm state: it ends, goes on to its next move, or finds its winding open (06 R100, R102; 04 R71). -/

namespace Sys2Proof.Machine

/-- What a changeover that has been told to judge its phase, and nothing else, has to do. -/
def Todo.judge : Todo := ⟨true, [], false, false⟩

section
variable {s : State} {d : ZoneId} {slot : Slot} {home : Bool} {pos : Nat}

/-- The target a damper goes on to when a motion ends at a position: its follow-on, else the applied plan's opening of its ACTIVE zone. -/
def nextTarget (s : State) (d : ZoneId) (pos : Nat) : Option Nat :=
  if (damperOf s d).followOn ≠ .nothing ∧ (damperOf s d).followOn ≠ .target pos then
    (match (damperOf s d).followOn with | .target u => some u | _ => none)
  else if (s.co.applied.zones.get d).role.driven = true ∧ stateOf s d = .active ∧ (s.co.applied.zones.get d).opening ≠ pos then
    some (s.co.applied.zones.get d).opening
  else none

/-- A drive with a next move queued, if there is one. -/
def Drive.goesOn (v : Drive) (d : ZoneId) : Option Nat → Drive
  | none => v
  | some u => v.append d (.move u)

theorem ended_damper (hp : (if home then some 0 else (damperOf s d).position) = some pos) : (s.drive.ended d home).dampers.get d =
    ⟨some pos, .idle, .nothing, if home then (damperOf s d).stalls else 0⟩ := by
  rw [Drive.ended_get, if_pos rfl, ← hp]
  rfl

/-- What is reported of a completion outside OPENING with the plan applied. -/
theorem reportCompletion_eq (htodo : s.todo = Todo.clear) (hphase : s.co.phase = .applied) (htest : s.op.testPhase = .idle)
    (hp : (if home then some 0 else (damperOf s d).position) = some pos) (hf : (damperOf s d).followOn ≠ .home) :
    reportCompletion d { s with drive := (s.drive.ended d home).follows d (damperOf s d).followOn } =
      { s with drive := (s.drive.ended d home).goesOn d (nextTarget s d pos), todo := Todo.judge } := by
  have htell : ∀ v : Drive, tellPhase { s with drive := v } = { s with drive := v, todo := Todo.judge } := fun v => by
    unfold tellPhase
    rw [htodo]
    rfl
  have hno : ∀ t : State, t.op.testPhase = .idle → testCompletion d t = t := fun t ht => by
    unfold testCompletion testOpens
    rw [ht]
    rfl
  have hdamper := ended_damper hp
  have hidle : repair d { s with drive := s.drive.ended d home, todo := Todo.judge } =
      if (s.co.applied.zones.get d).role.driven = true ∧ stateOf s d = .active ∧ (s.co.applied.zones.get d).opening ≠ pos then
        { s with drive := (s.drive.ended d home).append d (.move (s.co.applied.zones.get d).opening), todo := Todo.judge }
      else { s with drive := s.drive.ended d home, todo := Todo.judge } :=
    repair_applied (s := { s with drive := s.drive.ended d home, todo := Todo.judge }) hphase htest
      (by show ((s.drive.ended d home).dampers.get d).motion = _; rw [hdamper])
      (by show ((s.drive.ended d home).dampers.get d).position = _; rw [hdamper])
  have hrest : testCompletion d (repair d { s with drive := s.drive.ended d home, todo := Todo.judge }) =
      { s with
        drive := (s.drive.ended d home).goesOn d
          (if (s.co.applied.zones.get d).role.driven = true ∧ stateOf s d = .active ∧
              (s.co.applied.zones.get d).opening ≠ pos then some (s.co.applied.zones.get d).opening else none)
        todo := Todo.judge } := by
    rw [hidle]
    split
    · exact hno _ htest
    · exact hno _ htest
  unfold reportCompletion nextTarget
  rw [htell]
  cases hfo : (damperOf s d).followOn with
  | nothing =>
    rw [if_neg fun h : FollowOn.nothing ≠ .nothing ∧ FollowOn.nothing ≠ .target pos => h.1 rfl]
    exact hrest
  | home => exact absurd hfo hf
  | target t =>
    by_cases ht : t = pos
    · have hsame : (s.drive.ended d home).follows d (.target t) = s.drive.ended d home := if_pos (by rw [hdamper, ht])
      rw [if_neg fun h : FollowOn.target t ≠ .nothing ∧ FollowOn.target t ≠ .target pos => h.2 (congrArg FollowOn.target ht), hsame]
      exact hrest
    · have hne : ((s.drive.ended d home).dampers.get d).position ≠ some t := by
        rw [hdamper]
        exact fun h => ht (Option.some.inj h).symm
      have happend : (s.drive.ended d home).follows d (.target t) = (s.drive.ended d home).append d (.move t) := if_neg hne
      rw [if_pos ⟨FollowOn.noConfusion, fun h => ht (FollowOn.target.inj h)⟩, happend, repair_busy]
      · exact hno _ htest
      · show (((s.drive.ended d home).append d (.move t)).dampers.get d).motion ≠ _
        rw [Drive.append_get]
        exact MotionState.noConfusion

/-- A completed motion in a calm state, as the commands give it. -/
structure Completes (s : State) (d : ZoneId) (slot : Slot) (home : Bool) (pos : Nat) : Prop where
  calm : Calm s
  air : AirSafe s
  holds : s.drive.slotOf d = some slot
  homes : home = true → slot.what = .home
  position : (if home then some 0 else (damperOf s d).position) = some pos

theorem Completes.told (h : Completes s d slot home pos) (v : Drive) (hv : v.queue = []) :
    Told { s with drive := v, todo := Todo.judge } := by
  have htodo := h.calm.1.1
  obtain ⟨⟨-, hrest⟩, -, hq⟩ := h.calm
  exact ⟨⟨⟨rfl, hrest⟩, hv, hq⟩, rfl, rfl, Nat.zero_le 8⟩

theorem Completes.queue (h : Completes s d slot home pos) : (s.drive.ended d home).queue = [] := h.calm.2.1

/-- With no next move the damper is idle. -/
theorem Completes.finish_idle (h : Completes s d slot home pos) :
    finish { s with drive := s.drive.ended d home, todo := Todo.judge } = sync { s with drive := s.drive.ended d home } := by
  rw [(h.told _ h.queue).finish]
  show sync { s with drive := s.drive.ended d home, todo := Todo.clear } = _
  rw [← h.calm.1.1]

theorem Completes.append_queue (h : Completes s d slot home pos) (u : Nat) :
    ((s.drive.ended d home).append d (.move u)).queue = [⟨d, .move u⟩] := by
  show (s.drive.ended d home).queue ++ _ = _
  rw [h.queue]
  rfl

/-- The next move begins where its winding is closed. -/
theorem Completes.finish_moves (h : Completes s d slot home pos) {u : Nat} (hw : s.inp.windingOpen.get d = false) :
    finish { s with drive := (s.drive.ended d home).append d (.move u), todo := Todo.judge } =
      sync { s with drive := (s.drive.ended d home).moved s.now d u } := by
  have hair : s.blower.goal = 0 ∨ ((s.drive.ended d home).moved s.now d u).airPath = true := by
    refine h.air.goalOrPath.imp id fun ha => ?_
    rw [Drive.moved_airPath]
    exact Drive.ended_air home h.holds h.homes h.air.2.2 ha
  have hfin := finish_starts (s := { s with drive := (s.drive.ended d home).append d (.move u), todo := Todo.judge })
    (e := ⟨d, .move u⟩) (h.told _ rfl) (h.append_queue u) (Drive.ended_slotFree home h.holds) rfl hw hair
  rw [hfin]
  show sync { s with drive := (s.drive.ended d home).moved s.now d u, todo := Todo.clear } = _
  rw [← h.calm.1.1]

/-- The drive with the next move's damper in FAULT. -/
def Drive.endFault (v : Drive) (d : ZoneId) (home : Bool) (u : Nat) : Drive := ((v.ended d home).append d (.move u)).dequeued.fault d

/-- The next move of an ACTIVE zone's damper faults it where its winding is open. -/
theorem Completes.finish_faults (h : Completes s d slot home pos) {u : Nat} (hw : s.inp.windingOpen.get d = true)
    (hz : s.zst.get d = ⟨.active, false⟩) (hair : s.blower.goal = 0 ∨ ∃ y : ZoneId, y ≠ d ∧ passes (damperOf s y).position = true) :
    ∃ p, finish { s with drive := (s.drive.ended d home).append d (.move u), todo := Todo.judge } =
      sync { s with
        drive := s.drive.endFault d home u, zst := s.zst.set d ⟨.fault, false⟩, eval := { s.eval with early := true }, port := p } := by
  obtain ⟨v, hv⟩ : ∃ v, ((s.drive.ended d home).append d (.move u)).dequeued = v := ⟨_, rfl⟩
  have hqueue : v.queue = [] := by rw [← hv]
  have hact : stateOf s d = .active := by unfold stateOf; rw [hz]
  have hcalm : Calm { s with drive := v } := ⟨h.calm.1, hqueue, h.calm.2.2⟩
  have htodo := h.calm.1.1
  have hjudge : faultDamper d { s with drive := v, todo := Todo.judge } = faultDamper d { s with drive := v } := by
    have : ({ s with drive := v } : State) = { s with drive := v, todo := Todo.clear } := by rw [← htodo]
    rw [this]
    rfl
  have hothers : ∀ x, x ≠ d → v.dampers.get x = s.drive.dampers.get x := fun x hx => by
    rw [← hv]
    show ((s.drive.ended d home).append d (.move u)).dampers.get x = _
    rw [((Drive.asks_append (v := s.drive.ended d home) (.move u)).others x hx).1, Drive.ended_get, if_neg hx]
  have hair' := faultDamper_air (s := { s with drive := v }) (.inl hact) (hair.imp id fun ⟨y, hy, hp⟩ => ⟨y, hy, by
    show passes (v.dampers.get y).position = true
    rw [hothers y hy]
    exact hp⟩)
  have hfin := finish_openWinding (s := { s with drive := (s.drive.ended d home).append d (.move u), todo := Todo.judge })
    (e := ⟨d, .move u⟩) (h.told _ rfl) (h.append_queue u) (Drive.ended_slotFree home h.holds) rfl hw
    (by rw [hv, hjudge]; exact faultDamper_told hcalm (.inl hact)) (by rw [hv, hjudge]; exact hair')
  obtain ⟨p, hp⟩ := faultDamper_stays (s := { s with drive := v }) (.inl hact) (by rw [hz])
  refine ⟨p, hfin.trans ?_⟩
  rw [hv, hjudge, hp]
  unfold Drive.endFault
  rw [hv]
  show sync { s with
    drive := v.fault d, zst := s.zst.set d ⟨.fault, false⟩, eval := { s.eval with early := true }, port := p, todo := Todo.clear } = _
  rw [← htodo]

end

end Sys2Proof.Machine
end

section
/-! The minimum-off time that is not over stays so: a consequence leaves it or restarts it (09 R138). -/

namespace Sys2Proof.Machine

/-- The minimum-off time is not over. -/
def Young (s : State) : Prop := s.now < s.seq.minOffFrom + 180000

section
variable {s : State}

theorem young_restartMinOff (s : State) : Young (restartMinOff s) := by
  show s.now < s.now + 180000
  omega

theorem Young.airGuard (h : Young s) : Young (airGuard s) := by
  unfold Machine.airGuard
  split <;> exact h

theorem Young.removeHold (h : Young s) (cold : Bool) : Young (removeHold cold s) :=
  Young.airGuard (s := { s with blower := s.blower.removeHold s.now s.cfg.table cold }) h

theorem young_stopReport (s : State) : Young (stopReport s) := by
  have hrest : Young (restStartPoint (restartMinOff { s with seq := { s.seq with runStart := none } })) := by
    have hoff := young_restartMinOff { s with seq := { s.seq with runStart := none } }
    unfold restStartPoint
    split <;> exact hoff
  obtain ⟨t, ht⟩ : ∃ t, restStartPoint (restartMinOff { s with seq := { s.seq with runStart := none } }) = t := ⟨_, rfl⟩
  unfold stopReport
  dsimp only
  rw [ht] at hrest ⊢
  split
  · exact Young.removeHold (s := { t with blower := t.blower.stopReported t.now t.cfg.table t.seq.stopping }) hrest _
  · exact hrest

theorem Young.endRecovery (h : Young s) (c : DefrostCause) : Young (endRecovery c s) := by
  unfold Machine.endRecovery
  dsimp only
  obtain ⟨next, hnext⟩ : ∃ next, (if (!s.seq.takenStopped) = true then
      (if (!s.seq.stopMark && decide (wanted s ≠ 0)) = true then SeqState.running else .stopWait)
    else if s.prot.lockout = true then .lockout
    else if s.prot.stops ≠ [] then .tripped
    else restState s) = next := ⟨_, rfl⟩
  rw [hnext]
  obtain ⟨t, ht⟩ : ∃ t, (if next = .stopWait then stopWait true (seqRest next s) else seqRest next s) = t := ⟨_, rfl⟩
  have hrest : Young t := by
    rw [← ht]
    split <;> exact h
  rw [ht]
  exact Young.removeHold (s := requestPass { t with arb := { t.arb with deferral := false } }) hrest false

theorem Young.enterRecovery (h : Young s) (c : DefrostCause) : Young (enterRecovery c s) := by
  unfold Machine.enterRecovery
  dsimp only
  split
  · exact Young.endRecovery (s := raise (.defrost .recovery c none) { s with seq :=
      { s.seq with state := .defrostRecovery, grantSent := false, defrostFrom := none, recoveryFrom := some s.now } }) h c
  · exact h

theorem Young.interruptDefrost (h : Young s) (c : DefrostCause) : Young (interruptDefrost c s) := by
  have htaken : Young (takeStopped s) := by
    unfold takeStopped
    split
    · exact h
    · exact young_stopReport s
  unfold Machine.interruptDefrost
  dsimp only
  split
  · exact htaken
  · exact htaken.enterRecovery c

theorem Young.immediateStop (h : Young s) : Young (immediateStop s) := by
  have hmark : Young (markStop s) := by
    unfold markStop
    dsimp only
    split
    · exact Young.enterRecovery (s := { s with seq := { s.seq with stopMark := true } }) h _
    · exact h
  unfold Machine.immediateStop
  split
  · exact h
  · exact h
  · exact hmark
  · exact hmark
  · exact hmark
  · exact h

theorem Young.releaseOff (h : Young s) : Young (releaseOff s) := by
  have hstop := Young.immediateStop (s := { s with seq := { s.seq with release := s.seq.release.map fun r => { r with c := 0 } } }) h
  unfold Machine.releaseOff
  rw [followWanted_eq]
  exact hstop

theorem young_stoppingTrip (s : State) : Young (stoppingTrip s) := by
  have hoff := young_restartMinOff s
  have hstop : Young (seqRest .tripped (stopReport (restartMinOff s))) := young_stopReport _
  have hdefrost := hoff.interruptDefrost .trip
  unfold stoppingTrip
  dsimp only
  split
  · exact hoff
  · exact hoff
  · exact hstop
  · exact hstop
  · exact hdefrost
  · exact hdefrost
  · exact hdefrost
  · exact hoff
  · exact hoff

theorem Young.judgeFloat (h : Young s) : Young (judgeFloat s) := by
  unfold Machine.judgeFloat joinStops
  split
  · split
    · exact h
    · exact young_stoppingTrip _
  · obtain ⟨p, hp⟩ := leaveStops_eq .float s
    rw [hp]
    exact h

theorem Young.releasePlan (h : Young s) (p : Plan) : Young (releasePlan p s) := by
  obtain ⟨q, sent, since, hrel⟩ := seqRelease_moves ⟨p.mode, p.c, p.coilTarget⟩ { s with co := { s.co with released := true } }
  have hto : Young (seqRelease ⟨p.mode, p.c, p.coilTarget⟩ { s with co := { s.co with released := true } }) := by
    rw [hrel]
    exact h
  exact Young.judgeFloat (s := endWatches (seqRelease ⟨p.mode, p.c, p.coilTarget⟩ { s with co := { s.co with released := true } })) hto

end

end Sys2Proof.Machine
end

section
/-! What the consequences of a command put into the drive and the changeover: moves that wait, faults to be told of, a start, and the
restarts that the air-path guard can still ask for (04 R70 to R78; 06 R99, R104). -/

namespace Sys2Proof.Machine

/-! ### The load of a state -/

/-- Whether a goal above 0 is in force, given or carried. -/
def Blower.moves (b : Blower) : Bool := decide (b.goal ≠ 0) || decide (b.given ≠ 0) || decide (b.carried.getD 0 ≠ 0)

theorem Blower.moves_iff (b : Blower) : b.moves = false ↔ b.Stilled := by
  unfold Blower.moves Blower.Stilled
  cases b.carried <;> simp [and_assoc]

/-- The restarts of the changeover that stand or may still be asked for: the guard asks once more, and then no goal above 0 comes back
without an air path. -/
def restarts (s : State) : Nat := s.todo.restart.toNat + (s.drive.airPath || s.blower.moves).toNat

/-- What the consequences have still to work off beside the phase of the changeover. -/
def load (s : State) : Nat :=
  3 * s.drive.queue.length + s.todo.faulted.length + (decide (s.seq.state = .waitStart)).toNat + 54 * restarts s

/-- What a consequence adds at most, with no reset HOME begun and the minimum-off time not run out by it. -/
structure Works (k : Nat) (s t : State) : Prop where
  young : Young s → Young t
  homes : s.drive.resetHomes = [] → t.drive.resetHomes = []
  load : load t ≤ load s + k

section
variable {s t u : State} {k l : Nat}

theorem Works.refl (s : State) : Works 0 s s := ⟨id, id, Nat.le_refl _⟩

theorem Works.trans (h : Works k s t) (h' : Works l t u) : Works (k + l) s u :=
  ⟨fun x => h'.young (h.young x), fun x => h'.homes (h.homes x), by have := h.load; have := h'.load; omega⟩

theorem Works.mono (h : Works k s t) (hkl : k ≤ l) : Works l s t := ⟨h.young, h.homes, by have := h.load; omega⟩

theorem Works.ite {c : Prop} [Decidable c] (h : Works k s t) : Works k s (if c then t else s) := by
  split
  · exact h
  · exact (Works.refl s).mono (Nat.zero_le k)

theorem works_foldl {α : Type} {f : State → α → State} (h : ∀ s a, Works k s (f s a)) (l : List α) (s : State) :
    Works (l.length * k) s (l.foldl f s) := by
  induction l generalizing s with
  | nil => exact (Works.refl s).mono (Nat.zero_le _)
  | cons a l ih => exact ((h s a).trans (ih (f s a))).mono (by rw [List.length_cons, Nat.succ_mul]; omega)

/-- The restarts do not grow where the air path is not gained and no restart is asked for. -/
theorem restarts_le (hr : t.todo.restart = true → s.todo.restart = true) (ha : t.drive.airPath = true → s.drive.airPath = true)
    (hm : s.blower.moves = false → t.blower.moves = false) : restarts t ≤ restarts s := by
  unfold restarts
  have h1 : t.todo.restart.toNat ≤ s.todo.restart.toNat := by
    cases hx : t.todo.restart with
    | false => exact Nat.zero_le _
    | true => rw [hr hx]
  have h2 : (t.drive.airPath || t.blower.moves).toNat ≤ (s.drive.airPath || s.blower.moves).toNat := by
    cases hs : s.drive.airPath || s.blower.moves with
    | true => exact Bool.toNat_le _
    | false =>
      obtain ⟨hp, hb⟩ := Bool.or_eq_false_iff.mp hs
      have hp' : t.drive.airPath = false := Bool.eq_false_iff.mpr fun h => Bool.noConfusion ((ha h).symm.trans hp)
      rw [hp', hm hb]
      exact Nat.zero_le _
  omega

/-- A guard asks for a restart as it takes the last goal away. -/
theorem restarts_aside (h : Aside s t) : restarts t ≤ restarts s := by
  have hdrive : t.drive.airPath = true → s.drive.airPath = true := by rw [h.drive]; exact id
  have hstill : s.blower.moves = false → t.blower.moves = false := fun hs =>
    (Blower.moves_iff _).mpr (h.stilled ((Blower.moves_iff _).mp hs))
  by_cases hr : t.todo.restart = true → s.todo.restart = true
  · exact restarts_le hr hdrive hstill
  · push Not at hr
    obtain ⟨ht, hs⟩ := hr
    obtain ⟨hpath, hmoves, hnow⟩ := (h.restart ht).resolve_left hs
    have hs' : s.todo.restart = false := Bool.eq_false_iff.mpr hs
    have hpath' : t.drive.airPath = false := by rw [h.drive]; exact hpath
    have hm : s.blower.moves = true := by
      cases hm : s.blower.moves with
      | true => rfl
      | false => exact absurd ((Blower.moves_iff _).mp hm) hmoves
    unfold restarts
    rw [ht, hs', hpath, hpath', hm, (Blower.moves_iff _).mpr hnow]
    exact Nat.le_refl _

theorem Aside.faulted (h : Aside s t) : t.todo.faulted = s.todo.faulted := by
  have hf := congrArg Todo.faulted h.todo
  exact hf

/-- The load with the sequencer's state standing. -/
theorem load_le (hq : t.drive.queue.length ≤ s.drive.queue.length + k) (hf : t.todo.faulted = s.todo.faulted)
    (hw : t.seq.state = s.seq.state) (hr : restarts t ≤ restarts s) : Machine.load t ≤ Machine.load s + 3 * k := by
  unfold Machine.load
  rw [hf, hw]
  omega

/-- What is done aside adds a start at most. -/
theorem Aside.works (h : Aside s t) (hy : Young s → Young t) : Works 1 s t := by
  refine ⟨hy, by rw [h.drive]; exact id, ?_⟩
  have hr := restarts_aside h
  have hf := h.faulted
  have hwait : (decide (t.seq.state = .waitStart)).toNat ≤ 1 := Bool.toNat_le _
  unfold Machine.load
  rw [h.drive, hf]
  omega

/-- What is done aside with the sequencer's state standing adds nothing. -/
theorem Aside.works_none (h : Aside s t) (hy : Young s → Young t) (hq : t.seq.state = s.seq.state) : Works 0 s t := by
  exact ⟨hy, by rw [h.drive]; exact id, load_le (k := 0) (by rw [h.drive]; exact Nat.le_refl _) h.faulted hq (restarts_aside h)⟩

theorem works_airGuard (s : State) : Works 0 s (airGuard s) := by
  refine (aside_airGuard s).works_none Young.airGuard ?_
  unfold airGuard
  split <;> rfl

/-- A change of the drive adds what joins the queue. -/
theorem works_drive {v : Drive} (hq : v.queue.length ≤ s.drive.queue.length + k) (hh : s.drive.resetHomes = [] → v.resetHomes = [])
    (ha : v.airPath = true → s.drive.airPath = true) : Works (3 * k) s { s with drive := v } := by
  exact ⟨id, hh, load_le (t := { s with drive := v }) hq rfl rfl (restarts_le (s := s) (t := { s with drive := v }) id ha id)⟩

/-! ### Requests to the drive -/

theorem works_moveRequest (d : ZoneId) (n : Nat) (s : State) : Works 3 s (moveRequest d n s) := by
  unfold moveRequest
  refine (works_drive (k := 1) ?_ ?_ ?_).ite
  · unfold Drive.requestMove
    dsimp only
    split
    · split
      · split
        · exact Nat.le_succ _
        · exact Nat.le_of_eq List.length_append
      · exact Nat.le_of_eq List.length_append
    · split
      · split
        · exact Nat.le_succ_of_le (List.length_filter_le _ _)
        · exact Nat.le_succ_of_le (Nat.le_of_eq (List.length_map _))
      · exact Nat.le_succ _
      · exact Nat.le_succ _
    · split <;> exact Nat.le_succ _
    · exact Nat.le_succ _
    · exact Nat.le_succ _
  · rw [(s.drive.requestMove_rest d n).1]
    exact id
  · rw [(Drive.asks_requestMove (v := s.drive) (d := d) n).airPath]
    exact id

theorem works_requestFor (p : Plan) (z : ZoneId) (s : State) : Works 3 s (requestFor p z s) := (works_moveRequest _ _ s).ite

theorem allZones_length : allZones.length = 8 := List.length_finRange (n := 8)

theorem works_requestOpenings (p : Plan) (s : State) : Works 24 s (requestOpenings p s) := by
  unfold requestOpenings
  refine (works_foldl (k := 3) (fun s z => ?_) allZones s).mono (by rw [allZones_length])
  exact (works_requestFor p z s).ite

theorem works_requestClosings (p : Plan) (s : State) : Works 24 s (requestClosings p s) := by
  unfold requestClosings
  refine (works_foldl (k := 3) (fun s z => ?_) allZones s).mono (by rw [allZones_length])
  exact (works_requestFor p z s).ite

theorem works_adjustEntry (p : Plan) (d : ZoneId) (s : State) : Works 0 s (adjustEntry p d s) := by
  unfold adjustEntry
  split
  · dsimp only
    split
    · exact works_drive (k := 0) (Nat.le_of_eq (List.length_map _)) id id
    · refine works_drive (k := 0) ?_ ?_ ?_
      · unfold Drive.withdrawMove
        split
        · exact List.length_filter_le _ _
        · exact Nat.le_refl _
      · unfold Drive.withdrawMove
        split <;> exact id
      · rw [Drive.asks_withdrawMove.airPath]
        exact id
  · exact .refl s

theorem works_clearInMotion (d : ZoneId) (s : State) : Works 0 s (clearInMotion d s) := by
  have hclear : Works 0 s { s with drive := s.drive.clearFollowOn d } :=
    works_drive (k := 0) (Nat.le_refl _) id (by rw [Drive.asks_clearFollowOn.airPath]; exact id)
  unfold clearInMotion
  split
  · exact hclear
  · exact hclear
  · exact .refl s

theorem works_removeIntent (p : Plan) (s : State) : Works 0 s (removeIntent p s) := by
  refine (works_foldl (k := 0) (fun s d => ?_) allZones s).mono (Nat.le_of_eq (Nat.mul_zero _))
  split
  · exact .refl s
  · exact (works_adjustEntry p d s).trans (works_clearInMotion d _)

/-! ### The changeover -/

theorem works_releasePlan (p : Plan) (s : State) : Works 1 s (releasePlan p s) := by
  obtain ⟨r, -, haside⟩ := releasePlan_aside p s
  obtain ⟨u, hu⟩ : ∃ u : State, u = { s with co := { s.co with released := true }, seq := r } := ⟨_, rfl⟩
  rw [← hu] at haside
  have hr := restarts_aside haside
  have hf := haside.faulted
  have hwait : (decide ((releasePlan p s).seq.state = .waitStart)).toNat ≤ 1 := Bool.toNat_le _
  have hrs : restarts u = restarts s := by rw [hu]; rfl
  have hfs : u.todo = s.todo := by rw [hu]
  have hds : u.drive = s.drive := by rw [hu]
  refine ⟨fun h => h.releasePlan p, by rw [haside.drive, hds]; exact id, ?_⟩
  unfold Machine.load
  rw [haside.drive, hds, hf, hfs]
  omega

theorem works_capacityStep (p : Plan) (s : State) : Works 1 s (capacityStep p s) := by
  unfold capacityStep
  split
  · exact works_releasePlan p s
  · exact ⟨id, id, Nat.le_succ _⟩

theorem works_openPhase (p : Plan) (s : State) : Works 25 s (openPhase p s) := by
  have hopening : Works 0 s (opening p s) := ⟨id, id, Nat.le_refl _⟩
  have hall := (hopening.trans (works_requestOpenings p _)).trans (works_capacityStep p _)
  exact ⟨hall.young, hall.homes, hall.load⟩

theorem works_supersede (p : Plan) (mark : Bool) (s : State) : Works 25 s (supersede p mark s) := by
  obtain ⟨u, hu⟩ : ∃ u, removeIntent p s = u := ⟨_, rfl⟩
  have hto := works_removeIntent p s
  rw [hu] at hto
  have hmark : Works 0 u { u with co := { u.co with reapply := mark } } := ⟨id, id, Nat.le_refl _⟩
  unfold supersede
  rw [hu]
  exact (hto.trans hmark).trans (works_openPhase p _)

theorem works_takePlan (p : Plan) (s : State) : Works 25 s (takePlan p s) := by
  have hmark : Works 0 s { s with co := { s.co with reapply := false } } := ⟨id, id, Nat.le_refl _⟩
  unfold takePlan
  split
  · exact hmark.trans (works_openPhase p _)
  · exact works_supersede p false s

theorem works_handOn (p : Plan) (s : State) : Works 25 s (handOn p s) := by
  unfold handOn
  split
  · exact ⟨id, id, Nat.le_add_right _ _⟩
  · exact works_takePlan p s

theorem works_takeHeld (s : State) : Works 25 s (takeHeld s) := by
  unfold takeHeld
  split
  next p _ =>
    have hmark : Works 0 s { s with co := { s.co with held := none } } := ⟨id, id, Nat.le_refl _⟩
    exact hmark.trans (works_takePlan p _)
  next => exact (Works.refl s).mono (Nat.zero_le _)

theorem works_abandonFor (d : ZoneId) (s : State) : Works 25 s (abandonFor d s) := by
  have hpass : Works 0 s (requestPass s) := ⟨id, id, Nat.le_refl _⟩
  unfold abandonFor
  split
  · exact (hpass.trans (works_supersede _ true _)).ite
  · exact (Works.refl s).mono (Nat.zero_le _)

theorem works_restartChangeover (s : State) : Works 25 s (restartChangeover s) := by
  unfold restartChangeover
  split
  · exact works_openPhase _ s
  · exact works_supersede _ true s

theorem works_endBlower (p : Plan) (s : State) : Works 25 s (endBlower p s) := by
  obtain ⟨u, hu⟩ : ∃ u : State, u =
    { s with co := { s.co with phase := .closing }, todo := { s.todo with holdReport := false } } := ⟨_, rfl⟩
  have hto : Works 0 s u := by
    rw [hu]
    exact ⟨id, id, Nat.le_refl _⟩
  have hrel : Works 1 u (if u.co.released then u else releasePlan p u) := by
    split
    · exact (Works.refl u).mono (Nat.zero_le _)
    · exact works_releasePlan p u
  obtain ⟨w, hw⟩ : ∃ w, (if u.co.released then u else releasePlan p u) = w := ⟨_, rfl⟩
  have hend : endBlower p s = tellPhase (requestClosings p w) := by
    rw [← hw, hu]
    rfl
  rw [hw] at hrel
  rw [hend]
  have hall := (hto.trans hrel).trans (works_requestClosings p w)
  exact ⟨hall.young, hall.homes, hall.load⟩

/-- A goal of 0 leaves a blower still. -/
theorem Blower.Stilled.give_zero {b : Blower} (h : b.Stilled) (now : Nat) (table : List BlowerPoint) (running : Bool) :
    (b.give now table running 0).Stilled := by
  obtain ⟨hgoal, -, hcarried⟩ := h
  have hgiven : ({ b with given := 0 } : Blower).Stilled := ⟨hgoal, rfl, hcarried⟩
  have hcarry : ({ b with given := 0, carried := some b.goal } : Blower).Stilled :=
    ⟨hgoal, rfl, fun q hq => (Option.some.inj hq).symm.trans hgoal⟩
  have hoff : (({ b with given := 0 } : Blower).turnOff now table).Stilled := Blower.stilled_turnOff rfl now table
  have hblow : (if running then { b with given := 0, carried := some b.goal }
      else ({ b with given := 0 } : Blower).turnOff now table).Stilled := by
    split
    · exact hcarry
    · exact hoff
  cases hs : b.state with
  | off =>
    rw [Blower.give_stays (.inr ⟨rfl, .inl hs⟩)]
    exact hgiven
  | runOn =>
    rw [Blower.give_stays (.inr ⟨rfl, .inr hs⟩)]
    exact hgiven
  | hold =>
    rw [Blower.give_stays (.inl hs)]
    exact hgiven
  | ramp =>
    rw [Blower.give_blowing (.inl hs), if_pos rfl]
    exact hblow
  | run =>
    rw [Blower.give_blowing (.inr hs), if_pos rfl]
    exact hblow

theorem works_endOpen (p : Plan) (s : State) : Works 0 s (endOpen p s) := by
  by_cases hno : p.q ≠ 0 ∧ s.drive.airPath = false
  · have hend : endOpen p s = requestPass s := if_pos hno
    rw [hend]
    exact ⟨id, id, Nat.le_refl _⟩
  · obtain ⟨b, hb⟩ : ∃ b, s.blower.give s.now s.cfg.table (compressorRunning s) p.q = b := ⟨_, rfl⟩
    have hend : endOpen p s = { s with co := { s.co with phase := .blower }, blower := b } := by
      rw [← hb]
      exact (if_neg hno).trans (if_neg hno)
    rw [hend]
    have hr : restarts { s with co := { s.co with phase := .blower }, blower := b } ≤ restarts s := by
      by_cases hq : p.q = 0
      · refine restarts_le id id fun hm => ?_
        rw [← hb, hq]
        exact (Blower.moves_iff _).mpr (((Blower.moves_iff _).mp hm).give_zero ..)
      · have hpath : s.drive.airPath = true := by
          cases hp : s.drive.airPath with
          | true => rfl
          | false => exact absurd ⟨hq, hp⟩ hno
        unfold restarts
        rw [hpath, Bool.true_or, Bool.true_or]
    exact ⟨id, id, load_le (k := 0) (Nat.le_refl _) rfl rfl hr⟩

theorem works_releaseZone (z : ZoneId) (s : State) : Works 0 s (releaseZone z s) := by
  obtain ⟨p, hp⟩ := releaseZone_eq z s
  have hdrive : Works 0 s { s with drive := s.drive.withdrawAll z } := by
    refine works_drive (k := 0) ?_ ?_ ?_
    · rw [Drive.withdrawAll_eq]
      exact List.length_filter_le _ _
    · intro h
      rw [Drive.withdrawAll_eq, h]
      exact ite_self _
    · rw [Drive.asks_withdrawAll.airPath]
      exact id
  rw [hp]
  exact ⟨hdrive.young, hdrive.homes, hdrive.load⟩

theorem works_finishUnconfigure (p : Plan) (s : State) : Works 0 s (finishUnconfigure p s) := by
  unfold finishUnconfigure
  refine (works_foldl (k := 0) (fun s z => ?_) allZones s).mono (Nat.le_of_eq (Nat.mul_zero _))
  exact (works_releaseZone z s).ite

theorem works_endClose (p : Plan) (s : State) : Works 0 s (endClose p s) := by
  obtain ⟨u, hu⟩ : ∃ u, raise (.plan p) { s with co :=
    { s.co with applied := p, incoming := none, phase := .applied, released := false, reapply := false } } = u := ⟨_, rfl⟩
  have hto : Works 0 s u := by
    rw [← hu]
    exact ⟨id, id, Nat.le_refl _⟩
  unfold endClose
  dsimp only
  rw [hu]
  exact hto.trans (works_finishUnconfigure p u)

theorem works_phaseStep (s : State) : Works 0 s (phaseStep s) := by
  obtain ⟨u, hu⟩ : ∃ u : State, u = { s with todo := { s.todo with phaseCheck := false } } := ⟨_, rfl⟩
  have hto : Works 0 s u := by
    rw [hu]
    exact ⟨id, id, Nat.le_refl _⟩
  unfold phaseStep
  rw [← hu]
  dsimp only
  split
  · exact hto
  · split
    · exact hto.trans (works_endOpen _ u).ite
    · exact hto.trans (works_endClose _ u).ite
    · exact hto

/-! ### Faults, moves granted and starts -/

theorem works_fault (d : ZoneId) (s : State) : Works 0 s { s with drive := s.drive.fault d } := by
  refine works_drive (k := 0) (List.length_filter_le _ _) (fun h => ?_) fun h => ?_
  · show s.drive.resetHomes.filter _ = []
    rw [h]
    rfl
  · obtain ⟨x, hx⟩ := (Drive.airPath_iff _).mp h
    refine (Drive.airPath_iff _).mpr ⟨x, ?_⟩
    rw [Drive.fault_get] at hx
    split at hx
    · exact Bool.noConfusion hx
    · exact hx

theorem works_faultDamper (d : ZoneId) (s : State) : Works 1 s (faultDamper d s) := by
  obtain ⟨u, hu⟩ : ∃ u : State, u = { s with
    drive := s.drive.fault d, todo := { s.todo with faulted := s.todo.faulted ++ [d], phaseCheck := true } } := ⟨_, rfl⟩
  have hto : Works 1 s u := by
    have hfault := works_fault d s
    rw [hu]
    refine ⟨hfault.young, hfault.homes, ?_⟩
    have hload := hfault.load
    unfold Machine.load at hload ⊢
    show _ + (s.todo.faulted ++ [d]).length + _ + 54 * restarts { s with drive := s.drive.fault d } ≤ _
    rw [List.length_append, List.length_singleton]
    dsimp only at hload ⊢
    omega
  have hmark : Works 0 u (requestPass (setZoneState d .fault u)) := ⟨id, id, Nat.le_refl _⟩
  have hleave := hmark.trans ((works_releaseZone d (requestPass (setZoneState d .fault u))).ite
    (c := ((requestPass (setZoneState d .fault u)).zst.get d).unconf = true))
  unfold faultDamper
  dsimp only
  rw [← hu]
  split
  · exact hto.trans hleave
  · exact hto.trans hleave
  · exact hto

/-- A move granted takes its entry from the queue, and at most its damper joins the faulted ones. -/
theorem works_grantOne {s : State} (h : s.drive.queue ≠ []) : (Young s → Young (grantOne s)) ∧
    (s.drive.resetHomes = [] → (grantOne s).drive.resetHomes = []) ∧ Machine.load (grantOne s) + 2 ≤ Machine.load s := by
  obtain ⟨e, rest, hq⟩ := List.exists_cons_of_ne_nil h
  obtain ⟨u, hu⟩ : ∃ u : State, u = { s with drive := { s.drive with queue := rest } } := ⟨_, rfl⟩
  have hload : Machine.load u + 3 = Machine.load s := by
    have hr : restarts u = restarts s := by rw [hu]; rfl
    have hlen : s.drive.queue.length = u.drive.queue.length + 1 := by rw [hu, hq]; rfl
    have hfaulted : u.todo = s.todo := by rw [hu]
    have hseq : u.seq = s.seq := by rw [hu]
    unfold Machine.load
    rw [hr, hlen, hfaulted, hseq]
    omega
  suffices key : Works 1 u (grantOne s) by
    obtain ⟨hyoung, hhomes, hle⟩ := key
    rw [hu] at hyoung hhomes
    exact ⟨hyoung, hhomes, by omega⟩
  have hgrant : grantOne s = if s.inp.windingOpen.get e.damper then airGuard (faultDamper e.damper u)
      else airGuard { u with drive := u.drive.start s.now e } := by
    rw [hu]
    unfold grantOne
    rw [hq]
  rw [hgrant]
  split
  · exact (works_faultDamper e.damper u).trans (works_airGuard _)
  · have hstart : Works 0 u { u with drive := u.drive.start s.now e } := by
      refine works_drive (k := 0) ?_ ?_ fun ha => ?_
      · unfold Drive.start
        dsimp only
        split <;> exact Nat.le_refl _
      · unfold Drive.start
        dsimp only
        split <;> exact id
      · obtain ⟨x, hx⟩ := (Drive.airPath_iff _).mp ha
        refine (Drive.airPath_iff _).mpr ⟨x, ?_⟩
        rw [Drive.start_get] at hx
        split at hx
        next hxe =>
          rw [hxe]
          split at hx
          · exact hx
          · exact Bool.noConfusion hx
        next => exact hx
    exact (hstart.trans (works_airGuard _)).mono (by omega)

/-- A start takes the waiting one away. -/
theorem works_startCompressor {s : State} (h : s.seq.state = .waitStart) : (Young s → Young (startCompressor s)) ∧
    (s.drive.resetHomes = [] → (startCompressor s).drive.resetHomes = []) ∧ Machine.load (startCompressor s) + 1 ≤ Machine.load s := by
  obtain ⟨q, hq⟩ : ∃ q, q = { s.seq with
    state := .running, startFailMs := 0, startFailFrom := none, runStart := none, stopSent := false } := ⟨_, rfl⟩
  have hrun : q.state = .running := by rw [hq]
  have hmin : q.minOffFrom = s.seq.minOffFrom := by rw [hq]
  have hto : startCompressor s = if releaseMode q = some .heat then addHold true { s with seq := q } else { s with seq := q } := by
    rw [hq]
    rfl
  have hbase : Machine.load { s with seq := q } + 1 = Machine.load s := by
    have hr : restarts { s with seq := q } = restarts s := rfl
    unfold Machine.load
    rw [hr, h]
    dsimp only
    rw [hrun]
    show _ + 0 + _ + 1 = _ + 1 + _
    omega
  have hyoung : Young s → Young { s with seq := q } := fun hy => by
    show s.now < q.minOffFrom + 180000
    rw [hmin]
    exact hy
  have hheld : Machine.load (addHold true { s with seq := q }) ≤ Machine.load { s with seq := q } := by
    have htodo : ∀ t : State, (addHold true t).todo.faulted = t.todo.faulted ∧ (addHold true t).todo.restart = t.todo.restart := fun t => by
      unfold addHold
      dsimp only
      split <;> exact ⟨rfl, rfl⟩
    obtain ⟨hf, hr⟩ := htodo { s with seq := q }
    have hrest : restarts (addHold true { s with seq := q }) ≤ restarts { s with seq := q } := by
      refine restarts_le (by rw [hr]; exact id) id fun hm => ?_
      exact (Blower.moves_iff _).mpr (((Blower.moves_iff _).mp hm).addHold ..)
    unfold Machine.load
    rw [hf]
    show 3 * s.drive.queue.length + _ + (decide (q.state = .waitStart)).toNat + _ ≤ _
    dsimp only
    omega
  rw [hto]
  split
  · exact ⟨hyoung, id, by omega⟩
  · exact ⟨hyoung, id, by omega⟩

end

end Sys2Proof.Machine
end

section
/-! Once no reset HOME remains, the consequences of the command lead to the end of STARTUP (11 R162). -/

namespace Sys2Proof.Machine

/-! ### The changeover in the consequences -/

theorem co_faultDamper (d : ZoneId) (s : State) : (faultDamper d s).co = s.co := by
  have hrel : ∀ t : State, (releaseZone d t).co = t.co := fun t => by
    obtain ⟨p, hp⟩ := releaseZone_eq d t
    rw [hp]
  unfold faultDamper
  dsimp only
  split
  · split
    · exact hrel _
    · rfl
  · split
    · exact hrel _
    · rfl
  · rfl

theorem co_grantOne (s : State) : (grantOne s).co = s.co := by
  unfold grantOne
  split
  · rfl
  · dsimp only
    split
    · exact (aside_airGuard _).co.trans (co_faultDamper _ _)
    · exact (aside_airGuard _).co

theorem co_endBlower (p : Plan) (s : State) :
    (endBlower p s).co = { s.co with phase := .closing, released := true } := by
  obtain ⟨u, hu⟩ : ∃ u : State, u =
    { s with co := { s.co with phase := .closing }, todo := { s.todo with holdReport := false } } := ⟨_, rfl⟩
  have hco : (if u.co.released then u else releasePlan p u).co = { s.co with phase := .closing, released := true } := by
    split
    next h =>
      have hmark : ({ u.co with released := true } : Changeover) = u.co := by rw [← h]
      rw [← hmark, hu]
    next =>
      obtain ⟨r, -, haside⟩ := releasePlan_aside p u
      rw [haside.co, hu]
  obtain ⟨w, hw⟩ : ∃ w, (if u.co.released then u else releasePlan p u) = w := ⟨_, rfl⟩
  obtain ⟨v, hv⟩ := requestClosings_drive p w
  have hend : endBlower p s = tellPhase { w with drive := v } := by
    rw [← hv, ← hw, hu]
    rfl
  rw [hw] at hco
  rw [hend]
  exact hco

theorem todo_finishUnconfigure (p : Plan) (s : State) : (finishUnconfigure p s).todo = s.todo := by
  have hfold : ∀ (l : List ZoneId) (s : State), (l.foldl
      (fun s z => if (s.zst.get z).unconf && decide ((p.zones.get z).role = .closed) then releaseZone z s else s) s).todo = s.todo := by
    intro l
    induction l with
    | nil => exact fun _ => rfl
    | cons z l ih =>
      refine fun s => (ih _).trans ?_
      dsimp only
      split
      · obtain ⟨_, h⟩ := releaseZone_eq z s
        rw [h]
      · rfl
  exact hfold _ _

theorem phaseCheck_startCompressor (s : State) : (startCompressor s).todo.phaseCheck = s.todo.phaseCheck := by
  have hhold : ∀ t : State, (addHold true t).todo.phaseCheck = t.todo.phaseCheck := fun t => by
    unfold addHold
    dsimp only
    split <;> rfl
  unfold startCompressor
  dsimp only
  split
  · exact hhold _
  · rfl

/-! ### STARTUP with no reset HOME left -/

/-- A state of STARTUP with no reset HOME left, with no plan held, and with a plan incoming only for a restart. -/
structure Starts (s : State) : Prop where
  state : s.op.state = .startup
  phase : s.op.testPhase = .idle
  round : wakeRoundDue s = false
  homes : s.drive.resetHomes = []
  held : s.co.held = none
  applied : s.co.incoming = none → s.co.phase = .applied
  marked : ∀ p, s.co.incoming = some p → s.co.reapply = true

/-- What a phase can still add: its openings or its closings, the order to judge it, and a start. -/
def phaseLoad : Phase → Nat
  | .opening => 27
  | .blower => 27
  | .closing => 0
  | .applied => 0

/-- What is left to work off before STARTUP ends. -/
def startLoad (s : State) : Nat := load s + s.todo.phaseCheck.toNat + phaseLoad s.co.phase

section
variable {s t : State}

/-- What a consequence in STARTUP leaves alone. -/
structure StartKept (s t : State) : Prop where
  stays : Stays s t
  kept : kept t = kept s
  young : Young s → Young t

theorem StartKept.op (h : StartKept s t) : t.op = s.op := congrArg Steady.op h.stays.rest

theorem StartKept.link (h : StartKept s t) : t.link = s.link := congrArg Steady.link h.stays.rest

theorem StartKept.now (h : StartKept s t) : t.now = s.now := congrArg Steady.now h.stays.rest

theorem StartKept.timerFrom (h : StartKept s t) : t.eval.timerFrom = s.eval.timerFrom := congrArg Steady.timerFrom h.stays.rest

theorem StartKept.lastPass (h : StartKept s t) : t.eval.lastPass = s.eval.lastPass := congrArg Steady.lastPass h.stays.rest

/-- No wake's round becomes due. -/
theorem StartKept.round (h : StartKept s t) (hr : wakeRoundDue s = false) : wakeRoundDue t = false := by
  unfold wakeRoundDue linkFree at hr ⊢
  rw [h.link, h.now]
  exact hr

theorem StartKept.trans {u : State} (h : StartKept s t) (h' : StartKept t u) : StartKept s u :=
  ⟨h.stays.trans h'.stays, h'.kept.trans h.kept, fun x => h'.young (h.young x)⟩

theorem Starts.next (h : Starts s) (hkept : StartKept s t) (hhomes : t.drive.resetHomes = []) (hheld : t.co.held = none)
    (happlied : t.co.incoming = none → t.co.phase = .applied) (hmarked : ∀ p, t.co.incoming = some p → t.co.reapply = true) :
    Starts t := by
  exact ⟨by rw [hkept.op]; exact h.state, by rw [hkept.op]; exact h.phase, hkept.round h.round, hhomes, hheld, happlied, hmarked⟩

theorem Starts.microStep_told (h : Starts s) {d : ZoneId} {rest : List ZoneId} (hf : s.todo.faulted = d :: rest) :
    microStep s = some { s with todo := { s.todo with faulted := rest } } := by
  have hno : abandonFor d { s with todo := { s.todo with faulted := rest } } = { s with todo := { s.todo with faulted := rest } } := by
    unfold abandonFor
    split
    next p hp => exact if_neg fun hc => Bool.noConfusion (hc.2.1.symm.trans (h.marked p hp))
    next => rfl
  unfold microStep
  rw [hf]
  exact congrArg some hno

theorem Starts.microStep (h : Starts s) (hf : s.todo.faulted = []) : microStep s =
    if s.todo.restart then some (restartChangeover { s with todo := { s.todo with restart := false } })
    else if canGrant s then some (grantOne s)
    else if s.todo.phaseCheck then some (phaseStep s)
    else if decide (s.co.phase = .blower) && blowerDone s then s.co.incoming.map fun p => endBlower p s
    else if startDue s then some (startCompressor s)
    else some (endStartup s) := by
  have hdone : startupDone s = true := by simp [startupDone, h.state, h.homes]
  unfold Machine.microStep
  simp only [hf, h.held, leftActive_idle h.phase, h.round, hdone, Option.isSome_none, Bool.false_and, Bool.false_eq_true, if_false,
    if_true]

/-- A consequence in STARTUP with less left to work off. -/
def Lessens (s : State) : Prop :=
  ∃ t, microStep s = some t ∧ Starts t ∧ StartKept s t ∧ startLoad t < startLoad s

theorem Starts.lessens_told (h : Starts s) {d : ZoneId} {rest : List ZoneId} (hf : s.todo.faulted = d :: rest) : Lessens s := by
  have hkept : StartKept s { s with todo := { s.todo with faulted := rest } } := ⟨.of_steady rfl, rfl, id⟩
  refine ⟨_, h.microStep_told hf, h.next hkept h.homes h.held h.applied h.marked, hkept, ?_⟩
  have hr : restarts { s with todo := { s.todo with faulted := rest } } = restarts s := rfl
  unfold startLoad load
  rw [hr, hf]
  simp only [List.length_cons]
  omega

theorem Starts.lessens_restart (h : Starts s) (hf : s.todo.faulted = []) (hr : s.todo.restart = true) : Lessens s := by
  obtain ⟨u, hu⟩ : ∃ u : State, u = { s with todo := { s.todo with restart := false } } := ⟨_, rfl⟩
  have hstep := h.microStep hf
  rw [hr, if_pos rfl, ← hu] at hstep
  have hload : load u + 54 = load s := by
    have hres : restarts u + 1 = restarts s := by
      rw [hu]
      unfold restarts
      dsimp only
      rw [hr]
      show 0 + _ + 1 = 1 + _
      omega
    have hd : u.drive = s.drive := by rw [hu]
    have hq : u.seq = s.seq := by rw [hu]
    have hfu : u.todo.faulted = s.todo.faulted := by rw [hu]
    unfold load
    rw [hd, hq, hfu]
    omega
  have hworks := works_restartChangeover u
  have hbegins : (∃ p, (restartChangeover u).co.incoming = some p) ∧ (restartChangeover u).co.phase = .opening ∧
      (restartChangeover u).co.reapply = true ∧ (restartChangeover u).co.held = none := by
    have hheld : u.co.held = none := by rw [hu]; exact h.held
    have hco : u.co = s.co := by rw [hu]
    unfold restartChangeover
    split
    next p hp =>
      obtain ⟨⟨h1, h2, h3, -⟩, h4, -⟩ := openPhase_begins p u
      exact ⟨⟨p, h1⟩, h2, h3.trans (by rw [hco] at hp ⊢; exact h.marked p hp), h4.trans hheld⟩
    next =>
      obtain ⟨⟨h1, h2, h3, -⟩, h4, -⟩ := supersede_begins u.co.applied true u
      exact ⟨⟨_, h1⟩, h2, h3, h4.trans hheld⟩
  obtain ⟨⟨p, hin⟩, hphase, hmark, hheld⟩ := hbegins
  have hkept : StartKept s (restartChangeover u) := by
    have hsteady : steady u = steady s := by rw [hu]; rfl
    have hsame : kept u = kept s := by rw [hu]; rfl
    refine ⟨.of_steady ((steady_restartChangeover u).trans hsteady), (kept_restartChangeover u).trans hsame, fun hy => ?_⟩
    exact hworks.young (by rw [hu]; exact hy)
  refine ⟨_, hstep, h.next hkept (hworks.homes (by rw [hu]; exact h.homes)) hheld (fun hn => ?_) (fun _ _ => hmark), hkept, ?_⟩
  · rw [hin] at hn
    exact Option.noConfusion rfl (heq_of_eq hn)
  · have hle := hworks.load
    have hbit : (restartChangeover u).todo.phaseCheck.toNat ≤ 1 := Bool.toNat_le _
    have hopen : phaseLoad (restartChangeover u).co.phase = 27 := by rw [hphase]; rfl
    unfold startLoad
    omega

theorem Starts.lessens_grant (h : Starts s) (hf : s.todo.faulted = []) (hr : s.todo.restart = false) (hg : canGrant s = true) :
    Lessens s := by
  have hstep := h.microStep hf
  rw [hr, hg] at hstep
  have hqueue : s.drive.queue ≠ [] := of_decide_eq_true (Bool.and_eq_true_iff.mp hg).2
  obtain ⟨hyoung, hhomes, hle⟩ := works_grantOne hqueue
  have hco := co_grantOne s
  have hkept : StartKept s (grantOne s) := ⟨grantOne_stays s, kept_grantOne s, hyoung⟩
  refine ⟨_, hstep, h.next hkept (hhomes h.homes) (by rw [hco]; exact h.held) (by rw [hco]; exact h.applied)
    (by rw [hco]; exact h.marked), hkept, ?_⟩
  have hbit : (grantOne s).todo.phaseCheck.toNat ≤ 1 := Bool.toNat_le _
  unfold startLoad
  rw [hco]
  omega

/-- The phase judged in STARTUP: it stands, or its end leaves no more to add. -/
theorem phaseStep_changeover (s : State) : (phaseStep s).todo.phaseCheck = false ∧
    ((phaseStep s).co = s.co ∨ s.co.phase = .opening ∧ (phaseStep s).co = { s.co with phase := .blower } ∨
      ∃ p, (phaseStep s).co = { s.co with applied := p, incoming := none, phase := .applied, released := false, reapply := false }) := by
  obtain ⟨u, hu⟩ : ∃ u : State, u = { s with todo := { s.todo with phaseCheck := false } } := ⟨_, rfl⟩
  have hco : u.co = s.co := by rw [hu]
  have hcheck : u.todo.phaseCheck = false := by rw [hu]
  unfold phaseStep
  rw [← hu]
  dsimp only
  rw [hco]
  split
  · exact ⟨hcheck, .inl hco⟩
  next p _ =>
    split
    next hphase =>
      split
      · by_cases hno : p.q ≠ 0 ∧ u.drive.airPath = false
        · have hend : endOpen p u = requestPass u := if_pos hno
          rw [hend]
          exact ⟨hcheck, .inl hco⟩
        · have hend : endOpen p u = giveBlower p.q { u with co := { u.co with phase := .blower } } := (if_neg hno).trans (if_neg hno)
          rw [hend, ← hco]
          exact ⟨hcheck, .inr (.inl ⟨by rw [hco]; exact hphase, rfl⟩)⟩
      · exact ⟨hcheck, .inl hco⟩
    · split
      · unfold endClose
        rw [todo_finishUnconfigure, finishUnconfigure_co, ← hco]
        exact ⟨hcheck, .inr (.inr ⟨p, rfl⟩)⟩
      · exact ⟨hcheck, .inl hco⟩
    · exact ⟨hcheck, .inl hco⟩

theorem Starts.lessens_judged (h : Starts s) (hf : s.todo.faulted = []) (hr : s.todo.restart = false) (hg : canGrant s = false)
    (hc : s.todo.phaseCheck = true) : Lessens s := by
  have hstep := h.microStep hf
  rw [hr, hg, hc] at hstep
  have hworks := works_phaseStep s
  have hkept : StartKept s (phaseStep s) := ⟨phaseStep_stays s, kept_phaseStep s, hworks.young⟩
  obtain ⟨hcheck, hco⟩ := phaseStep_changeover s
  have hle := hworks.load
  suffices key : Starts (phaseStep s) ∧ phaseLoad (phaseStep s).co.phase ≤ phaseLoad s.co.phase by
    obtain ⟨hstarts, hphase⟩ := key
    refine ⟨_, hstep, hstarts, hkept, ?_⟩
    unfold startLoad
    rw [hcheck, hc]
    show _ + 0 + _ < _ + 1 + _
    omega
  have hhomes := hworks.homes h.homes
  rcases hco with hco | ⟨hopening, hco⟩ | ⟨p, hco⟩
  · exact ⟨h.next hkept hhomes (by rw [hco]; exact h.held) (by rw [hco]; exact h.applied) (by rw [hco]; exact h.marked),
      Nat.le_of_eq (by rw [hco])⟩
  · refine ⟨h.next hkept hhomes (by rw [hco]; exact h.held) (fun hn => ?_) (by rw [hco]; exact h.marked),
      Nat.le_of_eq (by rw [hco, hopening]; rfl)⟩
    rw [hco] at hn
    exact Phase.noConfusion (hopening.symm.trans (h.applied hn))
  · refine ⟨h.next hkept hhomes (by rw [hco]; exact h.held) (fun _ => by rw [hco]) (fun q hq => ?_), ?_⟩
    · rw [hco] at hq
      exact Option.noConfusion rfl (heq_of_eq hq)
    · rw [hco]
      exact Nat.zero_le _

theorem Starts.lessens_blower (h : Starts s) (hf : s.todo.faulted = []) (hr : s.todo.restart = false) (hg : canGrant s = false)
    (hc : s.todo.phaseCheck = false) (hp : s.co.phase = .blower) (hd : blowerDone s = true) : Lessens s := by
  have hstep := h.microStep hf
  obtain ⟨p, hin⟩ : ∃ p, s.co.incoming = some p := by
    cases hin : s.co.incoming with
    | none => exact Phase.noConfusion (hp.symm.trans (h.applied hin))
    | some p => exact ⟨p, rfl⟩
  rw [hr, hg, hc, hd, decide_eq_true hp, hin] at hstep
  have hworks := works_endBlower p s
  have hco := co_endBlower p s
  have hkept : StartKept s (endBlower p s) := ⟨.of_steady (steady_endBlower p s), kept_endBlower p s, hworks.young⟩
  refine ⟨_, hstep, h.next hkept (hworks.homes h.homes) (by rw [hco]; exact h.held) (fun hn => ?_) (by rw [hco]; exact h.marked),
    hkept, ?_⟩
  · rw [hco] at hn
    exact Option.noConfusion rfl (heq_of_eq (hin.symm.trans hn))
  · have hle := hworks.load
    have hbit : (endBlower p s).todo.phaseCheck.toNat ≤ 1 := Bool.toNat_le _
    unfold startLoad
    rw [hco, hp]
    simp only [phaseLoad]
    omega

theorem Starts.lessens_start (h : Starts s) (hf : s.todo.faulted = []) (hr : s.todo.restart = false) (hg : canGrant s = false)
    (hc : s.todo.phaseCheck = false) (hb : (decide (s.co.phase = .blower) && blowerDone s) = false) (hd : startDue s = true) :
    Lessens s := by
  have hstep := h.microStep hf
  rw [hr, hg, hc, hb, hd] at hstep
  obtain ⟨hyoung, hhomes, hle⟩ := works_startCompressor ((startDue_iff s).mp hd).1
  have hco := co_startCompressor s
  have hkept : StartKept s (startCompressor s) :=
    ⟨.of_steady (steady_startCompressor s), kept_startCompressor s, hyoung⟩
  refine ⟨_, hstep, h.next hkept (hhomes h.homes) (by rw [hco]; exact h.held) (by rw [hco]; exact h.applied)
    (by rw [hco]; exact h.marked), hkept, ?_⟩
  unfold startLoad
  rw [hco, phaseCheck_startCompressor]
  omega

/-- In STARTUP with no reset HOME left, there is less to work off, or STARTUP ends. -/
theorem Starts.ends_or_lessens (h : Starts s) : Machine.microStep s = some (endStartup s) ∨ Lessens s := by
  cases hf : s.todo.faulted with
  | cons d rest => exact .inr (h.lessens_told hf)
  | nil =>
    cases hr : s.todo.restart with
    | true => exact .inr (h.lessens_restart hf hr)
    | false =>
      cases hg : canGrant s with
      | true => exact .inr (h.lessens_grant hf hr hg)
      | false =>
        cases hc : s.todo.phaseCheck with
        | true => exact .inr (h.lessens_judged hf hr hg hc)
        | false =>
          cases hb : decide (s.co.phase = .blower) && blowerDone s with
          | true =>
            obtain ⟨hp, hd⟩ := Bool.and_eq_true_iff.mp hb
            exact .inr (h.lessens_blower hf hr hg hc (of_decide_eq_true hp) hd)
          | false =>
            cases hd : startDue s with
            | true => exact .inr (h.lessens_start hf hr hg hc hb hd)
            | false =>
              left
              rw [h.microStep hf, hr, hg, hc, hb, hd]
              rfl

/-- The consequences lead to the end of STARTUP. -/
theorem Starts.leads (h : Starts s) : ∃ n ≤ startLoad s, ∃ t, Leads n s t ∧ StartKept s t ∧ Starts t ∧
    Machine.microStep t = some (endStartup t) := by
  obtain ⟨k, hk⟩ : ∃ k, k = startLoad s := ⟨_, rfl⟩
  induction k using Nat.strongRecOn generalizing s with
  | ind k ih =>
    rcases h.ends_or_lessens with hend | ⟨t, hstep, hstarts, hkept, hless⟩
    · exact ⟨0, Nat.zero_le _, s, .refl s, ⟨.refl s, rfl, id⟩, h, hend⟩
    · obtain ⟨n, hn, w, hleads, hkept', hstarts', hend⟩ := ih (startLoad t) (by rw [hk]; exact hless) hstarts rfl
      exact ⟨n + 1, by omega, w, .cons hstep hleads, hkept.trans hkept', hstarts', hend⟩

end

end Sys2Proof.Machine
end

section
/-! The end of STARTUP with its latched action, and the first pass (11 R162; 02 R21). -/

namespace Sys2Proof.Machine

/-! ### The latched action -/

theorem steady_immediateStop (s : State) : steady (immediateStop s) = steady s := by
  have hmark : ∀ t : State, steady (markStop t) = steady t := fun t => by
    unfold markStop
    dsimp only
    split
    · exact (steady_enterRecovery _ _).trans rfl
    · rfl
  unfold immediateStop
  split
  · rfl
  · rfl
  · exact hmark s
  · exact hmark s
  · exact hmark s
  · rfl

theorem steady_releaseOff (s : State) : steady (releaseOff s) = steady s :=
  (steady_followWanted _).trans ((steady_immediateStop _).trans rfl)

theorem drive_releaseOff (s : State) : (releaseOff s).drive = s.drive := by
  have hstop := (aside_immediateStop { s with seq := { s.seq with release := s.seq.release.map fun r => { r with c := 0 } } }).drive
  unfold releaseOff
  rw [followWanted_eq]
  exact hstop

/-- A request written in STARTUP. -/
structure StartWritten (s t : State) (new : OpRequest) : Prop where
  op : t.op = { s.op with request := new }
  link : t.link = s.link
  now : t.now = s.now
  lastPass : t.eval.lastPass = s.eval.lastPass
  drive : t.drive = s.drive
  young : Young s → Young t
  store : new ≠ s.op.request → t.store.autoPending = true ∨ t.store.writer ≠ .idle

theorem writeRequest_startup {s : State} (ho : s.op.state = .startup) (new : OpRequest) (cause : StateCause) :
    StartWritten s (writeRequest new cause s) new := by
  by_cases hn : new = s.op.request
  · have hsame : writeRequest new cause s = s := if_pos hn
    rw [hsame]
    exact ⟨by rw [hn], rfl, rfl, rfl, rfl, id, fun h => absurd hn h⟩
  · obtain ⟨u, hu⟩ : ∃ u, (if new = .off then releaseOff (requested new s) else requested new s) = u := ⟨_, rfl⟩
    have hsteady : steady u = steady (requested new s) := by
      rw [← hu]
      split
      · exact steady_releaseOff _
      · rfl
    have hop : u.op = { s.op with request := new } := congrArg Steady.op hsteady
    have hstore : u.store = saved { s with op := { s.op with request := new } } := by
      rw [← hu]
      split
      · exact congrArg Kept.store (kept_releaseOff (requested new s))
      · rfl
    have hdrive : u.drive = s.drive := by
      rw [← hu]
      split
      · exact drive_releaseOff _
      · rfl
    have hyoung : Young s → Young u := fun h => by
      rw [← hu]
      split
      · exact Young.releaseOff (s := requested new s) h
      · exact h
    have hwrite : writeRequest new cause s = u := by
      unfold writeRequest
      rw [if_neg hn, autoSave_eq]
      rw [show requestPass { ({ s with op := { s.op with request := new } } : State) with
        store := saved { s with op := { s.op with request := new } } } = requested new s from rfl]
      dsimp only
      rw [hu, hop, ho]
    rw [hwrite]
    exact ⟨hop, congrArg Steady.link hsteady, congrArg Steady.now hsteady, congrArg Steady.lastPass hsteady, hdrive, hyoung,
      fun _ => by rw [hstore]; exact saved_written _⟩

/-- The request that the end of STARTUP gives. -/
def latchedRequest (o : Operating) : OpRequest :=
  match o.latched with
  | .nothing => o.request
  | .toggle => o.request.inverse
  | .test => .off

/-- The test phase that the end of STARTUP gives. -/
def latchedPhase (o : Operating) : TestPhase := if o.latched = .test then .preparing else .idle

/-- What the end of STARTUP leaves. -/
structure StartEnded (s t : State) : Prop where
  request : t.op.request = latchedRequest s.op
  state : t.op.state = opOf (latchedRequest s.op)
  latched : t.op.latched = .nothing
  phase : t.op.testPhase = latchedPhase s.op
  link : t.link = s.link
  now : t.now = s.now
  lastPass : t.eval.lastPass = s.eval.lastPass
  drive : t.drive = s.drive
  young : Young s → Young t
  store : latchedRequest s.op ≠ s.op.request → t.store.autoPending = true ∨ t.store.writer ≠ .idle

/-- STARTUP ends: the latched action is applied, and the state is that of the request. -/
theorem endStartup_ends {s : State} (ho : s.op.state = .startup) (hp : s.op.testPhase = .idle) : StartEnded s (endStartup s) := by
  obtain ⟨v, hv⟩ : ∃ v : State, v = { s with op := { s.op with latched := .nothing } } := ⟨_, rfl⟩
  have hvo : v.op.state = .startup := by rw [hv]; exact ho
  have hne : OpState.startup ≠ .resting := by decide
  obtain ⟨w, hw⟩ : ∃ w, applyLatched s = w := ⟨_, rfl⟩
  suffices key : w.op.state = .startup ∧ w.op.request = latchedRequest s.op ∧ w.op.latched = .nothing ∧
      w.op.testPhase = latchedPhase s.op ∧ w.link = s.link ∧ w.now = s.now ∧ w.eval.lastPass = s.eval.lastPass ∧
      w.drive = s.drive ∧ (Young s → Young w) ∧
      (latchedRequest s.op ≠ s.op.request → w.store.autoPending = true ∨ w.store.writer ≠ .idle) by
    obtain ⟨h1, h2, h3, h4, h5, h6, h7, h8, h9, h10⟩ := key
    obtain ⟨p, hend⟩ := changeOp_eq (s := w) (by rw [h1]; exact hne) (opOf w.op.request) .startupEnd
    have heq : endStartup s = _ := (show endStartup s = changeOp (opOf (applyLatched s).op.request) .startupEnd (applyLatched s) from
      rfl).trans ((by rw [hw] : _ = changeOp (opOf w.op.request) .startupEnd w).trans hend)
    rw [heq]
    exact ⟨h2, congrArg opOf h2, h3, h4, h5, h6, h7, h8, h9, h10⟩
  unfold applyLatched latchedRequest latchedPhase at *
  rw [← hv] at hw
  dsimp only at hw
  cases hl : s.op.latched with
  | nothing =>
    rw [hl] at hw
    rw [← hw, hv]
    exact ⟨ho, rfl, rfl, hp, rfl, rfl, rfl, rfl, id, fun h => absurd rfl h⟩
  | toggle =>
    rw [hl] at hw
    obtain ⟨hop, h5, h6, h7, h8, h9, h10⟩ := writeRequest_startup hvo v.op.request.inverse .button
    have hto : ∃ p, w = { writeRequest v.op.request.inverse .button v with port := p } := ⟨_, hw.symm⟩
    obtain ⟨p, hto⟩ := hto
    rw [hto]
    rw [hv] at *
    refine ⟨?_, ?_, ?_, ?_, h5, h6, h7, h8, h9, h10⟩
    · exact (congrArg Operating.state hop).trans ho
    · exact congrArg Operating.request hop
    · exact congrArg Operating.latched hop
    · exact (congrArg Operating.testPhase hop).trans hp
  | test =>
    rw [hl] at hw
    obtain ⟨hop, h5, h6, h7, h8, h9, h10⟩ := writeRequest_startup hvo .off .button
    obtain ⟨x, hx⟩ : ∃ x, writeRequest .off .button v = x := ⟨_, rfl⟩
    rw [hx] at hop h5 h6 h7 h8 h9 h10
    have hxo : x.op.state = .startup := by rw [hop]; exact hvo
    have hto : ∃ p, w = { x with op := { x.op with testPhase := .preparing, opened := [], testDampers := [] }, port := p } := by
      have hprep : beginPreparation v = { x with op := { x.op with testPhase := .preparing, opened := [], testDampers := [] } } := by
        unfold beginPreparation
        dsimp only
        rw [hx, if_neg (by rw [hxo]; exact hne)]
      refine ⟨(reportButton .test (beginPreparation v)).port, ?_⟩
      rw [← hw, hprep]
      rfl
    obtain ⟨p, hto⟩ := hto
    rw [hto]
    rw [hv] at *
    refine ⟨hxo, ?_, ?_, rfl, h5, h6, h7, h8, h9, h10⟩
    · exact congrArg Operating.request hop
    · exact congrArg Operating.latched hop

/-! ### After STARTUP -/

/-- A state in ON or OFF with no test but one that waits for the minimum-off time, no wake's round due and no reset HOME left. -/
structure After (s : State) : Prop where
  state : s.op.state = .on ∨ s.op.state = .off
  phase : s.op.testPhase = .idle ∨ s.op.testPhase = .preparing ∧ Young s
  round : wakeRoundDue s = false
  homes : s.drive.resetHomes = []

section
variable {s t : State}

theorem After.next (h : After s) (hkept : StartKept s t) (hhomes : t.drive.resetHomes = []) : After t := by
  exact ⟨by rw [hkept.op]; exact h.state, by rw [hkept.op]; exact h.phase.imp id fun hp => ⟨hp.1, hkept.young hp.2⟩,
    hkept.round h.round, hhomes⟩

theorem After.started (h : After s) : s.op.state ≠ .startup := by
  rcases h.state with hs | hs <;> rw [hs] <;> decide

theorem After.of_works {k : Nat} (h : After s) (hsteady : steady t = steady s) (hkept : kept t = kept s) (hworks : Works k s t) :
    StartKept s t ∧ After t := by
  have hall : StartKept s t := ⟨.of_steady hsteady, hkept, hworks.young⟩
  exact ⟨hall, h.next hall (hworks.homes h.homes)⟩

/-- A consequence after STARTUP. -/
theorem After.microStep (h : After s) (hm : Machine.microStep s = some t) : StartKept s t ∧ After t := by
  have hno : startupDone s = false := by simp [startupDone, h.started]
  have hleft : leftActive s = [] := if_neg (by rcases h.phase with hp | ⟨hp, -⟩ <;> rw [hp] <;> decide)
  have hopen : openingDone s = false := by rcases h.phase with hp | ⟨hp, -⟩ <;> simp [openingDone, hp]
  have hpre : preparingDone s = false := by
    rcases h.phase with hp | ⟨hp, hy⟩
    · simp [preparingDone, hp]
    · have hmin : minOffExpired s = false := decide_eq_false (Nat.not_le.mpr hy)
      simp [preparingDone, hp, hmin]
  unfold Machine.microStep at hm
  rw [hno, hleft, hpre, hopen, h.round] at hm
  split at hm
  next d rest _ =>
    obtain rfl := Option.some.inj hm
    have htaken : Works 0 s { s with todo := { s.todo with faulted := rest } } := by
      refine ⟨id, id, ?_⟩
      have hr : restarts { s with todo := { s.todo with faulted := rest } } = restarts s := rfl
      have hf : s.todo.faulted = d :: rest := by assumption
      unfold load
      rw [hr, hf]
      simp only [List.length_cons]
      omega
    exact h.of_works (steady_abandonFor d _) (kept_abandonFor d _) (htaken.trans (works_abandonFor d _))
  split at hm
  · obtain rfl := Option.some.inj hm
    have htaken : Works 0 s { s with todo := { s.todo with restart := false } } :=
      ⟨id, id, load_le (k := 0) (Nat.le_refl _) rfl rfl (restarts_le nofun id id)⟩
    exact h.of_works (steady_restartChangeover _) (kept_restartChangeover _) (htaken.trans (works_restartChangeover _))
  split at hm
  · obtain rfl := Option.some.inj hm
    exact h.of_works (steady_takeHeld s) (kept_takeHeld s) (works_takeHeld s)
  dsimp only at hm
  split at hm
  next hg =>
    obtain rfl := Option.some.inj hm
    obtain ⟨hyoung, hhomes, -⟩ := works_grantOne (of_decide_eq_true (Bool.and_eq_true_iff.mp hg).2)
    have hall : StartKept s (grantOne s) := ⟨grantOne_stays s, kept_grantOne s, hyoung⟩
    exact ⟨hall, h.next hall (hhomes h.homes)⟩
  split at hm
  · obtain rfl := Option.some.inj hm
    have hworks := works_phaseStep s
    have hall : StartKept s (phaseStep s) := ⟨phaseStep_stays s, kept_phaseStep s, hworks.young⟩
    exact ⟨hall, h.next hall (hworks.homes h.homes)⟩
  split at hm
  · rw [Option.map_eq_some_iff] at hm
    obtain ⟨p, -, rfl⟩ := hm
    exact h.of_works (steady_endBlower p s) (kept_endBlower p s) (works_endBlower p s)
  split at hm
  next hf => exact absurd hf (by decide)
  split at hm
  next hd =>
    obtain rfl := Option.some.inj hm
    obtain ⟨hyoung, hhomes, -⟩ := works_startCompressor ((startDue_iff s).mp hd).1
    have hall : StartKept s (startCompressor s) := ⟨.of_steady (steady_startCompressor s), kept_startCompressor s, hyoung⟩
    exact ⟨hall, h.next hall (hhomes h.homes)⟩
  · simp at hm

theorem After.settle (h : After s) (n : Nat) : StartKept s (settle n s) ∧ After (settle n s) := by
  refine settle_keeps (P := fun t => StartKept s t ∧ After t) ?_ n s ⟨⟨.refl s, rfl, id⟩, h⟩
  rintro t u hu ⟨hkept, hafter⟩
  obtain ⟨hkept', hafter'⟩ := hafter.microStep hu
  exact ⟨hkept.trans hkept', hafter'⟩

end

end Sys2Proof.Machine
end

section
/-! The last reset HOME ends STARTUP with the first pass, and completions act (06 R100, R102; 11 R162). -/

namespace Sys2Proof.Machine

/-! ### The first pass -/

/-- A pass outside RESTING leaves the link, the drive, the sequencer and the time to its plan. -/
theorem decidedAt_stands {s : State} (ho : s.op.state ≠ .resting) : (decidedAt s).link = s.link ∧ (decidedAt s).drive = s.drive ∧
    (decidedAt s).seq = s.seq ∧ (decidedAt s).now = s.now ∧ (decidedAt s).op.state = s.op.state ∧
    (decidedAt s).op.request = s.op.request ∧ (decidedAt s).op.latched = s.op.latched ∧
    (decidedAt s).op.testPhase = s.op.testPhase ∧ (decidedAt s).eval.timerFrom = some s.now := by
  have hlink : (decidedAt s).link = s.link := by
    have hchoose : ∀ t : State, (chooseMode t).link = t.link := fun t => by
      unfold chooseMode
      dsimp only
      split <;> rfl
    have hwake : ∀ t : State, t.op.state ≠ .resting → (wakeEvent t).link = t.link := fun t ht => by
      unfold wakeEvent
      rw [if_neg ht]
      split <;> rfl
    have hcalls : (passCalls (beginPass s)).link = s.link := by
      unfold passCalls
      dsimp only
      split
      · exact hwake (formCalls (beginPass s)) ho
      · rfl
    exact (hchoose _).trans hcalls
  obtain ⟨o, l, n, e, p, heq, htimer, -, -, -, -, hop, -, -, hstate⟩ := decidedAt_eq s
  rw [heq] at hlink ⊢
  exact ⟨hlink, rfl, rfl, rfl, (hstate ho).1, by rw [hop], by rw [hop], by rw [hop], htimer⟩

theorem works_finishPlan (p : Plan) (s : State) : Works 25 s (finishPlan p s) := by
  unfold finishPlan
  split
  · exact (works_finishUnconfigure _ s).ite.mono (Nat.zero_le _)
  · have hnumber : Works 0 s { s with app := { s.app with number := nextNumber s.app.number } } := ⟨id, id, Nat.le_refl _⟩
    exact hnumber.trans (works_handOn _ _)

/-- What the first pass leaves. -/
structure FirstPass (s t : State) : Prop where
  after : After t
  request : t.op.request = s.op.request
  state : t.op.state = s.op.state
  latched : t.op.latched = s.op.latched
  phase : t.op.testPhase = s.op.testPhase
  timer : t.eval.timerFrom = some s.now
  last : t.eval.lastPass = some s.now
  kept : kept t = kept s

theorem After.runPass {s : State} (h : After s) : FirstPass s (runPass s) := by
  have ho : s.op.state ≠ .resting := by rcases h.state with hs | hs <;> rw [hs] <;> decide
  obtain ⟨hlink, hdrive, hseq, hnow, hstate, hrequest, hlatched, hphase, htimer⟩ := decidedAt_stands ho
  obtain ⟨p, hp⟩ := applyParks_eq (decidedAt s)
  obtain ⟨c, hc⟩ : ∃ c, applyParks (decidedAt s) = c := ⟨_, rfl⟩
  have hrun : Machine.runPass s = finishPlan (buildPlan (planView c)) c := by rw [← hc]; rfl
  have hworks := works_finishPlan (buildPlan (planView c)) c
  have hsteady : (steady (finishPlan (buildPlan (planView c)) c)).link = c.link ∧
      (steady (finishPlan (buildPlan (planView c)) c)).now = c.now ∧
      (steady (finishPlan (buildPlan (planView c)) c)).timerFrom = c.eval.timerFrom := by
    unfold finishPlan
    split
    · split
      · have hrest := (finishUnconfigure_stays c.co.applied c).rest
        exact ⟨congrArg (fun k => k.link) hrest, congrArg (fun k => k.now) hrest, congrArg (fun k => k.timerFrom) hrest⟩
      · exact ⟨rfl, rfl, rfl⟩
    · rw [steady_handOn]
      exact ⟨rfl, rfl, rfl⟩
  obtain ⟨hl, hn, ht⟩ := hsteady
  have hop : (finishPlan (buildPlan (planView c)) c).op = c.op := op_finishPlan _ _
  have hlast := runPass_lastPass s
  rw [hrun] at hlast ⊢
  have hcop : c.op = (decidedAt s).op := by rw [← hc, hp]
  have hclink : c.link = s.link := by rw [← hc, hp]; exact hlink
  have hcnow : c.now = s.now := by rw [← hc, hp]; exact hnow
  have hctimer : c.eval.timerFrom = some s.now := by rw [← hc, hp]; exact htimer
  have hcyoung : Young s → Young c := fun hy => by
    rw [← hc, hp]
    show (decidedAt s).now < (decidedAt s).seq.minOffFrom + 180000
    rw [hnow, hseq]
    exact hy
  have hchomes : c.drive.resetHomes = [] := by
    rw [← hc, hp]
    show (decidedAt s).drive.resetHomes = []
    rw [hdrive]
    exact h.homes
  have hnow' : (finishPlan (buildPlan (planView c)) c).now = s.now := Eq.trans hn hcnow
  have hlink' : (finishPlan (buildPlan (planView c)) c).link = s.link := Eq.trans hl hclink
  refine ⟨⟨?_, ?_, ?_, hworks.homes hchomes⟩, ?_, ?_, ?_, ?_, Eq.trans ht hctimer, hlast.trans (congrArg some hnow'), ?_⟩
  · rw [hop, hcop, hstate]; exact h.state
  · rw [hop, hcop, hphase]; exact h.phase.imp id fun hp => ⟨hp.1, hworks.young (hcyoung hp.2)⟩
  · have hround := h.round
    unfold wakeRoundDue linkFree at hround ⊢
    rw [hlink', hnow']
    exact hround
  · rw [hop, hcop, hrequest]
  · rw [hop, hcop, hstate]
  · rw [hop, hcop, hlatched]
  · rw [hop, hcop, hphase]
  · rw [← hrun]; exact kept_runPass s

/-- What the end of STARTUP and the first pass come to at the end of the command. -/
structure Started (s t : State) : Prop where
  request : t.op.request = latchedRequest s.op
  state : t.op.state = opOf (latchedRequest s.op)
  latched : t.op.latched = .nothing
  phase : t.op.testPhase = latchedPhase s.op
  store : latchedRequest s.op ≠ s.op.request → t.store.autoPending = true ∨ t.store.writer ≠ .idle
  timer : t.eval.timerFrom = some s.now
  last : t.eval.lastPass = some s.now
  homes : t.drive.resetHomes = []

/-- The consequences of a command with no reset HOME left in STARTUP: STARTUP ends among them, with no pass yet. -/
structure Settles (s t : State) : Prop where
  after : After t
  request : t.op.request = latchedRequest s.op
  state : t.op.state = opOf (latchedRequest s.op)
  latched : t.op.latched = .nothing
  phase : t.op.testPhase = latchedPhase s.op
  now : t.now = s.now
  last : t.eval.lastPass = none
  store : latchedRequest s.op ≠ s.op.request → t.store.autoPending = true ∨ t.store.writer ≠ .idle

theorem StartEnded.settles {s w e t : State} (hended : StartEnded w e) (hkept : StartKept s w) (hstarts : Starts w) (hlast : s.eval.lastPass = none)
    (hyoung : s.op.latched = .test → Young s) (hafter : After e → StartKept e t ∧ After t) : Settles s t := by
  have hwop : w.op = s.op := hkept.op
  have hwnow : w.now = s.now := hkept.now
  have hwlast : w.eval.lastPass = none := hkept.lastPass.trans hlast
  have he : After e := by
    refine ⟨?_, ?_, ?_, by rw [hended.drive]; exact hstarts.homes⟩
    · rw [hended.state]
      cases latchedRequest w.op
      · exact .inl rfl
      · exact .inr rfl
    · rw [hended.phase, latchedPhase, hwop]
      by_cases hl : s.op.latched = .test
      · rw [if_pos hl]
        exact .inr ⟨rfl, hended.young (hkept.young (hyoung hl))⟩
      · rw [if_neg hl]
        exact .inl rfl
    · have hround := hstarts.round
      unfold wakeRoundDue linkFree at hround ⊢
      rw [hended.link, hended.now]
      exact hround
  obtain ⟨hkept₁, hafter₁⟩ := hafter he
  have hop : t.op = e.op := hkept₁.op
  have hstore : t.store = e.store := congrArg Kept.store hkept₁.kept
  refine ⟨hafter₁, ?_, ?_, ?_, ?_, hkept₁.now.trans (hended.now.trans hwnow),
    hkept₁.lastPass.trans (hended.lastPass.trans hwlast), fun hne => ?_⟩
  · rw [hop, hended.request, hwop]
  · rw [hop, hended.state, hwop]
  · rw [hop, hended.latched]
  · rw [hop, hended.phase, latchedPhase, latchedPhase, hwop]
  · rw [hstore]
    exact hended.store (by rw [hwop]; exact hne)

theorem Starts.settles {s : State} (h : Starts s) (hload : startLoad s ≤ 63) (hlast : s.eval.lastPass = none)
    (hyoung : s.op.latched = .test → Young s) : Settles s (settle settleFuel s) := by
  obtain ⟨n, hn, w, hleads, hkept, hstarts, hend⟩ := h.leads
  have hsettle : settle settleFuel s = settle (63 - n) (endStartup w) := by
    have hall := hleads.trans (.one hend) (63 - n)
    rw [← hall, show 63 - n + (1 + n) = settleFuel by unfold settleFuel; omega]
  rw [hsettle]
  exact (endStartup_ends hstarts.state hstarts.phase).settles hkept hstarts hlast hyoung fun he => he.settle _

/-- The first pass, with its consequences, ends the command. -/
theorem Settles.first {s t : State} (h : Settles s t) : Started s (sync (passStep t)) := by
  have hdue : passDue t = true := by
    unfold passDue
    rw [h.last, decide_eq_true h.after.started]
    rfl
  have hpass := h.after.runPass
  obtain ⟨hkept, hafter⟩ := hpass.after.settle settleFuel
  unfold passStep
  rw [if_pos hdue]
  generalize settle settleFuel (runPass t) = u at hkept hafter
  have hop : u.op = (runPass t).op := hkept.op
  have htimer : u.eval.timerFrom = some t.now := hkept.timerFrom.trans hpass.timer
  have hlast : u.eval.lastPass = some t.now := hkept.lastPass.trans hpass.last
  have hstore : (sync u).store = t.store := congrArg Kept.store ((kept_sync u).trans (hkept.kept.trans hpass.kept))
  refine ⟨?_, ?_, ?_, ?_, fun hne => ?_, ?_, ?_, ?_⟩
  · rw [sync_op_request, hop, hpass.request, h.request]
  · rw [sync_op_state, hop, hpass.state, h.state]
  · rw [sync_op_latched, hop, hpass.latched, h.latched]
  · rw [sync_op_testPhase, hop, hpass.phase, h.phase]
  · rw [hstore]
    exact h.store hne
  · rw [sync_eval, htimer, h.now]
  · rw [sync_eval, hlast, h.now]
  · rw [sync_drive]
    exact hafter.homes

/-- A command that ends with no reset HOME left in STARTUP ends STARTUP and takes the first pass. -/
theorem Starts.finish {s : State} (h : Starts s) (hload : startLoad s ≤ 63) (hlast : s.eval.lastPass = none)
    (hyoung : s.op.latched = .test → Young s) : Started s (finish s) := (h.settles hload hlast hyoung).first

end Sys2Proof.Machine
end

section
/-! Completed motions: what follows on in a calm state, and the last reset HOME of STARTUP (06 R100, R102; 04 R71; 11 R162). -/

namespace Sys2Proof.Machine

section
variable {s : State} {d : ZoneId} {slot : Slot} {home : Bool} {pos : Nat}

/-- What a completed motion comes to, given the next target of its damper and whether that faults. -/
structure CompletionOutcome (s : State) (d : ZoneId) (home : Bool) (pos : Nat) (next : Option Nat) (faults : Bool) (t : State) : Prop where
  damper : damperOf t d =
    ⟨if faults then none else some pos, if faults then .fault else if next = none then .idle else .moving, .nothing,
      if home then (damperOf s d).stalls else 0⟩
  slot : t.drive.slotOf d =
    (if faults then none else next.map (fun u => ⟨d, .move u, 0, s.now, decide (pos < u)⟩))
  queue : t.drive.queue = []
  passedOver : t.drive.passedOver = s.drive.passedOver
  resetHomes : t.drive.resetHomes =
    (if home || faults then s.drive.resetHomes.filter (fun z => decide (z ≠ d)) else s.drive.resetHomes)
  zst : t.zst = (if faults then s.zst.set d ⟨.fault, false⟩ else s.zst)
  eval : t.eval = { s.eval with early := s.eval.early || faults }
  port : faults = false → t.port = s.port
  others : ∀ y : ZoneId, y ≠ d → damperOf t y = damperOf s y ∧ t.drive.slotOf y = s.drive.slotOf y
  frame : ({ t with drive := s.drive, zst := s.zst, eval := s.eval, port := s.port } : State).timeless = s.timeless

theorem Completes.idle (h : Completes s d slot home pos) :
    CompletionOutcome s d home pos none false (sync { s with drive := s.drive.ended d home }) := by
  obtain ⟨t, ht⟩ : ∃ t : State, { s with drive := s.drive.ended d home } = t := ⟨_, rfl⟩
  have hdrive : (sync t).drive = s.drive.ended d home := by rw [sync_drive, ← ht]
  have hframe := congrArg (fun y : State => ({ y with
    drive := s.drive, zst := s.zst, eval := s.eval, port := s.port } : State)) (timeless_sync t)
  rw [ht]
  refine ⟨?_, ?_, ?_, ?_, ?_, ?_, ?_, fun _ => ?_, fun y hy => ⟨?_, ?_⟩, hframe.trans (by rw [← ht]; rfl)⟩
  · rw [damperOf, hdrive, ended_damper h.position]; rfl
  · rw [hdrive, Drive.ended_slotOf, if_pos rfl]; rfl
  · rw [hdrive]; exact h.queue
  · rw [hdrive]; rfl
  · rw [hdrive, Bool.or_false]; rfl
  · rw [sync_zst, ← ht]; rfl
  · rw [sync_eval, ← ht, Bool.or_false]
  · rw [sync_port, ← ht]
  · rw [damperOf, hdrive, Drive.ended_get, if_neg hy]; rfl
  · rw [hdrive, Drive.ended_slotOf, if_neg hy]

theorem Completes.moving (h : Completes s d slot home pos) (u : Nat) :
    CompletionOutcome s d home pos (some u) false (sync { s with drive := (s.drive.ended d home).moved s.now d u }) := by
  obtain ⟨t, ht⟩ : ∃ t : State, { s with drive := (s.drive.ended d home).moved s.now d u } = t := ⟨_, rfl⟩
  have hdrive : (sync t).drive = (s.drive.ended d home).moved s.now d u := by rw [sync_drive, ← ht]
  have hframe := congrArg (fun y : State => ({ y with
    drive := s.drive, zst := s.zst, eval := s.eval, port := s.port } : State)) (timeless_sync t)
  have hfree : (s.drive.ended d home).slotFree = true := Drive.ended_slotFree home h.holds
  have hnone : (s.drive.ended d home).slotOf d = none := by rw [Drive.ended_slotOf, if_pos rfl]
  obtain ⟨hqueue, hreset, hpassed⟩ := Drive.moved_rest (v := s.drive.ended d home) (d := d) (u := u) s.now
  rw [ht]
  refine ⟨?_, ?_, ?_, ?_, ?_, ?_, ?_, fun _ => ?_, fun y hy => ⟨?_, ?_⟩, hframe.trans (by rw [← ht]; rfl)⟩
  · rw [damperOf, hdrive, Drive.moved_get, if_pos rfl, ended_damper h.position]; rfl
  · rw [hdrive, Drive.moved_slotOf s.now hfree hnone, if_pos rfl, ended_damper h.position]; rfl
  · rw [hdrive, hqueue]
  · rw [hdrive, hpassed]; rfl
  · rw [hdrive, hreset, Bool.or_false]; rfl
  · rw [sync_zst, ← ht]; rfl
  · rw [sync_eval, ← ht, Bool.or_false]
  · rw [sync_port, ← ht]
  · rw [damperOf, hdrive, Drive.moved_get, if_neg hy, Drive.ended_get, if_neg hy]; rfl
  · rw [hdrive, Drive.moved_slotOf s.now hfree hnone, if_neg hy, Drive.ended_slotOf, if_neg hy]

theorem Completes.faulted (h : Completes s d slot home pos) (u : Nat) (p : Port) :
    CompletionOutcome s d home pos (some u) true (sync { s with
      drive := s.drive.endFault d home u, zst := s.zst.set d ⟨.fault, false⟩, eval := { s.eval with early := true }, port := p }) := by
  obtain ⟨t, ht⟩ : ∃ t : State, { s with
    drive := s.drive.endFault d home u, zst := s.zst.set d ⟨.fault, false⟩, eval := { s.eval with early := true }, port := p } = t :=
    ⟨_, rfl⟩
  have hdrive : (sync t).drive = s.drive.endFault d home u := by rw [sync_drive, ← ht]
  have hframe := congrArg (fun y : State => ({ y with
    drive := s.drive, zst := s.zst, eval := s.eval, port := s.port } : State)) (timeless_sync t)
  have hget : ∀ y, (s.drive.endFault d home u).dampers.get y = if y = d then
      ⟨none, .fault, .nothing, if home then (damperOf s d).stalls else 0⟩ else s.drive.dampers.get y := fun y => by
    unfold Drive.endFault
    rw [Drive.fault_get]
    by_cases hy : y = d
    · rw [if_pos hy, if_pos hy]
      show ({ ((s.drive.ended d home).append d (.move u)).dampers.get d with
        motion := .fault, position := none, followOn := .nothing } : Damper) = _
      rw [Drive.append_get, ended_damper h.position]
    · rw [if_neg hy, if_neg hy]
      show ((s.drive.ended d home).append d (.move u)).dampers.get y = _
      rw [((Drive.asks_append (v := s.drive.ended d home) (.move u)).others y hy).1, Drive.ended_get, if_neg hy]
  have hslot : ∀ y, (s.drive.endFault d home u).slotOf y = if y = d then none else s.drive.slotOf y := fun y => by
    unfold Drive.endFault
    rw [Drive.fault_slotOf]
    by_cases hy : y = d
    · rw [if_pos hy, if_pos hy]
    · rw [if_neg hy, if_neg hy]
      show (s.drive.ended d home).slotOf y = _
      rw [Drive.ended_slotOf, if_neg hy]
  rw [ht]
  refine ⟨?_, ?_, ?_, ?_, ?_, ?_, ?_, nofun, fun y hy => ⟨?_, ?_⟩, hframe.trans (by rw [← ht]; rfl)⟩
  · rw [damperOf, hdrive, hget, if_pos rfl]; rfl
  · rw [hdrive, hslot, if_pos rfl]; rfl
  · rw [hdrive]; rfl
  · rw [hdrive]; rfl
  · rw [hdrive, Bool.or_true, if_pos rfl]
    show ((if home then s.drive.resetHomes.filter (fun z => decide (z ≠ d)) else s.drive.resetHomes).filter
      fun z => decide (z ≠ d)) = _
    split
    · rw [List.filter_filter]
      simp only [Bool.and_self]
    · rfl
  · rw [sync_zst, ← ht]; rfl
  · rw [sync_eval, ← ht, Bool.or_true]
  · rw [damperOf, hdrive, hget, if_neg hy]; rfl
  · rw [hdrive, hslot, if_neg hy]

/-- How a completed motion of a calm state ends. -/
theorem Completes.outcome (h : Completes s d slot home pos) (next : Option Nat)
    (hfault : (next.isSome && s.inp.windingOpen.get d) = true →
      s.zst.get d = ⟨.active, false⟩ ∧ (s.blower.goal = 0 ∨ ∃ y : ZoneId, y ≠ d ∧ passes (damperOf s y).position = true)) :
    CompletionOutcome s d home pos next (next.isSome && s.inp.windingOpen.get d)
      (finish { s with drive := (s.drive.ended d home).goesOn d next, todo := Todo.judge }) := by
  cases next with
  | none =>
    have hfin : finish { s with drive := (s.drive.ended d home).goesOn d none, todo := Todo.judge } = _ := h.finish_idle
    rw [hfin]
    exact h.idle
  | some u =>
    cases hw : s.inp.windingOpen.get d with
    | false =>
      have hfin : finish { s with drive := (s.drive.ended d home).goesOn d (some u), todo := Todo.judge } = _ := h.finish_moves hw
      rw [hfin]
      exact h.moving u
    | true =>
      obtain ⟨hz, hair⟩ := hfault (by rw [hw]; rfl)
      obtain ⟨p, hp⟩ := h.finish_faults (u := u) hw hz hair
      have hfin : finish { s with drive := (s.drive.ended d home).goesOn d (some u), todo := Todo.judge } = _ := hp
      rw [hfin]
      exact h.faulted u p

end

/-- Settles O43: a completion by its next move, and the last one of STARTUP by the load of consequences it can still have. -/
theorem damperMotionsComplete : Obligations.DamperMotionsComplete := by
  unfold Obligations.DamperMotionsComplete
  refine ⟨fun s d slot home hcalm hair hslot hmove hhome hfollow => ?_,
    fun s d slot hstate hslot hw hn hfollow hhomes hqueue htodo hphase hin hheld htest hlast hseq hround hyoung => ?_⟩
  · intro pos plan next faults hfault
    have hpos : (if home then some 0 else (damperOf s d).position) = some pos := by
      cases home with
      | true => rfl
      | false =>
        obtain ⟨u, -, hp⟩ := hmove rfl
        show (damperOf s d).position = some ((damperOf s d).position.getD 0)
        rw [hp]
        rfl
    have h : Completes s d slot home pos := ⟨hcalm, hair, hslot, fun hh => (hhome hh).1, hpos⟩
    have hnext : next = nextTarget s d pos :=
      if_congr Iff.rfl rfl (if_congr (and_congr_left' (driven_iff _).symm) rfl rfl)
    have hexec : exec (if home then .homeComplete d else .moveComplete d) s =
        .next (finish { s with drive := (s.drive.ended d home).goesOn d next, todo := Todo.judge }) := by
      rw [hnext, ← reportCompletion_eq hcalm.1.1 hcalm.1.2.1 hcalm.1.2.2.2.2.2.1 hpos hfollow]
      cases home with
      | true =>
        obtain ⟨hw, hn⟩ := hhome rfl
        exact exec_homeComplete hslot hw hn
      | false =>
        obtain ⟨u, hw, hp⟩ := hmove rfl
        exact exec_moveComplete hslot hw hp
    obtain ⟨h1, h2, h3, h4, h5, h6, h7, h8, h9, h10⟩ := h.outcome next hfault
    exact ⟨_, hexec, h1, h2, h3, h4, h5, h6, h7, h8, h9, h10⟩
  · intro o request
    have hexec := exec_homeComplete hslot hw hn
    rw [reportCompletion_eq (home := true) (pos := 0) htodo hphase htest rfl (by rw [hfollow]; exact FollowOn.noConfusion)] at hexec
    obtain ⟨v, hv⟩ : ∃ v, (s.drive.ended d true).goesOn d (nextTarget s d 0) = v := ⟨_, rfl⟩
    rw [hv] at hexec
    have hreset : v.resetHomes = [] := by
      have hended : (s.drive.ended d true).resetHomes = [] :=
        List.filter_eq_nil_iff.mpr fun z hz => by simp [hhomes z hz]
      rw [← hv]
      cases nextTarget s d 0 with
      | none => exact hended
      | some u => exact hended
    have hlen : v.queue.length ≤ 1 := by
      have hempty : (s.drive.ended d true).queue = [] := hqueue
      rw [← hv]
      cases nextTarget s d 0 with
      | none =>
        show (s.drive.ended d true).queue.length ≤ 1
        rw [hempty]
        exact Nat.zero_le _
      | some u =>
        show ((s.drive.ended d true).queue ++ [_]).length ≤ 1
        rw [hempty]
        exact Nat.le_refl _
    obtain ⟨x, hx⟩ : ∃ x : State, x = { s with drive := v, todo := Todo.judge } := ⟨_, rfl⟩
    rw [← hx] at hexec
    have hstarts : Starts x := by
      rw [hx]
      exact ⟨hstate, htest, hround, hreset, hheld, fun _ => hphase, fun p hp => Option.noConfusion rfl (heq_of_eq (hin.symm.trans hp))⟩
    have hload : startLoad x ≤ 63 := by
      have hrestarts : restarts x ≤ 1 := by
        rw [hx]
        unfold restarts
        show 0 + _ ≤ 1
        rw [Nat.zero_add]
        exact Bool.toNat_le _
      have hq : x.drive.queue.length ≤ 1 := by rw [hx]; exact hlen
      have hf : x.todo = Todo.judge := by rw [hx]
      have hs : x.seq.state = .stopped := by rw [hx]; exact hseq
      have hp : x.co.phase = .applied := by rw [hx]; exact hphase
      unfold startLoad load
      rw [hf, hs, hp]
      show 3 * _ + 0 + 0 + 54 * _ + 1 + 0 ≤ 63
      omega
    have hended := hstarts.finish hload (by rw [hx]; exact hlast) (by rw [hx]; exact hyoung)
    have hop : x.op = s.op := by rw [hx]
    have hnow : x.now = s.now := by rw [hx]
    have hrequest : request = latchedRequest s.op := by
      have hinverse : (if s.op.request = .on then OpRequest.off else .on) = s.op.request.inverse := by
        cases s.op.request <;> rfl
      cases hl : s.op.latched with
      | nothing => simp only [request, o, latchedRequest, hl]
      | toggle => simp only [request, o, latchedRequest, hl, hinverse]
      | test => simp only [request, o, latchedRequest, hl]
    have hopOf : ∀ r : OpRequest, opOf r = if r = .on then .on else .off := fun r => by cases r <;> rfl
    obtain ⟨h1, h2, h3, h4, h5, h6, h7, h8⟩ := hended
    rw [hop] at h1 h2 h4 h5
    rw [hnow] at h6 h7
    rw [← hrequest] at h1 h2 h5
    exact ⟨_, hexec, h1, h2.trans (hopOf request), h3, h4, h5, h6, h7, h8⟩

end Sys2Proof.Machine
end
